-- ==== Sys2Proof/Word.lean ====
section
/-! DEFINITION. The words of spec/: bytes, 32-bit register words (R62) and 64-bit values, and the least arithmetic on them. -/

namespace Sys2Proof

/-- One byte of device memory. -/
abbrev Byte := BitVec 8

/-- One 32-bit register word (R62, R80). -/
abbrev Word := BitVec 32

/-- One 64-bit value. -/
abbrev Word64 := BitVec 64

/-- The least of a count and a limit: a counter that saturates (DEV_ACCERR's counts, for example). -/
def satTo (limit n : Nat) : Nat := min n limit

end Sys2Proof
end

