-- ==== Sys2Proof/Machine/Types.lean ====
section
/-! DEFINITION. The named things of spec/ that both commands and state speak of: requesters, modes, block states. -/

namespace Sys2Proof

/-- Who makes a register access (R76, R77). -/
inductive Requester where
  | granite | cmdp | pcie
deriving DecidableEq, Repr

/-- The device modes (R533); `DEV_MODE.MODE` codes them 0–7 in this order. -/
inductive Mode where
  | off | boot | ready | armed | active | degraded | safe | terminal
deriving DecidableEq, Repr

/-- The states of a block instance (R70); `PG_STAT.STATE` codes them 0–4 in this order. -/
inductive BlockState where
  | off | starting | running | stopping | faulted
deriving DecidableEq, Repr

/-- The classes of a fault source (R586); `FC_SEV` codes them 0–4 in this order. -/
inductive Severity where
  | note | corrected | context | critical | terminal
deriving DecidableEq, Repr

/-- The states of a context (R289); `SCH_STAT.STATE` codes them 0–4 in this order. -/
inductive CtxState where
  | free | active | held | tearing | torn
deriving DecidableEq, Repr

/-- A memory error that reads met: the offset of the 64-bit word in the reading tile's memories, or with `mem` its device address, in
DRAM, the system cache or any tile's memories, and whether it is uncorrectable (R139, R140, R520, R574). -/
structure EccError where
  offset : Nat
  double : Bool
  mem : Bool
deriving DecidableEq, Repr

/-- An upset of the matrix unit during a command: one output row is disturbed by a non-zero amount at one column
(R127), or nothing is. -/
inductive Upset where
  | none
  | flip (row : Nat) (col : Nat) (bitNo : Nat)
deriving DecidableEq, Repr

/-- What the boot verification of one image found (R634, R635), as reading the flash and its cryptographic checks report
it: the image could be read, its header is correct, the hashes of its keys equal those of the slots it names (byte 0x007),
its security version, ADVANCE, version word, both signatures, and its digest. -/
structure ImageCheck where
  kind : Nat
  flash : Bool
  header : Bool
  key : Bool
  keyIndex : Nat
  svn : Nat
  advance : Bool
  version : Nat
  ecdsa : Bool
  lms : Bool
  digest : List Byte
deriving DecidableEq, Repr

/-- What a sample's source or link reports of it: a payload CRC error, malformation, a corrected CSI-2 header (R340), or a
frame that would overflow the port's line buffer (R327). -/
inductive SampleDamage where
  | none | crc | malformed | ecc | overflow
deriving DecidableEq, Repr

/-- A CAN frame on the bus (R510): its format 0 classic, 1 FD, 2 XL; its identifier; its data. -/
structure CanFrame where
  fmt : Nat
  ide : Bool
  id : Nat
  data : List Byte
deriving DecidableEq, Repr

/-- What the command port finds of a whole request before it looks at its command (R526, R527): nothing amiss, a CRC
mismatch, or a malformed header. -/
inductive PortCheck where
  | good | badCrc | badCmd
deriving DecidableEq, Repr

/-- The PCIe error kinds of R496. -/
inductive TlpError where
  | poisonedWrite | malformed | unexpected
deriving DecidableEq, Repr

/-- What an Odilo port learns of its peer in training (R539). -/
structure OdlPeer where
  up : Bool
  vendorOk : Bool
  pos : Nat
  delay : Nat
  lends : Bool
deriving DecidableEq, Repr

/-- The header of a request flit (R541, R545): source and destination position, partition, tag, local address, 64-byte lines. -/
structure OdlReq where
  src : Nat
  dst : Nat
  part : Nat
  tag : Nat
  addr : Nat
  lines : Nat
  crcGood : Bool
deriving DecidableEq, Repr

/-- A BEACON flit (R547): its source position and the hops it has taken (R541), and what it carries. -/
structure OdlBeacon where
  pos : Nat
  hops : Nat
  frame : Nat
  mode : Nat
  lends : Bool
  seq : Nat
deriving DecidableEq, Repr

/-- The power manager's measurements over one cap period (R601, R607): the power of each island in 0.01 W, and for each
phase with at least one work unit its sample values e, normalised to 0.75 V in 1/1,024 µJ per work unit, and u. -/
structure PowerSample where
  islands : List Nat
  phases : List (Nat × Nat × Nat)
deriving DecidableEq, Repr

end Sys2Proof
end

