-- ==== Sys2Proof/Syntax.lean ====
section
/-! DEFINITION. The commands of spec/opcode_table.json: one constructor per row, those with operands
first, each part in the table's order (the order has no meaning). A register write carries its requester and what it writes; an event carries what the outside decides. -/

namespace Sys2Proof

/-- A command of the block: one row of spec/opcode_table.json. -/
inductive Instr where
  /-- POWER_ON (R652). VDD_SAFE rises through 0.60 V: straps are sampled, sticky bits and time bases are cleared, and outputs take their reset states. -/
  | powerOn (cascPos : Nat) (testMode : Bool)
  /-- FUSE_SENSE_DONE (R629). The two fuse sense passes complete and the fuse CRC is checked; a mismatch raises FS_SEC_FUSE. -/
  | fuseSenseDone (first : List Nat) (second : List Nat)
  /-- ROM_VERIFY (R637). The ROM finishes loading and verifying both Granite images and boots the passing one with the higher SVN. -/
  | romVerify (imageA : ImageCheck) (imageB : ImageCheck)
  /-- FIRMWARE_LOAD (R636). Boot stage 2 completes: images of types 1-6 are verified and HBM3 training ends. -/
  | firmwareLoad (images : List ImageCheck) (hbmTrained : Bool)
  /-- MEMORY_TRAINING (R519). Boot stage 3 completes: LPDDR5X training and the tile boot self-test end, and the ageing history is restored. -/
  | memoryTraining (trained : Nat) (density : Nat) (ranks2 : Bool) (rate : Nat) (testFails : Nat) (ageMargins : List Nat) (history : Option (Nat × Nat × Nat))
  /-- PARTITION_SETUP (R78). Boot stage 4 sets page owners, locks, regions, buckets and windows, enables blocks and enters READY. -/
  | partitionSetup (owners : List (Nat × Nat)) (locks : List Nat) (writes : List (Nat × Nat)) (enables : List Nat) (advance : List (Nat × Nat))
  /-- CMDP_RD (R526). A command-port RD transaction returns LEN + 1 register words. -/
  | cmdpRd (page : Nat) (offset : Nat) (len : Nat) (check : PortCheck)
  /-- CMDP_WR (R526). A command-port WR transaction applies LEN + 1 register words, stopping at the first refused word. -/
  | cmdpWr (page : Nat) (offset : Nat) (words : List Nat) (check : PortCheck)
  /-- CMDP_STAT (R526). A command-port STAT transaction returns DEV_MODE and DEV_OP. -/
  | cmdpStat (check : PortCheck)
  /-- CMDP_ABORT (R527). CS# rises early during a transaction; the rise is counted in ABORTS and the transaction takes effect only if it passed every check. -/
  | cmdpAbort (request : Option (List Byte))
  /-- ARM (R531). The ARM operation checks readiness, clears PCIe write rights, locks pages and then waits for a valid WPR. -/
  | arm (clear : Nat)
  /-- FUSE (R632). The FUSE operation checks its word and bit pairs and programs them in order. -/
  | fuse (pairs : List (Nat × Nat))
  /-- QUOTE (R644). The QUOTE operation writes a signed attestation quote into the result buffer. -/
  | quote (nonce : List Byte)
  /-- ENGAGE (R534). A write of ENGAGE to DEV_MODECMD is accepted or refused; once accepted, the device enters ACTIVE at the next tick. -/
  | engage (req : Requester)
  /-- WARM_RESET (R598). A WARM_RESET command in SAFE is accepted when every source is clear and takes the device to BOOT; otherwise WR_REFUSED is set. -/
  | warmReset (req : Requester)
  /-- HOST_HEARTBEAT (R536). A write to DEV_HOST_HB restarts the heartbeat timeout and clears HOST_LOST when the link is up. -/
  | hostHeartbeat (req : Requester) (value : Nat)
  /-- REGISTER_WRITE (R86). A write to a register that has no behaviour of its own is checked and applied. -/
  | registerWrite (req : Requester) (addr : Nat) (size : Nat) (value : Nat)
  /-- PCIE_BAR0_REQUEST (R81). A PCIe BAR0 request is split into aligned 8-byte accesses and applied in ascending address order. -/
  | pcieBar0Request (write : Bool) (addr : Nat) (len : Nat) (data : List Byte)
  /-- PCIE_BAR2_REQUEST (R494). A PCIe BAR2 request reaches device memory at WIN + o with the partition in PCIE_WIN.PART. -/
  | pcieBar2Request (write : Bool) (offset : Nat) (len : Nat) (data : List Byte)
  /-- COUNTER_CLEAR (R83). A write of 1 to a counter-clear register clears the counters it names. -/
  | counterClear (req : Requester) (addr : Nat) (value : Nat)
  /-- BLOCK_ENABLE (R70). A write of EN = 1 through page index 0 moves the block instance under the block state table. -/
  | blockEnable (req : Requester) (page : Nat)
  /-- BLOCK_DISABLE (R70). A write of EN = 0 through page index 0 stops the block instance or makes a stop pending. -/
  | blockDisable (req : Requester) (page : Nat)
  /-- SOFT_RESET (R73). A write of SOFT_RESET = 1 returns the block-specific registers to reset, or takes a FAULTED instance to OFF. -/
  | softReset (req : Requester) (page : Nat) (en : Bool)
  /-- PAGE_LOCK (R79). A write of LOCK makes every RWL field of the page read-only until reset. -/
  | pageLock (req : Requester) (page : Nat) (en : Bool)
  /-- START_SAFE_POINT (R70). A starting block reaches its safe point, where a pending stop takes it to STOPPING. -/
  | startSafePoint (page : Nat)
  /-- START_DONE (R70). A block's start completes and it enters RUNNING, or STOPPING if a stop is pending. -/
  | startDone (page : Nat) (pass : Bool)
  /-- STOP_DONE (R70). A block's stop completes and it enters OFF, or STARTING if REARM_PENDING is set. -/
  | stopDone (page : Nat)
  /-- TB_WRAP (R480). Bits [31:0] of a time base carry from 0xFFFF_FFFF to 0 by counting, and its GEN increments. -/
  | tbWrap (base : Nat)
  /-- TB_STEP (R472). A write to QTZ_TB_STEP adds a signed step to the base and increments GEN, unless the step is refused. -/
  | tbStep (req : Requester) (base : Nat) (step : Nat)
  /-- FRAME_ORG_WRITE (R667). A write of QTZ_FRAME_ORG sets the next-tick value afresh, with no tick of its own. -/
  | frameOrgWrite (req : Requester) (org : Nat)
  /-- SERVO_SAMPLE (R474). A write to QTZ_SV_OFS is one servo sample that updates the integrator and rate, or steps the base. -/
  | servoSample (req : Requester) (servo : Nat) (ofs : Nat)
  /-- SERVO_TIMEOUT (R474). No servo sample arrives for TIMEOUT ms, and the servo becomes LOST. -/
  | servoTimeout (servo : Nat)
  /-- TB2_SEL_WRITE (R476). A write of SEL makes TB2 follow the named source by slewing. -/
  | tb2SelWrite (req : Requester) (auto : Bool) (sel : Nat)
  /-- SNAP (R478). A write of GO to QTZ_SNAP latches all eight bases and the frame number. -/
  | snap (req : Requester)
  /-- EPOCH_COMMIT_TAG (R481). A write to QTZ_EPOCH_TAG commits the domain's epoch seconds, nanoseconds and tag together. -/
  | epochCommitTag (req : Requester) (domain : Nat) (tag : Nat)
  /-- TRIGGER_ENABLE (R485). A write of EN = 1 to a trigger output checks its timing and schedules its edges from START. -/
  | triggerEnable (req : Requester) (out : Nat) (cfg : Nat)
  /-- TRIGGER_EDGE (R484). The base reaches E_k and the trigger output drives a leading edge. -/
  | triggerEdge (out : Nat)
  /-- TRIGGER_PULSE_END (R484). WIDTH elapses after a trigger's leading edge and the pulse ends. -/
  | triggerPulseEnd (out : Nat)
  /-- REARM (R486). A re-arm request suppresses the next scheduled trigger edge. -/
  | rearm (req : Requester) (out : Nat)
  /-- CAPTURE_EDGE (R488). A filtered edge on a capture input is time-stamped and pushed into its FIFO, or dropped when the FIFO is full. -/
  | captureEdge (input : Nat) (rise : Bool)
  /-- CAPTURE_POP (R489). A write to QTZ_CAP_POP removes the oldest capture entry. -/
  | capturePop (req : Requester) (input : Nat)
  /-- FAULT_RAISE (R588). A fault source becomes raised at the collector: its sticky bit sets and its class reaction is applied. -/
  | faultRaise (source : Nat) (level : Bool) (ctxs : List Nat)
  /-- BROKEN_PAIR (R583). Both wires of a fault pair read the same level for 4 FCL cycles, and the pair counts as raised at least at CRITICAL. -/
  | brokenPair (source : Nat)
  /-- STICKY_CLEAR (R584). A write of 1 to FC_STICKY clears sticky bits of sources that are not raised. -/
  | stickyClear (req : Requester) (word : Nat) (value : Nat)
  /-- SEVERITY_WRITE (R586). A write to FC_SEV stores the higher of the written class and the fused floor. -/
  | severityWrite (req : Requester) (word : Nat) (value : Nat)
  /-- WDG_KICK (R576). A write to WDG_KICK gives a watchdog one kick. -/
  | wdgKick (req : Requester) (wdg : Nat)
  /-- WATCHDOG_LATE (R575). CLOSE passes with no kick, and the watchdog fails as LATE and raises FS_WDG_n. -/
  | watchdogLate (wdg : Nat)
  /-- WATCHDOG_ENABLE (R577). A write of EN = 1 to WDG_CFG arms or re-arms the watchdog from the next watch period. -/
  | watchdogEnable (req : Requester) (wdg : Nat) (cfg : Nat)
  /-- CHAIN_POLL (R160). The poll interval of a context whose next slot was not ready expires, and the dispatcher reads the slot again. -/
  | chainPoll (ctx : Nat)
  /-- DESCRIPTOR_FETCH (R160). A fetched chain slot returns, and the dispatcher takes it when it is ready. -/
  | descriptorFetch (ctx : Nat)
  /-- COMMIT_WINDOW_ENTRY (R176). A command whose header wait holds enters the tile's commit window and its body is checked. -/
  | commitWindowEntry (ctx : Nat)
  /-- NOP (R175). NOP commits with no effect beyond its wait and signal fields. -/
  | nop (tile : Nat) (entry : Nat)
  /-- LOAD (R168). LOAD copies memory rows into tile-local rows. -/
  | load (tile : Nat) (entry : Nat) (ecc : List EccError)
  /-- STORE (R168). STORE copies tile-local rows into memory rows. -/
  | store (tile : Nat) (entry : Nat) (ecc : List EccError)
  /-- GATHER (R168). GATHER reads indexed memory rows into tile-local rows. -/
  | gather (tile : Nat) (entry : Nat) (ecc : List EccError)
  /-- SCATTER (R168). SCATTER writes tile-local rows to indexed memory rows. -/
  | scatter (tile : Nat) (entry : Nat) (ecc : List EccError)
  /-- FILL (R168). FILL repeats a 32-bit pattern over a region. -/
  | fill (tile : Nat) (entry : Nat) (ecc : List EccError)
  /-- GEMM (R171). GEMM multiplies A by the weight stripes into accumulators, checked by the checksum column. -/
  | gemm (tile : Nat) (entry : Nat) (upset : Upset) (ecc : List EccError)
  /-- CONV (R172). CONV runs a convolution on an NHWC input as a matrix product. -/
  | conv (tile : Nat) (entry : Nat) (upset : Upset) (ecc : List EccError)
  /-- GATHER_GEMM (R173). GATHER_GEMM multiplies indexed rows of a row table by the weights. -/
  | gatherGemm (tile : Nat) (entry : Nat) (upset : Upset) (ecc : List EccError)
  /-- ATTN_BLOCK (R200). ATTN_BLOCK runs 128 queries against key blocks with running-max softmax state. -/
  | attnBlock (tile : Nat) (entry : Nat) (upset : Upset) (ecc : List EccError)
  /-- KV_APPEND (R218). KV_APPEND with OP APPEND writes tokens into pages, in place or by copy-on-write. -/
  | kvAppend (tile : Nat) (entry : Nat) (ecc : List EccError)
  /-- KV_SHARE (R219). KV_APPEND with OP SHARE links an existing page into a link entry. -/
  | kvShare (tile : Nat) (entry : Nat) (ecc : List EccError)
  /-- KV_RELEASE (R220). KV_APPEND with OP RELEASE empties links and decrements page reference counts at commit. -/
  | kvRelease (tile : Nat) (entry : Nat) (ecc : List EccError)
  /-- SCAN (R237). SCAN runs one chunk of a recurrent stream with compensated carried state. -/
  | scan (tile : Nat) (entry : Nat) (upset : Upset) (ecc : List EccError)
  /-- ELTWISE (R174). ELTWISE applies an element-wise vector operation. -/
  | eltwise (tile : Nat) (entry : Nat) (ecc : List EccError)
  /-- REDUCE (R669). REDUCE reduces each row in the fixed order. -/
  | reduce (tile : Nat) (entry : Nat) (ecc : List EccError)
  /-- SOFTMAX (R669). SOFTMAX computes the scaled softmax over each row. -/
  | softmax (tile : Nat) (entry : Nat) (ecc : List EccError)
  /-- NORM (R669). NORM applies RMS or layer normalisation to each row. -/
  | norm (tile : Nat) (entry : Nat) (ecc : List EccError)
  /-- QUANT (R174). QUANT scales and converts values into a narrower format. -/
  | quant (tile : Nat) (entry : Nat) (ecc : List EccError)
  /-- DEQUANT (R174). DEQUANT converts and scales values into FP32, BF16 or FP16. -/
  | dequant (tile : Nat) (entry : Nat) (ecc : List EccError)
  /-- SYNC_WAIT (R175). SYNC_WAIT completes in the dispatcher once its 64-bit condition holds. -/
  | syncWait (ctx : Nat)
  /-- SYNC_SIGNAL (R175). SYNC_SIGNAL applies ADD or SET to a sync object at its commit. -/
  | syncSignal (ctx : Nat)
  /-- PHASE (R609). PHASE commits a phase tag and hint that request a power pre-grant. -/
  | phase (tile : Nat) (entry : Nat)
  /-- FENCE (R175). FENCE commits once every earlier command of its context has committed and its writes are complete. -/
  | fence (tile : Nat) (entry : Nat)
  /-- LINK (R157). LINK moves the context's chain to the next chain block. -/
  | link (ctx : Nat)
  /-- COMMIT (R180). A command meets every commit condition, and its outputs, flags, record and signal become visible. -/
  | commit (tile : Nat)
  /-- KILL_COMPLETE (R183). A kill completes and the victims return to the dispatcher in chain order. -/
  | killComplete (tile : Nat)
  /-- SCRUB_READ (R141). The background scrubber reads and corrects an SRAM line in an unclaimed bank cycle. -/
  | scrubRead (tile : Nat) (line : Nat) (ecc : List EccError) (passDone : Bool)
  /-- TILE_TEMP_SAMPLE (R35). A 10 us tile temperature sample may lower the tile's matrix issue rate for the neighbour gradient. -/
  | tileTempSample (tile : Nat) (temp : Nat)
  /-- THROTTLE_RECOVERY (R35). Every 100 us, a tile within 25 C of its neighbours raises its issue rate by 1/64. -/
  | throttleRecovery (tile : Nat)
  /-- VDIFF_SAMPLE (R33). A 1 us sample of adjacent-island voltages raises FS_PWR_VDIFF after two samples above 250 mV. -/
  | vdiffSample (volts : List Nat)
  /-- TEST_SLOT_PREHOLD (R566). 40 us before a slot, the power manager holds the tile's target at 44 or above and raises its island voltage. -/
  | testSlotPrehold (pair : Nat)
  /-- TEST_SLOT_START (R152). A test slot starts on a tile pair, killing the running commands before the test sequence runs. -/
  | testSlotStart (pair : Nat)
  /-- TEST_SLOT_END (R566). A test slot ends with a pass or fail, which may fence the tile or set VERDICT. -/
  | testSlotEnd (pair : Nat) (passA : Bool) (passB : Bool)
  /-- TEST_SLOT_TIMEOUT (R567). A test sequence not finished after 40 us counts as a failing test. -/
  | testSlotTimeout (pair : Nat) (tile : Nat)
  /-- KNOWN_ANSWER_CHECK (R571). Every 5 ms a block pauses to run its known-answer check and raises its KAT source on a mismatch. -/
  | knownAnswerCheck (source : Nat) (good : Bool)
  /-- SYN_ADD (R191). A write to SYN_ADD adds an amount to one object as a signal. -/
  | synAdd (req : Requester) (page : Nat) (idx : Nat) (amount : Nat)
  /-- SYN_STATE_WRITE (R192). A write to SYN_STATE makes an object LIVE or FREE and sets its owner. -/
  | synStateWrite (req : Requester) (obj : Nat) (state : Nat) (owner : Nat)
  /-- SYN_VALUE_WRITE (R194). An 8-byte write to SYN_VALUE sets a LIVE object as a SET signal. -/
  | synValueWrite (req : Requester) (obj : Nat) (value : Nat)
  /-- ACTIVATE (R287). ACTIVATE reads a context table entry and makes the context ACTIVE. -/
  | activate (req : Requester) (part : Nat) (ctx : Nat)
  /-- UPDATE (R289). UPDATE re-reads SHARE, TILES and the stage watchdog of a context. -/
  | update (req : Requester) (part : Nat) (ctx : Nat)
  /-- HOLD (R290). HOLD closes a context's dispatch so that it becomes HELD once its window drains. -/
  | hold (req : Requester) (part : Nat) (ctx : Nat)
  /-- HOLD_DRAINED (R290). A held context's window drains, and it becomes HELD and leaves its tile. -/
  | holdDrained (ctx : Nat)
  /-- RELEASE (R290). RELEASE resumes a held context at its expected sequence number. -/
  | release (req : Requester) (part : Nat) (ctx : Nat)
  /-- TEARDOWN (R312). The TEARDOWN operation starts a context's teardown with CAUSE 0x20. -/
  | teardown (req : Requester) (part : Nat) (ctx : Nat)
  /-- RETIRE (R289). RETIRE returns a TORN context to FREE. -/
  | retire (req : Requester) (part : Nat) (ctx : Nat)
  /-- MODEL_APPLY (R306). MODEL_APPLY applies or removes a model table entry. -/
  | modelApply (req : Requester) (part : Nat) (model : Nat)
  /-- TEARDOWN_DONE (R312). The teardown steps complete and the context becomes TORN. -/
  | teardownDone (ctx : Nat)
  /-- EVACUATE (R305). EVACUATE closes a tile to placement, kills its window and saves its resident contexts. -/
  | evacuate (req : Requester) (tile : Nat)
  /-- ADMIT (R305). ADMIT opens a tile to placement again. -/
  | admitTile (req : Requester) (tile : Nat)
  /-- ACCT_DUMP (R311). SCH_ACCT_DUMP captures every context's counters and starts writing them. -/
  | acctDump (req : Requester)
  /-- TILE_WINDOW_START (R299). A tile reaches a window start phase and its owning partition changes. -/
  | tileWindowStart (tile : Nat) (phase : Nat)
  /-- CONTEXT_PLACE (R293). The scheduler places a ready context on an eligible tile and starts saves, restore, zero fill or model load as needed. -/
  | contextPlace (ctx : Nat)
  /-- CONTEXT_SAVE_DONE (R302). A context save image is complete and the context is no longer resident. -/
  | contextSaveDone (ctx : Nat)
  /-- CONTEXT_RESTORE_DONE (R303). A context restore completes, or fails its header or CRC check and tears the context down. -/
  | contextRestoreDone (ctx : Nat)
  /-- ZERO_FILL_DONE (R301). The zero fill of a never-saved context's footprint completes. -/
  | zeroFillDone (ctx : Nat)
  /-- MODEL_LOAD_DONE (R307). A model finishes loading into a tile's model region. -/
  | modelLoadDone (ctx : Nat)
  /-- QUANTUM_EXPIRY (R298). A context has held a tile for QUANTUM, and the tile is handed to a lower-VT context of its partition. -/
  | quantumExpiry (tile : Nat)
  /-- DRAIN_EXPIRY (R298). The window has not emptied after DRAIN, and its remaining commands are killed. -/
  | drainExpiry (tile : Nat)
  /-- KVP_FL_PUSH (R232). An 8-byte write to KVP_FL_PUSH adds a page to a free list, or the push is dropped. -/
  | kvpFlPush (req : Requester) (part : Nat) (tier : Nat) (frame : Nat) (page : Nat)
  /-- STM_ENABLE (R247). A write of EN = 1 to STM_CTRL makes an UNUSED stream IDLE after its bank check. -/
  | stmEnable (req : Requester) (stream : Nat) (ctrl : Nat)
  /-- STM_DISABLE (R247). A write of EN = 0 to STM_CTRL makes the stream UNUSED and discards its state. -/
  | stmDisable (req : Requester) (stream : Nat) (ctrl : Nat)
  /-- STM_RESET_WRITE (R248). A write of RESET marks the stream's next forward chunk to start from zero state. -/
  | stmResetWrite (req : Requester) (stream : Nat) (ctrl : Nat)
  /-- SWAP_OUT (R251). STM_OP SWAP_OUT starts swapping a resident stream's state out to its pointer. -/
  | swapOut (req : Requester) (stream : Nat)
  /-- UNPARK (R256). STM_OP UNPARK moves a PARKED stream to SWAPPED, or to IDLE. -/
  | unpark (req : Requester) (stream : Nat)
  /-- SWAP_OUT_DONE (R251). A stream image is complete at PTR and the stream becomes SWAPPED. -/
  | swapOutDone (stream : Nat)
  /-- RESTORE_DONE (R254). A stream restore passes its checks and becomes RESIDENT, or fails into ERROR. -/
  | restoreDone (stream : Nat)
  /-- APPLY (R271). A write to TIER_OBJ_APPLY reads an object entry, tags its pages and queues exchanges. -/
  | apply (req : Requester) (index : Nat)
  /-- WW_GO (R275). GO starts a weight-window channel from layer 0. -/
  | wwGo (req : Requester) (chan : Nat)
  /-- WW_STOP (R275). STOP makes a weight-window channel finish its current layer and stop. -/
  | wwStop (req : Requester) (chan : Nat)
  /-- WW_LAYER_START (R275). RELEASE_OBJ allows it and the channel starts loading the next layer into its slot. -/
  | wwLayerStart (chan : Nat)
  /-- WW_LAYER_DONE (R275). A layer is complete in its slot and READY_OBJ is signalled. -/
  | wwLayerDone (chan : Nat)
  /-- MEMORY_REQUEST (R282). A memory request is classed by the token buckets and served at its port. -/
  | memoryRequest (write : Bool) (addr : Nat) (units : Nat) (part : Nat) (port : Nat) (data : List Byte) (crcError : Nat)
  /-- BUCKET_REFILL (R281). Every 10 ns, the G and C buckets gain their rates up to BURST. -/
  | bucketRefill (port : Nat)
  /-- D2D_MODULE_FAIL (R20). A die-to-die module fails training and is taken out of use, and its traffic moves to a substitute. -/
  | d2dModuleFail (module : Nat)
  /-- SAMPLE_BEGIN (R319). An ingress sample begins: it takes a SID and T_CAP. -/
  | sampleBegin (stream : Nat)
  /-- SAMPLE_END (R318). A sample's last byte arrives and it is parsed, checked and delivered. -/
  | sampleEnd (stream : Nat) (data : List Byte) (embedded : List Byte) (damage : SampleDamage)
  /-- SAMPLE_DONE (R323). Every byte of a sample is complete at its target and DONE_OBJ and ORDER_OBJ are signalled. -/
  | sampleDone (stream : Nat) (sid : Nat)
  /-- STREAM_ENABLE (R343). A write of EN = 1 to ING_S_CTRL starts or restarts a stream after its configuration check. -/
  | streamEnable (req : Requester) (stream : Nat) (ctrl : Nat)
  /-- STREAM_DISABLE (R342). A write of EN = 0 to ING_S_CTRL takes the stream to OFF. -/
  | streamDisable (req : Requester) (stream : Nat) (ctrl : Nat)
  /-- NOSIGNAL_TIMEOUT (R344). No sample begins within TIMEOUT: NOSIGNAL sets and the sensor is reported absent. -/
  | nosignalTimeout (stream : Nat)
  /-- MEMORY_SAMPLE_TAKE (R332). IN_OBJ allows it and a REQUEST or REPLAY stream takes the next sample from its input ring. -/
  | memorySampleTake (stream : Nat)
  /-- PACK_GO (R336). GO arms a pack channel from run 0. -/
  | packGo (req : Requester) (chan : Nat)
  /-- PACK_STOP (R336). STOP halts a pack channel after its current row. -/
  | packStop (req : Requester) (chan : Nat)
  /-- PACK_RUN_START (R336). TRIG_OBJ allows it and a pack channel checks its list and starts writing rows. -/
  | packRunStart (chan : Nat)
  /-- PACK_RUN_DONE (R336). Every row of a pack run is complete and DONE_OBJ is signalled. -/
  | packRunDone (chan : Nat)
  /-- UART_TX_PUSH (R514). A write to UART_TX pushes one byte into the transmit FIFO, or is dropped when the FIFO is full. -/
  | uartTxPush (req : Requester) (uart : Nat) (data : Nat)
  /-- ENCODER_EDGE (R515). A filtered encoder edge updates the count or registers an illegal transition. -/
  | encoderEdge (chan : Nat) (a : Bool) (b : Bool) (z : Bool)
  /-- TAP_INSTRUCTION (R521). The test port executes an IEEE 1149.1 instruction. -/
  | tapInstruction (instr : Nat) (data : List Bool)
  /-- RING_TAKE (R348). PUT_OBJ allows it and Agate takes the next record from an input ring. -/
  | ringTake (ring : Nat)
  /-- TRANSFORM_SWAP_REQUEST (R356). A write of SWAP to AGT_XF_CTRL sets PENDING for the named bank. -/
  | transformSwapRequest (req : Requester) (bank : Nat)
  /-- AGATE_RING_ENABLE (R348). A write of EN = 1 to AGT_R_CFG samples PUT0 after checking the ring objects. -/
  | agateRingEnable (req : Requester) (ring : Nat) (cfg : Nat)
  /-- SENSOR_ENABLE (R372). A write of EN to AGT_S_CFG takes the sensor to ADMITTED or OFF. -/
  | sensorEnable (req : Requester) (sensor : Nat) (cfg : Nat)
  /-- POINT_PACKET (R375). A point packet is checked and stored into its scanner's sweep. -/
  | pointPacket (scanner : Nat) (packet : List Byte) (tcap : Nat)
  /-- JOB_TAKE (R394). PUT_OBJ allows it and Pumice takes the next job from a ring. -/
  | jobTake (ring : Nat)
  /-- QUERY (R397). A QUERY job runs a ball or KNN neighbour search when its wait holds and its unit is free. -/
  | query (job : Nat)
  /-- RULEBOOK (R400). A RULEBOOK job generates output sites and a sparse-convolution rulebook. -/
  | rulebook (job : Nat)
  /-- DECODE (R403). A DECODE job decodes and suppresses boxes and writes the box list. -/
  | decode (job : Nat)
  /-- JOB_COMPLETE (R396). A job's outputs are complete and DONE_OBJ and TAKE_OBJ are signalled. -/
  | jobComplete (job : Nat)
  /-- KEEP_OUT_SWAP_REQUEST (R420). A write of SWAP to SLT_KO_CTRL sets KO_PENDING. -/
  | keepOutSwapRequest (req : Requester) (bank : Nat)
  /-- OPTIMISER_CUTOFF (R430). At phase 850, every optimiser lane stops and the candidates are ranked. -/
  | optimiserCutoff (checks : List Nat)
  /-- REF_SWAP (R423). A write of REF_SWAP requests a reference-path bank swap at the next tick. -/
  | refSwap (req : Requester) (bank : Nat)
  /-- SEED_SWAP (R424). A write of SEED_SWAP requests a seed bank swap at the next tick. -/
  | seedSwap (req : Requester) (bank : Nat)
  /-- RESUME (R439). A write of RESUME while HOST_LOST is 0 ends minimal-risk hand-overs from the next frame. -/
  | resume (req : Requester)
  /-- LOOP_SAMPLE (R448). At a loop's sample instant, its sources are latched and its computation starts. -/
  | loopSample (loop : Nat)
  /-- LOOP_OUTPUT (R452). At the output instant, the actuator output is formed and written to its register. -/
  | loopOutput (act : Nat)
  /-- ACTUATOR_FRAME_EMIT (R464). At a frame descriptor's emit instant, Garnet sends its actuator frame over CAN XL and TSN. -/
  | actuatorFrameEmit (frame : Nat)
  /-- LOOP_ENABLE (R444). A write of EN = 1 to GNT_L_CFG enables a loop, or refuses it with CFG_ERR. -/
  | loopEnable (req : Requester) (loop : Nat) (cfg : Nat)
  /-- RECOVER (R461). RECOVER returns an actuator from SAFE_HELD to AUTO or MANUAL. -/
  | recover (req : Requester) (act : Nat)
  /-- MANUAL (R454). A write of MANUAL moves an actuator between AUTO and MANUAL. -/
  | manual (req : Requester) (act : Nat) (manual : Bool)
  /-- ETH_FRAME_RECEIVE (R503). An Ethernet frame is stamped, identified, filtered and forwarded or delivered. -/
  | ethFrameReceive (port : Nat) (frame : List Byte) (fcsGood : Bool)
  /-- ETH_FRAME_TRANSMIT (R502). An egress queue starts a frame that finishes before its gate closes. -/
  | ethFrameTransmit (port : Nat) (cls : Nat)
  /-- GCL_CYCLE_START (R502). A port's gate control list restarts from entry 0 and applies a pending bank swap. -/
  | gclCycleStart (port : Nat)
  /-- GCL_ENTRY_EXPIRY (R502). A gate control entry's interval ends and the next entry's gates apply. -/
  | gclEntryExpiry (port : Nat)
  /-- GCL_SWAP (R502). A write of ETH_P_GCL requests a gate bank swap at the next cycle start. -/
  | gclSwap (req : Requester) (port : Nat) (bank : Nat)
  /-- ETH_LINK_DOWN (R507). A port loses PCS lock or auto-negotiation fails: its queues are flushed and FS_ETH_LINK is raised. -/
  | ethLinkDown (port : Nat)
  /-- ETH_LINK_UP (R507). A port finishes training and comes up. -/
  | ethLinkUp (port : Nat)
  /-- RECOVERY_RESET (R505). A recovery function resets after RESET_MS without a frame. -/
  | recoveryReset (rf : Nat)
  /-- CAN_FRAME_RECEIVE (R510). A received CAN frame is offered to ingress, or discarded as NOMATCH. -/
  | canFrameReceive (ctl : Nat) (frame : CanFrame)
  /-- CAN_FRAME_SENT (R511). A pending frame wins arbitration and completes on the bus. -/
  | canFrameSent (ctl : Nat)
  /-- CAN_BUS_OFF (R512). A controller enters bus-off: pending device frames are discarded and FS_CAN_BUSOFF is raised. -/
  | canBusOff (ctl : Nat)
  /-- CAN_BUS_OFF_RECOVERY (R512). A controller recovers from bus-off by the rule of ISO 11898-1. -/
  | canBusOffRecovery (ctl : Nat)
  /-- CAN_RECOVER (R512). A write of RECOVER starts bus-off recovery when AUTO_REC is 0. -/
  | canRecover (req : Requester) (ctl : Nat)
  /-- CAN_MAILBOX_GO (R511). A write of GO makes the mailbox frame pending, or sets REFUSED. -/
  | canMailboxGo (req : Requester) (ctl : Nat) (value : Nat)
  /-- PCIE_LINK_CHANGE (R497). LINK_UP changes: FS_PCIE_LINK is raised and host loss may be declared. -/
  | pcieLinkChange (up : Bool) (gen : Nat) (width : Nat)
  /-- PCIE_HOT_RESET (R497). A hot reset or D3hot transition resets the endpoint's configuration space and MSI-X table. -/
  | pcieHotReset (d3hot : Bool)
  /-- PCIE_TLP_ERROR (R496). A poisoned, malformed or unexpected TLP is discarded or handled and reported through AER. -/
  | pcieTlpError (kind : TlpError)
  /-- PCIE_EOI (R499). A write to PCIE_EOI resends a vector's message while its level is 1. -/
  | pcieEoi (req : Requester) (vec : Nat)
  /-- MSIX_UNMASK (R499). Unmasking a vector with its PBA bit set sends its message. -/
  | msixUnmask (req : Requester) (vec : Nat)
  /-- ODL_TRAINING (R539). An Odilo port completes training: the peer identity is checked, delay is measured and lending is latched. -/
  | odlTraining (port : Nat) (peer : OdlPeer)
  /-- ODL_RD_REQ (R545). A received RD_REQ flit is checked and served from the lent range, or forwarded. -/
  | odlRdReq (port : Nat) (req : OdlReq)
  /-- ODL_RD_DATA (R541). A received RD_DATA flit returns lines to the outstanding tag. -/
  | odlRdData (port : Nat) (src : Nat) (dst : Nat) (tag : Nat) (data : List Byte) (err : Bool)
  /-- ODL_WR (R545). A received WR flit applies its lines at the lender, or forwards them. -/
  | odlWr (port : Nat) (req : OdlReq) (data : List Byte)
  /-- ODL_WR_MASK (R542). A received WR_MASK flit is held for the WR flit of the same tag. -/
  | odlWrMask (port : Nat) (src : Nat) (dst : Nat) (tag : Nat) (mask : List Nat)
  /-- ODL_WR_ACK (R175). A received WR_ACK completes the writes of its tag. -/
  | odlWrAck (port : Nat) (src : Nat) (dst : Nat) (tag : Nat) (err : Bool)
  /-- ODL_TIME (R546). A received TIME flit drives the follower's TB2 under R490. -/
  | odlTime (port : Nat) (time : Nat) (rate : Nat) (src : Nat)
  /-- ODL_BEACON (R547). A received BEACON marks a position present and carries its frame number, mode and lending settings. -/
  | odlBeacon (port : Nat) (beacon : OdlBeacon)
  /-- ODL_LEAVE (R547). A received LEAVE declares the sender's position absent at once. -/
  | odlLeave (port : Nat) (pos : Nat)
  /-- FLIT_CRC_ERROR (R543). A flit fails its CRC and the sender replays from the last accepted flit. -/
  | flitCrcError (port : Nat)
  /-- ODL_LINK_DOWN (R553). An Odilo port goes down and its outstanding requests are reissued or failed. -/
  | odlLinkDown (port : Nat)
  /-- BEACON_MISS (R547). BEACON_MISS frames pass without a beacon and the position is declared absent. -/
  | beaconMiss (pos : Nat)
  /-- ODL_RETRAIN_TIMER (R554). Every 10 ms, an enabled port that is down retrains. -/
  | odlRetrainTimer (port : Nat)
  /-- ODL_RETRAIN (R554). A write of GO to ODL_RETRAIN retrains the port at once. -/
  | odlRetrain (req : Requester) (port : Nat)
  /-- CAP_PERIOD_END (R605). Every 100 us, the power manager closes a cap period, updates the excursion account and learning, and allocates the budget. -/
  | capPeriodEnd (power : PowerSample)
  /-- CAP_WRITE (R604). A write to PWR_CAP sets the cap from the next period. -/
  | capWrite (req : Requester) (cap : Nat)
  /-- AVS_READ (R602). An AVSBus telemetry read completes or fails, and three failures raise FS_PWR_AVS. -/
  | avsRead (rail : Nat) (good : Bool) (power : Nat)
  /-- VREG_FAULT (R603). An island regulator stays more than 50 mV off its set point for 10 us, and FS_PWR_VREG is raised. -/
  | vregFault (island : Nat)
  /-- VOLTAGE_SETTLED (R613). A regulator reports settled and the tile frequencies rise. -/
  | voltageSettled (island : Nat)
  /-- DROOP_ALERT (R616). A regulator droop alert lowers the island's tile droop limit within 20 ns. -/
  | droopAlert (island : Nat)
  /-- DROOP_CLEAR (R616). A droop alert clears and DROOP_HOLD starts. -/
  | droopClear (island : Nat)
  /-- DROOP_HOLD_EXPIRY (R616). DROOP_HOLD passes after the alert clears and the droop limit starts to rise. -/
  | droopHoldExpiry (island : Nat)
  /-- DROOP_LONG (R616). A droop alert lasting more than 10 us raises FS_PWR_DROOP. -/
  | droopLong (island : Nat)
  /-- HUB_TEMP_SAMPLE (R618). A 10 us hub sensor sample adjusts thermal limits, the budget and the PUM clock. -/
  | hubTempSample (sensor : Nat) (temp : Nat)
  /-- AGE_MEASURE (R623). Once per second, each path-delay monitor measures MARGIN and WEAR. -/
  | ageMeasure (margins : List Nat)
  /-- SEC_FPGM (R632). A Granite write to SEC_FPGM programs permitted fuse bits. -/
  | secFpgm (req : Requester) (word : Nat) (bits : Nat)
  /-- SEC_KEY_OFF (R642). A write to SEC_KEY_OFF removes key slots from use for the power-on. -/
  | secKeyOff (req : Requester) (value : Nat)
  /-- SEC_DEBUG_SET (R641). A write to SEC_DEBUG_SET raises the effective debug level. -/
  | secDebugSet (req : Requester) (level : Nat)
  /-- SEC_RGN_TIGHT (R641). A write to SEC_RGN_TIGHT removes partition rights from the fused regions. -/
  | secRgnTight (req : Requester) (region : Nat) (value : Nat)
  /-- LONG_OP_DONE (R529). A FUSE, QUOTE or LOGDUMP long operation reaches its own completion, records RESULT in DEV_OP and stops answering BUSY. -/
  | longOpDone (output : List Byte) (good : Bool)
  /-- FPGM_DONE (R632). Fuse programming started by a SEC_FPGM write finishes its pulses, BUSY clears and SEC_FPGM_STAT records the result. -/
  | fpgmDone (good : Bool)
  /-- LOOP_DISABLE (R461). A write of EN = 0 to GNT_L_CFG disables a loop, and an actuator left with no enabled loop enters SAFE_RAMP with CAUSE STOP. -/
  | loopDisable (req : Requester) (loop : Nat) (cfg : Nat)
  /-- JOB_RING_ENABLE (R394). A write of EN = 1 to PUM_J_CFG samples PUT0 from PUT_OBJ and opens the Pumice job ring. -/
  | jobRingEnable (req : Requester) (ring : Nat) (cfg : Nat)
  /-- CAN_ERROR_PASSIVE (R512). A CAN controller enters error-passive on bus errors and the entry is counted. -/
  | canErrorPassive (ctl : Nat)
  /-- LPDDR5X_TEMP_ALERT (R520). An LPDDR5X device reports a temperature above 85 C, refresh doubles and FS_LPC_TEMP is raised. -/
  | lpddr5xTempAlert (ctl : Nat)
  /-- UART_TX_BYTE_SENT (R514). A UART sends the next byte from its 256-byte transmit FIFO, freeing an entry. -/
  | uartTxByteSent (uart : Nat)
  /-- FAULT_PAIR_INACTIVE (R582). A raised fault pair returns to F = 0, F_N = 1, because the level source's condition ends or a broken pair heals, and FC_LIVE clears. -/
  | faultPairInactive (source : Nat)
  /-- WATCHDOG_WINDOW_OPEN (R575). A watchdog's watch period reaches OPEN and WDG_STAT moves from WAITING to OPEN. -/
  | watchdogWindowOpen (wdg : Nat)
  /-- POWER_REMOVAL (R652). VDD_SAFE falls below 0.40 V, which ends every mode including TERMINAL. -/
  | powerRemoval
  /-- SUPPLY_OK_FALL (R652). SUPPLY_OK falls without power removal and acts as RESET_N asserted. -/
  | supplyOkFall
  /-- SUPPLY_OK_RISE (R653). SUPPLY_OK rises; the device enters BOOT at the later of this rise and the RESET_N release. -/
  | supplyOkRise
  /-- RAIL_OUT_OF_RANGE (R649). A rail stays outside its range for more than 2 us while SUPPLY_OK is high, which acts as SUPPLY_OK falling. -/
  | railOutOfRange
  /-- RESET_N_ASSERT (R653). RESET_N is asserted: the device goes to OFF except in TERMINAL, performs the reset of R598 and abandons any long operation. -/
  | resetNAssert
  /-- RESET_N_RELEASE (R653). RESET_N is released and the device enters BOOT. -/
  | resetNRelease
  /-- ARM_NO_PLAN (R531). No valid WPR is published within 10 frames, and ARM ends with NO_PLAN. -/
  | armNoPlan
  /-- DISARM (R532). The DISARM operation disables Garnet and waits for it to reach OFF before the device enters READY. -/
  | disarm
  /-- DISARM_FAILED (R532). Garnet has not reached OFF within 950 ms: DISARM fails, FS_DEV_DISARM is raised and the device enters SAFE. -/
  | disarmFailed
  /-- LOGDUMP (R665). The LOGDUMP operation captures a 640-byte log into DEV page 4. -/
  | logdump
  /-- SELFTEST (R530). The SELFTEST operation waits for the next test-cycle start and takes that cycle as its own. -/
  | selftest
  /-- LONG_OP_TIMEOUT (R529). A long operation reaches its maximum duration and ends with TIMEOUT. -/
  | longOpTimeout
  /-- HB_TIMEOUT (R536). HB_MS passes without a host heartbeat, so the host is declared lost. -/
  | hbTimeout
  /-- GRACE_EXPIRY (R537). The grace timer expires, and Flint switches to handing over the minimal-risk trajectory. -/
  | graceExpiry
  /-- FRAME_TICK (R667). The TB4 count reaches the next tick value: the frame number increments and the frame begins. -/
  | frameTick
  /-- REF_LOST (R477). The time reference input shows no edge for 4 periods: QTZ runs on its internal oscillator and FS_QTZ_REF is raised. -/
  | refLost
  /-- REF_RECOVERED (R477). After 1,024 good reference periods, REF_LOST clears. -/
  | refRecovered
  /-- COLLECTOR_MISMATCH (R591). The two collector copies disagree: the OK pair goes unhealthy, HB stops, the device enters TERMINAL and SELF_FAIL sets. -/
  | collectorMismatch
  /-- OK_REFRESH_LOSS (R594). The OK-pair drivers see no refresh for 1 us and drive the unhealthy state by themselves. -/
  | okRefreshLoss
  /-- OK_PIN_MISMATCH (R594). An OK pin differs from its driven level for 4 FCL cycles, and FS_FC_OKPIN is raised. -/
  | okPinMismatch
  /-- SAFE_STATE_WPR_FRAME (R596). In the safe state at phase 955 us, the collector sends the R54 frame itself when Flint has not. -/
  | safeStateWprFrame
  /-- TGRAD_TIMEOUT (R33). A throttled temperature difference above 40 C for 1 ms raises FS_PWR_TGRAD. -/
  | tgradTimeout
  /-- CLKRATIO_DETECT (R33). A crossing ratio beyond 16:1 for 16 slower-side cycles raises FS_PWR_CLKRATIO. -/
  | clkratioDetect
  /-- TEST_CYCLE_START (R565). A 5 ms periodic test cycle starts. -/
  | testCycleStart
  /-- ACCT_DUMP_DONE (R311). The accounting dump write completes and DUMP_DONE is set. -/
  | acctDumpDone
  /-- EXCHANGE_BLOCK_DONE (R274). A 64 KiB block of a page exchange completes and its held accesses proceed. -/
  | exchangeBlockDone
  /-- HEAT_INTERVAL (R273). At the end of each heat interval, heat values are updated and exchange pairs are formed. -/
  | heatInterval
  /-- AGATE_DRAIN (R370). Agate drains current records from the queue in key order, after any rewind. -/
  | agateDrain
  /-- AGATE_CUTOFF (R43). Phase 200 closes measurement intake for the epoch. -/
  | agateCutoff
  /-- EPOCH_COMMIT (R373). Agate predicts tracks, commits epoch n, sets the mark and writes the snapshot. -/
  | epochCommit
  /-- LEAD_TIMEOUT (R378). No lead sweep completes within LEAD_TIMEOUT, so the next sweep of any scanner closes the frame with LEAD_LOST. -/
  | leadTimeout
  /-- BUILD_START (R382). Pumice holds an ego state at or after T_REF and starts the frame build. -/
  | buildStart
  /-- EGO_WAIT_EXPIRY (R382). EGO_WAIT passes without an ego state, and the build starts extrapolated. -/
  | egoWaitExpiry
  /-- BUILD_DONE (R390). Layer 0 and the frame status are written and FRAME_OBJ is signalled. -/
  | buildDone
  /-- DECODE_PUBLISH (R407). TB3 reaches T_PUB and the decoder inserts one Agate record per box. -/
  | decodePublish
  /-- SLATE_UPDATE (R419). At phase 250, Slate starts its static build step and object insertion from the newest Agate snapshot. -/
  | slateUpdate
  /-- SLATE_INSERT_CUTOFF (R419). At phase 395, tracks not yet inserted are cleared and the snapshot carries OBJ_TRUNC. -/
  | slateInsertCutoff
  /-- SLATE_PUBLISH (R421). At phase 400, Slate publishes snapshot S(n). -/
  | slatePublish
  /-- FLINT_OPTIMISE (R430). At phase 400, Flint takes S(n), s0 and its candidates and starts the 16 optimiser lanes. -/
  | flintOptimise
  /-- CHECK_CUTOFF (R433). At phase 880, a running candidate test is abandoned as a fail. -/
  | checkCutoff
  /-- REUSE_CUTOFF (R434). At phase 895, an unpassed reuse check leaves the previous lease as the plan. -/
  | reuseCutoff
  /-- PLAN_HANDOVER (R434). At phase 900, Flint hands the plan to Garnet. -/
  | planHandover
  /-- LEASE_WRITE (R437). At phase 940, Flint writes the standby lease and sends lease frames. -/
  | leaseWrite
  /-- WPR_PUBLISH (R51). At phase 950, Flint writes WPR(n) into the ring and sends the R54 frame. -/
  | wprPublish
  /-- CONTROL_PERIOD_BOUNDARY (R445). A 62.5 us control-period boundary starts the loop periods due at it. -/
  | controlPeriodBoundary
  /-- TIME_SEND (R546). Every 125 us a member sends TIME flits toward the positions farther from the master. -/
  | timeSend
  /-- OVERTEMP_TIMEOUT (R619). A sensor above TJ_MAX for 1 ms raises FS_PWR_OVERTEMP. -/
  | overtempTimeout
  /-- AGE_HOUR (R624). Once per operating hour, tiles are derated and REM_H is recomputed. -/
  | ageHour
  /-- REFCLK_SYS_LOSS (R655). REFCLK_SYS goes missing and the device is held in OFF. -/
  | refclkSysLoss
  /-- REFCLK_SYS_RETURN (R655). REFCLK_SYS returns and the hold in OFF ends. -/
  | refclkSysReturn
deriving DecidableEq, Repr

end Sys2Proof
end

