-- ==== Sys2Proof/Decode.lean ====
section
/-! DEFINITION. The words of the command table. No row of spec/opcode_table.json gives bits to its operands or a code to
itself: no word spells a command. -/

namespace Sys2Proof

/-- The command that a word of `nbits` bits spells by spec/opcode_table.json: none, for every row's field list is empty. -/
def decodeTableWord (_nbits _w : Nat) : Option Instr := none

end Sys2Proof
end

