-- ==== Sys2Proof/Config.lean ====
section
/-! DEFINITION. What spec/ leaves open: constants with no body. Nothing can be proved of their values, so a claim about
them holds whatever the hardware does. -/

namespace Sys2Proof.Config

/-- The `n`-th free value that a run uses; a use takes the bits it needs. -/
opaque freeValue : Nat → Nat

/-- What the vector unit's function tables give, where that lies within the accuracy of R136: function, FP32 operand. -/
opaque transcendental : Nat → Nat → Nat

/-- The distance, 0, −1 or 1 ulp as 0, 1 or 2, of reciprocal, square root and reciprocal square root from the exactly
rounded result (R136): function, FP32 operand. -/
opaque ulpChoice : Nat → Nat → Nat

/-- The upper four bits of a byte that holds one 4-bit element alone (REDUCE into a 4-bit format, R92, R174). -/
opaque loneNibble : Nat

/-- The cosine (0) and sine (1) of position times frequency entry, an FP32 word (R208): which, position, entry. -/
opaque rotation : Nat → Nat → Nat → Nat

/-- A filter, solver or image computation whose operation order spec/ does not state: what it computes, and its inputs
as words; the answer's words by index. -/
opaque computed : Nat → List Nat → Nat → Nat

/-- A cryptographic digest (SHA-384 and the signatures of chapter 23): kind and message; the answer's bytes by index. -/
opaque digest : Nat → List Nat → Nat → BitVec 8

/-- The voltage in mV that a tile needs for a frequency code, raised by its ageing derate (R612): tile, code, derate. -/
opaque tileVoltage : Nat → Nat → Nat → Nat

/-- The fused leakage of a tile in µW at a temperature reading (R612). -/
opaque tileLeakage : Nat → Nat → Nat

/-- The fused maximum power of a tile in µW at a frequency code (R607). -/
opaque tileMaxPower : Nat → Nat → Nat

/-- The set point of VDD_HUB in mV that the CHAR words hold (R648). -/
opaque hubVoltage : List Nat → Nat

/-- The fused code of least energy per work of a tile (R608). -/
opaque efficientCode : Nat → Nat

/-- The HBM3 stack that holds a line of HBM3 (0), and the set of the system cache
that a line of LPDDR5X belongs to (1), and which of the four tiles of its stack a line of HBM3 passes (2), by line: spec/ states
none of the maps. -/
opaque addressHash : Nat → Nat → Nat

/-- The share of the 4 MiB frame buffer, in bytes, that an egress queue has (R501): port, class. -/
opaque queueShare : Nat → Nat → Nat

/-- The ports that the static filtering entries name for a VLAN and destination address, as a mask; 0 where there is no
entry (R500): spec/ gives the entries no place in the registers. -/
opaque filtering : Nat → Nat → Nat

/-- A field of a table whose bit layout spec/ does not give: Qci filters, replication and recovery functions (R504, R505):
which field, entry. -/
opaque tableField : Nat → Nat → Nat

end Sys2Proof.Config
end

