-- ==== Sys2Proof/Machine/Bits.lean ====
section
/-! DEFINITION. Bit fields, sign extension and byte order (little-endian, R9), on natural numbers. -/

namespace Sys2Proof.Machine

/-- Bits `hi:lo` of a number, as a number. -/
def bits (x hi lo : Nat) : Nat := (x >>> lo) % 2 ^ (hi + 1 - lo)

/-- One bit of a number. -/
def bit (x i : Nat) : Bool := x.testBit i

/-- `x` with bits `hi:lo` replaced by the low bits of `v`. -/
def setBits (x hi lo v : Nat) : Nat :=
  let w := hi + 1 - lo
  x - (bits x hi lo) * 2 ^ lo + (v % 2 ^ w) * 2 ^ lo

/-- A `w`-bit two's-complement number as an integer. -/
def signed (w x : Nat) : Int :=
  let y := x % 2 ^ w
  if y < 2 ^ (w - 1) then y else (y : Int) - 2 ^ w

/-- An integer as a `w`-bit two's-complement number. -/
def toBits (w : Nat) (x : Int) : Nat := (x % (2 ^ w : Int)).toNat

/-- A Boolean as a bit. -/
def b2n (b : Bool) : Nat := if b then 1 else 0

/-- The bytes of a number, little-endian (R9). -/
def leBytes : Nat → Nat → List Byte
  | 0, _ => []
  | n + 1, x => BitVec.ofNat 8 x :: leBytes n (x / 256)

/-- The number that little-endian bytes spell (R9). -/
def leNat : List Byte → Nat
  | [] => 0
  | b :: bs => b.toNat + 256 * leNat bs

/-- Byte `i` of a list, 0 beyond its end. -/
def byteAt (l : List Byte) (i : Nat) : Nat := (l.getD i 0).toNat

/-- The `n`-byte little-endian field of a byte list at offset `o`. -/
def leField (l : List Byte) (o n : Nat) : Nat := leNat ((l.drop o).take n)

/-- `l` cut or zero-filled to `n` bytes. -/
def padTo (n : Nat) (l : List Byte) : List Byte := l.take n ++ List.replicate (n - l.length) 0

/-- A list with entry `i` replaced (nothing if it is beyond the end). -/
def setAt {α : Type} (l : List α) (i : Nat) (a : α) : List α := l.set i a

/-- `a / b` rounded up. -/
def ceilDiv (a b : Nat) : Nat := (a + b - 1) / b

/-- The position of the lowest set bit among bits 0 to `n − 1`. -/
def lowestBit (x : Nat) : Nat → Option Nat
  | 0 => none
  | n + 1 => match lowestBit x n with
    | some i => some i
    | none => if x.testBit n then some n else none

/-- The number of set bits among bits 0 to `n − 1`. -/
def popCount (x : Nat) : Nat → Nat
  | 0 => 0
  | n + 1 => popCount x n + b2n (x.testBit n)

/-- The bitwise reversal-free CRC step used by the reflected CRCs of spec/: `poly` reflected, low bit first. -/
def crcBitsReflected (poly : Nat) : Nat → Nat → Nat
  | 0, c => c
  | n + 1, c => crcBitsReflected poly n (if c % 2 = 1 then (c / 2) ^^^ poly else c / 2)

/-- A reflected CRC over bytes from the register value `c`. -/
def crcReflected (poly : Nat) : Nat → List Byte → Nat
  | c, [] => c
  | c, b :: bs => crcReflected poly (crcBitsReflected poly 8 (c ^^^ b.toNat)) bs

/-- CRC-32, IEEE 802.3 polynomial (R54, R187, R628, R665): reflected 0xEDB88320, initial and final all ones. -/
def crc32 (l : List Byte) : Nat := (crcReflected 0xEDB88320 0xFFFFFFFF l) ^^^ 0xFFFFFFFF

/-- The step of a most-significant-bit-first CRC of width `w`. -/
def crcBitsMsb (w poly : Nat) : Nat → Nat → Nat
  | 0, c => c
  | n + 1, c =>
    crcBitsMsb w poly n (if c.testBit (w - 1) then (2 * c % 2 ^ w) ^^^ poly else 2 * c % 2 ^ w)

/-- A most-significant-bit-first CRC of width `w` over bytes. -/
def crcMsb (w poly : Nat) : Nat → List Byte → Nat
  | c, [] => c
  | c, b :: bs => crcMsb w poly (crcBitsMsb w poly 8 (c ^^^ (b.toNat * 2 ^ (w - 8)))) bs

end Sys2Proof.Machine
end

