-- ==== Sys2Proof/Machine/RegMap.lean ====
section
/-! DEFINITION. The register map of spec/ (the register tables of chapters 03 and 05–23): the word address of every
block-specific register (page × 0x1000 + offset, R62) and a handle for every field. Array registers take their index:
`u` the instance or page, `k` the element, `i` an index that runs on across pages as the table says. -/

namespace Sys2Proof.Machine

/-- A register field: the address of its register and its bits `hi:lo`, which may lie beyond the first 32-bit word. -/
structure Fld where
  addr : Nat
  hi : Nat
  lo : Nat
deriving DecidableEq, Repr

/-- How many bits a field holds. -/
def Fld.width (f : Fld) : Nat := f.hi + 1 - f.lo

namespace Reg

def DEV_TILE_PRESENT : Nat := 0x40
def DEV_TILE_PRESENT_PRESENT : Fld := ⟨DEV_TILE_PRESENT, 31, 0⟩
def DEV_PCIE_WMASK : Nat := 0x44
def DEV_PCIE_WMASK_PART_W : Fld := ⟨DEV_PCIE_WMASK, 7, 1⟩
def DEV_ACCERR : Nat := 0x48
def DEV_ACCERR_GRN_CNT : Fld := ⟨DEV_ACCERR, 31, 24⟩
def DEV_ACCERR_CMDP_CNT : Fld := ⟨DEV_ACCERR, 23, 16⟩
def DEV_ACCERR_PCIE_CNT : Fld := ⟨DEV_ACCERR, 15, 8⟩
def DEV_ACCERR_C_UNMAPPED : Fld := ⟨DEV_ACCERR, 6, 6⟩
def DEV_ACCERR_C_BUSY : Fld := ⟨DEV_ACCERR, 5, 5⟩
def DEV_ACCERR_C_SIZE : Fld := ⟨DEV_ACCERR, 4, 4⟩
def DEV_ACCERR_C_LOCKED : Fld := ⟨DEV_ACCERR, 3, 3⟩
def DEV_ACCERR_C_RIGHTS : Fld := ⟨DEV_ACCERR, 2, 2⟩
def DEV_ACCERR_C_RSVD_PAGE : Fld := ⟨DEV_ACCERR, 1, 1⟩
def DEV_ACCERR_C_TILE_SRAM : Fld := ⟨DEV_ACCERR, 0, 0⟩
def DEV_ACCERR_CLR : Nat := 0x4c
def DEV_ACCERR_CLR_CLR : Fld := ⟨DEV_ACCERR_CLR, 0, 0⟩
def DEV_MODE : Nat := 0x1040
def DEV_MODE_MODE : Fld := ⟨DEV_MODE, 31, 28⟩
def DEV_MODE_ENG_REFUSED : Fld := ⟨DEV_MODE, 8, 8⟩
def DEV_MODE_BOOT_FAIL : Fld := ⟨DEV_MODE, 7, 7⟩
def DEV_MODE_HOST_LOST : Fld := ⟨DEV_MODE, 3, 3⟩
def DEV_MODE_TILE : Fld := ⟨DEV_MODE, 2, 2⟩
def DEV_MODE_SENSOR : Fld := ⟨DEV_MODE, 1, 1⟩
def DEV_MODE_NOPLAN : Fld := ⟨DEV_MODE, 0, 0⟩
def DEV_MODECMD : Nat := 0x1044
def DEV_MODECMD_CMD : Fld := ⟨DEV_MODECMD, 31, 28⟩
def DEV_HOSTLOSS : Nat := 0x1048
def DEV_HOSTLOSS_LINK_IS_LOSS : Fld := ⟨DEV_HOSTLOSS, 31, 31⟩
def DEV_HOSTLOSS_HB_MS : Fld := ⟨DEV_HOSTLOSS, 23, 16⟩
def DEV_HOSTLOSS_GRACE_MS : Fld := ⟨DEV_HOSTLOSS, 14, 0⟩
def DEV_GRACE : Nat := 0x104c
def DEV_GRACE_EXPIRED : Fld := ⟨DEV_GRACE, 31, 31⟩
def DEV_GRACE_LEFT : Fld := ⟨DEV_GRACE, 14, 0⟩
def DEV_OP : Nat := 0x1050
def DEV_OP_OP : Fld := ⟨DEV_OP, 31, 24⟩
def DEV_OP_RESULT : Fld := ⟨DEV_OP, 23, 16⟩
def DEV_OP_RUNNING : Fld := ⟨DEV_OP, 0, 0⟩
def DEV_CMDP_CNT : Nat := 0x1054
def DEV_CMDP_CNT_CRCERR : Fld := ⟨DEV_CMDP_CNT, 31, 16⟩
def DEV_CMDP_CNT_ABORTS : Fld := ⟨DEV_CMDP_CNT, 15, 8⟩
def DEV_CMDP_CNT_BUSYS : Fld := ⟨DEV_CMDP_CNT, 7, 0⟩
def DEV_HOST_HB : Nat := 0x2040
def DEV_HOST_HB_BEAT : Fld := ⟨DEV_HOST_HB, 0, 0⟩
def DEV_RESULT (i : Nat) : Nat := 0x4040 + 0x1000 * (i / 1008) + 0x4 * (i % 1008)
def DEV_RESULT_WORD (i : Nat) : Fld := ⟨(DEV_RESULT i), 31, 0⟩

def TILE_STATUS (u : Nat) : Nat := 0x100040 + 0x10000 * u
def TILE_STATUS_CUR_CTX (u : Nat) : Fld := ⟨(TILE_STATUS u), 27, 16⟩
def TILE_STATUS_CUR_PART (u : Nat) : Fld := ⟨(TILE_STATUS u), 10, 8⟩
def TILE_STATUS_TEST_SLOT (u : Nat) : Fld := ⟨(TILE_STATUS u), 3, 3⟩
def TILE_STATUS_MAT_BUSY (u : Nat) : Fld := ⟨(TILE_STATUS u), 2, 2⟩
def TILE_STATUS_VEC_BUSY (u : Nat) : Fld := ⟨(TILE_STATUS u), 1, 1⟩
def TILE_STATUS_AE_BUSY (u : Nat) : Fld := ⟨(TILE_STATUS u), 0, 0⟩
def TILE_FENCE (u : Nat) : Nat := 0x100044 + 0x10000 * u
def TILE_FENCE_VERDICT (u : Nat) : Fld := ⟨(TILE_FENCE u), 9, 8⟩
def TILE_FENCE_CAUSE (u : Nat) : Fld := ⟨(TILE_FENCE u), 5, 4⟩
def TILE_FENCE_CK_ARMED (u : Nat) : Fld := ⟨(TILE_FENCE u), 1, 1⟩
def TILE_FENCE_FENCED (u : Nat) : Fld := ⟨(TILE_FENCE u), 0, 0⟩
def TILE_CKCNT (u : Nat) : Nat := 0x100048 + 0x10000 * u
def TILE_CKCNT_MASKED (u : Nat) : Fld := ⟨(TILE_CKCNT u), 31, 16⟩
def TILE_CKCNT_FAILS (u : Nat) : Fld := ⟨(TILE_CKCNT u), 15, 0⟩
def TILE_FW_VER (u : Nat) : Nat := 0x10004c + 0x10000 * u
def TILE_FW_VER_MAJOR (u : Nat) : Fld := ⟨(TILE_FW_VER u), 31, 16⟩
def TILE_FW_VER_MINOR (u : Nat) : Fld := ⟨(TILE_FW_VER u), 15, 0⟩
def TILE_FREQ (u : Nat) : Nat := 0x101040 + 0x10000 * u
def TILE_FREQ_FMAX_DERATED (u : Nat) : Fld := ⟨(TILE_FREQ u), 23, 16⟩
def TILE_FREQ_FMAX (u : Nat) : Fld := ⟨(TILE_FREQ u), 15, 8⟩
def TILE_FREQ_TARGET (u : Nat) : Fld := ⟨(TILE_FREQ u), 7, 0⟩
def TILE_FMEAS (u : Nat) : Nat := 0x101044 + 0x10000 * u
def TILE_FMEAS_MHZ (u : Nat) : Fld := ⟨(TILE_FMEAS u), 15, 0⟩
def TILE_TEMP (u : Nat) : Nat := 0x101048 + 0x10000 * u
def TILE_TEMP_TEMP (u : Nat) : Fld := ⟨(TILE_TEMP u), 15, 0⟩
def TILE_ISSUE (u : Nat) : Nat := 0x10104c + 0x10000 * u
def TILE_ISSUE_THERMAL (u : Nat) : Fld := ⟨(TILE_ISSUE u), 14, 8⟩
def TILE_ISSUE_RATE (u : Nat) : Fld := ⟨(TILE_ISSUE u), 6, 0⟩
def TILE_ECC_CNT (u : Nat) : Nat := 0x102040 + 0x10000 * u
def TILE_ECC_CNT_ACC_UE (u : Nat) : Fld := ⟨(TILE_ECC_CNT u), 31, 24⟩
def TILE_ECC_CNT_SP_UE (u : Nat) : Fld := ⟨(TILE_ECC_CNT u), 23, 16⟩
def TILE_ECC_CNT_ACC_CE (u : Nat) : Fld := ⟨(TILE_ECC_CNT u), 15, 8⟩
def TILE_ECC_CNT_SP_CE (u : Nat) : Fld := ⟨(TILE_ECC_CNT u), 7, 0⟩
def TILE_SCRUB (u : Nat) : Nat := 0x102044 + 0x10000 * u
def TILE_SCRUB_PASSES (u : Nat) : Fld := ⟨(TILE_SCRUB u), 31, 16⟩
def TILE_OUTSTANDING (u : Nat) : Nat := 0x102048 + 0x10000 * u
def TILE_OUTSTANDING_PEAK (u : Nat) : Fld := ⟨(TILE_OUTSTANDING u), 24, 16⟩
def TILE_OUTSTANDING_NOW (u : Nat) : Fld := ⟨(TILE_OUTSTANDING u), 8, 0⟩
def TILE_CNT_CLR (u : Nat) : Nat := 0x103060 + 0x10000 * u
def TILE_CNT_CLR_CLR_PEAK (u : Nat) : Fld := ⟨(TILE_CNT_CLR u), 2, 2⟩
def TILE_CNT_CLR_CLR_CK (u : Nat) : Fld := ⟨(TILE_CNT_CLR u), 1, 1⟩
def TILE_CNT_CLR_CLR_CYC (u : Nat) : Fld := ⟨(TILE_CNT_CLR u), 0, 0⟩
def TILE_CYC_MAT (u : Nat) : Nat := 0x103040 + 0x10000 * u
def TILE_CYC_MAT_CYC (u : Nat) : Fld := ⟨(TILE_CYC_MAT u), 63, 0⟩
def TILE_CYC_VEC (u : Nat) : Nat := 0x103048 + 0x10000 * u
def TILE_CYC_VEC_CYC (u : Nat) : Fld := ⟨(TILE_CYC_VEC u), 63, 0⟩
def TILE_CYC_AE (u : Nat) : Nat := 0x103050 + 0x10000 * u
def TILE_CYC_AE_CYC (u : Nat) : Fld := ⟨(TILE_CYC_AE u), 63, 0⟩
def TILE_CYC_ALL (u : Nat) : Nat := 0x103058 + 0x10000 * u
def TILE_CYC_ALL_CYC (u : Nat) : Fld := ⟨(TILE_CYC_ALL u), 63, 0⟩

def SYN_ADD (u : Nat) : Nat := 0xc0040 + 0x1000 * u
def SYN_ADD_AMOUNT (u : Nat) : Fld := ⟨(SYN_ADD u), 63, 32⟩
def SYN_ADD_IDX (u : Nat) : Fld := ⟨(SYN_ADD u), 7, 0⟩
def SYN_DROPS (u : Nat) : Nat := 0xc0048 + 0x1000 * u
def SYN_DROPS_COUNT (u : Nat) : Fld := ⟨(SYN_DROPS u), 15, 0⟩
def SYN_DROPS_CLR (u : Nat) : Nat := 0xc004c + 0x1000 * u
def SYN_DROPS_CLR_CLR (u : Nat) : Fld := ⟨(SYN_DROPS_CLR u), 0, 0⟩
def SYN_STATE (i : Nat) : Nat := 0xc0400 + 0x1000 * (i / 256) + 0x4 * (i % 256)
def SYN_STATE_STATE (i : Nat) : Fld := ⟨(SYN_STATE i), 31, 30⟩
def SYN_STATE_OWNER_CTX (i : Nat) : Fld := ⟨(SYN_STATE i), 27, 16⟩
def SYN_VALUE (i : Nat) : Nat := 0xc0800 + 0x1000 * (i / 256) + 0x8 * (i % 256)
def SYN_VALUE_VALUE (i : Nat) : Fld := ⟨(SYN_VALUE i), 63, 0⟩

def KVP_PT_BASE : Nat := 0x338040
def KVP_PT_BASE_BASE : Fld := ⟨KVP_PT_BASE, 47, 24⟩
def KVP_FRAME : Nat := 0x338048
def KVP_FRAME_SIZE_P7 : Fld := ⟨KVP_FRAME, 15, 14⟩
def KVP_FRAME_SIZE_P6 : Fld := ⟨KVP_FRAME, 13, 12⟩
def KVP_FRAME_SIZE_P5 : Fld := ⟨KVP_FRAME, 11, 10⟩
def KVP_FRAME_SIZE_P4 : Fld := ⟨KVP_FRAME, 9, 8⟩
def KVP_FRAME_SIZE_P3 : Fld := ⟨KVP_FRAME, 7, 6⟩
def KVP_FRAME_SIZE_P2 : Fld := ⟨KVP_FRAME, 5, 4⟩
def KVP_FRAME_SIZE_P1 : Fld := ⟨KVP_FRAME, 3, 2⟩
def KVP_FRAME_SIZE_P0 : Fld := ⟨KVP_FRAME, 1, 0⟩
def KVP_FL_BASE (u : Nat) (k : Nat) : Nat := 0x338080 + 0x1000 * u + 0x20 * k
def KVP_FL_BASE_BASE (u : Nat) (k : Nat) : Fld := ⟨(KVP_FL_BASE u k), 47, 2⟩
def KVP_FL_CAP (u : Nat) (k : Nat) : Nat := 0x338088 + 0x1000 * u + 0x20 * k
def KVP_FL_CAP_CAP (u : Nat) (k : Nat) : Fld := ⟨(KVP_FL_CAP u k), 20, 0⟩
def KVP_FL_COUNT (u : Nat) (k : Nat) : Nat := 0x33808c + 0x1000 * u + 0x20 * k
def KVP_FL_COUNT_COUNT (u : Nat) (k : Nat) : Fld := ⟨(KVP_FL_COUNT u k), 20, 0⟩
def KVP_FL_POP (u : Nat) (k : Nat) : Nat := 0x33809c + 0x1000 * u + 0x20 * k
def KVP_FL_POP_POP (u : Nat) (k : Nat) : Fld := ⟨(KVP_FL_POP u k), 20, 0⟩
def KVP_FL_PUSH (u : Nat) (k : Nat) : Nat := 0x338090 + 0x1000 * u + 0x20 * k
def KVP_FL_PUSH_FRAME (u : Nat) (k : Nat) : Fld := ⟨(KVP_FL_PUSH u k), 53, 20⟩
def KVP_FL_PUSH_PAGE (u : Nat) (k : Nat) : Fld := ⟨(KVP_FL_PUSH u k), 19, 0⟩
def KVP_FL_LOW (u : Nat) (k : Nat) : Nat := 0x338098 + 0x1000 * u + 0x20 * k
def KVP_FL_LOW_LOW (u : Nat) (k : Nat) : Fld := ⟨(KVP_FL_LOW u k), 20, 0⟩
def KVP_CNT (u : Nat) : Nat := 0x3380e0 + 0x1000 * u
def KVP_CNT_COPIES (u : Nat) : Fld := ⟨(KVP_CNT u), 31, 16⟩
def KVP_CNT_SPILLS (u : Nat) : Fld := ⟨(KVP_CNT u), 15, 8⟩
def KVP_CNT_DROPS (u : Nat) : Fld := ⟨(KVP_CNT u), 7, 0⟩
def KVP_CNT_CLR (u : Nat) : Nat := 0x3380e4 + 0x1000 * u
def KVP_CNT_CLR_CLR (u : Nat) : Fld := ⟨(KVP_CNT_CLR u), 0, 0⟩

def STM_CTRL (i : Nat) : Nat := 0x340800 + 0x1000 * (i / 64) + 0x20 * (i % 64)
def STM_CTRL_EN (i : Nat) : Fld := ⟨(STM_CTRL i), 31, 31⟩
def STM_CTRL_SFMT (i : Nat) : Fld := ⟨(STM_CTRL i), 29, 28⟩
def STM_CTRL_LOOKAHEAD (i : Nat) : Fld := ⟨(STM_CTRL i), 27, 24⟩
def STM_CTRL_NSTM1 (i : Nat) : Fld := ⟨(STM_CTRL i), 23, 20⟩
def STM_CTRL_CH128 (i : Nat) : Fld := ⟨(STM_CTRL i), 13, 8⟩
def STM_CTRL_RESET (i : Nat) : Fld := ⟨(STM_CTRL i), 0, 0⟩
def STM_HOME (i : Nat) : Nat := 0x340804 + 0x1000 * (i / 64) + 0x20 * (i % 64)
def STM_HOME_TILE (i : Nat) : Fld := ⟨(STM_HOME i), 20, 16⟩
def STM_HOME_BANK_SEL (i : Nat) : Fld := ⟨(STM_HOME i), 11, 11⟩
def STM_HOME_PAIR (i : Nat) : Fld := ⟨(STM_HOME i), 10, 8⟩
def STM_HOME_OFFSET (i : Nat) : Fld := ⟨(STM_HOME i), 6, 0⟩
def STM_PTR (i : Nat) : Nat := 0x340808 + 0x1000 * (i / 64) + 0x20 * (i % 64)
def STM_PTR_PTR (i : Nat) : Fld := ⟨(STM_PTR i), 47, 6⟩
def STM_GEN (i : Nat) : Nat := 0x340810 + 0x1000 * (i / 64) + 0x20 * (i % 64)
def STM_GEN_GEN (i : Nat) : Fld := ⟨(STM_GEN i), 31, 0⟩
def STM_STAT (i : Nat) : Nat := 0x340814 + 0x1000 * (i / 64) + 0x20 * (i % 64)
def STM_STAT_LAST_SEG (i : Nat) : Fld := ⟨(STM_STAT i), 31, 16⟩
def STM_STAT_WAITING (i : Nat) : Fld := ⟨(STM_STAT i), 15, 8⟩
def STM_STAT_STATUS (i : Nat) : Fld := ⟨(STM_STAT i), 2, 0⟩
def STM_OP (i : Nat) : Nat := 0x340818 + 0x1000 * (i / 64) + 0x20 * (i % 64)
def STM_OP_OP (i : Nat) : Fld := ⟨(STM_OP i), 1, 0⟩
def STM_OWNER (i : Nat) : Nat := 0x34081c + 0x1000 * (i / 64) + 0x20 * (i % 64)
def STM_OWNER_CTX (i : Nat) : Fld := ⟨(STM_OWNER i), 11, 0⟩
def STM_CNT : Nat := 0x340040
def STM_CNT_SWAPS : Fld := ⟨STM_CNT, 31, 16⟩
def STM_CNT_RESTORES : Fld := ⟨STM_CNT, 15, 8⟩
def STM_CNT_RESETS : Fld := ⟨STM_CNT, 7, 0⟩
def STM_CNT_CLR : Nat := 0x340044
def STM_CNT_CLR_CLR : Fld := ⟨STM_CNT_CLR, 0, 0⟩

def TIER_CFG : Nat := 0x330040
def TIER_CFG_MODE_LOCKED : Fld := ⟨TIER_CFG, 1, 1⟩
def TIER_CFG_MODE : Fld := ⟨TIER_CFG, 0, 0⟩
def TIER_SC_WAYS : Nat := 0x330044
def TIER_SC_WAYS_SCRATCH_WAYS : Fld := ⟨TIER_SC_WAYS, 4, 0⟩
def TIER_SC_MASK (k : Nat) : Nat := 0x330048 + 0x4 * k
def TIER_SC_MASK_WAYS_ODD (k : Nat) : Fld := ⟨(TIER_SC_MASK k), 31, 16⟩
def TIER_SC_MASK_WAYS_EVEN (k : Nat) : Fld := ⟨(TIER_SC_MASK k), 15, 0⟩
def TIER_OBJ_BASE : Nat := 0x330058
def TIER_OBJ_BASE_BASE : Fld := ⟨TIER_OBJ_BASE, 47, 20⟩
def TIER_OBJ_APPLY : Nat := 0x330060
def TIER_OBJ_APPLY_INDEX : Fld := ⟨TIER_OBJ_APPLY, 15, 0⟩
def TIER_OBJ_STAT : Nat := 0x330064
def TIER_OBJ_STAT_INDEX : Fld := ⟨TIER_OBJ_STAT, 31, 16⟩
def TIER_OBJ_STAT_RESULT : Fld := ⟨TIER_OBJ_STAT, 3, 0⟩
def TIER_HEAT : Nat := 0x330068
def TIER_HEAT_MAX_SWAPS : Fld := ⟨TIER_HEAT, 31, 24⟩
def TIER_HEAT_INTERVAL : Fld := ⟨TIER_HEAT, 23, 16⟩
def TIER_HEAT_PROMOTE : Fld := ⟨TIER_HEAT, 15, 0⟩
def TIER_MIG : Nat := 0x33006c
def TIER_MIG_HYST : Fld := ⟨TIER_MIG, 31, 16⟩
def TIER_MIG_PART : Fld := ⟨TIER_MIG, 6, 4⟩
def TIER_MIG_RATE : Fld := ⟨TIER_MIG, 3, 0⟩
def TIER_MIG_CNT : Nat := 0x330070
def TIER_MIG_CNT_SWAPS : Fld := ⟨TIER_MIG_CNT, 31, 16⟩
def TIER_MIG_CNT_SPILLED : Fld := ⟨TIER_MIG_CNT, 15, 0⟩
def TIER_PMAP_IDX : Nat := 0x330074
def TIER_PMAP_IDX_PAGE : Fld := ⟨TIER_PMAP_IDX, 16, 0⟩
def TIER_PMAP_DATA : Nat := 0x330078
def TIER_PMAP_DATA_HEAT : Fld := ⟨TIER_PMAP_DATA, 63, 48⟩
def TIER_PMAP_DATA_OBJ : Fld := ⟨TIER_PMAP_DATA, 47, 32⟩
def TIER_PMAP_DATA_LOC : Fld := ⟨TIER_PMAP_DATA, 31, 30⟩
def TIER_PMAP_DATA_TAGGED : Fld := ⟨TIER_PMAP_DATA, 29, 29⟩
def TIER_PMAP_DATA_PIN : Fld := ⟨TIER_PMAP_DATA, 28, 28⟩
def TIER_PMAP_DATA_FRAME : Fld := ⟨TIER_PMAP_DATA, 16, 0⟩
def TIER_LEND_BASE : Nat := 0x330080
def TIER_LEND_BASE_BASE : Fld := ⟨TIER_LEND_BASE, 47, 21⟩
def TIER_LEND_SIZE : Nat := 0x330088
def TIER_LEND_SIZE_PAGES : Fld := ⟨TIER_LEND_SIZE, 16, 0⟩
def TIER_LEND_CTRL : Nat := 0x33008c
def TIER_LEND_CTRL_EN : Fld := ⟨TIER_LEND_CTRL, 31, 31⟩
def TIER_LEND_CTRL_PART : Fld := ⟨TIER_LEND_CTRL, 6, 4⟩
def TIER_RGN_BASE (k : Nat) : Nat := 0x331800 + 0x10 * k
def TIER_RGN_BASE_V (k : Nat) : Fld := ⟨(TIER_RGN_BASE k), 63, 63⟩
def TIER_RGN_BASE_BASE (k : Nat) : Fld := ⟨(TIER_RGN_BASE k), 47, 16⟩
def TIER_RGN_LIM (k : Nat) : Nat := 0x331808 + 0x10 * k
def TIER_RGN_LIM_LIM (k : Nat) : Fld := ⟨(TIER_RGN_LIM k), 31, 0⟩
def TIER_RGN_MASK (k : Nat) : Nat := 0x33180c + 0x10 * k
def TIER_RGN_MASK_WMASK (k : Nat) : Fld := ⟨(TIER_RGN_MASK k), 15, 8⟩
def TIER_RGN_MASK_RMASK (k : Nat) : Fld := ⟨(TIER_RGN_MASK k), 7, 0⟩
def TIER_WW_DESC (k : Nat) : Nat := 0x332800 + 0x20 * k
def TIER_WW_DESC_DESC (k : Nat) : Fld := ⟨(TIER_WW_DESC k), 47, 6⟩
def TIER_WW_CTRL (k : Nat) : Nat := 0x332808 + 0x20 * k
def TIER_WW_CTRL_STOP (k : Nat) : Fld := ⟨(TIER_WW_CTRL k), 1, 1⟩
def TIER_WW_CTRL_GO (k : Nat) : Fld := ⟨(TIER_WW_CTRL k), 0, 0⟩
def TIER_WW_STAT (k : Nat) : Nat := 0x33280c + 0x20 * k
def TIER_WW_STAT_STATE (k : Nat) : Fld := ⟨(TIER_WW_STAT k), 31, 28⟩
def TIER_WW_STAT_ERR (k : Nat) : Fld := ⟨(TIER_WW_STAT k), 27, 24⟩
def TIER_WW_DONE (k : Nat) : Nat := 0x332810 + 0x20 * k
def TIER_WW_DONE_DONE (k : Nat) : Fld := ⟨(TIER_WW_DONE k), 63, 0⟩

def MEM_PORT_STAT (u : Nat) : Nat := 0x300040 + 0x4000 * u
def MEM_PORT_STAT_OVERCOMMIT (u : Nat) : Fld := ⟨(MEM_PORT_STAT u), 31, 31⟩
def MEM_PORT_STAT_GUAR_SUM (u : Nat) : Fld := ⟨(MEM_PORT_STAT u), 15, 0⟩
def MEM_BKT (u : Nat) (k : Nat) : Nat := 0x300100 + 0x4000 * u + 0x8 * k
def MEM_BKT_BURST (u : Nat) (k : Nat) : Fld := ⟨(MEM_BKT u k), 47, 32⟩
def MEM_BKT_CEIL (u : Nat) (k : Nat) : Fld := ⟨(MEM_BKT u k), 31, 16⟩
def MEM_BKT_GUAR (u : Nat) (k : Nat) : Fld := ⟨(MEM_BKT u k), 15, 0⟩
def MEM_SERVED (u : Nat) (k : Nat) : Nat := 0x300140 + 0x4000 * u + 0x8 * k
def MEM_SERVED_SERVED (u : Nat) (k : Nat) : Fld := ⟨(MEM_SERVED u k), 63, 0⟩

def SCH_CFG : Nat := 0x80048
def SCH_CFG_HOSTLOSS : Fld := ⟨SCH_CFG, 31, 24⟩
def SCH_CFG_DRAIN : Fld := ⟨SCH_CFG, 15, 8⟩
def SCH_CFG_QUANTUM : Fld := ⟨SCH_CFG, 7, 0⟩
def SCH_WIN (k : Nat) : Nat := 0x81040 + 0x8 * k
def SCH_WIN_TILES (k : Nat) : Fld := ⟨(SCH_WIN k), 63, 32⟩
def SCH_WIN_V (k : Nat) : Fld := ⟨(SCH_WIN k), 31, 31⟩
def SCH_WIN_OWNER (k : Nat) : Fld := ⟨(SCH_WIN k), 26, 24⟩
def SCH_WIN_START (k : Nat) : Fld := ⟨(SCH_WIN k), 9, 0⟩
def SCH_HS_CFG : Nat := 0x82040
def SCH_HS_CFG_EN : Fld := ⟨SCH_HS_CFG, 31, 31⟩
def SCH_HS_CFG_BASE : Fld := ⟨SCH_HS_CFG, 26, 16⟩
def SCH_HS_CFG_SIZE : Fld := ⟨SCH_HS_CFG, 10, 0⟩
def SCH_MODEL_BASE : Nat := 0x82048
def SCH_MODEL_BASE_BASE : Fld := ⟨SCH_MODEL_BASE, 47, 13⟩
def SCH_MODEL_IDX : Nat := 0x82050
def SCH_MODEL_IDX_IDX : Fld := ⟨SCH_MODEL_IDX, 7, 0⟩
def SCH_MODEL_STAT : Nat := 0x82054
def SCH_MODEL_STAT_RES : Fld := ⟨SCH_MODEL_STAT, 31, 31⟩
def SCH_MODEL_STAT_PIN : Fld := ⟨SCH_MODEL_STAT, 30, 30⟩
def SCH_MODEL_STAT_USERS : Fld := ⟨SCH_MODEL_STAT, 23, 16⟩
def SCH_MODEL_STAT_AGE : Fld := ⟨SCH_MODEL_STAT, 15, 0⟩
def SCH_HS_CNT : Nat := 0x82058
def SCH_HS_CNT_LOADS : Fld := ⟨SCH_HS_CNT, 31, 16⟩
def SCH_HS_CNT_EVICTS : Fld := ⟨SCH_HS_CNT, 15, 8⟩
def SCH_HS_CNT_MISSES : Fld := ⟨SCH_HS_CNT, 7, 0⟩
def SCH_HS_CNT_CLR : Nat := 0x8205c
def SCH_HS_CNT_CLR_CLR : Fld := ⟨SCH_HS_CNT_CLR, 0, 0⟩
def SCH_TILE_CMD : Nat := 0x83040
def SCH_TILE_CMD_OP : Fld := ⟨SCH_TILE_CMD, 31, 30⟩
def SCH_TILE_CMD_TILE : Fld := ⟨SCH_TILE_CMD, 4, 0⟩
def SCH_TILE_STAT (k : Nat) : Nat := 0x83080 + 0x4 * k
def SCH_TILE_STAT_EVACUATED (k : Nat) : Fld := ⟨(SCH_TILE_STAT k), 31, 31⟩
def SCH_TILE_STAT_HOLDS (k : Nat) : Fld := ⟨(SCH_TILE_STAT k), 28, 28⟩
def SCH_TILE_STAT_CTX (k : Nat) : Fld := ⟨(SCH_TILE_STAT k), 27, 16⟩
def SCH_TILE_STAT_MODEL (k : Nat) : Fld := ⟨(SCH_TILE_STAT k), 15, 8⟩
def SCH_TILE_STAT_RESIDENT (k : Nat) : Fld := ⟨(SCH_TILE_STAT k), 5, 0⟩
def SCH_CMD (u : Nat) : Nat := 0x88040 + 0x1000 * u
def SCH_CMD_OP (u : Nat) : Fld := ⟨(SCH_CMD u), 31, 28⟩
def SCH_CMD_ARG (u : Nat) : Fld := ⟨(SCH_CMD u), 11, 0⟩
def SCH_RES (u : Nat) : Nat := 0x88044 + 0x1000 * u
def SCH_RES_OP (u : Nat) : Fld := ⟨(SCH_RES u), 31, 28⟩
def SCH_RES_RESULT (u : Nat) : Fld := ⟨(SCH_RES u), 19, 16⟩
def SCH_RES_ARG (u : Nat) : Fld := ⟨(SCH_RES u), 11, 0⟩
def SCH_STAT (u : Nat) : Nat := 0x8804c + 0x1000 * u
def SCH_STAT_STATE (u : Nat) : Fld := ⟨(SCH_STAT u), 31, 29⟩
def SCH_STAT_ON_TILE (u : Nat) : Fld := ⟨(SCH_STAT u), 28, 28⟩
def SCH_STAT_SAVED (u : Nat) : Fld := ⟨(SCH_STAT u), 27, 27⟩
def SCH_STAT_TILE (u : Nat) : Fld := ⟨(SCH_STAT u), 26, 22⟩
def SCH_STAT_RESIDENT (u : Nat) : Fld := ⟨(SCH_STAT u), 21, 21⟩
def SCH_STAT_CAUSE (u : Nat) : Fld := ⟨(SCH_STAT u), 15, 8⟩
def SCH_CTX_BASE : Nat := 0x80040
def SCH_CTX_BASE_BASE : Fld := ⟨SCH_CTX_BASE, 47, 18⟩
def SCH_ACCT_DUMP : Nat := 0x8004c
def SCH_ACCT_DUMP_GO : Fld := ⟨SCH_ACCT_DUMP, 0, 0⟩
def SCH_ACCT_BASE : Nat := 0x80050
def SCH_ACCT_BASE_BASE : Fld := ⟨SCH_ACCT_BASE, 47, 17⟩
def SCH_IDX (u : Nat) : Nat := 0x88048 + 0x1000 * u
def SCH_IDX_IDX (u : Nat) : Fld := ⟨(SCH_IDX u), 11, 0⟩
def SCH_ACCT (u : Nat) (k : Nat) : Nat := 0x88050 + 0x1000 * u + 0x8 * k
def SCH_ACCT_ACCT (u : Nat) (k : Nat) : Fld := ⟨(SCH_ACCT u k), 63, 0⟩
def SCH_VT (u : Nat) : Nat := 0x88070 + 0x1000 * u
def SCH_VT_VT (u : Nat) : Fld := ⟨(SCH_VT u), 63, 0⟩

def ING_SEED : Nat := 0x380040
def ING_SEED_SEED : Fld := ⟨ING_SEED, 63, 0⟩
def ING_STOPPED : Nat := 0x380048
def ING_STOPPED_STOPPED : Fld := ⟨ING_STOPPED, 63, 0⟩
def ING_ABSENT : Nat := 0x380050
def ING_ABSENT_ABSENT : Fld := ⟨ING_ABSENT, 63, 0⟩
def ING_CMDP_MSG (k : Nat) : Nat := 0x380100 + 0x4 * k
def ING_CMDP_MSG_WORD (k : Nat) : Fld := ⟨(ING_CMDP_MSG k), 31, 0⟩
def ING_S_CTRL (i : Nat) : Nat := 0x381400 + 0x1000 * (i / 8) + 0x80 * (i % 8)
def ING_S_CTRL_EN (i : Nat) : Fld := ⟨(ING_S_CTRL i), 31, 31⟩
def ING_S_CTRL_REPLAY (i : Nat) : Fld := ⟨(ING_S_CTRL i), 30, 30⟩
def ING_S_CTRL_KIND (i : Nat) : Fld := ⟨(ING_S_CTRL i), 27, 24⟩
def ING_S_CTRL_SENSOR (i : Nat) : Fld := ⟨(ING_S_CTRL i), 22, 16⟩
def ING_S_CTRL_NRAND (i : Nat) : Fld := ⟨(ING_S_CTRL i), 15, 8⟩
def ING_S_SRC (i : Nat) : Nat := 0x381404 + 0x1000 * (i / 8) + 0x80 * (i % 8)
def ING_S_SRC_INST (i : Nat) : Fld := ⟨(ING_S_SRC i), 31, 28⟩
def ING_S_SRC_SEL (i : Nat) : Fld := ⟨(ING_S_SRC i), 27, 0⟩
def ING_S_MATCH (i : Nat) : Nat := 0x381408 + 0x1000 * (i / 8) + 0x80 * (i % 8)
def ING_S_MATCH_IDE (i : Nat) : Fld := ⟨(ING_S_MATCH i), 31, 31⟩
def ING_S_MATCH_ID (i : Nat) : Fld := ⟨(ING_S_MATCH i), 28, 0⟩
def ING_S_TRIG (i : Nat) : Nat := 0x38140c + 0x1000 * (i / 8) + 0x80 * (i % 8)
def ING_S_TRIG_EN (i : Nat) : Fld := ⟨(ING_S_TRIG i), 31, 31⟩
def ING_S_TRIG_TIMEOUT (i : Nat) : Fld := ⟨(ING_S_TRIG i), 23, 8⟩
def ING_S_TRIG_TRIG (i : Nat) : Fld := ⟨(ING_S_TRIG i), 4, 0⟩
def ING_S_RING (i : Nat) : Nat := 0x381410 + 0x1000 * (i / 8) + 0x80 * (i % 8)
def ING_S_RING_BASE (i : Nat) : Fld := ⟨(ING_S_RING i), 47, 6⟩
def ING_S_SLOT (i : Nat) : Nat := 0x381418 + 0x1000 * (i / 8) + 0x80 * (i % 8)
def ING_S_SLOT_LOG2N (i : Nat) : Fld := ⟨(ING_S_SLOT i), 31, 27⟩
def ING_S_SLOT_SLOT (i : Nat) : Fld := ⟨(ING_S_SLOT i), 19, 0⟩
def ING_S_OBJ1 (i : Nat) : Nat := 0x38141c + 0x1000 * (i / 8) + 0x80 * (i % 8)
def ING_S_OBJ1_DONE_OBJ (i : Nat) : Fld := ⟨(ING_S_OBJ1 i), 29, 16⟩
def ING_S_OBJ1_ORDER_OBJ (i : Nat) : Fld := ⟨(ING_S_OBJ1 i), 13, 0⟩
def ING_S_OBJ2 (i : Nat) : Nat := 0x381420 + 0x1000 * (i / 8) + 0x80 * (i % 8)
def ING_S_OBJ2_REL_OBJ (i : Nat) : Fld := ⟨(ING_S_OBJ2 i), 29, 16⟩
def ING_S_OBJ2_IN_OBJ (i : Nat) : Fld := ⟨(ING_S_OBJ2 i), 13, 0⟩
def ING_S_IN (i : Nat) : Nat := 0x381428 + 0x1000 * (i / 8) + 0x80 * (i % 8)
def ING_S_IN_BASE (i : Nat) : Fld := ⟨(ING_S_IN i), 47, 6⟩
def ING_S_FRAME (i : Nat) : Nat := 0x381430 + 0x1000 * (i / 8) + 0x80 * (i % 8)
def ING_S_FRAME_SYNC (i : Nat) : Fld := ⟨(ING_S_FRAME i), 31, 16⟩
def ING_S_FRAME_SEQ_OFF (i : Nat) : Fld := ⟨(ING_S_FRAME i), 15, 8⟩
def ING_S_FRAME_SEQ_W (i : Nat) : Fld := ⟨(ING_S_FRAME i), 7, 6⟩
def ING_S_FRAME_CRC (i : Nat) : Fld := ⟨(ING_S_FRAME i), 5, 4⟩
def ING_S_FRAME_LEN_OFF (i : Nat) : Fld := ⟨(ING_S_FRAME i), 3, 0⟩
def ING_S_LEN (i : Nat) : Nat := 0x381434 + 0x1000 * (i / 8) + 0x80 * (i % 8)
def ING_S_LEN_LEN_MAX (i : Nat) : Fld := ⟨(ING_S_LEN i), 31, 16⟩
def ING_S_LEN_LEN_MIN (i : Nat) : Fld := ⟨(ING_S_LEN i), 15, 0⟩
def ING_S_SID (i : Nat) : Nat := 0x381438 + 0x1000 * (i / 8) + 0x80 * (i % 8)
def ING_S_SID_SID (i : Nat) : Fld := ⟨(ING_S_SID i), 31, 0⟩
def ING_S_STAT (i : Nat) : Nat := 0x38143c + 0x1000 * (i / 8) + 0x80 * (i % 8)
def ING_S_STAT_STATE (i : Nat) : Fld := ⟨(ING_S_STAT i), 31, 30⟩
def ING_S_STAT_NOSIGNAL (i : Nat) : Fld := ⟨(ING_S_STAT i), 29, 29⟩
def ING_S_STAT_CAUSE (i : Nat) : Fld := ⟨(ING_S_STAT i), 26, 24⟩
def ING_S_STAT_STOPS (i : Nat) : Fld := ⟨(ING_S_STAT i), 15, 0⟩
def ING_S_CNT (i : Nat) : Nat := 0x381440 + 0x1000 * (i / 8) + 0x80 * (i % 8)
def ING_S_CNT_DROPS (i : Nat) : Fld := ⟨(ING_S_CNT i), 31, 16⟩
def ING_S_CNT_GAPS (i : Nat) : Fld := ⟨(ING_S_CNT i), 15, 8⟩
def ING_S_CNT_ECC (i : Nat) : Fld := ⟨(ING_S_CNT i), 7, 0⟩

def IFE_IN (u : Nat) : Nat := 0x390040 + 0x1000 * u
def IFE_IN_WIDTH (u : Nat) : Fld := ⟨(IFE_IN u), 31, 16⟩
def IFE_IN_HEIGHT (u : Nat) : Fld := ⟨(IFE_IN u), 15, 0⟩
def IFE_CFG (u : Nat) : Nat := 0x390044 + 0x1000 * u
def IFE_CFG_DT (u : Nat) : Fld := ⟨(IFE_CFG u), 31, 26⟩
def IFE_CFG_BAYER (u : Nat) : Fld := ⟨(IFE_CFG u), 25, 24⟩
def IFE_CFG_MONO (u : Nat) : Fld := ⟨(IFE_CFG u), 23, 23⟩
def IFE_CFG_AUG (u : Nat) : Fld := ⟨(IFE_CFG u), 22, 22⟩
def IFE_CFG_LAYOUT (u : Nat) : Fld := ⟨(IFE_CFG u), 21, 20⟩
def IFE_CFG_FMT (u : Nat) : Fld := ⟨(IFE_CFG u), 19, 16⟩
def IFE_CFG_CHANNELS (u : Nat) : Fld := ⟨(IFE_CFG u), 13, 12⟩
def IFE_CFG_JIT (u : Nat) : Fld := ⟨(IFE_CFG u), 7, 0⟩
def IFE_BL0 (u : Nat) : Nat := 0x390048 + 0x1000 * u
def IFE_BL0_BL1 (u : Nat) : Fld := ⟨(IFE_BL0 u), 31, 16⟩
def IFE_BL0_BL0 (u : Nat) : Fld := ⟨(IFE_BL0 u), 15, 0⟩
def IFE_BL1 (u : Nat) : Nat := 0x39004c + 0x1000 * u
def IFE_BL1_BL3 (u : Nat) : Fld := ⟨(IFE_BL1 u), 31, 16⟩
def IFE_BL1_BL2 (u : Nat) : Fld := ⟨(IFE_BL1 u), 15, 0⟩
def IFE_WB0 (u : Nat) : Nat := 0x390050 + 0x1000 * u
def IFE_WB0_WB1 (u : Nat) : Fld := ⟨(IFE_WB0 u), 31, 16⟩
def IFE_WB0_WB0 (u : Nat) : Fld := ⟨(IFE_WB0 u), 15, 0⟩
def IFE_WB1 (u : Nat) : Nat := 0x390054 + 0x1000 * u
def IFE_WB1_WB3 (u : Nat) : Fld := ⟨(IFE_WB1 u), 31, 16⟩
def IFE_WB1_WB2 (u : Nat) : Fld := ⟨(IFE_WB1 u), 15, 0⟩
def IFE_CROP0 (u : Nat) : Nat := 0x390058 + 0x1000 * u
def IFE_CROP0_X0 (u : Nat) : Fld := ⟨(IFE_CROP0 u), 31, 16⟩
def IFE_CROP0_Y0 (u : Nat) : Fld := ⟨(IFE_CROP0 u), 15, 0⟩
def IFE_CROP1 (u : Nat) : Nat := 0x39005c + 0x1000 * u
def IFE_CROP1_CW (u : Nat) : Fld := ⟨(IFE_CROP1 u), 31, 16⟩
def IFE_CROP1_CH (u : Nat) : Fld := ⟨(IFE_CROP1 u), 15, 0⟩
def IFE_OUT (u : Nat) : Nat := 0x390060 + 0x1000 * u
def IFE_OUT_OW (u : Nat) : Fld := ⟨(IFE_OUT u), 31, 16⟩
def IFE_OUT_OH (u : Nat) : Fld := ⟨(IFE_OUT u), 15, 0⟩
def IFE_GJIT (u : Nat) : Nat := 0x390064 + 0x1000 * u
def IFE_GJIT_GJIT (u : Nat) : Fld := ⟨(IFE_GJIT u), 31, 0⟩
def IFE_CCM (u : Nat) (k : Nat) : Nat := 0x390080 + 0x1000 * u + 0x4 * k
def IFE_CCM_C (u : Nat) (k : Nat) : Fld := ⟨(IFE_CCM u k), 15, 0⟩
def IFE_NORM (u : Nat) (k : Nat) : Nat := 0x3900c0 + 0x1000 * u + 0x8 * k
def IFE_NORM_OFF (u : Nat) (k : Nat) : Fld := ⟨(IFE_NORM u k), 63, 32⟩
def IFE_NORM_SCALE (u : Nat) (k : Nat) : Fld := ⟨(IFE_NORM u k), 31, 0⟩
def IFE_CURVE (u : Nat) (k : Nat) : Nat := 0x390800 + 0x1000 * u + 0x4 * k
def IFE_CURVE_Y (u : Nat) (k : Nat) : Fld := ⟨(IFE_CURVE u k), 15, 0⟩

def PK_LIST (u : Nat) : Nat := 0x3b0040 + 0x1000 * u
def PK_LIST_BASE (u : Nat) : Fld := ⟨(PK_LIST u), 47, 4⟩
def PK_OUT (u : Nat) : Nat := 0x3b0048 + 0x1000 * u
def PK_OUT_BASE (u : Nat) : Fld := ⟨(PK_OUT u), 47, 6⟩
def PK_META (u : Nat) : Nat := 0x3b0050 + 0x1000 * u
def PK_META_BASE (u : Nat) : Fld := ⟨(PK_META u), 47, 6⟩
def PK_CFG (u : Nat) : Nat := 0x3b0058 + 0x1000 * u
def PK_CFG_ROW_LEN (u : Nat) : Fld := ⟨(PK_CFG u), 31, 20⟩
def PK_CFG_ESIZE (u : Nat) : Fld := ⟨(PK_CFG u), 19, 18⟩
def PK_CFG_MFMT (u : Nat) : Fld := ⟨(PK_CFG u), 16, 16⟩
def PK_CFG_MAXROWS (u : Nat) : Fld := ⟨(PK_CFG u), 15, 0⟩
def PK_OBJ (u : Nat) : Nat := 0x3b005c + 0x1000 * u
def PK_OBJ_TRIG_OBJ (u : Nat) : Fld := ⟨(PK_OBJ u), 29, 16⟩
def PK_OBJ_DONE_OBJ (u : Nat) : Fld := ⟨(PK_OBJ u), 13, 0⟩
def PK_CTRL (u : Nat) : Nat := 0x3b0060 + 0x1000 * u
def PK_CTRL_STOP (u : Nat) : Fld := ⟨(PK_CTRL u), 1, 1⟩
def PK_CTRL_GO (u : Nat) : Fld := ⟨(PK_CTRL u), 0, 0⟩
def PK_STAT (u : Nat) : Nat := 0x3b0064 + 0x1000 * u
def PK_STAT_STATE (u : Nat) : Fld := ⟨(PK_STAT u), 31, 30⟩
def PK_STAT_ERR (u : Nat) : Fld := ⟨(PK_STAT u), 29, 28⟩
def PK_STAT_ROWS (u : Nat) : Fld := ⟨(PK_STAT u), 15, 0⟩

def AGT_CFG : Nat := 0x3c0040
def AGT_CFG_REWIND_US : Fld := ⟨AGT_CFG, 31, 24⟩
def AGT_CFG_VOTE_AGE : Fld := ⟨AGT_CFG, 23, 16⟩
def AGT_CFG_VGATE : Fld := ⟨AGT_CFG, 15, 8⟩
def AGT_TRK : Nat := 0x3c0044
def AGT_TRK_CONFIRM_M : Fld := ⟨AGT_TRK, 31, 24⟩
def AGT_TRK_CONFIRM_N : Fld := ⟨AGT_TRK, 23, 16⟩
def AGT_TRK_COAST : Fld := ⟨AGT_TRK, 15, 0⟩
def AGT_BIRTH : Nat := 0x3c0048
def AGT_BIRTH_BIRTH_SCORE : Fld := ⟨AGT_BIRTH, 15, 0⟩
def AGT_EPOCH : Nat := 0x3c004c
def AGT_EPOCH_EPOCH : Fld := ⟨AGT_EPOCH, 31, 0⟩
def AGT_Q : Nat := 0x3c0050
def AGT_Q_COUNT : Fld := ⟨AGT_Q, 16, 0⟩
def AGT_CKPT_BASE : Nat := 0x3c0058
def AGT_CKPT_BASE_BASE : Fld := ⟨AGT_CKPT_BASE, 47, 20⟩
def AGT_CKPT_CFG : Nat := 0x3c0060
def AGT_CKPT_CFG_SLOT : Fld := ⟨AGT_CKPT_CFG, 7, 0⟩
def AGT_XF_BASE : Nat := 0x3c0068
def AGT_XF_BASE_BASE : Fld := ⟨AGT_XF_BASE, 47, 15⟩
def AGT_XF_CTRL : Nat := 0x3c0070
def AGT_XF_CTRL_SWAP : Fld := ⟨AGT_XF_CTRL, 1, 1⟩
def AGT_XF_CTRL_BANK : Fld := ⟨AGT_XF_CTRL, 0, 0⟩
def AGT_XF_STAT : Nat := 0x3c0074
def AGT_XF_STAT_PENDING : Fld := ⟨AGT_XF_STAT, 31, 31⟩
def AGT_XF_STAT_REFUSED : Fld := ⟨AGT_XF_STAT, 30, 30⟩
def AGT_XF_STAT_ACTIVE : Fld := ⟨AGT_XF_STAT, 16, 16⟩
def AGT_XF_STAT_SWAPS : Fld := ⟨AGT_XF_STAT, 15, 0⟩
def AGT_OUT_BASE : Nat := 0x3c0078
def AGT_OUT_BASE_BASE : Fld := ⟨AGT_OUT_BASE, 47, 20⟩
def AGT_UMAT_BASE : Nat := 0x3c0080
def AGT_UMAT_BASE_BASE : Fld := ⟨AGT_UMAT_BASE, 47, 12⟩
def AGT_CNT0 : Nat := 0x3c0088
def AGT_CNT0_REWINDS : Fld := ⟨AGT_CNT0, 31, 16⟩
def AGT_CNT0_TOO_DEEP : Fld := ⟨AGT_CNT0, 15, 8⟩
def AGT_CNT0_TOO_OLD : Fld := ⟨AGT_CNT0, 7, 0⟩
def AGT_CNT1 : Nat := 0x3c008c
def AGT_CNT1_STALE : Fld := ⟨AGT_CNT1, 31, 16⟩
def AGT_CNT1_QFULL : Fld := ⟨AGT_CNT1, 15, 0⟩
def AGT_CNT2 : Nat := 0x3c0090
def AGT_CNT2_DEFERRED : Fld := ⟨AGT_CNT2, 31, 16⟩
def AGT_CNT2_BADREC : Fld := ⟨AGT_CNT2, 15, 8⟩
def AGT_CNT2_CKPT_DROP : Fld := ⟨AGT_CNT2, 7, 0⟩
def AGT_CNT3 : Nat := 0x3c0094
def AGT_CNT3_BIRTHS : Fld := ⟨AGT_CNT3, 31, 16⟩
def AGT_CNT3_BIRTH_FULL : Fld := ⟨AGT_CNT3, 15, 8⟩
def AGT_CNT3_NO_XF : Fld := ⟨AGT_CNT3, 7, 0⟩
def AGT_CNT_CLR : Nat := 0x3c0098
def AGT_CNT_CLR_CLR : Fld := ⟨AGT_CNT_CLR, 0, 0⟩
def AGT_QN (k : Nat) : Nat := 0x3c00a0 + 0x4 * k
def AGT_QN_QN (k : Nat) : Fld := ⟨(AGT_QN k), 31, 0⟩
def AGT_S_CFG (i : Nat) : Nat := 0x3c1400 + 0x1000 * (i / 8) + 0x80 * (i % 8)
def AGT_S_CFG_EN (i : Nat) : Fld := ⟨(AGT_S_CFG i), 31, 31⟩
def AGT_S_CFG_LOCKOUT (i : Nat) : Fld := ⟨(AGT_S_CFG i), 30, 30⟩
def AGT_S_CFG_TSRC (i : Nat) : Fld := ⟨(AGT_S_CFG i), 29, 29⟩
def AGT_S_CFG_TRIG_CHK (i : Nat) : Fld := ⟨(AGT_S_CFG i), 28, 28⟩
def AGT_S_CFG_XF (i : Nat) : Fld := ⟨(AGT_S_CFG i), 27, 20⟩
def AGT_S_CFG_EGO_ROLE (i : Nat) : Fld := ⟨(AGT_S_CFG i), 19, 16⟩
def AGT_S_CFG_HMODEL (i : Nat) : Fld := ⟨(AGT_S_CFG i), 15, 12⟩
def AGT_S_CFG_MDIM (i : Nat) : Fld := ⟨(AGT_S_CFG i), 11, 8⟩
def AGT_S_CFG_TMODEL (i : Nat) : Fld := ⟨(AGT_S_CFG i), 7, 4⟩
def AGT_S_PERIOD (i : Nat) : Nat := 0x3c1404 + 0x1000 * (i / 8) + 0x80 * (i % 8)
def AGT_S_PERIOD_PERIOD (i : Nat) : Fld := ⟨(AGT_S_PERIOD i), 31, 0⟩
def AGT_S_WIN (i : Nat) : Nat := 0x3c1408 + 0x1000 * (i / 8) + 0x80 * (i % 8)
def AGT_S_WIN_WIN (i : Nat) : Fld := ⟨(AGT_S_WIN i), 31, 0⟩
def AGT_S_OFS (i : Nat) : Nat := 0x3c140c + 0x1000 * (i / 8) + 0x80 * (i % 8)
def AGT_S_OFS_OFS (i : Nat) : Fld := ⟨(AGT_S_OFS i), 31, 0⟩
def AGT_S_OVL (i : Nat) : Nat := 0x3c1410 + 0x1000 * (i / 8) + 0x80 * (i % 8)
def AGT_S_OVL_OVL (i : Nat) : Fld := ⟨(AGT_S_OVL i), 63, 0⟩
def AGT_S_GATE (i : Nat) : Nat := 0x3c1418 + 0x1000 * (i / 8) + 0x80 * (i % 8)
def AGT_S_GATE_GATE (i : Nat) : Fld := ⟨(AGT_S_GATE i), 31, 0⟩
def AGT_S_DEC (i : Nat) (k : Nat) : Nat := 0x3c1420 + 0x1000 * (i / 8) + 0x80 * (i % 8) + 0x4 * k
def AGT_S_DEC_OFFSET1 (i : Nat) (k : Nat) : Fld := ⟨(AGT_S_DEC i k), 31, 26⟩
def AGT_S_DEC_TYPE1 (i : Nat) (k : Nat) : Fld := ⟨(AGT_S_DEC i k), 25, 24⟩
def AGT_S_DEC_SCALE1 (i : Nat) (k : Nat) : Fld := ⟨(AGT_S_DEC i k), 23, 16⟩
def AGT_S_DEC_OFFSET0 (i : Nat) (k : Nat) : Fld := ⟨(AGT_S_DEC i k), 15, 10⟩
def AGT_S_DEC_TYPE0 (i : Nat) (k : Nat) : Fld := ⟨(AGT_S_DEC i k), 9, 8⟩
def AGT_S_DEC_SCALE0 (i : Nat) (k : Nat) : Fld := ⟨(AGT_S_DEC i k), 7, 0⟩
def AGT_S_R (i : Nat) (k : Nat) : Nat := 0x3c1430 + 0x1000 * (i / 8) + 0x80 * (i % 8) + 0x4 * k
def AGT_S_R_VAR1 (i : Nat) (k : Nat) : Fld := ⟨(AGT_S_R i k), 31, 16⟩
def AGT_S_R_VAR0 (i : Nat) (k : Nat) : Fld := ⟨(AGT_S_R i k), 15, 0⟩
def AGT_S_STAT (i : Nat) : Nat := 0x3c1440 + 0x1000 * (i / 8) + 0x80 * (i % 8)
def AGT_S_STAT_STATE (i : Nat) : Fld := ⟨(AGT_S_STAT i), 31, 30⟩
def AGT_S_STAT_AGREE (i : Nat) : Fld := ⟨(AGT_S_STAT i), 22, 16⟩
def AGT_S_STAT_HIST (i : Nat) : Fld := ⟨(AGT_S_STAT i), 15, 0⟩
def AGT_S_CNT (i : Nat) : Nat := 0x3c1444 + 0x1000 * (i / 8) + 0x80 * (i % 8)
def AGT_S_CNT_MISALIGNED (i : Nat) : Fld := ⟨(AGT_S_CNT i), 31, 16⟩
def AGT_S_CNT_VOTE_OUTS (i : Nat) : Fld := ⟨(AGT_S_CNT i), 15, 8⟩
def AGT_S_CNT_SYNC_LOSSES (i : Nat) : Fld := ⟨(AGT_S_CNT i), 7, 0⟩
def AGT_S_SKEW (i : Nat) : Nat := 0x3c1448 + 0x1000 * (i / 8) + 0x80 * (i % 8)
def AGT_S_SKEW_SKEW (i : Nat) : Fld := ⟨(AGT_S_SKEW i), 31, 0⟩
def AGT_R_BASE (k : Nat) : Nat := 0x3c9400 + 0x20 * k
def AGT_R_BASE_BASE (k : Nat) : Fld := ⟨(AGT_R_BASE k), 47, 7⟩
def AGT_R_CFG (k : Nat) : Nat := 0x3c9408 + 0x20 * k
def AGT_R_CFG_EN (k : Nat) : Fld := ⟨(AGT_R_CFG k), 31, 31⟩
def AGT_R_CFG_LOG2N (k : Nat) : Fld := ⟨(AGT_R_CFG k), 27, 24⟩
def AGT_R_CFG_PUT_OBJ (k : Nat) : Fld := ⟨(AGT_R_CFG k), 13, 0⟩
def AGT_R_OBJ (k : Nat) : Nat := 0x3c940c + 0x20 * k
def AGT_R_OBJ_TAKE_OBJ (k : Nat) : Fld := ⟨(AGT_R_OBJ k), 13, 0⟩
def AGT_R_STAT (k : Nat) : Nat := 0x3c9410 + 0x20 * k
def AGT_R_STAT_TAKEN (k : Nat) : Fld := ⟨(AGT_R_STAT k), 31, 0⟩

def PUM_CFG : Nat := 0x400040
def PUM_CFG_LEAD : Fld := ⟨PUM_CFG, 31, 28⟩
def PUM_CFG_NSWEEP : Fld := ⟨PUM_CFG, 26, 24⟩
def PUM_CFG_LEAF_CM : Fld := ⟨PUM_CFG, 23, 16⟩
def PUM_CFG_DEPTH : Fld := ⟨PUM_CFG, 4, 0⟩
def PUM_GRID_X : Nat := 0x400044
def PUM_GRID_X_ORIGIN : Fld := ⟨PUM_GRID_X, 31, 0⟩
def PUM_GRID_Y : Nat := 0x400048
def PUM_GRID_Y_ORIGIN : Fld := ⟨PUM_GRID_Y, 31, 0⟩
def PUM_GRID_Z : Nat := 0x40004c
def PUM_GRID_Z_ORIGIN : Fld := ⟨PUM_GRID_Z, 31, 0⟩
def PUM_TIMING : Nat := 0x400050
def PUM_TIMING_LEAD_TIMEOUT : Fld := ⟨PUM_TIMING, 31, 16⟩
def PUM_TIMING_EGO_WAIT : Fld := ⟨PUM_TIMING, 7, 0⟩
def PUM_OBJ : Nat := 0x400054
def PUM_OBJ_FRAME_OBJ : Fld := ⟨PUM_OBJ, 13, 0⟩
def PUM_FRAME : Nat := 0x400058
def PUM_FRAME_FRAME : Fld := ⟨PUM_FRAME, 31, 0⟩
def PUM_FSTAT : Nat := 0x40005c
def PUM_FSTAT_FLAGS : Fld := ⟨PUM_FSTAT, 6, 1⟩
def PUM_FCNT0 : Nat := 0x400060
def PUM_FCNT0_NODES : Fld := ⟨PUM_FCNT0, 22, 0⟩
def PUM_FCNT1 : Nat := 0x400064
def PUM_FCNT1_POINTS : Fld := ⟨PUM_FCNT1, 21, 0⟩
def PUM_FCNT2 : Nat := 0x400068
def PUM_FCNT2_VOXELS : Fld := ⟨PUM_FCNT2, 20, 0⟩
def PUM_SC_CFG (k : Nat) : Nat := 0x401400 + 0x20 * k
def PUM_SC_CFG_EN (k : Nat) : Fld := ⟨(PUM_SC_CFG k), 31, 31⟩
def PUM_SC_CFG_XF (k : Nat) : Fld := ⟨(PUM_SC_CFG k), 15, 8⟩
def PUM_SC_CFG_STREAM (k : Nat) : Fld := ⟨(PUM_SC_CFG k), 5, 0⟩
def PUM_SC_STAT (k : Nat) : Nat := 0x401404 + 0x20 * k
def PUM_SC_STAT_SWEEP (k : Nat) : Fld := ⟨(PUM_SC_STAT k), 31, 0⟩
def PUM_SC_END (k : Nat) : Nat := 0x401408 + 0x20 * k
def PUM_SC_END_END (k : Nat) : Fld := ⟨(PUM_SC_END k), 31, 0⟩
def PUM_PS_BASE : Nat := 0x402040
def PUM_PS_BASE_BASE : Fld := ⟨PUM_PS_BASE, 47, 6⟩
def PUM_PS_CAP : Nat := 0x402048
def PUM_PS_CAP_CAP : Fld := ⟨PUM_PS_CAP, 6, 0⟩
def PUM_NODE_BASE : Nat := 0x402050
def PUM_NODE_BASE_BASE : Fld := ⟨PUM_NODE_BASE, 47, 12⟩
def PUM_NODE_LOG2 : Nat := 0x402058
def PUM_NODE_LOG2_LOG2 : Fld := ⟨PUM_NODE_LOG2, 4, 0⟩
def PUM_OVF_BASE : Nat := 0x402060
def PUM_OVF_BASE_BASE : Fld := ⟨PUM_OVF_BASE, 47, 12⟩
def PUM_OVF_LOG2 : Nat := 0x402068
def PUM_OVF_LOG2_LOG2 : Fld := ⟨PUM_OVF_LOG2, 4, 0⟩
def PUM_VOX_BASE : Nat := 0x402070
def PUM_VOX_BASE_BASE : Fld := ⟨PUM_VOX_BASE, 47, 21⟩
def PUM_BANK : Nat := 0x402078
def PUM_BANK_STRIDE : Fld := ⟨PUM_BANK, 31, 16⟩
def PUM_BANK_FEAT_FMT : Fld := ⟨PUM_BANK, 3, 0⟩
def PUM_OCC_BASE : Nat := 0x402080
def PUM_OCC_BASE_BASE : Fld := ⟨PUM_OCC_BASE, 47, 21⟩
def PUM_L_KEYS (k : Nat) : Nat := 0x402100 + 0x20 * k
def PUM_L_KEYS_BASE (k : Nat) : Fld := ⟨(PUM_L_KEYS k), 47, 6⟩
def PUM_L_HASH (k : Nat) : Nat := 0x402108 + 0x20 * k
def PUM_L_HASH_BASE (k : Nat) : Fld := ⟨(PUM_L_HASH k), 47, 6⟩
def PUM_L_CFG (k : Nat) : Nat := 0x402110 + 0x20 * k
def PUM_L_CFG_HASH_LOG2 (k : Nat) : Fld := ⟨(PUM_L_CFG k), 4, 0⟩
def PUM_DEC_CFG : Nat := 0x403040
def PUM_DEC_CFG_PROJECT : Fld := ⟨PUM_DEC_CFG, 31, 31⟩
def PUM_DEC_CFG_OUT_SENSOR : Fld := ⟨PUM_DEC_CFG, 29, 24⟩
def PUM_DEC_CFG_OUT_CLASS : Fld := ⟨PUM_DEC_CFG, 19, 16⟩
def PUM_DEC_VAR0 : Nat := 0x403044
def PUM_DEC_VAR0_VAR_Y : Fld := ⟨PUM_DEC_VAR0, 31, 16⟩
def PUM_DEC_VAR0_VAR_X : Fld := ⟨PUM_DEC_VAR0, 15, 0⟩
def PUM_DEC_VAR1 : Nat := 0x403048
def PUM_DEC_VAR1_VAR_YAW : Fld := ⟨PUM_DEC_VAR1, 31, 16⟩
def PUM_DEC_VAR1_VAR_Z : Fld := ⟨PUM_DEC_VAR1, 15, 0⟩
def PUM_DEC_VAR2 : Nat := 0x40304c
def PUM_DEC_VAR2_VVAR_Y : Fld := ⟨PUM_DEC_VAR2, 31, 16⟩
def PUM_DEC_VAR2_VVAR_X : Fld := ⟨PUM_DEC_VAR2, 15, 0⟩
def PUM_DEC_OUT : Nat := 0x403050
def PUM_DEC_OUT_BASE : Fld := ⟨PUM_DEC_OUT, 47, 20⟩
def PUM_OCC_CFG : Nat := 0x403058
def PUM_OCC_CFG_OCC_EN : Fld := ⟨PUM_OCC_CFG, 31, 31⟩
def PUM_OCC_ZMIN : Nat := 0x40305c
def PUM_OCC_ZMIN_ZMIN : Fld := ⟨PUM_OCC_ZMIN, 31, 0⟩
def PUM_OCC_ZMAX : Nat := 0x403060
def PUM_OCC_ZMAX_ZMAX : Fld := ⟨PUM_OCC_ZMAX, 31, 0⟩
def PUM_OCC_MARGIN : Nat := 0x403064
def PUM_OCC_MARGIN_MARGIN : Fld := ⟨PUM_OCC_MARGIN, 31, 0⟩
def PUM_J_BASE (u : Nat) : Nat := 0x404040 + 0x1000 * u
def PUM_J_BASE_BASE (u : Nat) : Fld := ⟨(PUM_J_BASE u), 47, 6⟩
def PUM_J_CFG (u : Nat) : Nat := 0x404048 + 0x1000 * u
def PUM_J_CFG_EN (u : Nat) : Fld := ⟨(PUM_J_CFG u), 31, 31⟩
def PUM_J_CFG_LOG2N (u : Nat) : Fld := ⟨(PUM_J_CFG u), 27, 24⟩
def PUM_J_CFG_PUT_OBJ (u : Nat) : Fld := ⟨(PUM_J_CFG u), 13, 0⟩
def PUM_J_OBJ (u : Nat) : Nat := 0x40404c + 0x1000 * u
def PUM_J_OBJ_TAKE_OBJ (u : Nat) : Fld := ⟨(PUM_J_OBJ u), 13, 0⟩
def PUM_J_STAT (u : Nat) : Nat := 0x404050 + 0x1000 * u
def PUM_J_STAT_TAKEN (u : Nat) : Fld := ⟨(PUM_J_STAT u), 31, 0⟩
def PUM_J_ERR (u : Nat) : Nat := 0x404054 + 0x1000 * u
def PUM_J_ERR_ERR (u : Nat) : Fld := ⟨(PUM_J_ERR u), 31, 28⟩
def PUM_J_ERR_REFUSED (u : Nat) : Fld := ⟨(PUM_J_ERR u), 15, 0⟩
def PUM_CNT0 : Nat := 0x408040
def PUM_CNT0_BADPKT : Fld := ⟨PUM_CNT0, 31, 16⟩
def PUM_CNT0_ABANDONED : Fld := ⟨PUM_CNT0, 15, 8⟩
def PUM_CNT0_STORE_FULL : Fld := ⟨PUM_CNT0, 7, 0⟩
def PUM_CNT1 : Nat := 0x408044
def PUM_CNT1_OUTSIDE : Fld := ⟨PUM_CNT1, 31, 16⟩
def PUM_CNT1_EGO_OLD : Fld := ⟨PUM_CNT1, 15, 0⟩
def PUM_CNT2 : Nat := 0x408048
def PUM_CNT2_NO_XF : Fld := ⟨PUM_CNT2, 31, 16⟩
def PUM_CNT2_COARSENED : Fld := ⟨PUM_CNT2, 15, 8⟩
def PUM_CNT2_SPILLED : Fld := ⟨PUM_CNT2, 7, 0⟩
def PUM_CNT3 : Nat := 0x40804c
def PUM_CNT3_TRUNC_PTS : Fld := ⟨PUM_CNT3, 31, 16⟩
def PUM_CNT3_TRUNC : Fld := ⟨PUM_CNT3, 15, 8⟩
def PUM_CNT3_JOB_ERR : Fld := ⟨PUM_CNT3, 7, 0⟩
def PUM_CNT_CLR : Nat := 0x408050
def PUM_CNT_CLR_CLR : Fld := ⟨PUM_CNT_CLR, 0, 0⟩

def FLT_CFG : Nat := 0x480040
def FLT_CFG_ITER_MAX : Fld := ⟨FLT_CFG, 31, 24⟩
def FLT_CFG_RANK_N : Fld := ⟨FLT_CFG, 23, 16⟩
def FLT_CFG_SUB_OPT : Fld := ⟨FLT_CFG, 15, 8⟩
def FLT_CFG_SUB_CHK : Fld := ⟨FLT_CFG, 7, 0⟩
def FLT_CHK : Nat := 0x480044
def FLT_CHK_CHK_BUDGET : Fld := ⟨FLT_CHK, 19, 0⟩
def FLT_WPR_BASE : Nat := 0x480048
def FLT_WPR_BASE_BASE : Fld := ⟨FLT_WPR_BASE, 47, 19⟩
def FLT_REF_BASE : Nat := 0x480050
def FLT_REF_BASE_BASE : Fld := ⟨FLT_REF_BASE, 47, 15⟩
def FLT_SEED_BASE : Nat := 0x480058
def FLT_SEED_BASE_BASE : Fld := ⟨FLT_SEED_BASE, 47, 17⟩
def FLT_SWAP : Nat := 0x480060
def FLT_SWAP_SEED_SWAP : Fld := ⟨FLT_SWAP, 3, 3⟩
def FLT_SWAP_SEED_BANK : Fld := ⟨FLT_SWAP, 2, 2⟩
def FLT_SWAP_REF_SWAP : Fld := ⟨FLT_SWAP, 1, 1⟩
def FLT_SWAP_REF_BANK : Fld := ⟨FLT_SWAP, 0, 0⟩
def FLT_CTRL : Nat := 0x480064
def FLT_CTRL_RESUME : Fld := ⟨FLT_CTRL, 0, 0⟩
def FLT_STAT : Nat := 0x480068
def FLT_STAT_REASON : Fld := ⟨FLT_STAT, 31, 24⟩
def FLT_STAT_PLAN_REUSED : Fld := ⟨FLT_STAT, 23, 23⟩
def FLT_STAT_MRT_SELECTED : Fld := ⟨FLT_STAT, 22, 22⟩
def FLT_STAT_GRACE : Fld := ⟨FLT_STAT, 21, 21⟩
def FLT_STAT_CUTOFF : Fld := ⟨FLT_STAT, 20, 20⟩
def FLT_STAT_REINIT : Fld := ⟨FLT_STAT, 19, 19⟩
def FLT_STAT_REF_REFUSED : Fld := ⟨FLT_STAT, 18, 18⟩
def FLT_STAT_SEED_REFUSED : Fld := ⟨FLT_STAT, 17, 17⟩
def FLT_STAT_LEASE_UNCHECKED : Fld := ⟨FLT_STAT, 16, 16⟩
def FLT_STAT_LEASE_KIND : Fld := ⟨FLT_STAT, 15, 14⟩
def FLT_STAT_WINNER : Fld := ⟨FLT_STAT, 7, 0⟩
def FLT_FRAME : Nat := 0x48006c
def FLT_FRAME_FRAME : Fld := ⟨FLT_FRAME, 31, 0⟩
def FLT_LEASE : Nat := 0x480070
def FLT_LEASE_VALID_MS : Fld := ⟨FLT_LEASE, 25, 16⟩
def FLT_LEASE_LEASE_CAN : Fld := ⟨FLT_LEASE, 13, 8⟩
def FLT_LEASE_LEASE_ETH : Fld := ⟨FLT_LEASE, 7, 0⟩
def FLT_LEASE_ID : Nat := 0x480074
def FLT_LEASE_ID_LEASE_ID : Fld := ⟨FLT_LEASE_ID, 10, 0⟩
def FLT_WPR_DST : Nat := 0x480078
def FLT_WPR_DST_ETH : Fld := ⟨FLT_WPR_DST, 7, 0⟩
def FLT_CNT0 : Nat := 0x48007c
def FLT_CNT0_NOPLAN : Fld := ⟨FLT_CNT0, 31, 16⟩
def FLT_CNT0_CHK_FAIL : Fld := ⟨FLT_CNT0, 15, 8⟩
def FLT_CNT0_CUTOFFS : Fld := ⟨FLT_CNT0, 7, 0⟩
def FLT_CNT_CLR : Nat := 0x480080
def FLT_CNT_CLR_CLR : Fld := ⟨FLT_CNT_CLR, 0, 0⟩
def FLT_P (k : Nat) : Nat := 0x480100 + 0x4 * k
def FLT_P_P (k : Nat) : Fld := ⟨(FLT_P k), 31, 0⟩
def FLT_W (k : Nat) : Nat := 0x480140 + 0x4 * k
def FLT_W_W (k : Nat) : Fld := ⟨(FLT_W k), 31, 0⟩
def FLT_BODY_CFG (k : Nat) : Nat := 0x481400 + 0x20 * k
def FLT_BODY_CFG_EN (k : Nat) : Fld := ⟨(FLT_BODY_CFG k), 31, 31⟩
def FLT_BODY_CFG_SPHERE (k : Nat) : Fld := ⟨(FLT_BODY_CFG k), 30, 30⟩
def FLT_BODY_C_X (k : Nat) : Nat := 0x481404 + 0x20 * k
def FLT_BODY_C_X_X (k : Nat) : Fld := ⟨(FLT_BODY_C_X k), 31, 0⟩
def FLT_BODY_C_Y (k : Nat) : Nat := 0x481408 + 0x20 * k
def FLT_BODY_C_Y_Y (k : Nat) : Fld := ⟨(FLT_BODY_C_Y k), 31, 0⟩
def FLT_BODY_C_Z (k : Nat) : Nat := 0x48140c + 0x20 * k
def FLT_BODY_C_Z_Z (k : Nat) : Fld := ⟨(FLT_BODY_C_Z k), 31, 0⟩
def FLT_BODY_H_HALF_L (k : Nat) : Nat := 0x481410 + 0x20 * k
def FLT_BODY_H_HALF_L_HALF_L (k : Nat) : Fld := ⟨(FLT_BODY_H_HALF_L k), 31, 0⟩
def FLT_BODY_H_HALF_W (k : Nat) : Nat := 0x481414 + 0x20 * k
def FLT_BODY_H_HALF_W_HALF_W (k : Nat) : Fld := ⟨(FLT_BODY_H_HALF_W k), 31, 0⟩
def FLT_BODY_H_HALF_H (k : Nat) : Nat := 0x481418 + 0x20 * k
def FLT_BODY_H_HALF_H_HALF_H (k : Nat) : Fld := ⟨(FLT_BODY_H_HALF_H k), 31, 0⟩
def FLT_BODY_YAW (k : Nat) : Nat := 0x48141c + 0x20 * k
def FLT_BODY_YAW_YAW (k : Nat) : Fld := ⟨(FLT_BODY_YAW k), 31, 0⟩

def SLT_CFG : Nat := 0x4c0040
def SLT_CFG_LEAF_CM : Fld := ⟨SLT_CFG, 31, 24⟩
def SLT_CFG_TOP : Fld := ⟨SLT_CFG, 20, 16⟩
def SLT_CFG_BIN_DM : Fld := ⟨SLT_CFG, 15, 8⟩
def SLT_CFG_STATIC_N : Fld := ⟨SLT_CFG, 2, 0⟩
def SLT_RANGE : Nat := 0x4c0044
def SLT_RANGE_RANGE : Fld := ⟨SLT_RANGE, 31, 0⟩
def SLT_KSIG : Nat := 0x4c0048
def SLT_KSIG_KSIG : Fld := ⟨SLT_KSIG, 31, 0⟩
def SLT_GROW : Nat := 0x4c004c
def SLT_GROW_GROW : Fld := ⟨SLT_GROW, 31, 0⟩
def SLT_AGE : Nat := 0x4c0050
def SLT_AGE_STATIC_AGE : Fld := ⟨SLT_AGE, 15, 0⟩
def SLT_KO_BASE : Nat := 0x4c0058
def SLT_KO_BASE_BASE : Fld := ⟨SLT_KO_BASE, 47, 15⟩
def SLT_KO_CTRL : Nat := 0x4c0060
def SLT_KO_CTRL_SWAP : Fld := ⟨SLT_KO_CTRL, 1, 1⟩
def SLT_KO_CTRL_BANK : Fld := ⟨SLT_KO_CTRL, 0, 0⟩
def SLT_SNAP : Nat := 0x4c0064
def SLT_SNAP_SLATE_ID : Fld := ⟨SLT_SNAP, 31, 0⟩
def SLT_SNAP_EPOCH : Nat := 0x4c0068
def SLT_SNAP_EPOCH_EPOCH : Fld := ⟨SLT_SNAP_EPOCH, 31, 0⟩
def SLT_STAT : Nat := 0x4c006c
def SLT_STAT_STATIC_STALE : Fld := ⟨SLT_STAT, 31, 31⟩
def SLT_STAT_KO_PENDING : Fld := ⟨SLT_STAT, 30, 30⟩
def SLT_STAT_KO_REFUSED : Fld := ⟨SLT_STAT, 29, 29⟩
def SLT_STAT_AGATE_LATE : Fld := ⟨SLT_STAT, 28, 28⟩
def SLT_STAT_OBJ_TRUNC : Fld := ⟨SLT_STAT, 27, 27⟩
def SLT_STAT_STATIC_BANK : Fld := ⟨SLT_STAT, 24, 24⟩
def SLT_STAT_NODES : Fld := ⟨SLT_STAT, 20, 0⟩
def SLT_CNT0 : Nat := 0x4c0070
def SLT_CNT0_BIN_FULL : Fld := ⟨SLT_CNT0, 31, 16⟩
def SLT_CNT0_STATIC_FULL : Fld := ⟨SLT_CNT0, 15, 8⟩
def SLT_CNT0_IMG_BAD : Fld := ⟨SLT_CNT0, 7, 0⟩
def SLT_CNT1 : Nat := 0x4c0074
def SLT_CNT1_OBJ_TRUNC : Fld := ⟨SLT_CNT1, 31, 16⟩
def SLT_CNT1_REBUILDS : Fld := ⟨SLT_CNT1, 15, 0⟩
def SLT_CNT_CLR : Nat := 0x4c0078
def SLT_CNT_CLR_CLR : Fld := ⟨SLT_CNT_CLR, 0, 0⟩

def GNT_PLAN : Nat := 0x500040
def GNT_PLAN_FRAME : Fld := ⟨GNT_PLAN, 31, 0⟩
def GNT_PLAN_T0 : Nat := 0x500044
def GNT_PLAN_T0_T0 : Fld := ⟨GNT_PLAN_T0, 31, 0⟩
def GNT_CNT0 : Nat := 0x500048
def GNT_CNT0_FRAMES : Fld := ⟨GNT_CNT0, 31, 16⟩
def GNT_CNT0_FOLLOW : Fld := ⟨GNT_CNT0, 15, 8⟩
def GNT_CNT0_STALE : Fld := ⟨GNT_CNT0, 7, 0⟩
def GNT_CNT_CLR : Nat := 0x50004c
def GNT_CNT_CLR_CLR : Fld := ⟨GNT_CNT_CLR, 0, 0⟩
def GNT_ENC_SCALE (k : Nat) : Nat := 0x500080 + 0x4 * k
def GNT_ENC_SCALE_SCALE (k : Nat) : Fld := ⟨(GNT_ENC_SCALE k), 31, 0⟩
def GNT_L_CFG (u : Nat) : Nat := 0x501040 + 0x1000 * u
def GNT_L_CFG_EN (u : Nat) : Fld := ⟨(GNT_L_CFG u), 31, 31⟩
def GNT_L_CFG_TYPE (u : Nat) : Fld := ⟨(GNT_L_CFG u), 30, 30⟩
def GNT_L_CFG_PLOG2 (u : Nat) : Fld := ⟨(GNT_L_CFG u), 27, 24⟩
def GNT_L_CFG_PHASE (u : Nat) : Fld := ⟨(GNT_L_CFG u), 23, 16⟩
def GNT_L_CFG_ACT (u : Nat) : Fld := ⟨(GNT_L_CFG u), 13, 8⟩
def GNT_L_CFG_MAP (u : Nat) : Fld := ⟨(GNT_L_CFG u), 6, 6⟩
def GNT_L_CFG_NXM1 (u : Nat) : Fld := ⟨(GNT_L_CFG u), 3, 0⟩
def GNT_L_SRC (u : Nat) : Nat := 0x501044 + 0x1000 * u
def GNT_L_SRC_SP_SRC (u : Nat) : Fld := ⟨(GNT_L_SRC u), 31, 16⟩
def GNT_L_SRC_Y_SRC (u : Nat) : Fld := ⟨(GNT_L_SRC u), 15, 0⟩
def GNT_L_XSRC (u : Nat) (k : Nat) : Nat := 0x501048 + 0x1000 * u + 0x4 * k
def GNT_L_XSRC_X_SRC1 (u : Nat) (k : Nat) : Fld := ⟨(GNT_L_XSRC u k), 31, 16⟩
def GNT_L_XSRC_X_SRC0 (u : Nat) (k : Nat) : Fld := ⟨(GNT_L_XSRC u k), 15, 0⟩
def GNT_L_LEAD (u : Nat) : Nat := 0x501058 + 0x1000 * u
def GNT_L_LEAD_SP_LEAD (u : Nat) : Fld := ⟨(GNT_L_LEAD u), 31, 0⟩
def GNT_L_FE (u : Nat) : Nat := 0x50105c + 0x1000 * u
def GNT_L_FE_FE_TIME (u : Nat) : Fld := ⟨(GNT_L_FE u), 15, 0⟩
def GNT_L_RC (u : Nat) : Nat := 0x501060 + 0x1000 * u
def GNT_L_RC_RC_EN (u : Nat) : Fld := ⟨(GNT_L_RC u), 31, 31⟩
def GNT_L_RC_NM1 (u : Nat) : Fld := ⟨(GNT_L_RC u), 27, 16⟩
def GNT_L_RC_LEAD (u : Nat) : Fld := ⟨(GNT_L_RC u), 11, 0⟩
def GNT_L_PG (u : Nat) : Nat := 0x501064 + 0x1000 * u
def GNT_L_PG_PG_EN (u : Nat) : Fld := ⟨(GNT_L_PG u), 31, 31⟩
def GNT_L_STAT (u : Nat) : Nat := 0x501070 + 0x1000 * u
def GNT_L_STAT_STATE (u : Nat) : Fld := ⟨(GNT_L_STAT u), 31, 29⟩
def GNT_L_STAT_PG_DONE (u : Nat) : Fld := ⟨(GNT_L_STAT u), 28, 28⟩
def GNT_L_STAT_CFG_ERR (u : Nat) : Fld := ⟨(GNT_L_STAT u), 27, 27⟩
def GNT_L_STAT_FE_CNT (u : Nat) : Fld := ⟨(GNT_L_STAT u), 15, 0⟩
def GNT_L_P (u : Nat) (k : Nat) : Nat := 0x501080 + 0x1000 * u + 0x4 * k
def GNT_L_P_P (u : Nat) (k : Nat) : Fld := ⟨(GNT_L_P u k), 31, 0⟩
def GNT_L_MON (u : Nat) (k : Nat) : Nat := 0x501100 + 0x1000 * u + 0x4 * k
def GNT_L_MON_MON (u : Nat) (k : Nat) : Fld := ⟨(GNT_L_MON u k), 31, 0⟩
def GNT_A_CTRL (i : Nat) : Nat := 0x541400 + 0x1000 * (i / 8) + 0x80 * (i % 8)
def GNT_A_CTRL_RECOVER (i : Nat) : Fld := ⟨(GNT_A_CTRL i), 31, 31⟩
def GNT_A_CTRL_MANUAL (i : Nat) : Fld := ⟨(GNT_A_CTRL i), 0, 0⟩
def GNT_A_MAN (i : Nat) : Nat := 0x541404 + 0x1000 * (i / 8) + 0x80 * (i % 8)
def GNT_A_MAN_MAN_VAL (i : Nat) : Fld := ⟨(GNT_A_MAN i), 31, 0⟩
def GNT_A_SAFE (i : Nat) : Nat := 0x541408 + 0x1000 * (i / 8) + 0x80 * (i % 8)
def GNT_A_SAFE_SAFE_VAL (i : Nat) : Fld := ⟨(GNT_A_SAFE i), 31, 0⟩
def GNT_A_SRATE (i : Nat) : Nat := 0x54140c + 0x1000 * (i / 8) + 0x80 * (i % 8)
def GNT_A_SRATE_SAFE_RATE (i : Nat) : Fld := ⟨(GNT_A_SRATE i), 31, 0⟩
def GNT_A_RATE (i : Nat) : Nat := 0x541410 + 0x1000 * (i / 8) + 0x80 * (i % 8)
def GNT_A_RATE_RATE (i : Nat) : Fld := ⟨(GNT_A_RATE i), 31, 0⟩
def GNT_A_STAT (i : Nat) : Nat := 0x541414 + 0x1000 * (i / 8) + 0x80 * (i % 8)
def GNT_A_STAT_STATE (i : Nat) : Fld := ⟨(GNT_A_STAT i), 31, 28⟩
def GNT_A_STAT_CAUSE (i : Nat) : Fld := ⟨(GNT_A_STAT i), 27, 24⟩
def GNT_A_STAT_SEL (i : Nat) : Fld := ⟨(GNT_A_STAT i), 21, 16⟩
def GNT_A_STAT_LOOPS (i : Nat) : Fld := ⟨(GNT_A_STAT i), 3, 0⟩
def GNT_A_OUT (i : Nat) : Nat := 0x541418 + 0x1000 * (i / 8) + 0x80 * (i % 8)
def GNT_A_OUT_U (i : Nat) : Fld := ⟨(GNT_A_OUT i), 31, 0⟩
def GNT_F_CFG (i : Nat) : Nat := 0x549400 + 0x1000 * (i / 4) + 0x100 * (i % 4)
def GNT_F_CFG_EN (i : Nat) : Fld := ⟨(GNT_F_CFG i), 31, 31⟩
def GNT_F_CFG_PLOG2 (i : Nat) : Fld := ⟨(GNT_F_CFG i), 27, 24⟩
def GNT_F_CFG_PHASE (i : Nat) : Fld := ⟨(GNT_F_CFG i), 23, 16⟩
def GNT_F_CFG_N (i : Nat) : Fld := ⟨(GNT_F_CFG i), 4, 0⟩
def GNT_F_DST (i : Nat) : Nat := 0x549404 + 0x1000 * (i / 4) + 0x100 * (i % 4)
def GNT_F_DST_CAN (i : Nat) : Fld := ⟨(GNT_F_DST i), 13, 8⟩
def GNT_F_DST_ETH (i : Nat) : Fld := ⟨(GNT_F_DST i), 7, 0⟩
def GNT_F_ID (i : Nat) : Nat := 0x549408 + 0x1000 * (i / 4) + 0x100 * (i % 4)
def GNT_F_ID_ID (i : Nat) : Fld := ⟨(GNT_F_ID i), 10, 0⟩
def GNT_F_ACT (i : Nat) (k : Nat) : Nat := 0x549410 + 0x1000 * (i / 4) + 0x100 * (i % 4) + 0x4 * k
def GNT_F_ACT_ACT3 (i : Nat) (k : Nat) : Fld := ⟨(GNT_F_ACT i k), 29, 24⟩
def GNT_F_ACT_ACT2 (i : Nat) (k : Nat) : Fld := ⟨(GNT_F_ACT i k), 21, 16⟩
def GNT_F_ACT_ACT1 (i : Nat) (k : Nat) : Fld := ⟨(GNT_F_ACT i k), 13, 8⟩
def GNT_F_ACT_ACT0 (i : Nat) (k : Nat) : Fld := ⟨(GNT_F_ACT i k), 5, 0⟩
def GNT_F_CNT (i : Nat) : Nat := 0x549420 + 0x1000 * (i / 4) + 0x100 * (i % 4)
def GNT_F_CNT_CNT (i : Nat) : Fld := ⟨(GNT_F_CNT i), 31, 0⟩
def GNT_FB_CFG (k : Nat) : Nat := 0x551400 + 0x10 * k
def GNT_FB_CFG_EN (k : Nat) : Fld := ⟨(GNT_FB_CFG k), 31, 31⟩
def GNT_FB_CFG_STREAM (k : Nat) : Fld := ⟨(GNT_FB_CFG k), 21, 16⟩
def GNT_FB_CFG_OFFSET (k : Nat) : Fld := ⟨(GNT_FB_CFG k), 15, 10⟩
def GNT_FB_CFG_TYPE (k : Nat) : Fld := ⟨(GNT_FB_CFG k), 9, 8⟩
def GNT_FB_CFG_SCALE (k : Nat) : Fld := ⟨(GNT_FB_CFG k), 7, 0⟩
def GNT_FB_STALE (k : Nat) : Nat := 0x551404 + 0x10 * k
def GNT_FB_STALE_STALE_US (k : Nat) : Fld := ⟨(GNT_FB_STALE k), 23, 0⟩
def GNT_FB_VAL (k : Nat) : Nat := 0x551408 + 0x10 * k
def GNT_FB_VAL_VAL (k : Nat) : Fld := ⟨(GNT_FB_VAL k), 31, 0⟩
def GNT_FB_TCAP (k : Nat) : Nat := 0x55140c + 0x10 * k
def GNT_FB_TCAP_T_CAP (k : Nat) : Fld := ⟨(GNT_FB_TCAP k), 31, 0⟩

def QTZ_STAT : Nat := 0x40040
def QTZ_STAT_REF_LOST : Fld := ⟨QTZ_STAT, 31, 31⟩
def QTZ_STAT_TB2_SRC : Fld := ⟨QTZ_STAT, 25, 24⟩
def QTZ_STAT_SWITCHES : Fld := ⟨QTZ_STAT, 15, 0⟩
def QTZ_TB2_SEL : Nat := 0x40044
def QTZ_TB2_SEL_AUTO : Fld := ⟨QTZ_TB2_SEL, 31, 31⟩
def QTZ_TB2_SEL_SEL : Fld := ⟨QTZ_TB2_SEL, 1, 0⟩
def QTZ_FRAME : Nat := 0x40048
def QTZ_FRAME_FRAME : Fld := ⟨QTZ_FRAME, 31, 0⟩
def QTZ_FRAME_ORG : Nat := 0x4004c
def QTZ_FRAME_ORG_ORG : Fld := ⟨QTZ_FRAME_ORG, 19, 0⟩
def QTZ_SNAP : Nat := 0x40050
def QTZ_SNAP_GO : Fld := ⟨QTZ_SNAP, 0, 0⟩
def QTZ_C200 : Nat := 0x40054
def QTZ_C200_C : Fld := ⟨QTZ_C200, 31, 0⟩
def QTZ_SNAP_FRAME : Nat := 0x40058
def QTZ_SNAP_FRAME_FRAME : Fld := ⟨QTZ_SNAP_FRAME, 31, 0⟩
def QTZ_EPOCH_SEC (k : Nat) : Nat := 0x40080 + 0x10 * k
def QTZ_EPOCH_SEC_SEC (k : Nat) : Fld := ⟨(QTZ_EPOCH_SEC k), 47, 0⟩
def QTZ_EPOCH_NS (k : Nat) : Nat := 0x40088 + 0x10 * k
def QTZ_EPOCH_NS_NS (k : Nat) : Fld := ⟨(QTZ_EPOCH_NS k), 29, 0⟩
def QTZ_EPOCH_TAG (k : Nat) : Nat := 0x4008c + 0x10 * k
def QTZ_EPOCH_TAG_TAG (k : Nat) : Fld := ⟨(QTZ_EPOCH_TAG k), 15, 0⟩
def QTZ_CNT : Nat := 0x400a0
def QTZ_CNT_TS_STALE_B : Fld := ⟨QTZ_CNT, 31, 16⟩
def QTZ_CNT_TS_STALE_A : Fld := ⟨QTZ_CNT, 15, 0⟩
def QTZ_CNT_CLR : Nat := 0x400a4
def QTZ_CNT_CLR_CLR : Fld := ⟨QTZ_CNT_CLR, 0, 0⟩
def QTZ_TB_CTRL (k : Nat) : Nat := 0x41400 + 0x40 * k
def QTZ_TB_CTRL_MODE (k : Nat) : Fld := ⟨(QTZ_TB_CTRL k), 31, 30⟩
def QTZ_TB_CTRL_SRC (k : Nat) : Fld := ⟨(QTZ_TB_CTRL k), 26, 24⟩
def QTZ_TB_CTRL_SLEW (k : Nat) : Fld := ⟨(QTZ_TB_CTRL k), 21, 16⟩
def QTZ_TB_NOW (k : Nat) : Nat := 0x41404 + 0x40 * k
def QTZ_TB_NOW_NOW (k : Nat) : Fld := ⟨(QTZ_TB_NOW k), 31, 0⟩
def QTZ_TB_RATE (k : Nat) : Nat := 0x41408 + 0x40 * k
def QTZ_TB_RATE_RATE (k : Nat) : Fld := ⟨(QTZ_TB_RATE k), 31, 0⟩
def QTZ_TB_REFF (k : Nat) : Nat := 0x4140c + 0x40 * k
def QTZ_TB_REFF_REFF (k : Nat) : Fld := ⟨(QTZ_TB_REFF k), 31, 0⟩
def QTZ_TB_STEP (k : Nat) : Nat := 0x41410 + 0x40 * k
def QTZ_TB_STEP_STEP (k : Nat) : Fld := ⟨(QTZ_TB_STEP k), 31, 0⟩
def QTZ_TB_OFS (k : Nat) : Nat := 0x41414 + 0x40 * k
def QTZ_TB_OFS_OFS (k : Nat) : Fld := ⟨(QTZ_TB_OFS k), 31, 0⟩
def QTZ_TB_ERR (k : Nat) : Nat := 0x41418 + 0x40 * k
def QTZ_TB_ERR_ERR (k : Nat) : Fld := ⟨(QTZ_TB_ERR k), 31, 0⟩
def QTZ_TB_GEN (k : Nat) : Nat := 0x4141c + 0x40 * k
def QTZ_TB_GEN_GEN (k : Nat) : Fld := ⟨(QTZ_TB_GEN k), 15, 0⟩
def QTZ_TB_TICK (k : Nat) : Nat := 0x41420 + 0x40 * k
def QTZ_TB_TICK_TICK (k : Nat) : Fld := ⟨(QTZ_TB_TICK k), 31, 0⟩
def QTZ_TB_SNAP (k : Nat) : Nat := 0x41424 + 0x40 * k
def QTZ_TB_SNAP_SNAP (k : Nat) : Fld := ⟨(QTZ_TB_SNAP k), 31, 0⟩
def QTZ_SV_OFS (k : Nat) : Nat := 0x42400 + 0x40 * k
def QTZ_SV_OFS_OFS (k : Nat) : Fld := ⟨(QTZ_SV_OFS k), 31, 0⟩
def QTZ_SV_CFG (k : Nat) : Nat := 0x42404 + 0x40 * k
def QTZ_SV_CFG_KP_SH (k : Nat) : Fld := ⟨(QTZ_SV_CFG k), 28, 24⟩
def QTZ_SV_CFG_KI_SH (k : Nat) : Fld := ⟨(QTZ_SV_CFG k), 20, 16⟩
def QTZ_SV_CFG_LOCK_NS (k : Nat) : Fld := ⟨(QTZ_SV_CFG k), 15, 0⟩
def QTZ_SV_STEP (k : Nat) : Nat := 0x42408 + 0x40 * k
def QTZ_SV_STEP_STEP_NS (k : Nat) : Fld := ⟨(QTZ_SV_STEP k), 31, 0⟩
def QTZ_SV_TOUT (k : Nat) : Nat := 0x4240c + 0x40 * k
def QTZ_SV_TOUT_TIMEOUT (k : Nat) : Fld := ⟨(QTZ_SV_TOUT k), 15, 0⟩
def QTZ_SV_STAT (k : Nat) : Nat := 0x42410 + 0x40 * k
def QTZ_SV_STAT_STATE (k : Nat) : Fld := ⟨(QTZ_SV_STAT k), 31, 30⟩
def QTZ_SV_STAT_STEPS (k : Nat) : Fld := ⟨(QTZ_SV_STAT k), 15, 0⟩
def QTZ_SV_LAST (k : Nat) : Nat := 0x42414 + 0x40 * k
def QTZ_SV_LAST_LAST (k : Nat) : Fld := ⟨(QTZ_SV_LAST k), 31, 0⟩
def QTZ_SV_INT (k : Nat) : Nat := 0x42418 + 0x40 * k
def QTZ_SV_INT_I (k : Nat) : Fld := ⟨(QTZ_SV_INT k), 31, 0⟩
def QTZ_TR_CFG (i : Nat) : Nat := 0x44400 + 0x1000 * (i / 8) + 0x40 * (i % 8)
def QTZ_TR_CFG_EN (i : Nat) : Fld := ⟨(QTZ_TR_CFG i), 31, 31⟩
def QTZ_TR_CFG_POL (i : Nat) : Fld := ⟨(QTZ_TR_CFG i), 30, 30⟩
def QTZ_TR_CFG_BASE (i : Nat) : Fld := ⟨(QTZ_TR_CFG i), 26, 24⟩
def QTZ_TR_CFG_ONESHOT (i : Nat) : Fld := ⟨(QTZ_TR_CFG i), 16, 16⟩
def QTZ_TR_CFG_CFG_ERR (i : Nat) : Fld := ⟨(QTZ_TR_CFG i), 0, 0⟩
def QTZ_TR_START (i : Nat) : Nat := 0x44404 + 0x1000 * (i / 8) + 0x40 * (i % 8)
def QTZ_TR_START_START (i : Nat) : Fld := ⟨(QTZ_TR_START i), 31, 0⟩
def QTZ_TR_PER (i : Nat) : Nat := 0x44408 + 0x1000 * (i / 8) + 0x40 * (i % 8)
def QTZ_TR_PER_PER (i : Nat) : Fld := ⟨(QTZ_TR_PER i), 31, 0⟩
def QTZ_TR_PERF (i : Nat) : Nat := 0x4440c + 0x1000 * (i / 8) + 0x40 * (i % 8)
def QTZ_TR_PERF_PERF (i : Nat) : Fld := ⟨(QTZ_TR_PERF i), 15, 0⟩
def QTZ_TR_WIDTH (i : Nat) : Nat := 0x44410 + 0x1000 * (i / 8) + 0x40 * (i % 8)
def QTZ_TR_WIDTH_WIDTH (i : Nat) : Fld := ⟨(QTZ_TR_WIDTH i), 23, 0⟩
def QTZ_TR_CMD (i : Nat) : Nat := 0x44414 + 0x1000 * (i / 8) + 0x40 * (i % 8)
def QTZ_TR_CMD_REARM (i : Nat) : Fld := ⟨(QTZ_TR_CMD i), 0, 0⟩
def QTZ_TR_STAT (i : Nat) : Nat := 0x44418 + 0x1000 * (i / 8) + 0x40 * (i % 8)
def QTZ_TR_STAT_ACTIVE (i : Nat) : Fld := ⟨(QTZ_TR_STAT i), 31, 31⟩
def QTZ_TR_STAT_MISSED (i : Nat) : Fld := ⟨(QTZ_TR_STAT i), 30, 30⟩
def QTZ_TR_STAT_REARMS (i : Nat) : Fld := ⟨(QTZ_TR_STAT i), 23, 16⟩
def QTZ_TR_STAT_EDGES (i : Nat) : Fld := ⟨(QTZ_TR_STAT i), 15, 0⟩
def QTZ_TR_LAST (i : Nat) : Nat := 0x4441c + 0x1000 * (i / 8) + 0x40 * (i % 8)
def QTZ_TR_LAST_LAST (i : Nat) : Fld := ⟨(QTZ_TR_LAST i), 31, 0⟩
def QTZ_CAP_CFG (i : Nat) : Nat := 0x47400 + 0x1000 * (i / 8) + 0x40 * (i % 8)
def QTZ_CAP_CFG_EN (i : Nat) : Fld := ⟨(QTZ_CAP_CFG i), 31, 31⟩
def QTZ_CAP_CFG_EDGE (i : Nat) : Fld := ⟨(QTZ_CAP_CFG i), 29, 28⟩
def QTZ_CAP_CFG_BASE (i : Nat) : Fld := ⟨(QTZ_CAP_CFG i), 26, 24⟩
def QTZ_CAP_CFG_FILT (i : Nat) : Fld := ⟨(QTZ_CAP_CFG i), 7, 0⟩
def QTZ_CAP_HEAD (i : Nat) : Nat := 0x47404 + 0x1000 * (i / 8) + 0x40 * (i % 8)
def QTZ_CAP_HEAD_VALID (i : Nat) : Fld := ⟨(QTZ_CAP_HEAD i), 63, 63⟩
def QTZ_CAP_HEAD_RISE (i : Nat) : Fld := ⟨(QTZ_CAP_HEAD i), 62, 62⟩
def QTZ_CAP_HEAD_LEVEL (i : Nat) : Fld := ⟨(QTZ_CAP_HEAD i), 35, 32⟩
def QTZ_CAP_HEAD_TIME (i : Nat) : Fld := ⟨(QTZ_CAP_HEAD i), 31, 0⟩
def QTZ_CAP_POP (i : Nat) : Nat := 0x4740c + 0x1000 * (i / 8) + 0x40 * (i % 8)
def QTZ_CAP_POP_POP (i : Nat) : Fld := ⟨(QTZ_CAP_POP i), 0, 0⟩
def QTZ_CAP_CNT (i : Nat) : Nat := 0x47410 + 0x1000 * (i / 8) + 0x40 * (i % 8)
def QTZ_CAP_CNT_EDGES (i : Nat) : Fld := ⟨(QTZ_CAP_CNT i), 31, 16⟩
def QTZ_CAP_CNT_OVF (i : Nat) : Fld := ⟨(QTZ_CAP_CNT i), 7, 0⟩

def ETH_CFG : Nat := 0x580040
def ETH_CFG_ETYPE : Fld := ⟨ETH_CFG, 15, 0⟩
def ETH_MAC : Nat := 0x580048
def ETH_MAC_MAC : Fld := ⟨ETH_MAC, 47, 0⟩
def ETH_PTP : Nat := 0x580050
def ETH_PTP_DOM_B : Fld := ⟨ETH_PTP, 15, 8⟩
def ETH_PTP_DOM_A : Fld := ⟨ETH_PTP, 7, 0⟩
def ETH_P_CFG (u : Nat) : Nat := 0x581040 + 0x1000 * u
def ETH_P_CFG_MODE (u : Nat) : Fld := ⟨(ETH_P_CFG u), 31, 30⟩
def ETH_P_CFG_ONE_STEP (u : Nat) : Fld := ⟨(ETH_P_CFG u), 29, 29⟩
def ETH_P_CFG_PCP_DEF (u : Nat) : Fld := ⟨(ETH_P_CFG u), 26, 24⟩
def ETH_P_GCL (u : Nat) : Nat := 0x581044 + 0x1000 * u
def ETH_P_GCL_SWAP (u : Nat) : Fld := ⟨(ETH_P_GCL u), 1, 1⟩
def ETH_P_GCL_BANK (u : Nat) : Fld := ⟨(ETH_P_GCL u), 0, 0⟩
def ETH_P_BASE (u : Nat) : Nat := 0x581048 + 0x1000 * u
def ETH_P_BASE_BASE (u : Nat) : Fld := ⟨(ETH_P_BASE u), 31, 0⟩
def ETH_P_CYCLE (u : Nat) : Nat := 0x58104c + 0x1000 * u
def ETH_P_CYCLE_CYCLE (u : Nat) : Fld := ⟨(ETH_P_CYCLE u), 31, 0⟩
def ETH_P_STAT (u : Nat) : Nat := 0x581050 + 0x1000 * u
def ETH_P_STAT_UP (u : Nat) : Fld := ⟨(ETH_P_STAT u), 31, 31⟩
def ETH_P_STAT_GCL_BANK (u : Nat) : Fld := ⟨(ETH_P_STAT u), 0, 0⟩
def ETH_P_CNT0 (u : Nat) : Nat := 0x581054 + 0x1000 * u
def ETH_P_CNT0_QDROP (u : Nat) : Fld := ⟨(ETH_P_CNT0 u), 31, 16⟩
def ETH_P_CNT0_LDROP (u : Nat) : Fld := ⟨(ETH_P_CNT0 u), 15, 0⟩
def ETH_P_CNT1 (u : Nat) : Nat := 0x581058 + 0x1000 * u
def ETH_P_CNT1_NOFWD (u : Nat) : Fld := ⟨(ETH_P_CNT1 u), 31, 16⟩
def ETH_P_CNT1_FCS (u : Nat) : Fld := ⟨(ETH_P_CNT1 u), 15, 0⟩
def ETH_SID (i : Nat) : Nat := 0x590400 + 0x1000 * (i / 64) + 0x10 * (i % 64)
def ETH_SID_V (i : Nat) : Fld := ⟨(ETH_SID i), 127, 127⟩
def ETH_SID_KEY (i : Nat) : Fld := ⟨(ETH_SID i), 126, 125⟩
def ETH_SID_DELIVER (i : Nat) : Fld := ⟨(ETH_SID i), 124, 124⟩
def ETH_SID_VID (i : Nat) : Fld := ⟨(ETH_SID i), 123, 112⟩
def ETH_SID_PAY_OFS (i : Nat) : Fld := ⟨(ETH_SID i), 111, 104⟩
def ETH_SID_MAC_OR_IP (i : Nat) : Fld := ⟨(ETH_SID i), 95, 48⟩
def ETH_TXF (k : Nat) : Nat := 0x59a400 + 0x10 * k
def ETH_TXF_V (k : Nat) : Fld := ⟨(ETH_TXF k), 127, 127⟩
def ETH_TXF_PCP (k : Nat) : Fld := ⟨(ETH_TXF k), 118, 116⟩
def ETH_TXF_RFN (k : Nat) : Fld := ⟨(ETH_TXF k), 114, 108⟩
def ETH_TXF_VID (k : Nat) : Fld := ⟨(ETH_TXF k), 107, 96⟩
def ETH_TXF_DA (k : Nat) : Fld := ⟨(ETH_TXF k), 47, 0⟩
def ETH_QCI (i : Nat) : Nat := 0x594400 + 0x1000 * (i / 32) + 0x20 * (i % 32)
def ETH_QCI_ENTRY (i : Nat) : Fld := ⟨(ETH_QCI i), 255, 0⟩
def ETH_RF (i : Nat) : Nat := 0x598400 + 0x1000 * (i / 64) + 0x10 * (i % 64)
def ETH_RF_ENTRY (i : Nat) : Fld := ⟨(ETH_RF i), 127, 0⟩
def ETH_GCL (u : Nat) (k : Nat) : Nat := 0x5a0800 + 0x1000 * u + 0x8 * k
def ETH_GCL_ENTRY (u : Nat) (k : Nat) : Fld := ⟨(ETH_GCL u k), 63, 0⟩

def PCIE_ID : Nat := 0x5c0040
def PCIE_ID_IDS : Fld := ⟨PCIE_ID, 63, 0⟩
def PCIE_LINK : Nat := 0x5c0048
def PCIE_LINK_LINK_UP : Fld := ⟨PCIE_LINK, 31, 31⟩
def PCIE_LINK_GEN : Fld := ⟨PCIE_LINK, 10, 8⟩
def PCIE_LINK_WIDTH : Fld := ⟨PCIE_LINK, 4, 0⟩
def PCIE_WIN : Nat := 0x5c0050
def PCIE_WIN_WIN : Fld := ⟨PCIE_WIN, 47, 36⟩
def PCIE_WIN_PART : Fld := ⟨PCIE_WIN, 2, 0⟩
def PCIE_EOI : Nat := 0x5c0058
def PCIE_EOI_VEC : Fld := ⟨PCIE_EOI, 5, 0⟩
def PCIE_ERR : Nat := 0x5c005c
def PCIE_ERR_POISONED : Fld := ⟨PCIE_ERR, 31, 16⟩
def PCIE_ERR_MALFORMED : Fld := ⟨PCIE_ERR, 15, 0⟩
def PCIE_VMAP (k : Nat) : Nat := 0x5c2400 + 0x4 * k
def PCIE_VMAP_VEC3 (k : Nat) : Fld := ⟨(PCIE_VMAP k), 31, 24⟩
def PCIE_VMAP_VEC2 (k : Nat) : Fld := ⟨(PCIE_VMAP k), 23, 16⟩
def PCIE_VMAP_VEC1 (k : Nat) : Fld := ⟨(PCIE_VMAP k), 15, 8⟩
def PCIE_VMAP_VEC0 (k : Nat) : Fld := ⟨(PCIE_VMAP k), 7, 0⟩
def PCIE_MSIX (k : Nat) : Nat := 0x5c1400 + 0x10 * k
def PCIE_MSIX_MASK (k : Nat) : Fld := ⟨(PCIE_MSIX k), 96, 96⟩
def PCIE_MSIX_DATA (k : Nat) : Fld := ⟨(PCIE_MSIX k), 95, 64⟩
def PCIE_MSIX_ADDR (k : Nat) : Fld := ⟨(PCIE_MSIX k), 63, 0⟩
def PCIE_PBA : Nat := 0x5c1800
def PCIE_PBA_PBA : Fld := ⟨PCIE_PBA, 63, 0⟩

def CAN_CFG (u : Nat) : Nat := 0x5e0040 + 0x2000 * u
def CAN_CFG_MODE (u : Nat) : Fld := ⟨(CAN_CFG u), 31, 30⟩
def CAN_CFG_AUTO_REC (u : Nat) : Fld := ⟨(CAN_CFG u), 29, 29⟩
def CAN_NBT (u : Nat) : Nat := 0x5e0044 + 0x2000 * u
def CAN_NBT_TIMING (u : Nat) : Fld := ⟨(CAN_NBT u), 31, 0⟩
def CAN_DBT (u : Nat) : Nat := 0x5e0048 + 0x2000 * u
def CAN_DBT_TIMING (u : Nat) : Fld := ⟨(CAN_DBT u), 31, 0⟩
def CAN_XBT (u : Nat) : Nat := 0x5e004c + 0x2000 * u
def CAN_XBT_TIMING (u : Nat) : Fld := ⟨(CAN_XBT u), 31, 0⟩
def CAN_XL (u : Nat) : Nat := 0x5e0050 + 0x2000 * u
def CAN_XL_VCID (u : Nat) : Fld := ⟨(CAN_XL u), 15, 8⟩
def CAN_XL_SDT (u : Nat) : Fld := ⟨(CAN_XL u), 7, 0⟩
def CAN_CTRL (u : Nat) : Nat := 0x5e0054 + 0x2000 * u
def CAN_CTRL_RECOVER (u : Nat) : Fld := ⟨(CAN_CTRL u), 0, 0⟩
def CAN_CNT (u : Nat) : Nat := 0x5e0058 + 0x2000 * u
def CAN_CNT_REPLACED (u : Nat) : Fld := ⟨(CAN_CNT u), 31, 16⟩
def CAN_CNT_XL_ONLY (u : Nat) : Fld := ⟨(CAN_CNT u), 15, 8⟩
def CAN_CNT_NOMATCH (u : Nat) : Fld := ⟨(CAN_CNT u), 7, 0⟩
def CAN_SW_TX (u : Nat) : Nat := 0x5e1040 + 0x2000 * u
def CAN_SW_TX_GO (u : Nat) : Fld := ⟨(CAN_SW_TX u), 31, 31⟩
def CAN_SW_TX_FMT (u : Nat) : Fld := ⟨(CAN_SW_TX u), 30, 29⟩
def CAN_SW_TX_ID (u : Nat) : Fld := ⟨(CAN_SW_TX u), 28, 0⟩
def CAN_SW_LEN (u : Nat) : Nat := 0x5e1044 + 0x2000 * u
def CAN_SW_LEN_LEN (u : Nat) : Fld := ⟨(CAN_SW_LEN u), 11, 0⟩
def CAN_SW_STAT (u : Nat) : Nat := 0x5e1048 + 0x2000 * u
def CAN_SW_STAT_REFUSED (u : Nat) : Fld := ⟨(CAN_SW_STAT u), 1, 1⟩
def CAN_SW_STAT_PENDING (u : Nat) : Fld := ⟨(CAN_SW_STAT u), 0, 0⟩
def CAN_SW_DATA (u : Nat) (k : Nat) : Nat := 0x5e1800 + 0x2000 * u + 0x4 * k
def CAN_SW_DATA_DATA (u : Nat) (k : Nat) : Fld := ⟨(CAN_SW_DATA u k), 31, 0⟩

def SPI_CFG (k : Nat) : Nat := 0x5f1400 + 0x20 * k
def SPI_CFG_MODE (k : Nat) : Fld := ⟨(SPI_CFG k), 31, 30⟩
def SPI_CFG_DIV (k : Nat) : Fld := ⟨(SPI_CFG k), 23, 16⟩
def SPI_CFG_CMD_LEN (k : Nat) : Fld := ⟨(SPI_CFG k), 11, 8⟩
def SPI_CFG_RD_LEN (k : Nat) : Fld := ⟨(SPI_CFG k), 7, 0⟩
def SPI_CMD (k : Nat) : Nat := 0x5f1404 + 0x20 * k
def SPI_CMD_CMD (k : Nat) : Fld := ⟨(SPI_CMD k), 63, 0⟩
def SPI_MISS (k : Nat) : Nat := 0x5f140c + 0x20 * k
def SPI_MISS_MISS (k : Nat) : Fld := ⟨(SPI_MISS k), 15, 0⟩

def UART_CFG (k : Nat) : Nat := 0x5f2400 + 0x20 * k
def UART_CFG_INC (k : Nat) : Fld := ⟨(UART_CFG k), 31, 8⟩
def UART_CFG_PARITY (k : Nat) : Fld := ⟨(UART_CFG k), 3, 2⟩
def UART_CFG_STOP2 (k : Nat) : Fld := ⟨(UART_CFG k), 0, 0⟩
def UART_TX (k : Nat) : Nat := 0x5f2404 + 0x20 * k
def UART_TX_DATA (k : Nat) : Fld := ⟨(UART_TX k), 7, 0⟩

def ENC_CFG (k : Nat) : Nat := 0x5f3400 + 0x10 * k
def ENC_CFG_MODE (k : Nat) : Fld := ⟨(ENC_CFG k), 31, 30⟩
def ENC_CFG_ZRST (k : Nat) : Fld := ⟨(ENC_CFG k), 29, 29⟩
def ENC_CFG_FILT (k : Nat) : Fld := ⟨(ENC_CFG k), 7, 0⟩
def ENC_CNT (k : Nat) : Nat := 0x5f3404 + 0x10 * k
def ENC_CNT_COUNT (k : Nat) : Fld := ⟨(ENC_CNT k), 31, 0⟩
def ENC_ERR (k : Nat) : Nat := 0x5f3408 + 0x10 * k
def ENC_ERR_ILLEGAL (k : Nat) : Fld := ⟨(ENC_ERR k), 15, 0⟩

def TDM_CFG (k : Nat) : Nat := 0x5f4400 + 0x10 * k
def TDM_CFG_MASTER (k : Nat) : Fld := ⟨(TDM_CFG k), 31, 31⟩
def TDM_CFG_DLY (k : Nat) : Fld := ⟨(TDM_CFG k), 8, 8⟩
def TDM_CFG_SLOTS (k : Nat) : Fld := ⟨(TDM_CFG k), 3, 0⟩

def LPC_STAT (u : Nat) : Nat := 0x311040 + 0x4000 * u
def LPC_STAT_TRAINED (u : Nat) : Fld := ⟨(LPC_STAT u), 31, 31⟩
def LPC_STAT_DENSITY (u : Nat) : Fld := ⟨(LPC_STAT u), 29, 24⟩
def LPC_STAT_RANKS2 (u : Nat) : Fld := ⟨(LPC_STAT u), 16, 16⟩
def LPC_STAT_RATE (u : Nat) : Fld := ⟨(LPC_STAT u), 13, 0⟩
def LPC_CNT (u : Nat) : Nat := 0x311044 + 0x4000 * u
def LPC_CNT_CE (u : Nat) : Fld := ⟨(LPC_CNT u), 31, 16⟩
def LPC_CNT_UE (u : Nat) : Fld := ⟨(LPC_CNT u), 15, 0⟩

def ODL_CFG (u : Nat) : Nat := 0x600040 + 0x10000 * u
def ODL_CFG_BEACON_MISS (u : Nat) : Fld := ⟨(ODL_CFG u), 31, 24⟩
def ODL_CFG_REPLAY_MAX (u : Nat) : Fld := ⟨(ODL_CFG u), 7, 0⟩
def ODL_STAT (u : Nat) : Nat := 0x600044 + 0x10000 * u
def ODL_STAT_UP (u : Nat) : Fld := ⟨(ODL_STAT u), 31, 31⟩
def ODL_STAT_PEER_POS (u : Nat) : Fld := ⟨(ODL_STAT u), 30, 29⟩
def ODL_STAT_PEER_LENDS (u : Nat) : Fld := ⟨(ODL_STAT u), 28, 28⟩
def ODL_STAT_FAIL (u : Nat) : Fld := ⟨(ODL_STAT u), 27, 24⟩
def ODL_STAT_TRAININGS (u : Nat) : Fld := ⟨(ODL_STAT u), 15, 0⟩
def ODL_DELAY (u : Nat) : Nat := 0x600048 + 0x10000 * u
def ODL_DELAY_DELAY (u : Nat) : Fld := ⟨(ODL_DELAY u), 15, 0⟩
def ODL_RETRAIN (u : Nat) : Nat := 0x60004c + 0x10000 * u
def ODL_RETRAIN_GO (u : Nat) : Fld := ⟨(ODL_RETRAIN u), 0, 0⟩
def ODL_CNT (u : Nat) : Nat := 0x600050 + 0x10000 * u
def ODL_CNT_REPLAYS (u : Nat) : Fld := ⟨(ODL_CNT u), 31, 16⟩
def ODL_CNT_DOWNS (u : Nat) : Fld := ⟨(ODL_CNT u), 15, 8⟩
def ODL_CNT_REISSUED (u : Nat) : Fld := ⟨(ODL_CNT u), 7, 0⟩
def ODL_CNT_CLR (u : Nat) : Nat := 0x600054 + 0x10000 * u
def ODL_CNT_CLR_CLR (u : Nat) : Fld := ⟨(ODL_CNT_CLR u), 0, 0⟩
def ODL_MEMBERS (u : Nat) : Nat := 0x600080 + 0x10000 * u
def ODL_MEMBERS_OWN_POS (u : Nat) : Fld := ⟨(ODL_MEMBERS u), 31, 30⟩
def ODL_MEMBERS_LENDING (u : Nat) : Fld := ⟨(ODL_MEMBERS u), 7, 4⟩
def ODL_MEMBERS_PRESENT (u : Nat) : Fld := ⟨(ODL_MEMBERS u), 3, 0⟩
def ODL_ROUTE (u : Nat) : Nat := 0x600084 + 0x10000 * u
def ODL_ROUTE_ROUTE_3 (u : Nat) : Fld := ⟨(ODL_ROUTE u), 7, 6⟩
def ODL_ROUTE_ROUTE_2 (u : Nat) : Fld := ⟨(ODL_ROUTE u), 5, 4⟩
def ODL_ROUTE_ROUTE_1 (u : Nat) : Fld := ⟨(ODL_ROUTE u), 3, 2⟩
def ODL_ROUTE_ROUTE_0 (u : Nat) : Fld := ⟨(ODL_ROUTE u), 1, 0⟩
def ODL_MODES (u : Nat) : Nat := 0x600088 + 0x10000 * u
def ODL_MODES_MODE_3 (u : Nat) : Fld := ⟨(ODL_MODES u), 15, 12⟩
def ODL_MODES_MODE_2 (u : Nat) : Fld := ⟨(ODL_MODES u), 11, 8⟩
def ODL_MODES_MODE_1 (u : Nat) : Fld := ⟨(ODL_MODES u), 7, 4⟩
def ODL_MODES_MODE_0 (u : Nat) : Fld := ⟨(ODL_MODES u), 3, 0⟩
def ODL_FRAME_CNT (u : Nat) : Nat := 0x60008c + 0x10000 * u
def ODL_FRAME_CNT_FRAME_MISMATCH (u : Nat) : Fld := ⟨(ODL_FRAME_CNT u), 15, 0⟩

def WDG_CFG (i : Nat) : Nat := 0x620400 + 0x1000 * (i / 8) + 0x40 * (i % 8)
def WDG_CFG_EN (i : Nat) : Fld := ⟨(WDG_CFG i), 31, 31⟩
def WDG_CFG_MODE (i : Nat) : Fld := ⟨(WDG_CFG i), 30, 30⟩
def WDG_CFG_EVERY (i : Nat) : Fld := ⟨(WDG_CFG i), 27, 24⟩
def WDG_OPEN (i : Nat) : Nat := 0x620404 + 0x1000 * (i / 8) + 0x40 * (i % 8)
def WDG_OPEN_OPEN (i : Nat) : Fld := ⟨(WDG_OPEN i), 31, 0⟩
def WDG_CLOSE (i : Nat) : Nat := 0x620408 + 0x1000 * (i / 8) + 0x40 * (i % 8)
def WDG_CLOSE_CLOSE (i : Nat) : Fld := ⟨(WDG_CLOSE i), 31, 0⟩
def WDG_KICK (i : Nat) : Nat := 0x62040c + 0x1000 * (i / 8) + 0x40 * (i % 8)
def WDG_KICK_KICK (i : Nat) : Fld := ⟨(WDG_KICK i), 0, 0⟩
def WDG_STAT (i : Nat) : Nat := 0x620410 + 0x1000 * (i / 8) + 0x40 * (i % 8)
def WDG_STAT_STATE (i : Nat) : Fld := ⟨(WDG_STAT i), 31, 30⟩
def WDG_STAT_EARLY (i : Nat) : Fld := ⟨(WDG_STAT i), 29, 29⟩
def WDG_STAT_LATE (i : Nat) : Fld := ⟨(WDG_STAT i), 28, 28⟩
def WDG_STAT_KICKS (i : Nat) : Fld := ⟨(WDG_STAT i), 15, 0⟩
def WDG_LAST (i : Nat) : Nat := 0x620414 + 0x1000 * (i / 8) + 0x40 * (i % 8)
def WDG_LAST_LAST (i : Nat) : Fld := ⟨(WDG_LAST i), 31, 0⟩
def WDG_FAILED (k : Nat) : Nat := 0x620040 + 0x4 * k
def WDG_FAILED_FAILED (k : Nat) : Fld := ⟨(WDG_FAILED k), 31, 0⟩

def GRN_TST_CFG : Nat := 0x11040
def GRN_TST_CFG_TST_PHASE : Fld := ⟨GRN_TST_CFG, 8, 0⟩
def GRN_TST_CNT : Nat := 0x11044
def GRN_TST_CNT_PASSES : Fld := ⟨GRN_TST_CNT, 31, 16⟩
def GRN_TST_CNT_FAILS : Fld := ⟨GRN_TST_CNT, 15, 8⟩
def GRN_TST_CNT_SKIPS : Fld := ⟨GRN_TST_CNT, 7, 0⟩
def GRN_TST_CLR : Nat := 0x11048
def GRN_TST_CLR_CLR : Fld := ⟨GRN_TST_CLR, 0, 0⟩

def FC_STAT : Nat := 0x20040
def FC_STAT_SELF_FAIL : Fld := ⟨FC_STAT, 31, 31⟩
def FC_STAT_WR_REFUSED : Fld := ⟨FC_STAT, 30, 30⟩
def FC_STAT_OK : Fld := ⟨FC_STAT, 23, 23⟩
def FC_STAT_HB : Fld := ⟨FC_STAT, 22, 22⟩
def FC_SUM : Nat := 0x20044
def FC_SUM_SUM : Fld := ⟨FC_SUM, 31, 0⟩
def FC_SUM_CRIT : Nat := 0x20048
def FC_SUM_CRIT_SUM_CRIT : Fld := ⟨FC_SUM_CRIT, 31, 0⟩
def FC_STICKY (k : Nat) : Nat := 0x21400 + 0x4 * k
def FC_STICKY_STICKY (k : Nat) : Fld := ⟨(FC_STICKY k), 31, 0⟩
def FC_LIVE (k : Nat) : Nat := 0x21480 + 0x4 * k
def FC_LIVE_LIVE (k : Nat) : Fld := ⟨(FC_LIVE k), 31, 0⟩
def FC_SEV (k : Nat) : Nat := 0x22400 + 0x4 * k
def FC_SEV_SEV7 (k : Nat) : Fld := ⟨(FC_SEV k), 30, 28⟩
def FC_SEV_SEV6 (k : Nat) : Fld := ⟨(FC_SEV k), 26, 24⟩
def FC_SEV_SEV5 (k : Nat) : Fld := ⟨(FC_SEV k), 22, 20⟩
def FC_SEV_SEV4 (k : Nat) : Fld := ⟨(FC_SEV k), 18, 16⟩
def FC_SEV_SEV3 (k : Nat) : Fld := ⟨(FC_SEV k), 14, 12⟩
def FC_SEV_SEV2 (k : Nat) : Fld := ⟨(FC_SEV k), 10, 8⟩
def FC_SEV_SEV1 (k : Nat) : Fld := ⟨(FC_SEV k), 6, 4⟩
def FC_SEV_SEV0 (k : Nat) : Fld := ⟨(FC_SEV k), 2, 0⟩
def FC_FLOOR (k : Nat) : Nat := 0x22800 + 0x4 * k
def FC_FLOOR_FLOOR7 (k : Nat) : Fld := ⟨(FC_FLOOR k), 30, 28⟩
def FC_FLOOR_FLOOR6 (k : Nat) : Fld := ⟨(FC_FLOOR k), 26, 24⟩
def FC_FLOOR_FLOOR5 (k : Nat) : Fld := ⟨(FC_FLOOR k), 22, 20⟩
def FC_FLOOR_FLOOR4 (k : Nat) : Fld := ⟨(FC_FLOOR k), 18, 16⟩
def FC_FLOOR_FLOOR3 (k : Nat) : Fld := ⟨(FC_FLOOR k), 14, 12⟩
def FC_FLOOR_FLOOR2 (k : Nat) : Fld := ⟨(FC_FLOOR k), 10, 8⟩
def FC_FLOOR_FLOOR1 (k : Nat) : Fld := ⟨(FC_FLOOR k), 6, 4⟩
def FC_FLOOR_FLOOR0 (k : Nat) : Fld := ⟨(FC_FLOOR k), 2, 0⟩

def PWR_CAP : Nat := 0x50040
def PWR_CAP_FUSED_CAP : Fld := ⟨PWR_CAP, 24, 16⟩
def PWR_CAP_CAP : Fld := ⟨PWR_CAP, 8, 0⟩
def PWR_ACCT : Nat := 0x50044
def PWR_ACCT_DEBT : Fld := ⟨PWR_ACCT, 31, 31⟩
def PWR_ACCT_LEVEL : Fld := ⟨PWR_ACCT, 15, 0⟩
def PWR_MEAS : Nat := 0x50048
def PWR_MEAS_TOTAL : Fld := ⟨PWR_MEAS, 31, 16⟩
def PWR_MEAS_NONTILE : Fld := ⟨PWR_MEAS, 15, 0⟩
def PWR_MODE : Nat := 0x5004c
def PWR_MODE_REPEAT : Fld := ⟨PWR_MODE, 31, 31⟩
def PWR_MODE_REPEAT_CAPPED : Fld := ⟨PWR_MODE, 30, 30⟩
def PWR_CFG : Nat := 0x50050
def PWR_CFG_LEARN : Fld := ⟨PWR_CFG, 26, 24⟩
def PWR_CFG_DROOP_RATE : Fld := ⟨PWR_CFG, 22, 16⟩
def PWR_CFG_DROOP_HOLD : Fld := ⟨PWR_CFG, 15, 8⟩
def PWR_CFG_THR_OFS : Fld := ⟨PWR_CFG, 7, 0⟩
def PWR_THERM : Nat := 0x50054
def PWR_THERM_TJ_MAX : Fld := ⟨PWR_THERM, 31, 24⟩
def PWR_THERM_HOT : Fld := ⟨PWR_THERM, 22, 16⟩
def PWR_THERM_TMAX : Fld := ⟨PWR_THERM, 15, 0⟩
def PWR_CNT : Nat := 0x50058
def PWR_CNT_DROOPS : Fld := ⟨PWR_CNT, 31, 16⟩
def PWR_CNT_THROTTLES : Fld := ⟨PWR_CNT, 15, 8⟩
def PWR_CNT_DEBTS : Fld := ⟨PWR_CNT, 7, 0⟩
def PWR_CNT_CLR : Nat := 0x5005c
def PWR_CNT_CLR_CLR : Fld := ⟨PWR_CNT_CLR, 0, 0⟩
def PWR_PH (k : Nat) : Nat := 0x51400 + 0x8 * k
def PWR_PH_E (k : Nat) : Fld := ⟨(PWR_PH k), 63, 48⟩
def PWR_PH_U (k : Nat) : Fld := ⟨(PWR_PH k), 47, 32⟩
def PWR_PH_VALID (k : Nat) : Fld := ⟨(PWR_PH k), 15, 15⟩
def PWR_PH_PRIO (k : Nat) : Fld := ⟨(PWR_PH k), 10, 8⟩
def PWR_PH_CLASS (k : Nat) : Fld := ⟨(PWR_PH k), 1, 0⟩
def PWR_ISL_V (k : Nat) : Nat := 0x52400 + 0x10 * k
def PWR_ISL_V_MEAS (k : Nat) : Fld := ⟨(PWR_ISL_V k), 25, 16⟩
def PWR_ISL_V_SET (k : Nat) : Fld := ⟨(PWR_ISL_V k), 9, 0⟩
def PWR_ISL_P (k : Nat) : Nat := 0x52404 + 0x10 * k
def PWR_ISL_P_P (k : Nat) : Fld := ⟨(PWR_ISL_P k), 15, 0⟩
def PWR_ISL_STAT (k : Nat) : Nat := 0x52408 + 0x10 * k
def PWR_ISL_STAT_DROOP (k : Nat) : Fld := ⟨(PWR_ISL_STAT k), 31, 31⟩
def PWR_ISL_STAT_SETTLING (k : Nat) : Fld := ⟨(PWR_ISL_STAT k), 30, 30⟩
def PWR_TILE (k : Nat) : Nat := 0x53400 + 0x4 * k
def PWR_TILE_GRANT (k : Nat) : Fld := ⟨(PWR_TILE k), 31, 24⟩
def PWR_TILE_PHASE (k : Nat) : Fld := ⟨(PWR_TILE k), 21, 16⟩
def PWR_TILE_CAP_TARGET (k : Nat) : Fld := ⟨(PWR_TILE k), 15, 8⟩
def PWR_TILE_PM_ISSUE (k : Nat) : Fld := ⟨(PWR_TILE k), 6, 0⟩

def AGE_CFG : Nat := 0x60040
def AGE_CFG_LIFE_NOTE : Fld := ⟨AGE_CFG, 15, 0⟩
def AGE_LIFE : Nat := 0x60044
def AGE_LIFE_REM_H : Fld := ⟨AGE_LIFE, 23, 0⟩
def AGE_WEAR_MAX : Nat := 0x60048
def AGE_WEAR_MAX_UNIT : Fld := ⟨AGE_WEAR_MAX, 21, 16⟩
def AGE_WEAR_MAX_WEAR : Fld := ⟨AGE_WEAR_MAX, 15, 0⟩
def AGE_HOURS : Nat := 0x60050
def AGE_HOURS_HOURS : Fld := ⟨AGE_HOURS, 31, 0⟩
def AGE_HIST : Nat := 0x60058
def AGE_HIST_WEAR_THEN : Fld := ⟨AGE_HIST, 47, 32⟩
def AGE_HIST_HOURS_THEN : Fld := ⟨AGE_HIST, 31, 0⟩
def AGE_UNIT (k : Nat) : Nat := 0x61400 + 0x4 * k
def AGE_UNIT_MARGIN (k : Nat) : Fld := ⟨(AGE_UNIT k), 31, 16⟩
def AGE_UNIT_WEAR (k : Nat) : Fld := ⟨(AGE_UNIT k), 15, 0⟩

def SEC_LIFE : Nat := 0x70040
def SEC_LIFE_LIFE : Fld := ⟨SEC_LIFE, 29, 28⟩
def SEC_LIFE_DEBUG : Fld := ⟨SEC_LIFE, 25, 24⟩
def SEC_LIFE_DEBUG_FUSE : Fld := ⟨SEC_LIFE, 21, 20⟩
def SEC_BOOT : Nat := 0x70044
def SEC_BOOT_REASON_A : Fld := ⟨SEC_BOOT, 31, 28⟩
def SEC_BOOT_REASON_B : Fld := ⟨SEC_BOOT, 27, 24⟩
def SEC_BOOT_SLOT : Fld := ⟨SEC_BOOT, 20, 20⟩
def SEC_BOOT_STAGE : Fld := ⟨SEC_BOOT, 19, 16⟩
def SEC_BOOT_UNSTABLE : Fld := ⟨SEC_BOOT, 7, 0⟩
def SEC_KEYS : Nat := 0x70048
def SEC_KEYS_LMS_USABLE : Fld := ⟨SEC_KEYS, 11, 8⟩
def SEC_KEYS_ECDSA_USABLE : Fld := ⟨SEC_KEYS, 3, 0⟩
def SEC_KEY_OFF : Nat := 0x7004c
def SEC_KEY_OFF_LMS_OFF : Fld := ⟨SEC_KEY_OFF, 11, 8⟩
def SEC_KEY_OFF_ECDSA_OFF : Fld := ⟨SEC_KEY_OFF, 3, 0⟩
def SEC_ARB : Nat := 0x70050
def SEC_ARB_CNT_3 : Fld := ⟨SEC_ARB, 31, 24⟩
def SEC_ARB_CNT_2 : Fld := ⟨SEC_ARB, 23, 16⟩
def SEC_ARB_CNT_1 : Fld := ⟨SEC_ARB, 15, 8⟩
def SEC_ARB_CNT_0 : Fld := ⟨SEC_ARB, 7, 0⟩
def SEC_DEBUG_SET : Nat := 0x70054
def SEC_DEBUG_SET_LEVEL : Fld := ⟨SEC_DEBUG_SET, 1, 0⟩
def SEC_LMS : Nat := 0x70058
def SEC_LMS_LEFT : Fld := ⟨SEC_LMS, 18, 0⟩
def SEC_FUSE_IDX : Nat := 0x7005c
def SEC_FUSE_IDX_WORD : Fld := ⟨SEC_FUSE_IDX, 8, 0⟩
def SEC_FUSE_DATA : Nat := 0x70060
def SEC_FUSE_DATA_DATA : Fld := ⟨SEC_FUSE_DATA, 31, 0⟩
def SEC_FPGM : Nat := 0x70068
def SEC_FPGM_WORD : Fld := ⟨SEC_FPGM, 40, 32⟩
def SEC_FPGM_BITS : Fld := ⟨SEC_FPGM, 31, 0⟩
def SEC_FPGM_STAT : Nat := 0x70070
def SEC_FPGM_STAT_RESULT : Fld := ⟨SEC_FPGM_STAT, 31, 28⟩
def SEC_FPGM_STAT_WORDS : Fld := ⟨SEC_FPGM_STAT, 15, 0⟩
def SEC_RGN_TIGHT (k : Nat) : Nat := 0x70080 + 0x4 * k
def SEC_RGN_TIGHT_WCLR (k : Nat) : Fld := ⟨(SEC_RGN_TIGHT k), 15, 8⟩
def SEC_RGN_TIGHT_RCLR (k : Nat) : Fld := ⟨(SEC_RGN_TIGHT k), 7, 0⟩
def SEC_MEAS (k : Nat) : Nat := 0x71400 + 0x40 * k
def SEC_MEAS_DIGEST (k : Nat) : Fld := ⟨(SEC_MEAS k), 383, 0⟩

end Reg
end Sys2Proof.Machine
end

