-- ==== Sys2Proof/Machine/Sources.lean ====
section
/-! DEFINITION. The fault sources of chapter 21 (R580): their numbers, their block instances and their default severities. -/

namespace Sys2Proof.Machine

namespace FS

def DEV_ACCERR : Nat := 0
def DEV_DISARM : Nat := 1
def GRN_LOCK : Nat := 2
def QTZ_SWITCH : Nat := 3
def QTZ_HOLDOVER : Nat := 4
def QTZ_REF : Nat := 5
def QTZ_EPOCH : Nat := 6
def QTZ_MISSED : Nat := 7
def QTZ_CFG : Nat := 8
def QTZ_CAPOVF : Nat := 9
def QTZ_DUP : Nat := 10
def PWR_CLKRATIO : Nat := 11
def PWR_VDIFF : Nat := 12
def PWR_TGRAD : Nat := 13
def PWR_TGRAD_THR : Nat := 14
def PWR_OVERTEMP : Nat := 15
def PWR_DROOP : Nat := 16
def PWR_VREG : Nat := 17
def PWR_AVS : Nat := 18
def AGE_LIFE : Nat := 19
def SEC_FUSE : Nat := 20
def D2D_DOWN : Nat := 21
def NOC_E2E : Nat := 22
def SCH_DESC : Nat := 23
def SCH_SAVE : Nat := 24
def SCH_CFG : Nat := 25
def SYN_OVF : Nat := 26
def HBM_CE (i : Nat) : Nat := 27 + 3 * i
def HBM_UE (i : Nat) : Nat := 28 + 3 * i
def HBM_OVERCOMMIT (i : Nat) : Nat := 29 + 3 * i
def LPC_CE (i : Nat) : Nat := 39 + 6 * i
def LPC_UE (i : Nat) : Nat := 40 + 6 * i
def LPC_TEMP (i : Nat) : Nat := 41 + 6 * i
def LPC_TRAIN (i : Nat) : Nat := 42 + 6 * i
def LPC_CFG (i : Nat) : Nat := 43 + 6 * i
def LPC_OVERCOMMIT (i : Nat) : Nat := 44 + 6 * i
def SC_CE (i : Nat) : Nat := 63 + 3 * i
def SC_UE (i : Nat) : Nat := 64 + 3 * i
def SC_OVERCOMMIT (i : Nat) : Nat := 65 + 3 * i
def TIER_WW : Nat := 75
def TIER_CFG : Nat := 76
def TIER_KAT : Nat := 77
def KVP_REFSAT : Nat := 78
def KVP_NOFRAME : Nat := 79
def KVP_LINK : Nat := 80
def KVP_LOW : Nat := 81
def KVP_CFG : Nat := 82
def KVP_KAT : Nat := 83
def STM_REFUSED : Nat := 84
def STM_IMAGE : Nat := 85
def STM_KAT : Nat := 86
def ING_STOP : Nat := 87
def ING_CFG : Nat := 88
def ING_NOSIG : Nat := 89
def ING_KAT : Nat := 90
def IFE_KAT : Nat := 91
def AGT_QFULL : Nat := 92
def AGT_RECCRC : Nat := 93
def AGT_SYNC : Nat := 94
def AGT_XF : Nat := 95
def AGT_DUP : Nat := 96
def AGT_VOTE : Nat := 97
def AGT_CFG : Nat := 98
def PUM_PKT : Nat := 99
def PUM_EGO : Nat := 100
def PUM_TRUNC : Nat := 101
def PUM_JOB : Nat := 102
def PUM_CFG : Nat := 103
def PUM_KAT : Nat := 104
def SLT_CE : Nat := 105
def SLT_UE : Nat := 106
def SLT_FULL : Nat := 107
def SLT_CFG : Nat := 108
def SLT_DUP : Nat := 109
def FLT_CHKDUP : Nat := 110
def FLT_NOPLAN : Nat := 111
def FLT_CFG : Nat := 112
def GNT_DUP : Nat := 113
def GNT_CFG : Nat := 114
def GNT_CE : Nat := 115
def GNT_UE : Nat := 116
def GNT_FOLLOW : Nat := 117
def GNT_STALE : Nat := 118
def ETH_LINK : Nat := 119
def ETH_KAT : Nat := 120
def ETH_CFG : Nat := 121
def PCIE_ERR : Nat := 122
def PCIE_LINK : Nat := 123
def PCIE_CFG : Nat := 124
def CAN_BUSOFF (i : Nat) : Nat := 125 + 2 * i
def CAN_CFG (i : Nat) : Nat := 126 + 2 * i
def IOX_ENC : Nat := 137
def IOX_CFG : Nat := 138
def ODL_IDENT (i : Nat) : Nat := 139 + 4 * i
def ODL_FRAME (i : Nat) : Nat := 140 + 4 * i
def ODL_LINK (i : Nat) : Nat := 141 + 4 * i
def ODL_PEER (i : Nat) : Nat := 142 + 4 * i
def FC_OKPIN : Nat := 147
def WDG (n : Nat) : Nat := 256 + n
def TILE_CKFAIL (t : Nat) : Nat := 512 + 16 * t
def TILE_CKFENCE (t : Nat) : Nat := 513 + 16 * t
def TILE_FENCED (t : Nat) : Nat := 514 + 16 * t
def TILE_TESTFAIL (t : Nat) : Nat := 515 + 16 * t
def TILE_SP_CE (t : Nat) : Nat := 516 + 16 * t
def TILE_SP_UE (t : Nat) : Nat := 517 + 16 * t
def TILE_ACC_CE (t : Nat) : Nat := 518 + 16 * t
def TILE_ACC_UE (t : Nat) : Nat := 519 + 16 * t
def TILE_FW (t : Nat) : Nat := 520 + 16 * t
def TILE_DESC (t : Nat) : Nat := 521 + 16 * t

end FS

/-- A number that belongs to a source (R580). -/
def realSource (n : Nat) : Bool := n < 148 || (256 ≤ n && n < 512) || (512 ≤ n && n < 1024 && n % 16 < 10)

/-- The default severity of source `n` (R580). -/
def defaultSeverity (n : Nat) : Severity :=
  if n < 2 then match n with
    | 0 => .note
    | _ => .critical
  else if n < 3 then .critical
  else if n < 11 then match n with
    | 3 => .note
    | 4 => .corrected
    | 5 => .critical
    | 6 => .note
    | 7 => .note
    | 8 => .note
    | 9 => .note
    | _ => .critical
  else if n < 19 then match n with
    | 11 => .critical
    | 12 => .critical
    | 13 => .critical
    | 14 => .note
    | 15 => .critical
    | 16 => .corrected
    | 17 => .critical
    | _ => .critical
  else if n < 20 then .note
  else if n < 21 then .terminal
  else if n < 23 then match n with
    | 21 => .critical
    | _ => .critical
  else if n < 26 then match n with
    | 23 => .context
    | 24 => .context
    | _ => .critical
  else if n < 27 then .context
  else if n < 39 then match (n - 27) % 3 with
    | 0 => .corrected
    | 1 => .context
    | _ => .note
  else if n < 63 then match (n - 39) % 6 with
    | 0 => .corrected
    | 1 => .context
    | 2 => .note
    | 3 => .corrected
    | 4 => .critical
    | _ => .note
  else if n < 75 then match (n - 63) % 3 with
    | 0 => .corrected
    | 1 => .context
    | _ => .note
  else if n < 78 then match n with
    | 75 => .note
    | 76 => .critical
    | _ => .critical
  else if n < 84 then match n with
    | 78 => .context
    | 79 => .context
    | 80 => .context
    | 81 => .note
    | 82 => .critical
    | _ => .critical
  else if n < 87 then match n with
    | 84 => .context
    | 85 => .context
    | _ => .critical
  else if n < 92 then match n with
    | 87 => .corrected
    | 88 => .note
    | 89 => .note
    | 90 => .critical
    | _ => .critical
  else if n < 99 then match n with
    | 92 => .corrected
    | 93 => .corrected
    | 94 => .corrected
    | 95 => .note
    | 96 => .critical
    | 97 => .note
    | _ => .critical
  else if n < 105 then match n with
    | 99 => .note
    | 100 => .note
    | 101 => .corrected
    | 102 => .note
    | 103 => .critical
    | _ => .critical
  else if n < 110 then match n with
    | 105 => .corrected
    | 106 => .critical
    | 107 => .corrected
    | 108 => .critical
    | _ => .critical
  else if n < 113 then match n with
    | 110 => .critical
    | 111 => .corrected
    | _ => .critical
  else if n < 119 then match n with
    | 113 => .critical
    | 114 => .note
    | 115 => .corrected
    | 116 => .critical
    | 117 => .corrected
    | _ => .corrected
  else if n < 122 then match n with
    | 119 => .note
    | 120 => .critical
    | _ => .critical
  else if n < 125 then match n with
    | 122 => .note
    | 123 => .note
    | _ => .critical
  else if n < 137 then match (n - 125) % 2 with
    | 0 => .corrected
    | _ => .critical
  else if n < 139 then match n with
    | 137 => .note
    | _ => .critical
  else if n < 147 then match (n - 139) % 4 with
    | 0 => .corrected
    | 1 => .corrected
    | 2 => .corrected
    | _ => .corrected
  else if n < 148 then .critical
  else if n < 256 then .note
  else if n < 512 then (if n ≤ 262 then .critical else .context)
  else match n % 16 with
    | 0 => .corrected
    | 1 => .critical
    | 3 => .critical
    | 4 => .corrected
    | 5 => .context
    | 6 => .corrected
    | 7 => .context
    | 8 => .critical
    | 9 => .context
    | _ => .note

/-- The lowest page of the block instance that source `n` belongs to (R580). -/
def sourcePage (n : Nat) : Nat :=
  if n < 2 then 0x0
  else if n < 3 then 0x10
  else if n < 11 then 0x40
  else if n < 19 then 0x50
  else if n < 20 then 0x60
  else if n < 21 then 0x70
  else if n < 23 then 0x0
  else if n < 26 then 0x80
  else if n < 27 then 0xc0
  else if n < 39 then 0x300 + 0x4 * ((n - 27) / 3)
  else if n < 63 then 0x310 + 0x4 * ((n - 39) / 6)
  else if n < 75 then 0x320 + 0x4 * ((n - 63) / 3)
  else if n < 78 then 0x330
  else if n < 84 then 0x338
  else if n < 87 then 0x340
  else if n < 92 then 0x380
  else if n < 99 then 0x3c0
  else if n < 105 then 0x400
  else if n < 110 then 0x4c0
  else if n < 113 then 0x480
  else if n < 119 then 0x500
  else if n < 122 then 0x580
  else if n < 125 then 0x5c0
  else if n < 137 then 0x5e0 + 0x2 * ((n - 125) / 2)
  else if n < 139 then 0x5f0
  else if n < 147 then 0x600 + 0x10 * ((n - 139) / 4)
  else if n < 148 then 0x20
  else if n < 256 then 0xFFFF
  else if n < 512 then 0x620
  else 0x100 + 0x10 * ((n - 512) / 16)

/-- The sources of the instance whose lowest page is `p`, in number order: PG_ERRVIEW shows the first 32 (R581). -/
def sourcesOf (p : Nat) : List Nat := (List.range 1024).filter (fun n => realSource n && sourcePage n == p)

/-- The code of a class in FC_SEV (R586). -/
def severityCode : Severity → Nat
  | .note => 0 | .corrected => 1 | .context => 2 | .critical => 3 | .terminal => 4

/-- The class that a code of FC_SEV names (R586). -/
def severityOf : Nat → Severity
  | 0 => .note | 1 => .corrected | 2 => .context | 3 => .critical | _ => .terminal

/-- FC_SEV(w) at reset with every floor at NOTE: the defaults of its eight sources (R586). -/
def severityReset (w : Nat) : Nat :=
  (List.range 8).foldl (fun m i => m ||| ((if realSource (8 * w + i) then severityCode (defaultSeverity (8 * w + i)) else 0) <<< (4 * i))) 0

end Sys2Proof.Machine
end

