-- ==== Sys2Proof/Machine/RegTable.lean ====
section
/-! DEFINITION. The register table of spec/ (chapters 03 and 05–23): for every block-specific register its place, its
fields, their access and their reset values; and what a register word reads as after reset. A reset value that
spec/ takes from the fuses, an image or a strap is 0 here and is loaded by the commands that sense them. -/

namespace Sys2Proof.Machine

/-- The access kinds of spec/ (R64): read-only, read-write, read-write until locked, write-only, write-one-to-clear,
write-one-to-set. -/
inductive Acc where
  | ro | rw | rwl | wo | w1c | w1s
deriving DecidableEq, Repr

/-- One field row of a register table. -/
structure FieldRow where
  hi : Nat
  lo : Nat
  acc : Acc
  rst : Nat
deriving DecidableEq, Repr

/-- An array dimension: how many elements, and how many bytes apart. -/
structure Dim where
  count : Nat
  stride : Nat
deriving DecidableEq, Repr

/-- One register row: first address, the dimension over pages and the two over offsets, its size in 32-bit words, its
fields. -/
structure RegRow where
  name : String
  base : Nat
  pages : Dim
  d1 : Dim
  d2 : Dim
  words : Nat
  fields : List FieldRow
deriving DecidableEq, Repr

def rowsDEV : List RegRow := [
  ⟨"DEV_TILE_PRESENT", 0x40, ⟨1, 0⟩, ⟨1, 0⟩, ⟨1, 0⟩, 1,
    [⟨31, 0, .ro, 0xffffffff⟩]⟩,
  ⟨"DEV_PCIE_WMASK", 0x44, ⟨1, 0⟩, ⟨1, 0⟩, ⟨1, 0⟩, 1,
    [⟨7, 1, .w1c, 0x7f⟩]⟩,
  ⟨"DEV_ACCERR", 0x48, ⟨1, 0⟩, ⟨1, 0⟩, ⟨1, 0⟩, 1,
    [⟨31, 24, .ro, 0x0⟩, ⟨23, 16, .ro, 0x0⟩, ⟨15, 8, .ro, 0x0⟩, ⟨6, 6, .ro, 0x0⟩, ⟨5, 5, .ro, 0x0⟩, ⟨4, 4, .ro, 0x0⟩, ⟨3, 3, .ro, 0x0⟩, ⟨2, 2, .ro, 0x0⟩, ⟨1, 1, .ro, 0x0⟩, ⟨0, 0, .ro, 0x0⟩]⟩,
  ⟨"DEV_ACCERR_CLR", 0x4c, ⟨1, 0⟩, ⟨1, 0⟩, ⟨1, 0⟩, 1,
    [⟨0, 0, .wo, 0x0⟩]⟩,
  ⟨"DEV_MODE", 0x1040, ⟨1, 0⟩, ⟨1, 0⟩, ⟨1, 0⟩, 1,
    [⟨31, 28, .ro, 0x1⟩, ⟨8, 8, .ro, 0x0⟩, ⟨7, 7, .ro, 0x0⟩, ⟨3, 3, .ro, 0x0⟩, ⟨2, 2, .ro, 0x0⟩, ⟨1, 1, .ro, 0x0⟩, ⟨0, 0, .ro, 0x0⟩]⟩,
  ⟨"DEV_MODECMD", 0x1044, ⟨1, 0⟩, ⟨1, 0⟩, ⟨1, 0⟩, 1,
    [⟨31, 28, .wo, 0x0⟩]⟩,
  ⟨"DEV_HOSTLOSS", 0x1048, ⟨1, 0⟩, ⟨1, 0⟩, ⟨1, 0⟩, 1,
    [⟨31, 31, .rwl, 0x1⟩, ⟨23, 16, .rwl, 0xa⟩, ⟨14, 0, .rwl, 0x7d0⟩]⟩,
  ⟨"DEV_GRACE", 0x104c, ⟨1, 0⟩, ⟨1, 0⟩, ⟨1, 0⟩, 1,
    [⟨31, 31, .ro, 0x0⟩, ⟨14, 0, .ro, 0x0⟩]⟩,
  ⟨"DEV_OP", 0x1050, ⟨1, 0⟩, ⟨1, 0⟩, ⟨1, 0⟩, 1,
    [⟨31, 24, .ro, 0x0⟩, ⟨23, 16, .ro, 0x0⟩, ⟨0, 0, .ro, 0x0⟩]⟩,
  ⟨"DEV_CMDP_CNT", 0x1054, ⟨1, 0⟩, ⟨1, 0⟩, ⟨1, 0⟩, 1,
    [⟨31, 16, .ro, 0x0⟩, ⟨15, 8, .ro, 0x0⟩, ⟨7, 0, .ro, 0x0⟩]⟩,
  ⟨"DEV_HOST_HB", 0x2040, ⟨1, 0⟩, ⟨1, 0⟩, ⟨1, 0⟩, 1,
    [⟨0, 0, .wo, 0x0⟩]⟩,
  ⟨"DEV_RESULT", 0x4040, ⟨2, 0x1000⟩, ⟨1008, 0x4⟩, ⟨1, 0⟩, 1,
    [⟨31, 0, .ro, 0x0⟩]⟩]

def rowsTILE : List RegRow := [
  ⟨"TILE_STATUS", 0x100040, ⟨32, 0x10000⟩, ⟨1, 0⟩, ⟨1, 0⟩, 1,
    [⟨27, 16, .ro, 0x0⟩, ⟨10, 8, .ro, 0x0⟩, ⟨3, 3, .ro, 0x0⟩, ⟨2, 2, .ro, 0x0⟩, ⟨1, 1, .ro, 0x0⟩, ⟨0, 0, .ro, 0x0⟩]⟩,
  ⟨"TILE_FENCE", 0x100044, ⟨32, 0x10000⟩, ⟨1, 0⟩, ⟨1, 0⟩, 1,
    [⟨9, 8, .ro, 0x0⟩, ⟨5, 4, .ro, 0x0⟩, ⟨1, 1, .ro, 0x0⟩, ⟨0, 0, .ro, 0x0⟩]⟩,
  ⟨"TILE_CKCNT", 0x100048, ⟨32, 0x10000⟩, ⟨1, 0⟩, ⟨1, 0⟩, 1,
    [⟨31, 16, .ro, 0x0⟩, ⟨15, 0, .ro, 0x0⟩]⟩,
  ⟨"TILE_FW_VER", 0x10004c, ⟨32, 0x10000⟩, ⟨1, 0⟩, ⟨1, 0⟩, 1,
    [⟨31, 16, .ro, 0x0⟩, ⟨15, 0, .ro, 0x0⟩]⟩,
  ⟨"TILE_FREQ", 0x101040, ⟨32, 0x10000⟩, ⟨1, 0⟩, ⟨1, 0⟩, 1,
    [⟨23, 16, .ro, 0x0⟩, ⟨15, 8, .ro, 0x0⟩, ⟨7, 0, .ro, 0x2c⟩]⟩,
  ⟨"TILE_FMEAS", 0x101044, ⟨32, 0x10000⟩, ⟨1, 0⟩, ⟨1, 0⟩, 1,
    [⟨15, 0, .ro, 0x0⟩]⟩,
  ⟨"TILE_TEMP", 0x101048, ⟨32, 0x10000⟩, ⟨1, 0⟩, ⟨1, 0⟩, 1,
    [⟨15, 0, .ro, 0x0⟩]⟩,
  ⟨"TILE_ISSUE", 0x10104c, ⟨32, 0x10000⟩, ⟨1, 0⟩, ⟨1, 0⟩, 1,
    [⟨14, 8, .ro, 0x40⟩, ⟨6, 0, .ro, 0x40⟩]⟩,
  ⟨"TILE_ECC_CNT", 0x102040, ⟨32, 0x10000⟩, ⟨1, 0⟩, ⟨1, 0⟩, 1,
    [⟨31, 24, .ro, 0x0⟩, ⟨23, 16, .ro, 0x0⟩, ⟨15, 8, .ro, 0x0⟩, ⟨7, 0, .ro, 0x0⟩]⟩,
  ⟨"TILE_SCRUB", 0x102044, ⟨32, 0x10000⟩, ⟨1, 0⟩, ⟨1, 0⟩, 1,
    [⟨31, 16, .ro, 0x0⟩]⟩,
  ⟨"TILE_OUTSTANDING", 0x102048, ⟨32, 0x10000⟩, ⟨1, 0⟩, ⟨1, 0⟩, 1,
    [⟨24, 16, .ro, 0x0⟩, ⟨8, 0, .ro, 0x0⟩]⟩,
  ⟨"TILE_CNT_CLR", 0x103060, ⟨32, 0x10000⟩, ⟨1, 0⟩, ⟨1, 0⟩, 1,
    [⟨2, 2, .wo, 0x0⟩, ⟨1, 1, .wo, 0x0⟩, ⟨0, 0, .wo, 0x0⟩]⟩,
  ⟨"TILE_CYC_MAT", 0x103040, ⟨32, 0x10000⟩, ⟨1, 0⟩, ⟨1, 0⟩, 2,
    [⟨63, 0, .ro, 0x0⟩]⟩,
  ⟨"TILE_CYC_VEC", 0x103048, ⟨32, 0x10000⟩, ⟨1, 0⟩, ⟨1, 0⟩, 2,
    [⟨63, 0, .ro, 0x0⟩]⟩,
  ⟨"TILE_CYC_AE", 0x103050, ⟨32, 0x10000⟩, ⟨1, 0⟩, ⟨1, 0⟩, 2,
    [⟨63, 0, .ro, 0x0⟩]⟩,
  ⟨"TILE_CYC_ALL", 0x103058, ⟨32, 0x10000⟩, ⟨1, 0⟩, ⟨1, 0⟩, 2,
    [⟨63, 0, .ro, 0x0⟩]⟩]

def rowsSYN : List RegRow := [
  ⟨"SYN_ADD", 0xc0040, ⟨64, 0x1000⟩, ⟨1, 0⟩, ⟨1, 0⟩, 2,
    [⟨63, 32, .wo, 0x0⟩, ⟨7, 0, .wo, 0x0⟩]⟩,
  ⟨"SYN_DROPS", 0xc0048, ⟨64, 0x1000⟩, ⟨1, 0⟩, ⟨1, 0⟩, 1,
    [⟨15, 0, .ro, 0x0⟩]⟩,
  ⟨"SYN_DROPS_CLR", 0xc004c, ⟨64, 0x1000⟩, ⟨1, 0⟩, ⟨1, 0⟩, 1,
    [⟨0, 0, .wo, 0x0⟩]⟩,
  ⟨"SYN_STATE", 0xc0400, ⟨64, 0x1000⟩, ⟨256, 0x4⟩, ⟨1, 0⟩, 1,
    [⟨31, 30, .rw, 0x0⟩, ⟨27, 16, .rw, 0x0⟩]⟩,
  ⟨"SYN_VALUE", 0xc0800, ⟨64, 0x1000⟩, ⟨256, 0x8⟩, ⟨1, 0⟩, 2,
    [⟨63, 0, .rw, 0x0⟩]⟩]

def rowsKVP : List RegRow := [
  ⟨"KVP_PT_BASE", 0x338040, ⟨1, 0⟩, ⟨1, 0⟩, ⟨1, 0⟩, 2,
    [⟨47, 24, .rwl, 0x0⟩]⟩,
  ⟨"KVP_FRAME", 0x338048, ⟨1, 0⟩, ⟨1, 0⟩, ⟨1, 0⟩, 1,
    [⟨15, 14, .rwl, 0x2⟩, ⟨13, 12, .rwl, 0x2⟩, ⟨11, 10, .rwl, 0x2⟩, ⟨9, 8, .rwl, 0x2⟩, ⟨7, 6, .rwl, 0x2⟩, ⟨5, 4, .rwl, 0x2⟩, ⟨3, 2, .rwl, 0x2⟩, ⟨1, 0, .rwl, 0x2⟩]⟩,
  ⟨"KVP_FL_BASE", 0x338080, ⟨8, 0x1000⟩, ⟨3, 0x20⟩, ⟨1, 0⟩, 2,
    [⟨47, 2, .rwl, 0x0⟩]⟩,
  ⟨"KVP_FL_CAP", 0x338088, ⟨8, 0x1000⟩, ⟨3, 0x20⟩, ⟨1, 0⟩, 1,
    [⟨20, 0, .rwl, 0x0⟩]⟩,
  ⟨"KVP_FL_COUNT", 0x33808c, ⟨8, 0x1000⟩, ⟨3, 0x20⟩, ⟨1, 0⟩, 1,
    [⟨20, 0, .ro, 0x0⟩]⟩,
  ⟨"KVP_FL_POP", 0x33809c, ⟨8, 0x1000⟩, ⟨3, 0x20⟩, ⟨1, 0⟩, 1,
    [⟨20, 0, .ro, 0x0⟩]⟩,
  ⟨"KVP_FL_PUSH", 0x338090, ⟨8, 0x1000⟩, ⟨3, 0x20⟩, ⟨1, 0⟩, 2,
    [⟨53, 20, .wo, 0x0⟩, ⟨19, 0, .wo, 0x0⟩]⟩,
  ⟨"KVP_FL_LOW", 0x338098, ⟨8, 0x1000⟩, ⟨3, 0x20⟩, ⟨1, 0⟩, 1,
    [⟨20, 0, .rw, 0x0⟩]⟩,
  ⟨"KVP_CNT", 0x3380e0, ⟨8, 0x1000⟩, ⟨1, 0⟩, ⟨1, 0⟩, 1,
    [⟨31, 16, .ro, 0x0⟩, ⟨15, 8, .ro, 0x0⟩, ⟨7, 0, .ro, 0x0⟩]⟩,
  ⟨"KVP_CNT_CLR", 0x3380e4, ⟨8, 0x1000⟩, ⟨1, 0⟩, ⟨1, 0⟩, 1,
    [⟨0, 0, .wo, 0x0⟩]⟩]

def rowsSTM : List RegRow := [
  ⟨"STM_CTRL", 0x340800, ⟨64, 0x1000⟩, ⟨64, 0x20⟩, ⟨1, 0⟩, 1,
    [⟨31, 31, .rw, 0x0⟩, ⟨29, 28, .rw, 0x0⟩, ⟨27, 24, .rw, 0x0⟩, ⟨23, 20, .rw, 0x0⟩, ⟨13, 8, .rw, 0x1⟩, ⟨0, 0, .rw, 0x0⟩]⟩,
  ⟨"STM_HOME", 0x340804, ⟨64, 0x1000⟩, ⟨64, 0x20⟩, ⟨1, 0⟩, 1,
    [⟨20, 16, .ro, 0x0⟩, ⟨11, 11, .ro, 0x0⟩, ⟨10, 8, .rw, 0x0⟩, ⟨6, 0, .rw, 0x0⟩]⟩,
  ⟨"STM_PTR", 0x340808, ⟨64, 0x1000⟩, ⟨64, 0x20⟩, ⟨1, 0⟩, 2,
    [⟨47, 6, .rw, 0x0⟩]⟩,
  ⟨"STM_GEN", 0x340810, ⟨64, 0x1000⟩, ⟨64, 0x20⟩, ⟨1, 0⟩, 1,
    [⟨31, 0, .ro, 0x0⟩]⟩,
  ⟨"STM_STAT", 0x340814, ⟨64, 0x1000⟩, ⟨64, 0x20⟩, ⟨1, 0⟩, 1,
    [⟨31, 16, .ro, 0xffff⟩, ⟨15, 8, .ro, 0x0⟩, ⟨2, 0, .ro, 0x0⟩]⟩,
  ⟨"STM_OP", 0x340818, ⟨64, 0x1000⟩, ⟨64, 0x20⟩, ⟨1, 0⟩, 1,
    [⟨1, 0, .wo, 0x0⟩]⟩,
  ⟨"STM_OWNER", 0x34081c, ⟨64, 0x1000⟩, ⟨64, 0x20⟩, ⟨1, 0⟩, 1,
    [⟨11, 0, .rw, 0x0⟩]⟩,
  ⟨"STM_CNT", 0x340040, ⟨1, 0⟩, ⟨1, 0⟩, ⟨1, 0⟩, 1,
    [⟨31, 16, .ro, 0x0⟩, ⟨15, 8, .ro, 0x0⟩, ⟨7, 0, .ro, 0x0⟩]⟩,
  ⟨"STM_CNT_CLR", 0x340044, ⟨1, 0⟩, ⟨1, 0⟩, ⟨1, 0⟩, 1,
    [⟨0, 0, .wo, 0x0⟩]⟩]

def rowsTIER0 : List RegRow := [
  ⟨"TIER_CFG", 0x330040, ⟨1, 0⟩, ⟨1, 0⟩, ⟨1, 0⟩, 1,
    [⟨1, 1, .ro, 0x0⟩, ⟨0, 0, .rwl, 0x0⟩]⟩,
  ⟨"TIER_SC_WAYS", 0x330044, ⟨1, 0⟩, ⟨1, 0⟩, ⟨1, 0⟩, 1,
    [⟨4, 0, .rwl, 0x0⟩]⟩,
  ⟨"TIER_SC_MASK", 0x330048, ⟨1, 0⟩, ⟨4, 0x4⟩, ⟨1, 0⟩, 1,
    [⟨31, 16, .rwl, 0xffff⟩, ⟨15, 0, .rwl, 0xffff⟩]⟩,
  ⟨"TIER_OBJ_BASE", 0x330058, ⟨1, 0⟩, ⟨1, 0⟩, ⟨1, 0⟩, 2,
    [⟨47, 20, .rwl, 0x0⟩]⟩,
  ⟨"TIER_OBJ_APPLY", 0x330060, ⟨1, 0⟩, ⟨1, 0⟩, ⟨1, 0⟩, 1,
    [⟨15, 0, .wo, 0x0⟩]⟩,
  ⟨"TIER_OBJ_STAT", 0x330064, ⟨1, 0⟩, ⟨1, 0⟩, ⟨1, 0⟩, 1,
    [⟨31, 16, .ro, 0x0⟩, ⟨3, 0, .ro, 0x0⟩]⟩,
  ⟨"TIER_HEAT", 0x330068, ⟨1, 0⟩, ⟨1, 0⟩, ⟨1, 0⟩, 1,
    [⟨31, 24, .rw, 0x8⟩, ⟨23, 16, .rw, 0xa⟩, ⟨15, 0, .rw, 0x100⟩]⟩,
  ⟨"TIER_MIG", 0x33006c, ⟨1, 0⟩, ⟨1, 0⟩, ⟨1, 0⟩, 1,
    [⟨31, 16, .rw, 0x40⟩, ⟨6, 4, .rw, 0x7⟩, ⟨3, 0, .rw, 0x2⟩]⟩,
  ⟨"TIER_MIG_CNT", 0x330070, ⟨1, 0⟩, ⟨1, 0⟩, ⟨1, 0⟩, 1,
    [⟨31, 16, .ro, 0x0⟩, ⟨15, 0, .ro, 0x0⟩]⟩,
  ⟨"TIER_PMAP_IDX", 0x330074, ⟨1, 0⟩, ⟨1, 0⟩, ⟨1, 0⟩, 1,
    [⟨16, 0, .rw, 0x0⟩]⟩,
  ⟨"TIER_PMAP_DATA", 0x330078, ⟨1, 0⟩, ⟨1, 0⟩, ⟨1, 0⟩, 2,
    [⟨63, 48, .ro, 0x0⟩, ⟨47, 32, .ro, 0x0⟩, ⟨31, 30, .ro, 0x0⟩, ⟨29, 29, .ro, 0x0⟩, ⟨28, 28, .ro, 0x0⟩, ⟨16, 0, .ro, 0x0⟩]⟩,
  ⟨"TIER_LEND_BASE", 0x330080, ⟨1, 0⟩, ⟨1, 0⟩, ⟨1, 0⟩, 2,
    [⟨47, 21, .rwl, 0x0⟩]⟩,
  ⟨"TIER_LEND_SIZE", 0x330088, ⟨1, 0⟩, ⟨1, 0⟩, ⟨1, 0⟩, 1,
    [⟨16, 0, .rwl, 0x0⟩]⟩,
  ⟨"TIER_LEND_CTRL", 0x33008c, ⟨1, 0⟩, ⟨1, 0⟩, ⟨1, 0⟩, 1,
    [⟨31, 31, .rwl, 0x0⟩, ⟨6, 4, .rwl, 0x7⟩]⟩,
  ⟨"TIER_RGN_BASE", 0x331800, ⟨1, 0⟩, ⟨4, 0x10⟩, ⟨1, 0⟩, 2,
    [⟨63, 63, .ro, 0x0⟩, ⟨47, 16, .ro, 0x0⟩]⟩,
  ⟨"TIER_RGN_LIM", 0x331808, ⟨1, 0⟩, ⟨4, 0x10⟩, ⟨1, 0⟩, 1,
    [⟨31, 0, .ro, 0x0⟩]⟩,
  ⟨"TIER_RGN_MASK", 0x33180c, ⟨1, 0⟩, ⟨4, 0x10⟩, ⟨1, 0⟩, 1,
    [⟨15, 8, .ro, 0x0⟩, ⟨7, 0, .ro, 0x0⟩]⟩,
  ⟨"TIER_RGN_BASE", 0x331840, ⟨1, 0⟩, ⟨28, 0x10⟩, ⟨1, 0⟩, 2,
    [⟨63, 63, .rwl, 0x0⟩, ⟨47, 16, .rwl, 0x0⟩]⟩,
  ⟨"TIER_RGN_LIM", 0x331848, ⟨1, 0⟩, ⟨28, 0x10⟩, ⟨1, 0⟩, 1,
    [⟨31, 0, .rwl, 0x0⟩]⟩,
  ⟨"TIER_RGN_MASK", 0x33184c, ⟨1, 0⟩, ⟨28, 0x10⟩, ⟨1, 0⟩, 1,
    [⟨15, 8, .rwl, 0x0⟩, ⟨7, 0, .rwl, 0x0⟩]⟩,
  ⟨"TIER_WW_DESC", 0x332800, ⟨1, 0⟩, ⟨16, 0x20⟩, ⟨1, 0⟩, 2,
    [⟨47, 6, .rw, 0x0⟩]⟩,
  ⟨"TIER_WW_CTRL", 0x332808, ⟨1, 0⟩, ⟨16, 0x20⟩, ⟨1, 0⟩, 1,
    [⟨1, 1, .wo, 0x0⟩, ⟨0, 0, .wo, 0x0⟩]⟩,
  ⟨"TIER_WW_STAT", 0x33280c, ⟨1, 0⟩, ⟨16, 0x20⟩, ⟨1, 0⟩, 1,
    [⟨31, 28, .ro, 0x0⟩, ⟨27, 24, .ro, 0x0⟩]⟩]

def rowsTIER1 : List RegRow := [
  ⟨"TIER_WW_DONE", 0x332810, ⟨1, 0⟩, ⟨16, 0x20⟩, ⟨1, 0⟩, 2,
    [⟨63, 0, .ro, 0x0⟩]⟩]

def rowsMEM : List RegRow := [
  ⟨"MEM_PORT_STAT", 0x300040, ⟨12, 0x4000⟩, ⟨1, 0⟩, ⟨1, 0⟩, 1,
    [⟨31, 31, .ro, 0x0⟩, ⟨15, 0, .ro, 0x0⟩]⟩,
  ⟨"MEM_BKT", 0x300100, ⟨12, 0x4000⟩, ⟨8, 0x8⟩, ⟨1, 0⟩, 2,
    [⟨47, 32, .rwl, 0x40⟩, ⟨31, 16, .rwl, 0xffff⟩, ⟨15, 0, .rwl, 0x0⟩]⟩,
  ⟨"MEM_SERVED", 0x300140, ⟨12, 0x4000⟩, ⟨8, 0x8⟩, ⟨1, 0⟩, 2,
    [⟨63, 0, .ro, 0x0⟩]⟩]

def rowsSCH : List RegRow := [
  ⟨"SCH_CFG", 0x80048, ⟨1, 0⟩, ⟨1, 0⟩, ⟨1, 0⟩, 1,
    [⟨31, 24, .rwl, 0xf0⟩, ⟨15, 8, .rwl, 0x32⟩, ⟨7, 0, .rwl, 0xa⟩]⟩,
  ⟨"SCH_WIN", 0x81040, ⟨1, 0⟩, ⟨16, 0x8⟩, ⟨1, 0⟩, 2,
    [⟨63, 32, .rwl, 0x0⟩, ⟨31, 31, .rwl, 0x0⟩, ⟨26, 24, .rwl, 0x0⟩, ⟨9, 0, .rwl, 0x0⟩]⟩,
  ⟨"SCH_HS_CFG", 0x82040, ⟨1, 0⟩, ⟨1, 0⟩, ⟨1, 0⟩, 1,
    [⟨31, 31, .rwl, 0x0⟩, ⟨26, 16, .rwl, 0x0⟩, ⟨10, 0, .rwl, 0x0⟩]⟩,
  ⟨"SCH_MODEL_BASE", 0x82048, ⟨1, 0⟩, ⟨1, 0⟩, ⟨1, 0⟩, 2,
    [⟨47, 13, .rwl, 0x0⟩]⟩,
  ⟨"SCH_MODEL_IDX", 0x82050, ⟨1, 0⟩, ⟨1, 0⟩, ⟨1, 0⟩, 1,
    [⟨7, 0, .rw, 0x0⟩]⟩,
  ⟨"SCH_MODEL_STAT", 0x82054, ⟨1, 0⟩, ⟨1, 0⟩, ⟨1, 0⟩, 1,
    [⟨31, 31, .ro, 0x0⟩, ⟨30, 30, .ro, 0x0⟩, ⟨23, 16, .ro, 0x0⟩, ⟨15, 0, .ro, 0x0⟩]⟩,
  ⟨"SCH_HS_CNT", 0x82058, ⟨1, 0⟩, ⟨1, 0⟩, ⟨1, 0⟩, 1,
    [⟨31, 16, .ro, 0x0⟩, ⟨15, 8, .ro, 0x0⟩, ⟨7, 0, .ro, 0x0⟩]⟩,
  ⟨"SCH_HS_CNT_CLR", 0x8205c, ⟨1, 0⟩, ⟨1, 0⟩, ⟨1, 0⟩, 1,
    [⟨0, 0, .wo, 0x0⟩]⟩,
  ⟨"SCH_TILE_CMD", 0x83040, ⟨1, 0⟩, ⟨1, 0⟩, ⟨1, 0⟩, 1,
    [⟨31, 30, .wo, 0x0⟩, ⟨4, 0, .wo, 0x0⟩]⟩,
  ⟨"SCH_TILE_STAT", 0x83080, ⟨1, 0⟩, ⟨32, 0x4⟩, ⟨1, 0⟩, 1,
    [⟨31, 31, .ro, 0x0⟩, ⟨28, 28, .ro, 0x0⟩, ⟨27, 16, .ro, 0x0⟩, ⟨15, 8, .ro, 0x0⟩, ⟨5, 0, .ro, 0x0⟩]⟩,
  ⟨"SCH_CMD", 0x88040, ⟨8, 0x1000⟩, ⟨1, 0⟩, ⟨1, 0⟩, 1,
    [⟨31, 28, .wo, 0x0⟩, ⟨11, 0, .wo, 0x0⟩]⟩,
  ⟨"SCH_RES", 0x88044, ⟨8, 0x1000⟩, ⟨1, 0⟩, ⟨1, 0⟩, 1,
    [⟨31, 28, .ro, 0x0⟩, ⟨19, 16, .ro, 0x0⟩, ⟨11, 0, .ro, 0x0⟩]⟩,
  ⟨"SCH_STAT", 0x8804c, ⟨8, 0x1000⟩, ⟨1, 0⟩, ⟨1, 0⟩, 1,
    [⟨31, 29, .ro, 0x0⟩, ⟨28, 28, .ro, 0x0⟩, ⟨27, 27, .ro, 0x0⟩, ⟨26, 22, .ro, 0x0⟩, ⟨21, 21, .ro, 0x0⟩, ⟨15, 8, .ro, 0x0⟩]⟩,
  ⟨"SCH_CTX_BASE", 0x80040, ⟨1, 0⟩, ⟨1, 0⟩, ⟨1, 0⟩, 2,
    [⟨47, 18, .rwl, 0x0⟩]⟩,
  ⟨"SCH_ACCT_DUMP", 0x8004c, ⟨1, 0⟩, ⟨1, 0⟩, ⟨1, 0⟩, 1,
    [⟨0, 0, .wo, 0x0⟩]⟩,
  ⟨"SCH_ACCT_BASE", 0x80050, ⟨1, 0⟩, ⟨1, 0⟩, ⟨1, 0⟩, 2,
    [⟨47, 17, .rwl, 0x0⟩]⟩,
  ⟨"SCH_IDX", 0x88048, ⟨8, 0x1000⟩, ⟨1, 0⟩, ⟨1, 0⟩, 1,
    [⟨11, 0, .rw, 0x0⟩]⟩,
  ⟨"SCH_ACCT", 0x88050, ⟨8, 0x1000⟩, ⟨4, 0x8⟩, ⟨1, 0⟩, 2,
    [⟨63, 0, .ro, 0x0⟩]⟩,
  ⟨"SCH_VT", 0x88070, ⟨8, 0x1000⟩, ⟨1, 0⟩, ⟨1, 0⟩, 2,
    [⟨63, 0, .ro, 0x0⟩]⟩]

def rowsING : List RegRow := [
  ⟨"ING_SEED", 0x380040, ⟨1, 0⟩, ⟨1, 0⟩, ⟨1, 0⟩, 2,
    [⟨63, 0, .rwl, 0x0⟩]⟩,
  ⟨"ING_STOPPED", 0x380048, ⟨1, 0⟩, ⟨1, 0⟩, ⟨1, 0⟩, 2,
    [⟨63, 0, .ro, 0x0⟩]⟩,
  ⟨"ING_ABSENT", 0x380050, ⟨1, 0⟩, ⟨1, 0⟩, ⟨1, 0⟩, 2,
    [⟨63, 0, .ro, 0x0⟩]⟩,
  ⟨"ING_CMDP_MSG", 0x380100, ⟨1, 0⟩, ⟨16, 0x4⟩, ⟨1, 0⟩, 1,
    [⟨31, 0, .wo, 0x0⟩]⟩,
  ⟨"ING_S_CTRL", 0x381400, ⟨8, 0x1000⟩, ⟨8, 0x80⟩, ⟨1, 0⟩, 1,
    [⟨31, 31, .rw, 0x0⟩, ⟨30, 30, .rw, 0x0⟩, ⟨27, 24, .rw, 0x0⟩, ⟨22, 16, .rw, 0x7f⟩, ⟨15, 8, .rw, 0x0⟩]⟩,
  ⟨"ING_S_SRC", 0x381404, ⟨8, 0x1000⟩, ⟨8, 0x80⟩, ⟨1, 0⟩, 1,
    [⟨31, 28, .rw, 0x0⟩, ⟨27, 0, .rw, 0x0⟩]⟩,
  ⟨"ING_S_MATCH", 0x381408, ⟨8, 0x1000⟩, ⟨8, 0x80⟩, ⟨1, 0⟩, 1,
    [⟨31, 31, .rw, 0x0⟩, ⟨28, 0, .rw, 0x0⟩]⟩,
  ⟨"ING_S_TRIG", 0x38140c, ⟨8, 0x1000⟩, ⟨8, 0x80⟩, ⟨1, 0⟩, 1,
    [⟨31, 31, .rw, 0x0⟩, ⟨23, 8, .rw, 0x0⟩, ⟨4, 0, .rw, 0x0⟩]⟩,
  ⟨"ING_S_RING", 0x381410, ⟨8, 0x1000⟩, ⟨8, 0x80⟩, ⟨1, 0⟩, 2,
    [⟨47, 6, .rw, 0x0⟩]⟩,
  ⟨"ING_S_SLOT", 0x381418, ⟨8, 0x1000⟩, ⟨8, 0x80⟩, ⟨1, 0⟩, 1,
    [⟨31, 27, .rw, 0x1⟩, ⟨19, 0, .rw, 0x1⟩]⟩,
  ⟨"ING_S_OBJ1", 0x38141c, ⟨8, 0x1000⟩, ⟨8, 0x80⟩, ⟨1, 0⟩, 1,
    [⟨29, 16, .rw, 0x0⟩, ⟨13, 0, .rw, 0x0⟩]⟩,
  ⟨"ING_S_OBJ2", 0x381420, ⟨8, 0x1000⟩, ⟨8, 0x80⟩, ⟨1, 0⟩, 1,
    [⟨29, 16, .rw, 0x0⟩, ⟨13, 0, .rw, 0x0⟩]⟩,
  ⟨"ING_S_IN", 0x381428, ⟨8, 0x1000⟩, ⟨8, 0x80⟩, ⟨1, 0⟩, 2,
    [⟨47, 6, .rw, 0x0⟩]⟩,
  ⟨"ING_S_FRAME", 0x381430, ⟨8, 0x1000⟩, ⟨8, 0x80⟩, ⟨1, 0⟩, 1,
    [⟨31, 16, .rw, 0x0⟩, ⟨15, 8, .rw, 0x0⟩, ⟨7, 6, .rw, 0x0⟩, ⟨5, 4, .rw, 0x0⟩, ⟨3, 0, .rw, 0x0⟩]⟩,
  ⟨"ING_S_LEN", 0x381434, ⟨8, 0x1000⟩, ⟨8, 0x80⟩, ⟨1, 0⟩, 1,
    [⟨31, 16, .rw, 0x0⟩, ⟨15, 0, .rw, 0x0⟩]⟩,
  ⟨"ING_S_SID", 0x381438, ⟨8, 0x1000⟩, ⟨8, 0x80⟩, ⟨1, 0⟩, 1,
    [⟨31, 0, .rw, 0x0⟩]⟩,
  ⟨"ING_S_STAT", 0x38143c, ⟨8, 0x1000⟩, ⟨8, 0x80⟩, ⟨1, 0⟩, 1,
    [⟨31, 30, .ro, 0x0⟩, ⟨29, 29, .ro, 0x0⟩, ⟨26, 24, .ro, 0x0⟩, ⟨15, 0, .ro, 0x0⟩]⟩,
  ⟨"ING_S_CNT", 0x381440, ⟨8, 0x1000⟩, ⟨8, 0x80⟩, ⟨1, 0⟩, 1,
    [⟨31, 16, .ro, 0x0⟩, ⟨15, 8, .ro, 0x0⟩, ⟨7, 0, .ro, 0x0⟩]⟩]

def rowsIFE : List RegRow := [
  ⟨"IFE_IN", 0x390040, ⟨32, 0x1000⟩, ⟨1, 0⟩, ⟨1, 0⟩, 1,
    [⟨31, 16, .rw, 0x0⟩, ⟨15, 0, .rw, 0x0⟩]⟩,
  ⟨"IFE_CFG", 0x390044, ⟨32, 0x1000⟩, ⟨1, 0⟩, ⟨1, 0⟩, 1,
    [⟨31, 26, .rw, 0x2b⟩, ⟨25, 24, .rw, 0x0⟩, ⟨23, 23, .rw, 0x0⟩, ⟨22, 22, .rw, 0x0⟩, ⟨21, 20, .rw, 0x0⟩, ⟨19, 16, .rw, 0x1⟩, ⟨13, 12, .rw, 0x3⟩, ⟨7, 0, .rw, 0x0⟩]⟩,
  ⟨"IFE_BL0", 0x390048, ⟨32, 0x1000⟩, ⟨1, 0⟩, ⟨1, 0⟩, 1,
    [⟨31, 16, .rw, 0x0⟩, ⟨15, 0, .rw, 0x0⟩]⟩,
  ⟨"IFE_BL1", 0x39004c, ⟨32, 0x1000⟩, ⟨1, 0⟩, ⟨1, 0⟩, 1,
    [⟨31, 16, .rw, 0x0⟩, ⟨15, 0, .rw, 0x0⟩]⟩,
  ⟨"IFE_WB0", 0x390050, ⟨32, 0x1000⟩, ⟨1, 0⟩, ⟨1, 0⟩, 1,
    [⟨31, 16, .rw, 0x1000⟩, ⟨15, 0, .rw, 0x1000⟩]⟩,
  ⟨"IFE_WB1", 0x390054, ⟨32, 0x1000⟩, ⟨1, 0⟩, ⟨1, 0⟩, 1,
    [⟨31, 16, .rw, 0x1000⟩, ⟨15, 0, .rw, 0x1000⟩]⟩,
  ⟨"IFE_CROP0", 0x390058, ⟨32, 0x1000⟩, ⟨1, 0⟩, ⟨1, 0⟩, 1,
    [⟨31, 16, .rw, 0x0⟩, ⟨15, 0, .rw, 0x0⟩]⟩,
  ⟨"IFE_CROP1", 0x39005c, ⟨32, 0x1000⟩, ⟨1, 0⟩, ⟨1, 0⟩, 1,
    [⟨31, 16, .rw, 0x0⟩, ⟨15, 0, .rw, 0x0⟩]⟩,
  ⟨"IFE_OUT", 0x390060, ⟨32, 0x1000⟩, ⟨1, 0⟩, ⟨1, 0⟩, 1,
    [⟨31, 16, .rw, 0x0⟩, ⟨15, 0, .rw, 0x0⟩]⟩,
  ⟨"IFE_GJIT", 0x390064, ⟨32, 0x1000⟩, ⟨1, 0⟩, ⟨1, 0⟩, 1,
    [⟨31, 0, .rw, 0x0⟩]⟩,
  ⟨"IFE_CCM", 0x390080, ⟨32, 0x1000⟩, ⟨12, 0x4⟩, ⟨1, 0⟩, 1,
    [⟨15, 0, .rw, 0x0⟩]⟩,
  ⟨"IFE_NORM", 0x3900c0, ⟨32, 0x1000⟩, ⟨3, 0x8⟩, ⟨1, 0⟩, 2,
    [⟨63, 32, .rw, 0x0⟩, ⟨31, 0, .rw, 0x3f800000⟩]⟩,
  ⟨"IFE_CURVE", 0x390800, ⟨32, 0x1000⟩, ⟨257, 0x4⟩, ⟨1, 0⟩, 1,
    [⟨15, 0, .rw, 0x0⟩]⟩]

def rowsPK : List RegRow := [
  ⟨"PK_LIST", 0x3b0040, ⟨8, 0x1000⟩, ⟨1, 0⟩, ⟨1, 0⟩, 2,
    [⟨47, 4, .rw, 0x0⟩]⟩,
  ⟨"PK_OUT", 0x3b0048, ⟨8, 0x1000⟩, ⟨1, 0⟩, ⟨1, 0⟩, 2,
    [⟨47, 6, .rw, 0x0⟩]⟩,
  ⟨"PK_META", 0x3b0050, ⟨8, 0x1000⟩, ⟨1, 0⟩, ⟨1, 0⟩, 2,
    [⟨47, 6, .rw, 0x0⟩]⟩,
  ⟨"PK_CFG", 0x3b0058, ⟨8, 0x1000⟩, ⟨1, 0⟩, ⟨1, 0⟩, 1,
    [⟨31, 20, .rw, 0x800⟩, ⟨19, 18, .rw, 0x2⟩, ⟨16, 16, .rw, 0x0⟩, ⟨15, 0, .rw, 0x0⟩]⟩,
  ⟨"PK_OBJ", 0x3b005c, ⟨8, 0x1000⟩, ⟨1, 0⟩, ⟨1, 0⟩, 1,
    [⟨29, 16, .rw, 0x0⟩, ⟨13, 0, .rw, 0x0⟩]⟩,
  ⟨"PK_CTRL", 0x3b0060, ⟨8, 0x1000⟩, ⟨1, 0⟩, ⟨1, 0⟩, 1,
    [⟨1, 1, .wo, 0x0⟩, ⟨0, 0, .wo, 0x0⟩]⟩,
  ⟨"PK_STAT", 0x3b0064, ⟨8, 0x1000⟩, ⟨1, 0⟩, ⟨1, 0⟩, 1,
    [⟨31, 30, .ro, 0x0⟩, ⟨29, 28, .ro, 0x0⟩, ⟨15, 0, .ro, 0x0⟩]⟩]

def rowsAGT0 : List RegRow := [
  ⟨"AGT_CFG", 0x3c0040, ⟨1, 0⟩, ⟨1, 0⟩, ⟨1, 0⟩, 1,
    [⟨31, 24, .rwl, 0x78⟩, ⟨23, 16, .rwl, 0x64⟩, ⟨15, 8, .rwl, 0x4⟩]⟩,
  ⟨"AGT_TRK", 0x3c0044, ⟨1, 0⟩, ⟨1, 0⟩, ⟨1, 0⟩, 1,
    [⟨31, 24, .rwl, 0x3⟩, ⟨23, 16, .rwl, 0x5⟩, ⟨15, 0, .rwl, 0xc8⟩]⟩,
  ⟨"AGT_BIRTH", 0x3c0048, ⟨1, 0⟩, ⟨1, 0⟩, ⟨1, 0⟩, 1,
    [⟨15, 0, .rwl, 0x8000⟩]⟩,
  ⟨"AGT_EPOCH", 0x3c004c, ⟨1, 0⟩, ⟨1, 0⟩, ⟨1, 0⟩, 1,
    [⟨31, 0, .ro, 0x0⟩]⟩,
  ⟨"AGT_Q", 0x3c0050, ⟨1, 0⟩, ⟨1, 0⟩, ⟨1, 0⟩, 1,
    [⟨16, 0, .ro, 0x0⟩]⟩,
  ⟨"AGT_CKPT_BASE", 0x3c0058, ⟨1, 0⟩, ⟨1, 0⟩, ⟨1, 0⟩, 2,
    [⟨47, 20, .rwl, 0x0⟩]⟩,
  ⟨"AGT_CKPT_CFG", 0x3c0060, ⟨1, 0⟩, ⟨1, 0⟩, ⟨1, 0⟩, 1,
    [⟨7, 0, .rwl, 0x10⟩]⟩,
  ⟨"AGT_XF_BASE", 0x3c0068, ⟨1, 0⟩, ⟨1, 0⟩, ⟨1, 0⟩, 2,
    [⟨47, 15, .rwl, 0x0⟩]⟩,
  ⟨"AGT_XF_CTRL", 0x3c0070, ⟨1, 0⟩, ⟨1, 0⟩, ⟨1, 0⟩, 1,
    [⟨1, 1, .wo, 0x0⟩, ⟨0, 0, .wo, 0x0⟩]⟩,
  ⟨"AGT_XF_STAT", 0x3c0074, ⟨1, 0⟩, ⟨1, 0⟩, ⟨1, 0⟩, 1,
    [⟨31, 31, .ro, 0x0⟩, ⟨30, 30, .ro, 0x0⟩, ⟨16, 16, .ro, 0x0⟩, ⟨15, 0, .ro, 0x0⟩]⟩,
  ⟨"AGT_OUT_BASE", 0x3c0078, ⟨1, 0⟩, ⟨1, 0⟩, ⟨1, 0⟩, 2,
    [⟨47, 20, .rwl, 0x0⟩]⟩,
  ⟨"AGT_UMAT_BASE", 0x3c0080, ⟨1, 0⟩, ⟨1, 0⟩, ⟨1, 0⟩, 2,
    [⟨47, 12, .rwl, 0x0⟩]⟩,
  ⟨"AGT_CNT0", 0x3c0088, ⟨1, 0⟩, ⟨1, 0⟩, ⟨1, 0⟩, 1,
    [⟨31, 16, .ro, 0x0⟩, ⟨15, 8, .ro, 0x0⟩, ⟨7, 0, .ro, 0x0⟩]⟩,
  ⟨"AGT_CNT1", 0x3c008c, ⟨1, 0⟩, ⟨1, 0⟩, ⟨1, 0⟩, 1,
    [⟨31, 16, .ro, 0x0⟩, ⟨15, 0, .ro, 0x0⟩]⟩,
  ⟨"AGT_CNT2", 0x3c0090, ⟨1, 0⟩, ⟨1, 0⟩, ⟨1, 0⟩, 1,
    [⟨31, 16, .ro, 0x0⟩, ⟨15, 8, .ro, 0x0⟩, ⟨7, 0, .ro, 0x0⟩]⟩,
  ⟨"AGT_CNT3", 0x3c0094, ⟨1, 0⟩, ⟨1, 0⟩, ⟨1, 0⟩, 1,
    [⟨31, 16, .ro, 0x0⟩, ⟨15, 8, .ro, 0x0⟩, ⟨7, 0, .ro, 0x0⟩]⟩,
  ⟨"AGT_CNT_CLR", 0x3c0098, ⟨1, 0⟩, ⟨1, 0⟩, ⟨1, 0⟩, 1,
    [⟨0, 0, .wo, 0x0⟩]⟩,
  ⟨"AGT_QN", 0x3c00a0, ⟨1, 0⟩, ⟨8, 0x4⟩, ⟨1, 0⟩, 1,
    [⟨31, 0, .rwl, 0x3f800000⟩]⟩,
  ⟨"AGT_S_CFG", 0x3c1400, ⟨8, 0x1000⟩, ⟨8, 0x80⟩, ⟨1, 0⟩, 1,
    [⟨31, 31, .rw, 0x0⟩, ⟨30, 30, .rw, 0x0⟩, ⟨29, 29, .rw, 0x0⟩, ⟨28, 28, .rw, 0x0⟩, ⟨27, 20, .rw, 0x0⟩, ⟨19, 16, .rw, 0x0⟩, ⟨15, 12, .rw, 0x0⟩, ⟨11, 8, .rw, 0x0⟩, ⟨7, 4, .rw, 0x0⟩]⟩,
  ⟨"AGT_S_PERIOD", 0x3c1404, ⟨8, 0x1000⟩, ⟨8, 0x80⟩, ⟨1, 0⟩, 1,
    [⟨31, 0, .rw, 0x0⟩]⟩]

def rowsAGT1 : List RegRow := [
  ⟨"AGT_S_WIN", 0x3c1408, ⟨8, 0x1000⟩, ⟨8, 0x80⟩, ⟨1, 0⟩, 1,
    [⟨31, 0, .rw, 0x0⟩]⟩,
  ⟨"AGT_S_OFS", 0x3c140c, ⟨8, 0x1000⟩, ⟨8, 0x80⟩, ⟨1, 0⟩, 1,
    [⟨31, 0, .rw, 0x0⟩]⟩,
  ⟨"AGT_S_OVL", 0x3c1410, ⟨8, 0x1000⟩, ⟨8, 0x80⟩, ⟨1, 0⟩, 2,
    [⟨63, 0, .rw, 0x0⟩]⟩,
  ⟨"AGT_S_GATE", 0x3c1418, ⟨8, 0x1000⟩, ⟨8, 0x80⟩, ⟨1, 0⟩, 1,
    [⟨31, 0, .rw, 0x0⟩]⟩,
  ⟨"AGT_S_DEC", 0x3c1420, ⟨8, 0x1000⟩, ⟨8, 0x80⟩, ⟨4, 0x4⟩, 1,
    [⟨31, 26, .rw, 0x0⟩, ⟨25, 24, .rw, 0x3⟩, ⟨23, 16, .rw, 0x0⟩, ⟨15, 10, .rw, 0x0⟩, ⟨9, 8, .rw, 0x3⟩, ⟨7, 0, .rw, 0x0⟩]⟩,
  ⟨"AGT_S_R", 0x3c1430, ⟨8, 0x1000⟩, ⟨8, 0x80⟩, ⟨4, 0x4⟩, 1,
    [⟨31, 16, .rw, 0x3c00⟩, ⟨15, 0, .rw, 0x3c00⟩]⟩,
  ⟨"AGT_S_STAT", 0x3c1440, ⟨8, 0x1000⟩, ⟨8, 0x80⟩, ⟨1, 0⟩, 1,
    [⟨31, 30, .ro, 0x0⟩, ⟨22, 16, .ro, 0x0⟩, ⟨15, 0, .ro, 0x0⟩]⟩,
  ⟨"AGT_S_CNT", 0x3c1444, ⟨8, 0x1000⟩, ⟨8, 0x80⟩, ⟨1, 0⟩, 1,
    [⟨31, 16, .ro, 0x0⟩, ⟨15, 8, .ro, 0x0⟩, ⟨7, 0, .ro, 0x0⟩]⟩,
  ⟨"AGT_S_SKEW", 0x3c1448, ⟨8, 0x1000⟩, ⟨8, 0x80⟩, ⟨1, 0⟩, 1,
    [⟨31, 0, .ro, 0x0⟩]⟩,
  ⟨"AGT_R_BASE", 0x3c9400, ⟨1, 0⟩, ⟨16, 0x20⟩, ⟨1, 0⟩, 2,
    [⟨47, 7, .rw, 0x0⟩]⟩,
  ⟨"AGT_R_CFG", 0x3c9408, ⟨1, 0⟩, ⟨16, 0x20⟩, ⟨1, 0⟩, 1,
    [⟨31, 31, .rw, 0x0⟩, ⟨27, 24, .rw, 0x1⟩, ⟨13, 0, .rw, 0x0⟩]⟩,
  ⟨"AGT_R_OBJ", 0x3c940c, ⟨1, 0⟩, ⟨16, 0x20⟩, ⟨1, 0⟩, 1,
    [⟨13, 0, .rw, 0x0⟩]⟩,
  ⟨"AGT_R_STAT", 0x3c9410, ⟨1, 0⟩, ⟨16, 0x20⟩, ⟨1, 0⟩, 1,
    [⟨31, 0, .ro, 0x0⟩]⟩]

def rowsPUM0 : List RegRow := [
  ⟨"PUM_CFG", 0x400040, ⟨1, 0⟩, ⟨1, 0⟩, ⟨1, 0⟩, 1,
    [⟨31, 28, .rwl, 0x0⟩, ⟨26, 24, .rwl, 0x1⟩, ⟨23, 16, .rwl, 0xa⟩, ⟨4, 0, .rwl, 0xb⟩]⟩,
  ⟨"PUM_GRID_X", 0x400044, ⟨1, 0⟩, ⟨1, 0⟩, ⟨1, 0⟩, 1,
    [⟨31, 0, .rwl, 0x0⟩]⟩,
  ⟨"PUM_GRID_Y", 0x400048, ⟨1, 0⟩, ⟨1, 0⟩, ⟨1, 0⟩, 1,
    [⟨31, 0, .rwl, 0x0⟩]⟩,
  ⟨"PUM_GRID_Z", 0x40004c, ⟨1, 0⟩, ⟨1, 0⟩, ⟨1, 0⟩, 1,
    [⟨31, 0, .rwl, 0x0⟩]⟩,
  ⟨"PUM_TIMING", 0x400050, ⟨1, 0⟩, ⟨1, 0⟩, ⟨1, 0⟩, 1,
    [⟨31, 16, .rwl, 0x96⟩, ⟨7, 0, .rwl, 0x5⟩]⟩,
  ⟨"PUM_OBJ", 0x400054, ⟨1, 0⟩, ⟨1, 0⟩, ⟨1, 0⟩, 1,
    [⟨13, 0, .rwl, 0x0⟩]⟩,
  ⟨"PUM_FRAME", 0x400058, ⟨1, 0⟩, ⟨1, 0⟩, ⟨1, 0⟩, 1,
    [⟨31, 0, .ro, 0x0⟩]⟩,
  ⟨"PUM_FSTAT", 0x40005c, ⟨1, 0⟩, ⟨1, 0⟩, ⟨1, 0⟩, 1,
    [⟨6, 1, .ro, 0x0⟩]⟩,
  ⟨"PUM_FCNT0", 0x400060, ⟨1, 0⟩, ⟨1, 0⟩, ⟨1, 0⟩, 1,
    [⟨22, 0, .ro, 0x0⟩]⟩,
  ⟨"PUM_FCNT1", 0x400064, ⟨1, 0⟩, ⟨1, 0⟩, ⟨1, 0⟩, 1,
    [⟨21, 0, .ro, 0x0⟩]⟩,
  ⟨"PUM_FCNT2", 0x400068, ⟨1, 0⟩, ⟨1, 0⟩, ⟨1, 0⟩, 1,
    [⟨20, 0, .ro, 0x0⟩]⟩,
  ⟨"PUM_SC_CFG", 0x401400, ⟨1, 0⟩, ⟨16, 0x20⟩, ⟨1, 0⟩, 1,
    [⟨31, 31, .rw, 0x0⟩, ⟨15, 8, .rw, 0x0⟩, ⟨5, 0, .rw, 0x0⟩]⟩,
  ⟨"PUM_SC_STAT", 0x401404, ⟨1, 0⟩, ⟨16, 0x20⟩, ⟨1, 0⟩, 1,
    [⟨31, 0, .ro, 0x0⟩]⟩,
  ⟨"PUM_SC_END", 0x401408, ⟨1, 0⟩, ⟨16, 0x20⟩, ⟨1, 0⟩, 1,
    [⟨31, 0, .ro, 0x0⟩]⟩,
  ⟨"PUM_PS_BASE", 0x402040, ⟨1, 0⟩, ⟨1, 0⟩, ⟨1, 0⟩, 2,
    [⟨47, 6, .rwl, 0x0⟩]⟩,
  ⟨"PUM_PS_CAP", 0x402048, ⟨1, 0⟩, ⟨1, 0⟩, ⟨1, 0⟩, 1,
    [⟨6, 0, .rwl, 0x20⟩]⟩,
  ⟨"PUM_NODE_BASE", 0x402050, ⟨1, 0⟩, ⟨1, 0⟩, ⟨1, 0⟩, 2,
    [⟨47, 12, .rwl, 0x0⟩]⟩,
  ⟨"PUM_NODE_LOG2", 0x402058, ⟨1, 0⟩, ⟨1, 0⟩, ⟨1, 0⟩, 1,
    [⟨4, 0, .rwl, 0x16⟩]⟩,
  ⟨"PUM_OVF_BASE", 0x402060, ⟨1, 0⟩, ⟨1, 0⟩, ⟨1, 0⟩, 2,
    [⟨47, 12, .rwl, 0x0⟩]⟩,
  ⟨"PUM_OVF_LOG2", 0x402068, ⟨1, 0⟩, ⟨1, 0⟩, ⟨1, 0⟩, 1,
    [⟨4, 0, .rwl, 0x14⟩]⟩]

def rowsPUM1 : List RegRow := [
  ⟨"PUM_VOX_BASE", 0x402070, ⟨1, 0⟩, ⟨1, 0⟩, ⟨1, 0⟩, 2,
    [⟨47, 21, .rwl, 0x0⟩]⟩,
  ⟨"PUM_BANK", 0x402078, ⟨1, 0⟩, ⟨1, 0⟩, ⟨1, 0⟩, 1,
    [⟨31, 16, .rwl, 0x0⟩, ⟨3, 0, .rwl, 0x7⟩]⟩,
  ⟨"PUM_OCC_BASE", 0x402080, ⟨1, 0⟩, ⟨1, 0⟩, ⟨1, 0⟩, 2,
    [⟨47, 21, .rwl, 0x0⟩]⟩,
  ⟨"PUM_L_KEYS", 0x402100, ⟨1, 0⟩, ⟨16, 0x20⟩, ⟨1, 0⟩, 2,
    [⟨47, 6, .rwl, 0x0⟩]⟩,
  ⟨"PUM_L_HASH", 0x402108, ⟨1, 0⟩, ⟨16, 0x20⟩, ⟨1, 0⟩, 2,
    [⟨47, 6, .rwl, 0x0⟩]⟩,
  ⟨"PUM_L_CFG", 0x402110, ⟨1, 0⟩, ⟨16, 0x20⟩, ⟨1, 0⟩, 1,
    [⟨4, 0, .rwl, 0x15⟩]⟩,
  ⟨"PUM_DEC_CFG", 0x403040, ⟨1, 0⟩, ⟨1, 0⟩, ⟨1, 0⟩, 1,
    [⟨31, 31, .rw, 0x1⟩, ⟨29, 24, .rw, 0x3f⟩, ⟨19, 16, .rw, 0x0⟩]⟩,
  ⟨"PUM_DEC_VAR0", 0x403044, ⟨1, 0⟩, ⟨1, 0⟩, ⟨1, 0⟩, 1,
    [⟨31, 16, .rw, 0x3c00⟩, ⟨15, 0, .rw, 0x3c00⟩]⟩,
  ⟨"PUM_DEC_VAR1", 0x403048, ⟨1, 0⟩, ⟨1, 0⟩, ⟨1, 0⟩, 1,
    [⟨31, 16, .rw, 0x3c00⟩, ⟨15, 0, .rw, 0x3c00⟩]⟩,
  ⟨"PUM_DEC_VAR2", 0x40304c, ⟨1, 0⟩, ⟨1, 0⟩, ⟨1, 0⟩, 1,
    [⟨31, 16, .rw, 0x3c00⟩, ⟨15, 0, .rw, 0x3c00⟩]⟩,
  ⟨"PUM_DEC_OUT", 0x403050, ⟨1, 0⟩, ⟨1, 0⟩, ⟨1, 0⟩, 2,
    [⟨47, 20, .rw, 0x0⟩]⟩,
  ⟨"PUM_OCC_CFG", 0x403058, ⟨1, 0⟩, ⟨1, 0⟩, ⟨1, 0⟩, 1,
    [⟨31, 31, .rwl, 0x0⟩]⟩,
  ⟨"PUM_OCC_ZMIN", 0x40305c, ⟨1, 0⟩, ⟨1, 0⟩, ⟨1, 0⟩, 1,
    [⟨31, 0, .rw, 0xbe99999a⟩]⟩,
  ⟨"PUM_OCC_ZMAX", 0x403060, ⟨1, 0⟩, ⟨1, 0⟩, ⟨1, 0⟩, 1,
    [⟨31, 0, .rw, 0x40400000⟩]⟩,
  ⟨"PUM_OCC_MARGIN", 0x403064, ⟨1, 0⟩, ⟨1, 0⟩, ⟨1, 0⟩, 1,
    [⟨31, 0, .rw, 0x3e4ccccd⟩]⟩,
  ⟨"PUM_J_BASE", 0x404040, ⟨4, 0x1000⟩, ⟨1, 0⟩, ⟨1, 0⟩, 2,
    [⟨47, 6, .rw, 0x0⟩]⟩,
  ⟨"PUM_J_CFG", 0x404048, ⟨4, 0x1000⟩, ⟨1, 0⟩, ⟨1, 0⟩, 1,
    [⟨31, 31, .rw, 0x0⟩, ⟨27, 24, .rw, 0x4⟩, ⟨13, 0, .rw, 0x0⟩]⟩,
  ⟨"PUM_J_OBJ", 0x40404c, ⟨4, 0x1000⟩, ⟨1, 0⟩, ⟨1, 0⟩, 1,
    [⟨13, 0, .rw, 0x0⟩]⟩,
  ⟨"PUM_J_STAT", 0x404050, ⟨4, 0x1000⟩, ⟨1, 0⟩, ⟨1, 0⟩, 1,
    [⟨31, 0, .ro, 0x0⟩]⟩,
  ⟨"PUM_J_ERR", 0x404054, ⟨4, 0x1000⟩, ⟨1, 0⟩, ⟨1, 0⟩, 1,
    [⟨31, 28, .ro, 0x0⟩, ⟨15, 0, .ro, 0x0⟩]⟩]

def rowsPUM2 : List RegRow := [
  ⟨"PUM_CNT0", 0x408040, ⟨1, 0⟩, ⟨1, 0⟩, ⟨1, 0⟩, 1,
    [⟨31, 16, .ro, 0x0⟩, ⟨15, 8, .ro, 0x0⟩, ⟨7, 0, .ro, 0x0⟩]⟩,
  ⟨"PUM_CNT1", 0x408044, ⟨1, 0⟩, ⟨1, 0⟩, ⟨1, 0⟩, 1,
    [⟨31, 16, .ro, 0x0⟩, ⟨15, 0, .ro, 0x0⟩]⟩,
  ⟨"PUM_CNT2", 0x408048, ⟨1, 0⟩, ⟨1, 0⟩, ⟨1, 0⟩, 1,
    [⟨31, 16, .ro, 0x0⟩, ⟨15, 8, .ro, 0x0⟩, ⟨7, 0, .ro, 0x0⟩]⟩,
  ⟨"PUM_CNT3", 0x40804c, ⟨1, 0⟩, ⟨1, 0⟩, ⟨1, 0⟩, 1,
    [⟨31, 16, .ro, 0x0⟩, ⟨15, 8, .ro, 0x0⟩, ⟨7, 0, .ro, 0x0⟩]⟩,
  ⟨"PUM_CNT_CLR", 0x408050, ⟨1, 0⟩, ⟨1, 0⟩, ⟨1, 0⟩, 1,
    [⟨0, 0, .wo, 0x0⟩]⟩]

def rowsFLT0 : List RegRow := [
  ⟨"FLT_CFG", 0x480040, ⟨1, 0⟩, ⟨1, 0⟩, ⟨1, 0⟩, 1,
    [⟨31, 24, .rwl, 0x5⟩, ⟨23, 16, .rwl, 0x8⟩, ⟨15, 8, .rwl, 0x2⟩, ⟨7, 0, .rwl, 0x8⟩]⟩,
  ⟨"FLT_CHK", 0x480044, ⟨1, 0⟩, ⟨1, 0⟩, ⟨1, 0⟩, 1,
    [⟨19, 0, .rwl, 0x18000⟩]⟩,
  ⟨"FLT_WPR_BASE", 0x480048, ⟨1, 0⟩, ⟨1, 0⟩, ⟨1, 0⟩, 2,
    [⟨47, 19, .rwl, 0x0⟩]⟩,
  ⟨"FLT_REF_BASE", 0x480050, ⟨1, 0⟩, ⟨1, 0⟩, ⟨1, 0⟩, 2,
    [⟨47, 15, .rwl, 0x0⟩]⟩,
  ⟨"FLT_SEED_BASE", 0x480058, ⟨1, 0⟩, ⟨1, 0⟩, ⟨1, 0⟩, 2,
    [⟨47, 17, .rwl, 0x0⟩]⟩,
  ⟨"FLT_SWAP", 0x480060, ⟨1, 0⟩, ⟨1, 0⟩, ⟨1, 0⟩, 1,
    [⟨3, 3, .wo, 0x0⟩, ⟨2, 2, .wo, 0x0⟩, ⟨1, 1, .wo, 0x0⟩, ⟨0, 0, .wo, 0x0⟩]⟩,
  ⟨"FLT_CTRL", 0x480064, ⟨1, 0⟩, ⟨1, 0⟩, ⟨1, 0⟩, 1,
    [⟨0, 0, .wo, 0x0⟩]⟩,
  ⟨"FLT_STAT", 0x480068, ⟨1, 0⟩, ⟨1, 0⟩, ⟨1, 0⟩, 1,
    [⟨31, 24, .ro, 0x0⟩, ⟨23, 23, .ro, 0x0⟩, ⟨22, 22, .ro, 0x0⟩, ⟨21, 21, .ro, 0x0⟩, ⟨20, 20, .ro, 0x0⟩, ⟨19, 19, .ro, 0x0⟩, ⟨18, 18, .ro, 0x0⟩, ⟨17, 17, .ro, 0x0⟩, ⟨16, 16, .ro, 0x0⟩, ⟨15, 14, .ro, 0x0⟩, ⟨7, 0, .ro, 0x0⟩]⟩,
  ⟨"FLT_FRAME", 0x48006c, ⟨1, 0⟩, ⟨1, 0⟩, ⟨1, 0⟩, 1,
    [⟨31, 0, .ro, 0x0⟩]⟩,
  ⟨"FLT_LEASE", 0x480070, ⟨1, 0⟩, ⟨1, 0⟩, ⟨1, 0⟩, 1,
    [⟨25, 16, .rwl, 0x14⟩, ⟨13, 8, .rwl, 0x0⟩, ⟨7, 0, .rwl, 0x0⟩]⟩,
  ⟨"FLT_LEASE_ID", 0x480074, ⟨1, 0⟩, ⟨1, 0⟩, ⟨1, 0⟩, 1,
    [⟨10, 0, .rwl, 0x0⟩]⟩,
  ⟨"FLT_WPR_DST", 0x480078, ⟨1, 0⟩, ⟨1, 0⟩, ⟨1, 0⟩, 1,
    [⟨7, 0, .rwl, 0x0⟩]⟩,
  ⟨"FLT_CNT0", 0x48007c, ⟨1, 0⟩, ⟨1, 0⟩, ⟨1, 0⟩, 1,
    [⟨31, 16, .ro, 0x0⟩, ⟨15, 8, .ro, 0x0⟩, ⟨7, 0, .ro, 0x0⟩]⟩,
  ⟨"FLT_CNT_CLR", 0x480080, ⟨1, 0⟩, ⟨1, 0⟩, ⟨1, 0⟩, 1,
    [⟨0, 0, .wo, 0x0⟩]⟩,
  ⟨"FLT_P", 0x480100, ⟨1, 0⟩, ⟨16, 0x4⟩, ⟨1, 0⟩, 1,
    [⟨31, 0, .rwl, 0x0⟩]⟩,
  ⟨"FLT_W", 0x480140, ⟨1, 0⟩, ⟨8, 0x4⟩, ⟨1, 0⟩, 1,
    [⟨31, 0, .rwl, 0x0⟩]⟩,
  ⟨"FLT_BODY_CFG", 0x481400, ⟨1, 0⟩, ⟨16, 0x20⟩, ⟨1, 0⟩, 1,
    [⟨31, 31, .rwl, 0x0⟩, ⟨30, 30, .rwl, 0x0⟩]⟩,
  ⟨"FLT_BODY_C_X", 0x481404, ⟨1, 0⟩, ⟨16, 0x20⟩, ⟨1, 0⟩, 1,
    [⟨31, 0, .rwl, 0x0⟩]⟩,
  ⟨"FLT_BODY_C_Y", 0x481408, ⟨1, 0⟩, ⟨16, 0x20⟩, ⟨1, 0⟩, 1,
    [⟨31, 0, .rwl, 0x0⟩]⟩,
  ⟨"FLT_BODY_C_Z", 0x48140c, ⟨1, 0⟩, ⟨16, 0x20⟩, ⟨1, 0⟩, 1,
    [⟨31, 0, .rwl, 0x0⟩]⟩]

def rowsFLT1 : List RegRow := [
  ⟨"FLT_BODY_H_HALF_L", 0x481410, ⟨1, 0⟩, ⟨16, 0x20⟩, ⟨1, 0⟩, 1,
    [⟨31, 0, .rwl, 0x0⟩]⟩,
  ⟨"FLT_BODY_H_HALF_W", 0x481414, ⟨1, 0⟩, ⟨16, 0x20⟩, ⟨1, 0⟩, 1,
    [⟨31, 0, .rwl, 0x0⟩]⟩,
  ⟨"FLT_BODY_H_HALF_H", 0x481418, ⟨1, 0⟩, ⟨16, 0x20⟩, ⟨1, 0⟩, 1,
    [⟨31, 0, .rwl, 0x0⟩]⟩,
  ⟨"FLT_BODY_YAW", 0x48141c, ⟨1, 0⟩, ⟨16, 0x20⟩, ⟨1, 0⟩, 1,
    [⟨31, 0, .rwl, 0x0⟩]⟩]

def rowsSLT : List RegRow := [
  ⟨"SLT_CFG", 0x4c0040, ⟨1, 0⟩, ⟨1, 0⟩, ⟨1, 0⟩, 1,
    [⟨31, 24, .rwl, 0x14⟩, ⟨20, 16, .rwl, 0x8⟩, ⟨15, 8, .rwl, 0x20⟩, ⟨2, 0, .rwl, 0x2⟩]⟩,
  ⟨"SLT_RANGE", 0x4c0044, ⟨1, 0⟩, ⟨1, 0⟩, ⟨1, 0⟩, 1,
    [⟨31, 0, .rwl, 0x43800000⟩]⟩,
  ⟨"SLT_KSIG", 0x4c0048, ⟨1, 0⟩, ⟨1, 0⟩, ⟨1, 0⟩, 1,
    [⟨31, 0, .rwl, 0x40400000⟩]⟩,
  ⟨"SLT_GROW", 0x4c004c, ⟨1, 0⟩, ⟨1, 0⟩, ⟨1, 0⟩, 1,
    [⟨31, 0, .rwl, 0x3f000000⟩]⟩,
  ⟨"SLT_AGE", 0x4c0050, ⟨1, 0⟩, ⟨1, 0⟩, ⟨1, 0⟩, 1,
    [⟨15, 0, .rwl, 0x1f4⟩]⟩,
  ⟨"SLT_KO_BASE", 0x4c0058, ⟨1, 0⟩, ⟨1, 0⟩, ⟨1, 0⟩, 2,
    [⟨47, 15, .rwl, 0x0⟩]⟩,
  ⟨"SLT_KO_CTRL", 0x4c0060, ⟨1, 0⟩, ⟨1, 0⟩, ⟨1, 0⟩, 1,
    [⟨1, 1, .wo, 0x0⟩, ⟨0, 0, .wo, 0x0⟩]⟩,
  ⟨"SLT_SNAP", 0x4c0064, ⟨1, 0⟩, ⟨1, 0⟩, ⟨1, 0⟩, 1,
    [⟨31, 0, .ro, 0x0⟩]⟩,
  ⟨"SLT_SNAP_EPOCH", 0x4c0068, ⟨1, 0⟩, ⟨1, 0⟩, ⟨1, 0⟩, 1,
    [⟨31, 0, .ro, 0x0⟩]⟩,
  ⟨"SLT_STAT", 0x4c006c, ⟨1, 0⟩, ⟨1, 0⟩, ⟨1, 0⟩, 1,
    [⟨31, 31, .ro, 0x0⟩, ⟨30, 30, .ro, 0x0⟩, ⟨29, 29, .ro, 0x0⟩, ⟨28, 28, .ro, 0x0⟩, ⟨27, 27, .ro, 0x0⟩, ⟨24, 24, .ro, 0x0⟩, ⟨20, 0, .ro, 0x0⟩]⟩,
  ⟨"SLT_CNT0", 0x4c0070, ⟨1, 0⟩, ⟨1, 0⟩, ⟨1, 0⟩, 1,
    [⟨31, 16, .ro, 0x0⟩, ⟨15, 8, .ro, 0x0⟩, ⟨7, 0, .ro, 0x0⟩]⟩,
  ⟨"SLT_CNT1", 0x4c0074, ⟨1, 0⟩, ⟨1, 0⟩, ⟨1, 0⟩, 1,
    [⟨31, 16, .ro, 0x0⟩, ⟨15, 0, .ro, 0x0⟩]⟩,
  ⟨"SLT_CNT_CLR", 0x4c0078, ⟨1, 0⟩, ⟨1, 0⟩, ⟨1, 0⟩, 1,
    [⟨0, 0, .wo, 0x0⟩]⟩]

def rowsGNT0 : List RegRow := [
  ⟨"GNT_PLAN", 0x500040, ⟨1, 0⟩, ⟨1, 0⟩, ⟨1, 0⟩, 1,
    [⟨31, 0, .ro, 0x0⟩]⟩,
  ⟨"GNT_PLAN_T0", 0x500044, ⟨1, 0⟩, ⟨1, 0⟩, ⟨1, 0⟩, 1,
    [⟨31, 0, .ro, 0x0⟩]⟩,
  ⟨"GNT_CNT0", 0x500048, ⟨1, 0⟩, ⟨1, 0⟩, ⟨1, 0⟩, 1,
    [⟨31, 16, .ro, 0x0⟩, ⟨15, 8, .ro, 0x0⟩, ⟨7, 0, .ro, 0x0⟩]⟩,
  ⟨"GNT_CNT_CLR", 0x50004c, ⟨1, 0⟩, ⟨1, 0⟩, ⟨1, 0⟩, 1,
    [⟨0, 0, .wo, 0x0⟩]⟩,
  ⟨"GNT_ENC_SCALE", 0x500080, ⟨1, 0⟩, ⟨8, 0x4⟩, ⟨1, 0⟩, 1,
    [⟨31, 0, .rw, 0x3f800000⟩]⟩,
  ⟨"GNT_L_CFG", 0x501040, ⟨64, 0x1000⟩, ⟨1, 0⟩, ⟨1, 0⟩, 1,
    [⟨31, 31, .rw, 0x0⟩, ⟨30, 30, .rw, 0x0⟩, ⟨27, 24, .rw, 0x0⟩, ⟨23, 16, .rw, 0x80⟩, ⟨13, 8, .rw, 0x0⟩, ⟨6, 6, .rw, 0x0⟩, ⟨3, 0, .rw, 0x0⟩]⟩,
  ⟨"GNT_L_SRC", 0x501044, ⟨64, 0x1000⟩, ⟨1, 0⟩, ⟨1, 0⟩, 1,
    [⟨31, 16, .rw, 0x0⟩, ⟨15, 0, .rw, 0x0⟩]⟩,
  ⟨"GNT_L_XSRC", 0x501048, ⟨64, 0x1000⟩, ⟨4, 0x4⟩, ⟨1, 0⟩, 1,
    [⟨31, 16, .rw, 0x0⟩, ⟨15, 0, .rw, 0x0⟩]⟩,
  ⟨"GNT_L_LEAD", 0x501058, ⟨64, 0x1000⟩, ⟨1, 0⟩, ⟨1, 0⟩, 1,
    [⟨31, 0, .rw, 0x0⟩]⟩,
  ⟨"GNT_L_FE", 0x50105c, ⟨64, 0x1000⟩, ⟨1, 0⟩, ⟨1, 0⟩, 1,
    [⟨15, 0, .rw, 0xa⟩]⟩,
  ⟨"GNT_L_RC", 0x501060, ⟨64, 0x1000⟩, ⟨1, 0⟩, ⟨1, 0⟩, 1,
    [⟨31, 31, .rw, 0x0⟩, ⟨27, 16, .rw, 0x0⟩, ⟨11, 0, .rw, 0x0⟩]⟩,
  ⟨"GNT_L_PG", 0x501064, ⟨64, 0x1000⟩, ⟨1, 0⟩, ⟨1, 0⟩, 1,
    [⟨31, 31, .rw, 0x0⟩]⟩,
  ⟨"GNT_L_STAT", 0x501070, ⟨64, 0x1000⟩, ⟨1, 0⟩, ⟨1, 0⟩, 1,
    [⟨31, 29, .ro, 0x0⟩, ⟨28, 28, .ro, 0x0⟩, ⟨27, 27, .ro, 0x0⟩, ⟨15, 0, .ro, 0x0⟩]⟩,
  ⟨"GNT_L_P", 0x501080, ⟨64, 0x1000⟩, ⟨32, 0x4⟩, ⟨1, 0⟩, 1,
    [⟨31, 0, .rw, 0x0⟩]⟩,
  ⟨"GNT_L_MON", 0x501100, ⟨64, 0x1000⟩, ⟨8, 0x4⟩, ⟨1, 0⟩, 1,
    [⟨31, 0, .ro, 0x0⟩]⟩,
  ⟨"GNT_A_CTRL", 0x541400, ⟨8, 0x1000⟩, ⟨8, 0x80⟩, ⟨1, 0⟩, 1,
    [⟨31, 31, .wo, 0x0⟩, ⟨0, 0, .rw, 0x0⟩]⟩,
  ⟨"GNT_A_MAN", 0x541404, ⟨8, 0x1000⟩, ⟨8, 0x80⟩, ⟨1, 0⟩, 1,
    [⟨31, 0, .rw, 0x0⟩]⟩,
  ⟨"GNT_A_SAFE", 0x541408, ⟨8, 0x1000⟩, ⟨8, 0x80⟩, ⟨1, 0⟩, 1,
    [⟨31, 0, .rw, 0x0⟩]⟩,
  ⟨"GNT_A_SRATE", 0x54140c, ⟨8, 0x1000⟩, ⟨8, 0x80⟩, ⟨1, 0⟩, 1,
    [⟨31, 0, .rw, 0x0⟩]⟩,
  ⟨"GNT_A_RATE", 0x541410, ⟨8, 0x1000⟩, ⟨8, 0x80⟩, ⟨1, 0⟩, 1,
    [⟨31, 0, .rw, 0x0⟩]⟩]

def rowsGNT1 : List RegRow := [
  ⟨"GNT_A_STAT", 0x541414, ⟨8, 0x1000⟩, ⟨8, 0x80⟩, ⟨1, 0⟩, 1,
    [⟨31, 28, .ro, 0x0⟩, ⟨27, 24, .ro, 0x0⟩, ⟨21, 16, .ro, 0x0⟩, ⟨3, 0, .ro, 0x0⟩]⟩,
  ⟨"GNT_A_OUT", 0x541418, ⟨8, 0x1000⟩, ⟨8, 0x80⟩, ⟨1, 0⟩, 1,
    [⟨31, 0, .ro, 0x0⟩]⟩,
  ⟨"GNT_F_CFG", 0x549400, ⟨8, 0x1000⟩, ⟨4, 0x100⟩, ⟨1, 0⟩, 1,
    [⟨31, 31, .rw, 0x0⟩, ⟨27, 24, .rw, 0x0⟩, ⟨23, 16, .rw, 0xa0⟩, ⟨4, 0, .rw, 0x1⟩]⟩,
  ⟨"GNT_F_DST", 0x549404, ⟨8, 0x1000⟩, ⟨4, 0x100⟩, ⟨1, 0⟩, 1,
    [⟨13, 8, .rw, 0x0⟩, ⟨7, 0, .rw, 0x0⟩]⟩,
  ⟨"GNT_F_ID", 0x549408, ⟨8, 0x1000⟩, ⟨4, 0x100⟩, ⟨1, 0⟩, 1,
    [⟨10, 0, .rw, 0x0⟩]⟩,
  ⟨"GNT_F_ACT", 0x549410, ⟨8, 0x1000⟩, ⟨4, 0x100⟩, ⟨4, 0x4⟩, 1,
    [⟨29, 24, .rw, 0x0⟩, ⟨21, 16, .rw, 0x0⟩, ⟨13, 8, .rw, 0x0⟩, ⟨5, 0, .rw, 0x0⟩]⟩,
  ⟨"GNT_F_CNT", 0x549420, ⟨8, 0x1000⟩, ⟨4, 0x100⟩, ⟨1, 0⟩, 1,
    [⟨31, 0, .ro, 0x0⟩]⟩,
  ⟨"GNT_FB_CFG", 0x551400, ⟨1, 0⟩, ⟨32, 0x10⟩, ⟨1, 0⟩, 1,
    [⟨31, 31, .rw, 0x0⟩, ⟨21, 16, .rw, 0x0⟩, ⟨15, 10, .rw, 0x0⟩, ⟨9, 8, .rw, 0x3⟩, ⟨7, 0, .rw, 0x0⟩]⟩,
  ⟨"GNT_FB_STALE", 0x551404, ⟨1, 0⟩, ⟨32, 0x10⟩, ⟨1, 0⟩, 1,
    [⟨23, 0, .rw, 0x0⟩]⟩,
  ⟨"GNT_FB_VAL", 0x551408, ⟨1, 0⟩, ⟨32, 0x10⟩, ⟨1, 0⟩, 1,
    [⟨31, 0, .ro, 0x0⟩]⟩,
  ⟨"GNT_FB_TCAP", 0x55140c, ⟨1, 0⟩, ⟨32, 0x10⟩, ⟨1, 0⟩, 1,
    [⟨31, 0, .ro, 0x0⟩]⟩]

def rowsQTZ0 : List RegRow := [
  ⟨"QTZ_STAT", 0x40040, ⟨1, 0⟩, ⟨1, 0⟩, ⟨1, 0⟩, 1,
    [⟨31, 31, .ro, 0x0⟩, ⟨25, 24, .ro, 0x3⟩, ⟨15, 0, .ro, 0x0⟩]⟩,
  ⟨"QTZ_TB2_SEL", 0x40044, ⟨1, 0⟩, ⟨1, 0⟩, ⟨1, 0⟩, 1,
    [⟨31, 31, .rw, 0x1⟩, ⟨1, 0, .rw, 0x0⟩]⟩,
  ⟨"QTZ_FRAME", 0x40048, ⟨1, 0⟩, ⟨1, 0⟩, ⟨1, 0⟩, 1,
    [⟨31, 0, .ro, 0x0⟩]⟩,
  ⟨"QTZ_FRAME_ORG", 0x4004c, ⟨1, 0⟩, ⟨1, 0⟩, ⟨1, 0⟩, 1,
    [⟨19, 0, .rw, 0x0⟩]⟩,
  ⟨"QTZ_SNAP", 0x40050, ⟨1, 0⟩, ⟨1, 0⟩, ⟨1, 0⟩, 1,
    [⟨0, 0, .wo, 0x0⟩]⟩,
  ⟨"QTZ_C200", 0x40054, ⟨1, 0⟩, ⟨1, 0⟩, ⟨1, 0⟩, 1,
    [⟨31, 0, .ro, 0x0⟩]⟩,
  ⟨"QTZ_SNAP_FRAME", 0x40058, ⟨1, 0⟩, ⟨1, 0⟩, ⟨1, 0⟩, 1,
    [⟨31, 0, .ro, 0x0⟩]⟩,
  ⟨"QTZ_EPOCH_SEC", 0x40080, ⟨1, 0⟩, ⟨2, 0x10⟩, ⟨1, 0⟩, 2,
    [⟨47, 0, .rw, 0x0⟩]⟩,
  ⟨"QTZ_EPOCH_NS", 0x40088, ⟨1, 0⟩, ⟨2, 0x10⟩, ⟨1, 0⟩, 1,
    [⟨29, 0, .rw, 0x0⟩]⟩,
  ⟨"QTZ_EPOCH_TAG", 0x4008c, ⟨1, 0⟩, ⟨2, 0x10⟩, ⟨1, 0⟩, 1,
    [⟨15, 0, .rw, 0x0⟩]⟩,
  ⟨"QTZ_CNT", 0x400a0, ⟨1, 0⟩, ⟨1, 0⟩, ⟨1, 0⟩, 1,
    [⟨31, 16, .ro, 0x0⟩, ⟨15, 0, .ro, 0x0⟩]⟩,
  ⟨"QTZ_CNT_CLR", 0x400a4, ⟨1, 0⟩, ⟨1, 0⟩, ⟨1, 0⟩, 1,
    [⟨0, 0, .wo, 0x0⟩]⟩,
  ⟨"QTZ_TB_CTRL", 0x41400, ⟨1, 0⟩, ⟨8, 0x40⟩, ⟨1, 0⟩, 1,
    [⟨31, 30, .rw, 0x0⟩, ⟨26, 24, .rw, 0x2⟩, ⟨21, 16, .rw, 0x32⟩]⟩,
  ⟨"QTZ_TB_NOW", 0x41404, ⟨1, 0⟩, ⟨8, 0x40⟩, ⟨1, 0⟩, 1,
    [⟨31, 0, .ro, 0x0⟩]⟩,
  ⟨"QTZ_TB_RATE", 0x41408, ⟨1, 0⟩, ⟨8, 0x40⟩, ⟨1, 0⟩, 1,
    [⟨31, 0, .rw, 0x0⟩]⟩,
  ⟨"QTZ_TB_REFF", 0x4140c, ⟨1, 0⟩, ⟨8, 0x40⟩, ⟨1, 0⟩, 1,
    [⟨31, 0, .ro, 0x0⟩]⟩,
  ⟨"QTZ_TB_STEP", 0x41410, ⟨1, 0⟩, ⟨8, 0x40⟩, ⟨1, 0⟩, 1,
    [⟨31, 0, .wo, 0x0⟩]⟩,
  ⟨"QTZ_TB_OFS", 0x41414, ⟨1, 0⟩, ⟨8, 0x40⟩, ⟨1, 0⟩, 1,
    [⟨31, 0, .rw, 0x0⟩]⟩,
  ⟨"QTZ_TB_ERR", 0x41418, ⟨1, 0⟩, ⟨8, 0x40⟩, ⟨1, 0⟩, 1,
    [⟨31, 0, .ro, 0x0⟩]⟩,
  ⟨"QTZ_TB_GEN", 0x4141c, ⟨1, 0⟩, ⟨8, 0x40⟩, ⟨1, 0⟩, 1,
    [⟨15, 0, .ro, 0x0⟩]⟩]

def rowsQTZ1 : List RegRow := [
  ⟨"QTZ_TB_TICK", 0x41420, ⟨1, 0⟩, ⟨8, 0x40⟩, ⟨1, 0⟩, 1,
    [⟨31, 0, .ro, 0x0⟩]⟩,
  ⟨"QTZ_TB_SNAP", 0x41424, ⟨1, 0⟩, ⟨8, 0x40⟩, ⟨1, 0⟩, 1,
    [⟨31, 0, .ro, 0x0⟩]⟩,
  ⟨"QTZ_SV_OFS", 0x42400, ⟨1, 0⟩, ⟨2, 0x40⟩, ⟨1, 0⟩, 1,
    [⟨31, 0, .wo, 0x0⟩]⟩,
  ⟨"QTZ_SV_CFG", 0x42404, ⟨1, 0⟩, ⟨2, 0x40⟩, ⟨1, 0⟩, 1,
    [⟨28, 24, .rw, 0xc⟩, ⟨20, 16, .rw, 0x9⟩, ⟨15, 0, .rw, 0x64⟩]⟩,
  ⟨"QTZ_SV_STEP", 0x42408, ⟨1, 0⟩, ⟨2, 0x40⟩, ⟨1, 0⟩, 1,
    [⟨31, 0, .rw, 0xf4240⟩]⟩,
  ⟨"QTZ_SV_TOUT", 0x4240c, ⟨1, 0⟩, ⟨2, 0x40⟩, ⟨1, 0⟩, 1,
    [⟨15, 0, .rw, 0x1f4⟩]⟩,
  ⟨"QTZ_SV_STAT", 0x42410, ⟨1, 0⟩, ⟨2, 0x40⟩, ⟨1, 0⟩, 1,
    [⟨31, 30, .ro, 0x0⟩, ⟨15, 0, .ro, 0x0⟩]⟩,
  ⟨"QTZ_SV_LAST", 0x42414, ⟨1, 0⟩, ⟨2, 0x40⟩, ⟨1, 0⟩, 1,
    [⟨31, 0, .ro, 0x0⟩]⟩,
  ⟨"QTZ_SV_INT", 0x42418, ⟨1, 0⟩, ⟨2, 0x40⟩, ⟨1, 0⟩, 1,
    [⟨31, 0, .ro, 0x0⟩]⟩,
  ⟨"QTZ_TR_CFG", 0x44400, ⟨3, 0x1000⟩, ⟨8, 0x40⟩, ⟨1, 0⟩, 1,
    [⟨31, 31, .rw, 0x0⟩, ⟨30, 30, .rw, 0x0⟩, ⟨26, 24, .rw, 0x3⟩, ⟨16, 16, .rw, 0x0⟩, ⟨0, 0, .ro, 0x0⟩]⟩,
  ⟨"QTZ_TR_START", 0x44404, ⟨3, 0x1000⟩, ⟨8, 0x40⟩, ⟨1, 0⟩, 1,
    [⟨31, 0, .rw, 0x0⟩]⟩,
  ⟨"QTZ_TR_PER", 0x44408, ⟨3, 0x1000⟩, ⟨8, 0x40⟩, ⟨1, 0⟩, 1,
    [⟨31, 0, .rw, 0x0⟩]⟩,
  ⟨"QTZ_TR_PERF", 0x4440c, ⟨3, 0x1000⟩, ⟨8, 0x40⟩, ⟨1, 0⟩, 1,
    [⟨15, 0, .rw, 0x0⟩]⟩,
  ⟨"QTZ_TR_WIDTH", 0x44410, ⟨3, 0x1000⟩, ⟨8, 0x40⟩, ⟨1, 0⟩, 1,
    [⟨23, 0, .rw, 0x0⟩]⟩,
  ⟨"QTZ_TR_CMD", 0x44414, ⟨3, 0x1000⟩, ⟨8, 0x40⟩, ⟨1, 0⟩, 1,
    [⟨0, 0, .wo, 0x0⟩]⟩,
  ⟨"QTZ_TR_STAT", 0x44418, ⟨3, 0x1000⟩, ⟨8, 0x40⟩, ⟨1, 0⟩, 1,
    [⟨31, 31, .ro, 0x0⟩, ⟨30, 30, .ro, 0x0⟩, ⟨23, 16, .ro, 0x0⟩, ⟨15, 0, .ro, 0x0⟩]⟩,
  ⟨"QTZ_TR_LAST", 0x4441c, ⟨3, 0x1000⟩, ⟨8, 0x40⟩, ⟨1, 0⟩, 1,
    [⟨31, 0, .ro, 0x0⟩]⟩,
  ⟨"QTZ_CAP_CFG", 0x47400, ⟨3, 0x1000⟩, ⟨8, 0x40⟩, ⟨1, 0⟩, 1,
    [⟨31, 31, .rw, 0x0⟩, ⟨29, 28, .rw, 0x1⟩, ⟨26, 24, .rw, 0x3⟩, ⟨7, 0, .rw, 0x0⟩]⟩,
  ⟨"QTZ_CAP_HEAD", 0x47404, ⟨3, 0x1000⟩, ⟨8, 0x40⟩, ⟨1, 0⟩, 2,
    [⟨63, 63, .ro, 0x0⟩, ⟨62, 62, .ro, 0x0⟩, ⟨35, 32, .ro, 0x0⟩, ⟨31, 0, .ro, 0x0⟩]⟩,
  ⟨"QTZ_CAP_POP", 0x4740c, ⟨3, 0x1000⟩, ⟨8, 0x40⟩, ⟨1, 0⟩, 1,
    [⟨0, 0, .wo, 0x0⟩]⟩]

def rowsQTZ2 : List RegRow := [
  ⟨"QTZ_CAP_CNT", 0x47410, ⟨3, 0x1000⟩, ⟨8, 0x40⟩, ⟨1, 0⟩, 1,
    [⟨31, 16, .ro, 0x0⟩, ⟨7, 0, .ro, 0x0⟩]⟩]

def rowsETH : List RegRow := [
  ⟨"ETH_CFG", 0x580040, ⟨1, 0⟩, ⟨1, 0⟩, ⟨1, 0⟩, 1,
    [⟨15, 0, .rwl, 0x88b5⟩]⟩,
  ⟨"ETH_MAC", 0x580048, ⟨1, 0⟩, ⟨1, 0⟩, ⟨1, 0⟩, 2,
    [⟨47, 0, .rwl, 0x0⟩]⟩,
  ⟨"ETH_PTP", 0x580050, ⟨1, 0⟩, ⟨1, 0⟩, ⟨1, 0⟩, 1,
    [⟨15, 8, .rwl, 0x1⟩, ⟨7, 0, .rwl, 0x0⟩]⟩,
  ⟨"ETH_P_CFG", 0x581040, ⟨9, 0x1000⟩, ⟨1, 0⟩, ⟨1, 0⟩, 1,
    [⟨31, 30, .rwl, 0x0⟩, ⟨29, 29, .rwl, 0x0⟩, ⟨26, 24, .rwl, 0x0⟩]⟩,
  ⟨"ETH_P_GCL", 0x581044, ⟨9, 0x1000⟩, ⟨1, 0⟩, ⟨1, 0⟩, 1,
    [⟨1, 1, .wo, 0x0⟩, ⟨0, 0, .wo, 0x0⟩]⟩,
  ⟨"ETH_P_BASE", 0x581048, ⟨9, 0x1000⟩, ⟨1, 0⟩, ⟨1, 0⟩, 1,
    [⟨31, 0, .rwl, 0x0⟩]⟩,
  ⟨"ETH_P_CYCLE", 0x58104c, ⟨9, 0x1000⟩, ⟨1, 0⟩, ⟨1, 0⟩, 1,
    [⟨31, 0, .rwl, 0x0⟩]⟩,
  ⟨"ETH_P_STAT", 0x581050, ⟨9, 0x1000⟩, ⟨1, 0⟩, ⟨1, 0⟩, 1,
    [⟨31, 31, .ro, 0x0⟩, ⟨0, 0, .ro, 0x0⟩]⟩,
  ⟨"ETH_P_CNT0", 0x581054, ⟨9, 0x1000⟩, ⟨1, 0⟩, ⟨1, 0⟩, 1,
    [⟨31, 16, .ro, 0x0⟩, ⟨15, 0, .ro, 0x0⟩]⟩,
  ⟨"ETH_P_CNT1", 0x581058, ⟨9, 0x1000⟩, ⟨1, 0⟩, ⟨1, 0⟩, 1,
    [⟨31, 16, .ro, 0x0⟩, ⟨15, 0, .ro, 0x0⟩]⟩,
  ⟨"ETH_SID", 0x590400, ⟨4, 0x1000⟩, ⟨64, 0x10⟩, ⟨1, 0⟩, 4,
    [⟨127, 127, .rwl, 0x0⟩, ⟨126, 125, .rwl, 0x0⟩, ⟨124, 124, .rwl, 0x0⟩, ⟨123, 112, .rwl, 0x0⟩, ⟨111, 104, .rwl, 0x0⟩, ⟨95, 48, .rwl, 0x0⟩]⟩,
  ⟨"ETH_TXF", 0x59a400, ⟨1, 0⟩, ⟨34, 0x10⟩, ⟨1, 0⟩, 4,
    [⟨127, 127, .rwl, 0x0⟩, ⟨118, 116, .rwl, 0x7⟩, ⟨114, 108, .rwl, 0x7f⟩, ⟨107, 96, .rwl, 0x0⟩, ⟨47, 0, .rwl, 0x0⟩]⟩,
  ⟨"ETH_QCI", 0x594400, ⟨4, 0x1000⟩, ⟨32, 0x20⟩, ⟨1, 0⟩, 8,
    [⟨255, 0, .rwl, 0x0⟩]⟩,
  ⟨"ETH_RF", 0x598400, ⟨2, 0x1000⟩, ⟨64, 0x10⟩, ⟨1, 0⟩, 4,
    [⟨127, 0, .rwl, 0x0⟩]⟩,
  ⟨"ETH_GCL", 0x5a0800, ⟨18, 0x1000⟩, ⟨256, 0x8⟩, ⟨1, 0⟩, 2,
    [⟨63, 0, .rwl, 0x0⟩]⟩]

def rowsPCIE : List RegRow := [
  ⟨"PCIE_ID", 0x5c0040, ⟨1, 0⟩, ⟨1, 0⟩, ⟨1, 0⟩, 2,
    [⟨63, 0, .ro, 0x0⟩]⟩,
  ⟨"PCIE_LINK", 0x5c0048, ⟨1, 0⟩, ⟨1, 0⟩, ⟨1, 0⟩, 1,
    [⟨31, 31, .ro, 0x0⟩, ⟨10, 8, .ro, 0x0⟩, ⟨4, 0, .ro, 0x0⟩]⟩,
  ⟨"PCIE_WIN", 0x5c0050, ⟨1, 0⟩, ⟨1, 0⟩, ⟨1, 0⟩, 2,
    [⟨47, 36, .rw, 0x0⟩, ⟨2, 0, .rw, 0x1⟩]⟩,
  ⟨"PCIE_EOI", 0x5c0058, ⟨1, 0⟩, ⟨1, 0⟩, ⟨1, 0⟩, 1,
    [⟨5, 0, .wo, 0x0⟩]⟩,
  ⟨"PCIE_ERR", 0x5c005c, ⟨1, 0⟩, ⟨1, 0⟩, ⟨1, 0⟩, 1,
    [⟨31, 16, .ro, 0x0⟩, ⟨15, 0, .ro, 0x0⟩]⟩,
  ⟨"PCIE_VMAP", 0x5c2400, ⟨1, 0⟩, ⟨8, 0x4⟩, ⟨1, 0⟩, 1,
    [⟨31, 24, .rw, 0xff⟩, ⟨23, 16, .rw, 0xff⟩, ⟨15, 8, .rw, 0xff⟩, ⟨7, 0, .rw, 0xff⟩]⟩,
  ⟨"PCIE_MSIX", 0x5c1400, ⟨1, 0⟩, ⟨64, 0x10⟩, ⟨1, 0⟩, 4,
    [⟨96, 96, .rw, 0x1⟩, ⟨95, 64, .rw, 0x0⟩, ⟨63, 0, .rw, 0x0⟩]⟩,
  ⟨"PCIE_PBA", 0x5c1800, ⟨1, 0⟩, ⟨1, 0⟩, ⟨1, 0⟩, 2,
    [⟨63, 0, .ro, 0x0⟩]⟩]

def rowsCAN : List RegRow := [
  ⟨"CAN_CFG", 0x5e0040, ⟨6, 0x2000⟩, ⟨1, 0⟩, ⟨1, 0⟩, 1,
    [⟨31, 30, .rwl, 0x0⟩, ⟨29, 29, .rwl, 0x1⟩]⟩,
  ⟨"CAN_NBT", 0x5e0044, ⟨6, 0x2000⟩, ⟨1, 0⟩, ⟨1, 0⟩, 1,
    [⟨31, 0, .rwl, 0x0⟩]⟩,
  ⟨"CAN_DBT", 0x5e0048, ⟨6, 0x2000⟩, ⟨1, 0⟩, ⟨1, 0⟩, 1,
    [⟨31, 0, .rwl, 0x0⟩]⟩,
  ⟨"CAN_XBT", 0x5e004c, ⟨6, 0x2000⟩, ⟨1, 0⟩, ⟨1, 0⟩, 1,
    [⟨31, 0, .rwl, 0x0⟩]⟩,
  ⟨"CAN_XL", 0x5e0050, ⟨6, 0x2000⟩, ⟨1, 0⟩, ⟨1, 0⟩, 1,
    [⟨15, 8, .rwl, 0x0⟩, ⟨7, 0, .rwl, 0x0⟩]⟩,
  ⟨"CAN_CTRL", 0x5e0054, ⟨6, 0x2000⟩, ⟨1, 0⟩, ⟨1, 0⟩, 1,
    [⟨0, 0, .wo, 0x0⟩]⟩,
  ⟨"CAN_CNT", 0x5e0058, ⟨6, 0x2000⟩, ⟨1, 0⟩, ⟨1, 0⟩, 1,
    [⟨31, 16, .ro, 0x0⟩, ⟨15, 8, .ro, 0x0⟩, ⟨7, 0, .ro, 0x0⟩]⟩,
  ⟨"CAN_SW_TX", 0x5e1040, ⟨6, 0x2000⟩, ⟨1, 0⟩, ⟨1, 0⟩, 1,
    [⟨31, 31, .wo, 0x0⟩, ⟨30, 29, .rw, 0x0⟩, ⟨28, 0, .rw, 0x0⟩]⟩,
  ⟨"CAN_SW_LEN", 0x5e1044, ⟨6, 0x2000⟩, ⟨1, 0⟩, ⟨1, 0⟩, 1,
    [⟨11, 0, .rw, 0x0⟩]⟩,
  ⟨"CAN_SW_STAT", 0x5e1048, ⟨6, 0x2000⟩, ⟨1, 0⟩, ⟨1, 0⟩, 1,
    [⟨1, 1, .ro, 0x0⟩, ⟨0, 0, .ro, 0x0⟩]⟩,
  ⟨"CAN_SW_DATA", 0x5e1800, ⟨6, 0x2000⟩, ⟨512, 0x4⟩, ⟨1, 0⟩, 1,
    [⟨31, 0, .rw, 0x0⟩]⟩]

def rowsSPI : List RegRow := [
  ⟨"SPI_CFG", 0x5f1400, ⟨1, 0⟩, ⟨4, 0x20⟩, ⟨1, 0⟩, 1,
    [⟨31, 30, .rw, 0x0⟩, ⟨23, 16, .rw, 0x9⟩, ⟨11, 8, .rw, 0x0⟩, ⟨7, 0, .rw, 0x0⟩]⟩,
  ⟨"SPI_CMD", 0x5f1404, ⟨1, 0⟩, ⟨4, 0x20⟩, ⟨1, 0⟩, 2,
    [⟨63, 0, .rw, 0x0⟩]⟩,
  ⟨"SPI_MISS", 0x5f140c, ⟨1, 0⟩, ⟨4, 0x20⟩, ⟨1, 0⟩, 1,
    [⟨15, 0, .ro, 0x0⟩]⟩]

def rowsUART : List RegRow := [
  ⟨"UART_CFG", 0x5f2400, ⟨1, 0⟩, ⟨2, 0x20⟩, ⟨1, 0⟩, 1,
    [⟨31, 8, .rw, 0x325⟩, ⟨3, 2, .rw, 0x0⟩, ⟨0, 0, .rw, 0x0⟩]⟩,
  ⟨"UART_TX", 0x5f2404, ⟨1, 0⟩, ⟨2, 0x20⟩, ⟨1, 0⟩, 1,
    [⟨7, 0, .wo, 0x0⟩]⟩]

def rowsENC : List RegRow := [
  ⟨"ENC_CFG", 0x5f3400, ⟨1, 0⟩, ⟨8, 0x10⟩, ⟨1, 0⟩, 1,
    [⟨31, 30, .rw, 0x0⟩, ⟨29, 29, .rw, 0x0⟩, ⟨7, 0, .rw, 0x4⟩]⟩,
  ⟨"ENC_CNT", 0x5f3404, ⟨1, 0⟩, ⟨8, 0x10⟩, ⟨1, 0⟩, 1,
    [⟨31, 0, .ro, 0x0⟩]⟩,
  ⟨"ENC_ERR", 0x5f3408, ⟨1, 0⟩, ⟨8, 0x10⟩, ⟨1, 0⟩, 1,
    [⟨15, 0, .ro, 0x0⟩]⟩]

def rowsTDM : List RegRow := [
  ⟨"TDM_CFG", 0x5f4400, ⟨1, 0⟩, ⟨2, 0x10⟩, ⟨1, 0⟩, 1,
    [⟨31, 31, .rw, 0x0⟩, ⟨8, 8, .rw, 0x1⟩, ⟨3, 0, .rw, 0xf⟩]⟩]

def rowsLPC : List RegRow := [
  ⟨"LPC_STAT", 0x311040, ⟨4, 0x4000⟩, ⟨1, 0⟩, ⟨1, 0⟩, 1,
    [⟨31, 31, .ro, 0x0⟩, ⟨29, 24, .ro, 0x0⟩, ⟨16, 16, .ro, 0x0⟩, ⟨13, 0, .ro, 0x0⟩]⟩,
  ⟨"LPC_CNT", 0x311044, ⟨4, 0x4000⟩, ⟨1, 0⟩, ⟨1, 0⟩, 1,
    [⟨31, 16, .ro, 0x0⟩, ⟨15, 0, .ro, 0x0⟩]⟩]

def rowsODL : List RegRow := [
  ⟨"ODL_CFG", 0x600040, ⟨2, 0x10000⟩, ⟨1, 0⟩, ⟨1, 0⟩, 1,
    [⟨31, 24, .rwl, 0x3⟩, ⟨7, 0, .rwl, 0x10⟩]⟩,
  ⟨"ODL_STAT", 0x600044, ⟨2, 0x10000⟩, ⟨1, 0⟩, ⟨1, 0⟩, 1,
    [⟨31, 31, .ro, 0x0⟩, ⟨30, 29, .ro, 0x0⟩, ⟨28, 28, .ro, 0x0⟩, ⟨27, 24, .ro, 0x0⟩, ⟨15, 0, .ro, 0x0⟩]⟩,
  ⟨"ODL_DELAY", 0x600048, ⟨2, 0x10000⟩, ⟨1, 0⟩, ⟨1, 0⟩, 1,
    [⟨15, 0, .ro, 0x0⟩]⟩,
  ⟨"ODL_RETRAIN", 0x60004c, ⟨2, 0x10000⟩, ⟨1, 0⟩, ⟨1, 0⟩, 1,
    [⟨0, 0, .wo, 0x0⟩]⟩,
  ⟨"ODL_CNT", 0x600050, ⟨2, 0x10000⟩, ⟨1, 0⟩, ⟨1, 0⟩, 1,
    [⟨31, 16, .ro, 0x0⟩, ⟨15, 8, .ro, 0x0⟩, ⟨7, 0, .ro, 0x0⟩]⟩,
  ⟨"ODL_CNT_CLR", 0x600054, ⟨2, 0x10000⟩, ⟨1, 0⟩, ⟨1, 0⟩, 1,
    [⟨0, 0, .wo, 0x0⟩]⟩,
  ⟨"ODL_MEMBERS", 0x600080, ⟨2, 0x10000⟩, ⟨1, 0⟩, ⟨1, 0⟩, 1,
    [⟨31, 30, .ro, 0x0⟩, ⟨7, 4, .ro, 0x0⟩, ⟨3, 0, .ro, 0x0⟩]⟩,
  ⟨"ODL_ROUTE", 0x600084, ⟨2, 0x10000⟩, ⟨1, 0⟩, ⟨1, 0⟩, 1,
    [⟨7, 6, .ro, 0x0⟩, ⟨5, 4, .ro, 0x0⟩, ⟨3, 2, .ro, 0x0⟩, ⟨1, 0, .ro, 0x0⟩]⟩,
  ⟨"ODL_MODES", 0x600088, ⟨2, 0x10000⟩, ⟨1, 0⟩, ⟨1, 0⟩, 1,
    [⟨15, 12, .ro, 0x0⟩, ⟨11, 8, .ro, 0x0⟩, ⟨7, 4, .ro, 0x0⟩, ⟨3, 0, .ro, 0x0⟩]⟩,
  ⟨"ODL_FRAME_CNT", 0x60008c, ⟨2, 0x10000⟩, ⟨1, 0⟩, ⟨1, 0⟩, 1,
    [⟨15, 0, .ro, 0x0⟩]⟩]

def rowsWDG : List RegRow := [
  ⟨"WDG_CFG", 0x620400, ⟨32, 0x1000⟩, ⟨8, 0x40⟩, ⟨1, 0⟩, 1,
    [⟨31, 31, .rwl, 0x0⟩, ⟨30, 30, .rwl, 0x0⟩, ⟨27, 24, .rwl, 0x0⟩]⟩,
  ⟨"WDG_OPEN", 0x620404, ⟨32, 0x1000⟩, ⟨8, 0x40⟩, ⟨1, 0⟩, 1,
    [⟨31, 0, .rwl, 0x0⟩]⟩,
  ⟨"WDG_CLOSE", 0x620408, ⟨32, 0x1000⟩, ⟨8, 0x40⟩, ⟨1, 0⟩, 1,
    [⟨31, 0, .rwl, 0x0⟩]⟩,
  ⟨"WDG_KICK", 0x62040c, ⟨32, 0x1000⟩, ⟨8, 0x40⟩, ⟨1, 0⟩, 1,
    [⟨0, 0, .wo, 0x0⟩]⟩,
  ⟨"WDG_STAT", 0x620410, ⟨32, 0x1000⟩, ⟨8, 0x40⟩, ⟨1, 0⟩, 1,
    [⟨31, 30, .ro, 0x0⟩, ⟨29, 29, .ro, 0x0⟩, ⟨28, 28, .ro, 0x0⟩, ⟨15, 0, .ro, 0x0⟩]⟩,
  ⟨"WDG_LAST", 0x620414, ⟨32, 0x1000⟩, ⟨8, 0x40⟩, ⟨1, 0⟩, 1,
    [⟨31, 0, .ro, 0x0⟩]⟩,
  ⟨"WDG_FAILED", 0x620040, ⟨1, 0⟩, ⟨8, 0x4⟩, ⟨1, 0⟩, 1,
    [⟨31, 0, .ro, 0x0⟩]⟩]

def rowsGRN : List RegRow := [
  ⟨"GRN_TST_CFG", 0x11040, ⟨1, 0⟩, ⟨1, 0⟩, ⟨1, 0⟩, 1,
    [⟨8, 0, .rwl, 0x28⟩]⟩,
  ⟨"GRN_TST_CNT", 0x11044, ⟨1, 0⟩, ⟨1, 0⟩, ⟨1, 0⟩, 1,
    [⟨31, 16, .ro, 0x0⟩, ⟨15, 8, .ro, 0x0⟩, ⟨7, 0, .ro, 0x0⟩]⟩,
  ⟨"GRN_TST_CLR", 0x11048, ⟨1, 0⟩, ⟨1, 0⟩, ⟨1, 0⟩, 1,
    [⟨0, 0, .wo, 0x0⟩]⟩]

def rowsFC : List RegRow := [
  ⟨"FC_STAT", 0x20040, ⟨1, 0⟩, ⟨1, 0⟩, ⟨1, 0⟩, 1,
    [⟨31, 31, .ro, 0x0⟩, ⟨30, 30, .ro, 0x0⟩, ⟨23, 23, .ro, 0x0⟩, ⟨22, 22, .ro, 0x0⟩]⟩,
  ⟨"FC_SUM", 0x20044, ⟨1, 0⟩, ⟨1, 0⟩, ⟨1, 0⟩, 1,
    [⟨31, 0, .ro, 0x0⟩]⟩,
  ⟨"FC_SUM_CRIT", 0x20048, ⟨1, 0⟩, ⟨1, 0⟩, ⟨1, 0⟩, 1,
    [⟨31, 0, .ro, 0x0⟩]⟩,
  ⟨"FC_STICKY", 0x21400, ⟨1, 0⟩, ⟨32, 0x4⟩, ⟨1, 0⟩, 1,
    [⟨31, 0, .w1c, 0x0⟩]⟩,
  ⟨"FC_LIVE", 0x21480, ⟨1, 0⟩, ⟨32, 0x4⟩, ⟨1, 0⟩, 1,
    [⟨31, 0, .ro, 0x0⟩]⟩,
  ⟨"FC_SEV", 0x22400, ⟨1, 0⟩, ⟨128, 0x4⟩, ⟨1, 0⟩, 1,
    [⟨30, 28, .rwl, 0x0⟩, ⟨26, 24, .rwl, 0x0⟩, ⟨22, 20, .rwl, 0x0⟩, ⟨18, 16, .rwl, 0x0⟩, ⟨14, 12, .rwl, 0x0⟩, ⟨10, 8, .rwl, 0x0⟩, ⟨6, 4, .rwl, 0x0⟩, ⟨2, 0, .rwl, 0x0⟩]⟩,
  ⟨"FC_FLOOR", 0x22800, ⟨1, 0⟩, ⟨128, 0x4⟩, ⟨1, 0⟩, 1,
    [⟨30, 28, .ro, 0x0⟩, ⟨26, 24, .ro, 0x0⟩, ⟨22, 20, .ro, 0x0⟩, ⟨18, 16, .ro, 0x0⟩, ⟨14, 12, .ro, 0x0⟩, ⟨10, 8, .ro, 0x0⟩, ⟨6, 4, .ro, 0x0⟩, ⟨2, 0, .ro, 0x0⟩]⟩]

def rowsPWR : List RegRow := [
  ⟨"PWR_CAP", 0x50040, ⟨1, 0⟩, ⟨1, 0⟩, ⟨1, 0⟩, 1,
    [⟨24, 16, .ro, 0x0⟩, ⟨8, 0, .rw, 0x0⟩]⟩,
  ⟨"PWR_ACCT", 0x50044, ⟨1, 0⟩, ⟨1, 0⟩, ⟨1, 0⟩, 1,
    [⟨31, 31, .ro, 0x0⟩, ⟨15, 0, .ro, 0x0⟩]⟩,
  ⟨"PWR_MEAS", 0x50048, ⟨1, 0⟩, ⟨1, 0⟩, ⟨1, 0⟩, 1,
    [⟨31, 16, .ro, 0x0⟩, ⟨15, 0, .ro, 0x0⟩]⟩,
  ⟨"PWR_MODE", 0x5004c, ⟨1, 0⟩, ⟨1, 0⟩, ⟨1, 0⟩, 1,
    [⟨31, 31, .rw, 0x0⟩, ⟨30, 30, .ro, 0x0⟩]⟩,
  ⟨"PWR_CFG", 0x50050, ⟨1, 0⟩, ⟨1, 0⟩, ⟨1, 0⟩, 1,
    [⟨26, 24, .rw, 0x3⟩, ⟨22, 16, .rw, 0x20⟩, ⟨15, 8, .rw, 0x14⟩, ⟨7, 0, .rw, 0xa⟩]⟩,
  ⟨"PWR_THERM", 0x50054, ⟨1, 0⟩, ⟨1, 0⟩, ⟨1, 0⟩, 1,
    [⟨31, 24, .ro, 0x0⟩, ⟨22, 16, .ro, 0x0⟩, ⟨15, 0, .ro, 0x0⟩]⟩,
  ⟨"PWR_CNT", 0x50058, ⟨1, 0⟩, ⟨1, 0⟩, ⟨1, 0⟩, 1,
    [⟨31, 16, .ro, 0x0⟩, ⟨15, 8, .ro, 0x0⟩, ⟨7, 0, .ro, 0x0⟩]⟩,
  ⟨"PWR_CNT_CLR", 0x5005c, ⟨1, 0⟩, ⟨1, 0⟩, ⟨1, 0⟩, 1,
    [⟨0, 0, .wo, 0x0⟩]⟩,
  ⟨"PWR_PH", 0x51400, ⟨1, 0⟩, ⟨64, 0x8⟩, ⟨1, 0⟩, 2,
    [⟨63, 48, .ro, 0x0⟩, ⟨47, 32, .ro, 0x0⟩, ⟨15, 15, .ro, 0x0⟩, ⟨10, 8, .rw, 0x4⟩, ⟨1, 0, .rw, 0x2⟩]⟩,
  ⟨"PWR_ISL_V", 0x52400, ⟨1, 0⟩, ⟨8, 0x10⟩, ⟨1, 0⟩, 1,
    [⟨25, 16, .ro, 0x0⟩, ⟨9, 0, .ro, 0x2ee⟩]⟩,
  ⟨"PWR_ISL_P", 0x52404, ⟨1, 0⟩, ⟨8, 0x10⟩, ⟨1, 0⟩, 1,
    [⟨15, 0, .ro, 0x0⟩]⟩,
  ⟨"PWR_ISL_STAT", 0x52408, ⟨1, 0⟩, ⟨8, 0x10⟩, ⟨1, 0⟩, 1,
    [⟨31, 31, .ro, 0x0⟩, ⟨30, 30, .ro, 0x0⟩]⟩,
  ⟨"PWR_TILE", 0x53400, ⟨1, 0⟩, ⟨32, 0x4⟩, ⟨1, 0⟩, 1,
    [⟨31, 24, .ro, 0x0⟩, ⟨21, 16, .ro, 0x0⟩, ⟨15, 8, .ro, 0x2c⟩, ⟨6, 0, .ro, 0x40⟩]⟩]

def rowsAGE : List RegRow := [
  ⟨"AGE_CFG", 0x60040, ⟨1, 0⟩, ⟨1, 0⟩, ⟨1, 0⟩, 1,
    [⟨15, 0, .rw, 0x1388⟩]⟩,
  ⟨"AGE_LIFE", 0x60044, ⟨1, 0⟩, ⟨1, 0⟩, ⟨1, 0⟩, 1,
    [⟨23, 0, .ro, 0x186a0⟩]⟩,
  ⟨"AGE_WEAR_MAX", 0x60048, ⟨1, 0⟩, ⟨1, 0⟩, ⟨1, 0⟩, 1,
    [⟨21, 16, .ro, 0x0⟩, ⟨15, 0, .ro, 0x0⟩]⟩,
  ⟨"AGE_HOURS", 0x60050, ⟨1, 0⟩, ⟨1, 0⟩, ⟨1, 0⟩, 2,
    [⟨31, 0, .rwl, 0x0⟩]⟩,
  ⟨"AGE_HIST", 0x60058, ⟨1, 0⟩, ⟨1, 0⟩, ⟨1, 0⟩, 2,
    [⟨47, 32, .rwl, 0x0⟩, ⟨31, 0, .rwl, 0x0⟩]⟩,
  ⟨"AGE_UNIT", 0x61400, ⟨1, 0⟩, ⟨40, 0x4⟩, ⟨1, 0⟩, 1,
    [⟨31, 16, .ro, 0x0⟩, ⟨15, 0, .ro, 0x0⟩]⟩]

def rowsSEC : List RegRow := [
  ⟨"SEC_LIFE", 0x70040, ⟨1, 0⟩, ⟨1, 0⟩, ⟨1, 0⟩, 1,
    [⟨29, 28, .ro, 0x0⟩, ⟨25, 24, .ro, 0x0⟩, ⟨21, 20, .ro, 0x0⟩]⟩,
  ⟨"SEC_BOOT", 0x70044, ⟨1, 0⟩, ⟨1, 0⟩, ⟨1, 0⟩, 1,
    [⟨31, 28, .ro, 0x0⟩, ⟨27, 24, .ro, 0x0⟩, ⟨20, 20, .ro, 0x0⟩, ⟨19, 16, .ro, 0x0⟩, ⟨7, 0, .ro, 0x0⟩]⟩,
  ⟨"SEC_KEYS", 0x70048, ⟨1, 0⟩, ⟨1, 0⟩, ⟨1, 0⟩, 1,
    [⟨11, 8, .ro, 0x0⟩, ⟨3, 0, .ro, 0x0⟩]⟩,
  ⟨"SEC_KEY_OFF", 0x7004c, ⟨1, 0⟩, ⟨1, 0⟩, ⟨1, 0⟩, 1,
    [⟨11, 8, .w1s, 0x0⟩, ⟨3, 0, .w1s, 0x0⟩]⟩,
  ⟨"SEC_ARB", 0x70050, ⟨1, 0⟩, ⟨1, 0⟩, ⟨1, 0⟩, 1,
    [⟨31, 24, .ro, 0x0⟩, ⟨23, 16, .ro, 0x0⟩, ⟨15, 8, .ro, 0x0⟩, ⟨7, 0, .ro, 0x0⟩]⟩,
  ⟨"SEC_DEBUG_SET", 0x70054, ⟨1, 0⟩, ⟨1, 0⟩, ⟨1, 0⟩, 1,
    [⟨1, 0, .rw, 0x0⟩]⟩,
  ⟨"SEC_LMS", 0x70058, ⟨1, 0⟩, ⟨1, 0⟩, ⟨1, 0⟩, 1,
    [⟨18, 0, .ro, 0x0⟩]⟩,
  ⟨"SEC_FUSE_IDX", 0x7005c, ⟨1, 0⟩, ⟨1, 0⟩, ⟨1, 0⟩, 1,
    [⟨8, 0, .rw, 0x0⟩]⟩,
  ⟨"SEC_FUSE_DATA", 0x70060, ⟨1, 0⟩, ⟨1, 0⟩, ⟨1, 0⟩, 1,
    [⟨31, 0, .ro, 0x0⟩]⟩,
  ⟨"SEC_FPGM", 0x70068, ⟨1, 0⟩, ⟨1, 0⟩, ⟨1, 0⟩, 2,
    [⟨40, 32, .wo, 0x0⟩, ⟨31, 0, .wo, 0x0⟩]⟩,
  ⟨"SEC_FPGM_STAT", 0x70070, ⟨1, 0⟩, ⟨1, 0⟩, ⟨1, 0⟩, 1,
    [⟨31, 28, .ro, 0x0⟩, ⟨15, 0, .ro, 0x0⟩]⟩,
  ⟨"SEC_RGN_TIGHT", 0x70080, ⟨1, 0⟩, ⟨4, 0x4⟩, ⟨1, 0⟩, 1,
    [⟨15, 8, .w1s, 0x0⟩, ⟨7, 0, .w1s, 0x0⟩]⟩,
  ⟨"SEC_MEAS", 0x71400, ⟨1, 0⟩, ⟨7, 0x40⟩, ⟨1, 0⟩, 12,
    [⟨383, 0, .ro, 0x0⟩]⟩]

/-- Every block-specific register row of spec/. -/
def allRows : List RegRow :=
  rowsDEV ++ rowsTILE ++ rowsSYN ++ rowsKVP ++ rowsSTM ++ rowsTIER0 ++ rowsTIER1 ++ rowsMEM ++ rowsSCH ++ rowsING ++ rowsIFE ++ rowsPK ++ rowsAGT0 ++ rowsAGT1 ++ rowsPUM0 ++ rowsPUM1 ++ rowsPUM2 ++ rowsFLT0 ++ rowsFLT1 ++ rowsSLT ++ rowsGNT0 ++ rowsGNT1 ++ rowsQTZ0 ++ rowsQTZ1 ++ rowsQTZ2 ++ rowsETH ++ rowsPCIE ++ rowsCAN ++ rowsSPI ++ rowsUART ++ rowsENC ++ rowsTDM ++ rowsLPC ++ rowsODL ++ rowsWDG ++ rowsGRN ++ rowsFC ++ rowsPWR ++ rowsAGE ++ rowsSEC

/-- The row element that holds register word `a`: page index, first and second element, word within the element. -/
def RegRow.locate (r : RegRow) (a : Nat) : Option (Nat × Nat × Nat × Nat) :=
  if a < r.base then none else
  let x := a - r.base
  let u := x / r.pages.stride
  let x := x - u * r.pages.stride
  let k := x / r.d1.stride
  let x := x - k * r.d1.stride
  let m := x / r.d2.stride
  let x := x - m * r.d2.stride
  if u < r.pages.count ∧ k < r.d1.count ∧ m < r.d2.count ∧ x < 4 * r.words ∧ x % 4 = 0 then some (u, k, m, x / 4) else none

/-- The rows that may lie on a page, by the page directory (R63). -/
def rowsOfPage (p : Nat) : List RegRow :=
  if p < 0x10 then rowsDEV else if p < 0x20 then rowsGRN else if p < 0x40 then rowsFC
  else if p < 0x50 then rowsQTZ0 ++ rowsQTZ1 ++ rowsQTZ2 else if p < 0x60 then rowsPWR else if p < 0x70 then rowsAGE
  else if p < 0x80 then rowsSEC else if p < 0xC0 then rowsSCH else if p < 0x100 then rowsSYN
  else if p < 0x300 then rowsTILE else if p < 0x330 then rowsMEM ++ rowsLPC
  else if p < 0x338 then rowsTIER0 ++ rowsTIER1 else if p < 0x340 then rowsKVP else if p < 0x380 then rowsSTM
  else if p < 0x390 then rowsING else if p < 0x3B0 then rowsIFE else if p < 0x3C0 then rowsPK
  else if p < 0x400 then rowsAGT0 ++ rowsAGT1 else if p < 0x480 then rowsPUM0 ++ rowsPUM1 ++ rowsPUM2
  else if p < 0x4C0 then rowsFLT0 ++ rowsFLT1 else if p < 0x500 then rowsSLT else if p < 0x580 then rowsGNT0 ++ rowsGNT1
  else if p < 0x5C0 then rowsETH else if p < 0x5E0 then rowsPCIE else if p < 0x5EC then rowsCAN
  else if p < 0x5F0 then [] else if p < 0x600 then rowsSPI ++ rowsUART ++ rowsENC ++ rowsTDM
  else if p < 0x620 then rowsODL else if p < 0x640 then rowsWDG else []

/-- The row that holds register word `a`, with its place in the row. -/
def findRow (a : Nat) : Option (RegRow × Nat × Nat × Nat × Nat) :=
  (rowsOfPage (a / 0x1000)).findSome? (fun r => (r.locate a).map (fun x => (r, x)))

/-- The part of a field that lies in word `w` of its register, shifted to its place there. -/
def fieldInWord (w hi lo v : Nat) : Nat := ((v % 2 ^ (hi + 1 - lo)) <<< lo) >>> (32 * w) % 2 ^ 32

/-- The bits of word `w` that the fields of a row with an access in `as` hold. -/
def RegRow.mask (r : RegRow) (w : Nat) (as : List Acc) : Nat :=
  (r.fields.filter (fun f => as.contains f.acc)).foldl
    (fun m f => m ||| fieldInWord w f.hi f.lo (2 ^ (f.hi + 1 - f.lo) - 1)) 0

/-- The reset value that the fields of a row give its word `w`. -/
def RegRow.resetWord (r : RegRow) (w : Nat) : Nat :=
  r.fields.foldl (fun m f => m ||| fieldInWord w f.hi f.lo f.rst) 0

/-- FP32 reset values of FLT_P(0) to FLT_P(13) (chapter 14, Flint parameters and weights). -/
def fltPReset : List Nat := [0x42100000, 0xc0c00000, 0x40200000, 0x40800000, 0x3e4ccccd, 0x3dcccccd, 0x40400000, 0x3f800000, 0x3e4ccccd, 0x3f000000, 0x40400000, 0x40c00000, 0x40800000, 0x40800000]

/-- FP32 reset values of FLT_W(0) to FLT_W(7) (chapter 14, Flint parameters and weights). -/
def fltWReset : List Nat := [0x3f800000, 0x42c80000, 0x3f800000, 0x41200000, 0x41200000, 0x3f800000, 0x447a0000, 0x41200000]

/-- FP32 reset values of GNT_L_P(0) to GNT_L_P(29) (chapter 15, Loop parameters). -/
def gntPReset : List Nat := [0x00000000, 0x00000000, 0x00000000, 0x3a83126f, 0x3f800000, 0x3f800000, 0x00000000, 0xbf800000, 0x3f800000, 0x3f800000, 0x00000000, 0x00000000, 0x00000000, 0x00000000, 0x00000000, 0x00000000, 0x00000000, 0x00000000, 0x00000000, 0x00000000, 0x00000000, 0x00000000, 0x3f000000, 0x3e800000, 0x00000000, 0x00000000, 0x3f800000, 0x3f800000, 0x41200000, 0x00000000]

/-- OPEN and CLOSE at reset of hub watchdogs 0–7, ns (chapter 20, Hub watchdogs). -/
def wdgReset : List (Nat × Nat) :=
  [(200000, 250000), (300000, 400000), (850000, 910000), (900000, 945000), (945000, 960000), (0, 5000),
   (500000, 2000000), (0, 150000000)]

/-- START of the scheduler windows w = 0–3 at reset, µs (chapter 10, SCH_WIN). -/
def winStartReset : List Nat := [0, 40, 640, 880]

/-- Reset values that differ from element to element of an array (SCH_WIN, IFE_CCM, IFE_CURVE, FLT_P, FLT_W, GNT_L_P,
QTZ_TB_CTRL.MODE under R471, the watchdogs, FC_SEV under R586 with floors at NOTE). -/
def resetByIndex (a : Nat) : Nat :=
  let p := a / 0x1000
  let o := a % 0x1000
  if p = 0x81 ∧ 0x40 ≤ o ∧ o < 0x60 then
    let w := (o - 0x40) / 8
    if o % 8 = 0 then 2 ^ 31 + w * 2 ^ 24 + winStartReset.getD w 0 else 0xFFFFFFFF
  else if 0x390 ≤ p ∧ p < 0x3B0 then
    if o = 0x80 ∨ o = 0x90 ∨ o = 0xA0 then 0x1000
    else if 0x800 ≤ o ∧ o ≤ 0xC00 then min (256 * ((o - 0x800) / 4)) 65535 else 0
  else if p = 0x480 then
    if 0x100 ≤ o ∧ o < 0x140 then fltPReset.getD ((o - 0x100) / 4) 0
    else if 0x140 ≤ o ∧ o < 0x160 then fltWReset.getD ((o - 0x140) / 4) 0 else 0
  else if 0x501 ≤ p ∧ p ≤ 0x540 then
    if 0x80 ≤ o ∧ o < 0x100 then gntPReset.getD ((o - 0x80) / 4) 0 else 0
  else if p = 0x41 ∧ 0x400 ≤ o ∧ o % 0x40 = 0 then
    let b := (o - 0x400) / 0x40
    if b ≤ 1 then 1 * 2 ^ 30 else if b ≤ 4 then 2 * 2 ^ 30 else 0
  else if 0x620 ≤ p ∧ p < 0x640 ∧ 0x400 ≤ o ∧ o < 0x600 then
    let w := 8 * (p - 0x620) + (o - 0x400) / 0x40
    if o % 0x40 = 0 then (if w ≤ 6 then 2 ^ 31 else 0) + (if w ≤ 5 then 0 else 2 ^ 30)
    else if o % 0x40 = 4 then (wdgReset.getD w (0, 0)).1
    else if o % 0x40 = 8 then (wdgReset.getD w (0, 0)).2 else 0
  else if p = 0x22 ∧ 0x400 ≤ o ∧ o < 0x600 then severityReset ((o - 0x400) / 4)
  else 0

/-- What register word `a` holds after reset. -/
def resetWord (a : Nat) : Word :=
  match findRow a with
  | none => 0
  | some (r, _, _, _, w) => BitVec.ofNat 32 (r.resetWord w ||| resetByIndex a)

end Sys2Proof.Machine
end

