-- ==== Sys2Proof/Machine/Store.lean ====
section
/-! DEFINITION. A sparse store: values by number, listed in rising order, holding no entry that equals what an unlisted
number reads as. Device memory, the register file and every array of like things in State are such stores. -/

namespace Sys2Proof.Machine

/-- A store of values by number. What an unlisted number reads as is given beside it as a function `d`. -/
abbrev Sparse (α : Type) := List (Nat × α)

/-- What number `k` reads as. -/
def Sparse.get {α : Type} (d : Nat → α) : Sparse α → Nat → α
  | [], k => d k
  | (j, v) :: r, k => if k = j then v else Sparse.get d r k

/-- The store without number `k`. -/
def Sparse.erase {α : Type} : Sparse α → Nat → Sparse α
  | [], _ => []
  | (j, v) :: r, k => if k = j then Sparse.erase r k else (j, v) :: Sparse.erase r k

/-- The store with `(k, v)` put before the first greater number. -/
def Sparse.insert {α : Type} : Sparse α → Nat → α → Sparse α
  | [], k, v => [(k, v)]
  | (j, u) :: r, k, v => if k < j then (k, v) :: (j, u) :: r else (j, u) :: Sparse.insert r k v

/-- Write `v` at `k`: an entry equal to what an unlisted number reads as is not kept. -/
def Sparse.set {α : Type} [DecidableEq α] (d : Nat → α) (l : Sparse α) (k : Nat) (v : α) : Sparse α :=
  if v = d k then Sparse.erase l k else Sparse.insert (Sparse.erase l k) k v

/-- Apply `f` at `k`. -/
def Sparse.modify {α : Type} [DecidableEq α] (d : Nat → α) (l : Sparse α) (k : Nat) (f : α → α) : Sparse α :=
  Sparse.set d l k (f (Sparse.get d l k))

/-- Every number of the store lies above `b`, in rising order, and no entry equals its default. -/
def Sparse.wfFrom {α : Type} [DecidableEq α] (d : Nat → α) : Option Nat → Sparse α → Bool
  | _, [] => true
  | b, (j, v) :: r =>
    (match b with | none => true | some c => decide (c < j)) && decide (v ≠ d j) && Sparse.wfFrom d (some j) r

/-- The canonical form: strictly rising numbers, no entry equal to what an unlisted number reads as. -/
def Sparse.wf {α : Type} [DecidableEq α] (d : Nat → α) (l : Sparse α) : Bool := Sparse.wfFrom d none l

/-- Keep only the entries whose number passes `p`. -/
def Sparse.keep {α : Type} (p : Nat → Bool) (l : Sparse α) : Sparse α := l.filter (fun e => p e.1)

end Sys2Proof.Machine
end

