-- ==== Sys2Proof/Machine/State.lean ====
section
/-! DEFINITION. The machine's state, all of it (spec/, chapter by chapter), and the state after reset. Software-visible
registers live in `regs` under their word addresses (RegMap, RegTable); what no register shows is held here under its
own name. Every part is plain data. -/

namespace Sys2Proof.Machine

/-- The state of a block instance (R67, R70): its enable, its state, and what a pending stop or re-arm needs. -/
structure Block where
  /-- EN, the value last written (R70). -/
  en : Bool := false
  /-- STATE of PG_STAT. -/
  state : BlockState := .off
  /-- REARM_PENDING of PG_STAT. -/
  rearm : Bool := false
  /-- BUSY of PG_STAT (R85). -/
  busy : Bool := false
  /-- A stop is pending while STARTING (R70). -/
  stopPending : Bool := false
  /-- The safe point of the start has been passed (R70). -/
  safePassed : Bool := false
deriving DecidableEq, Repr

/-- The supplies, clocks and straps at the pins (chapter 24). -/
structure Pins where
  /-- VDD_SAFE is up: power-on has happened since the last power removal (R652). -/
  powered : Bool
  /-- SUPPLY_OK is high (R653). -/
  supplyOk : Bool
  /-- RESET_N is released (R653). -/
  resetReleased : Bool
  /-- REFCLK_SYS runs (R655). -/
  refclkSys : Bool
  /-- CASC_POS as sampled at power-on (R656). -/
  cascPos : Nat
  /-- TESTMODE as sampled at power-on (R656). -/
  testMode : Bool
  /-- The OK-pair and HB drivers saw no refresh and hold the unhealthy state (R594). -/
  refreshLost : Bool
deriving DecidableEq, Repr

/-- A running long operation (R529). -/
structure LongOp where
  /-- Operation code of the long operations table. -/
  code : Nat
  /-- The argument words. -/
  args : List Nat
  /-- The QTZ cycle in which it started. -/
  start : Nat
  /-- Frame ticks since it started (R531). -/
  frames : Nat
deriving DecidableEq, Repr

/-- The last answer a requester got: a status code and the words or bytes returned (R87, R525). -/
structure Response where
  /-- 0 OK; the command port's codes of R526; 1 for a PCIe Unsupported Request, 2 for a Granite bus error. -/
  status : Nat
  /-- The words returned. -/
  words : List Nat
deriving DecidableEq, Repr

/-- What the last world-and-plan record said (R532, R534, R535): its VALID, SENSOR_OUT, NO_SAFE_PLAN or MRT_SELECTED, and the
ego velocity, FP32 words. -/
structure WprInfo where
  valid : Bool := false
  sensorOut : Bool := false
  noPlan : Bool := false
  velocity : List Nat := []
deriving DecidableEq, Repr

/-- The device-level state of chapter 18. -/
structure Dev where
  /-- The device mode (R533). -/
  mode : Mode
  /-- An accepted ENGAGE waits for the next frame tick (R534). -/
  engagePending : Bool
  /-- The QTZ cycle of the last heartbeat or of the entry to READY (R536). -/
  hbSince : Nat
  /-- The grace timer runs, since this QTZ cycle (R537). -/
  graceSince : Option Nat
  /-- DEV_TILE_PRESENT as it stood at ARM (R535). -/
  presentAtArm : Nat
  /-- The long operation that runs (R529). -/
  op : Option LongOp
  /-- The last world-and-plan record published since the entry to BOOT. -/
  lastWpr : WprInfo
  /-- The boot stage reached, 0–4, 5 once READY has been entered (R636). -/
  bootStage : Nat
  /-- The last answer on each side: Granite, command port, PCIe (R87). -/
  respGranite : Response
  respCmdp : Response
  respPcie : Response
deriving DecidableEq, Repr

/-- The fault collector's state beyond its registers (chapter 21). -/
structure Collector where
  /-- Sources whose pair is broken (R583). -/
  broken : List Nat
  /-- Level sources that are raised now; FC_LIVE shows them beside the broken pairs (R582). -/
  raised : List Nat
deriving DecidableEq, Repr

/-- One time base: its 64-bit nanosecond count, its 40-bit fraction (R470) and its servo's output rate (R474) or the
rate held in HOLDOVER (R475). -/
structure TimeBase where
  count : Nat := 0
  frac : Nat := 0
  held : Int := 0
deriving DecidableEq, Repr

/-- One gPTP servo beyond its registers (R474). -/
structure Servo where
  /-- Consecutive samples with |o| ≤ LOCK_NS. -/
  run : Nat := 0
  /-- The QTZ cycle of the last sample. -/
  since : Nat := 0
deriving DecidableEq, Repr

/-- A committed epoch (R481). -/
structure Epoch where
  sec : Nat := 0
  ns : Nat := 0
  tag : Nat := 0
deriving DecidableEq, Repr

/-- One trigger output beyond its registers (R484–R486). -/
structure Trigger where
  /-- E_0 in units of 2⁻¹⁶ ns. -/
  e0 : Int := 0
  /-- k of the next scheduled edge. -/
  next : Nat := 0
  /-- A re-arm suppresses the next scheduled edge. -/
  suppress : Bool := false
  /-- The base's count at which the pulse in progress ends. -/
  pulseEnd : Nat := 0
  /-- The level driven on the pin. -/
  level : Bool := false
  /-- TB3 at the latest leading edge (R320). -/
  edgeTb3 : Nat := 0
deriving DecidableEq, Repr

/-- One captured edge (R488). -/
structure CapEdge where
  time : Nat
  rise : Bool
deriving DecidableEq, Repr

/-- Quartz beyond its registers (chapter 16). -/
structure Quartz where
  bases : Sparse TimeBase
  servos : Sparse Servo
  epochs : Sparse Epoch
  triggers : Sparse Trigger
  captures : Sparse (List CapEdge)
  /-- The held next-tick value N (R667). -/
  nextTick : Nat
  /-- QTZ cycles since power-on: the model's clock for the limits that spec/ states in ms, µs or ns. -/
  cycles : Nat
  /-- Good reference periods are being counted since the loss (R477). -/
  refLost : Bool
deriving DecidableEq, Repr

/-- The fields of a context table entry, as read at ACTIVATE and UPDATE (R286). -/
structure CtxEntry where
  weight : Nat := 0
  ring : Nat := 0
  ringN : Nat := 0
  tiles : Nat := 0
  foot : Nat := 0
  model : Nat := 0
  wdg : Nat := 0
  save : Nat := 0
  kvList : Nat := 0
  kvN : Nat := 0
deriving DecidableEq, Repr

/-- One command of a context as the dispatcher holds it (R160, R184). -/
structure Cmd where
  /-- The 64 descriptor bytes. -/
  desc : List Byte
  /-- The slot it was read from. -/
  slot : Nat
  /-- The SEQ of that slot. -/
  seq : Nat
  /-- Kills before commit (R187). -/
  reruns : Nat
  /-- The dispatcher has checked its common part (R162). -/
  checked : Bool
  /-- Its header wait has held once (R184). -/
  waitOk : Bool
  /-- Its object was POISONED or FREE at a moment since the DESC_SYNC check (R193). -/
  waitBroken : Bool
deriving DecidableEq, Repr

/-- What a command's execution found (R127, R140, R169). -/
inductive Verdict where
  | pending | passed | checksum | eccUe (acc : Bool) | region | kv (code : Nat)
deriving DecidableEq, Repr

/-- An effect that a command applies at its commit point beside its outputs (R182). -/
inductive PostEffect where
  /-- The word of a link entry that holds SEL is written, which names the new copy (R216). -/
  | link (addr : Nat) (word : Nat)
  /-- A RESERVED page becomes IN_USE with REFCNT 1: page, HWM byte, LAYOUT byte, scales (R213, R218, R227). -/
  | pageNew (page : Nat) (hwm : Nat) (layout : Nat) (kscale : Nat) (vscale : Nat)
  /-- A page's HWM byte (R218). -/
  | pageHwm (page : Nat) (hwm : Nat)
  /-- A page's REFCNT is decremented (R220, R225, R227). -/
  | pageDrop (part : Nat) (page : Nat)
  /-- A copy, counted at its commit. -/
  | kvCopy (part : Nat)
  /-- A chunk of a stream on tile `tile` (R242, R248–R250): its last segment mark, if it carries marks, and whether it
  sampled RESET. -/
  | stream (stream : Nat) (tile : Nat) (seg : Option Nat) (fresh : Bool)
  /-- A phase pre-grant (R609). -/
  | phase (next : Nat) (work : Nat)
deriving DecidableEq, Repr

/-- What a kill undoes in the KV page store (R225, R228). -/
inductive KvUndo where
  /-- A popped page returns to its list: partition, list, page. -/
  | page (part : Nat) (list : Nat) (page : Nat)
  /-- A share's increment of REFCNT. -/
  | ref (page : Nat)
deriving DecidableEq, Repr

/-- One entry of a tile's commit window (R176–R180). -/
structure WEntry where
  cmd : Cmd
  /-- Its unit has finished it (step 1 of R180). -/
  finished : Bool := false
  verdict : Verdict := .pending
  /-- Tile-local outputs: offset and bytes, valid for younger commands after the commit. -/
  outs : List (Nat × List Byte) := []
  /-- Memory outputs: device address and bytes (R179). -/
  writes : List (Nat × List Byte) := []
  /-- Effects of the commit point. -/
  post : List PostEffect := []
  /-- Arithmetic flags: bit 0 INVALID, 1 SATURATED, 2 INFINITE, 3 NAN_DROPPED (R103). -/
  flags : Nat := 0
  /-- What a kill undoes in the KV page store. -/
  undo : List KvUndo := []
  /-- The reads of neighbour windows that it has issued (R145, R545). -/
  asked : List (Nat × Nat) := []
  /-- A SCAN sampled RESET as 1 when it was dispatched (R248). -/
  fresh : Bool := false
  /-- RESET has been written 1 since that sampling. -/
  rewritten : Bool := false
deriving DecidableEq, Repr

/-- A step the scheduler makes before a context's first command on a tile (R301). -/
inductive Preparation where
  | saveOther (ctx : Nat)
  | saveSelf (tile : Nat)
  | restore
  | zeroFill
  | modelLoad
deriving DecidableEq, Repr

/-- One context (chapters 06 and 10). -/
structure Ctx where
  state : CtxState := .free
  part : Nat := 0
  /-- CAUSE of SCH_STAT. -/
  cause : Nat := 0
  entry : CtxEntry := {}
  /-- Address of the next slot to be read (R156). -/
  next : Nat := 0
  /-- The expected sequence number (R157). -/
  seq : Nat := 0
  /-- A HOLD has closed dispatch, and the window drains (R290). -/
  closing : Bool := false
  /-- The next slot was not ready: it is read again at the poll interval (R160). -/
  polling : Bool := false
  /-- The fetched and returned commands, in chain order (R160, R183). -/
  queue : List Cmd := []
  /-- The bytes from `next` on that the last 512-byte read of the chain brought and that have not been taken (R160). -/
  buffer : List Byte := []
  /-- Completion records written so far (R187). -/
  records : Nat := 0
  saved : Bool := false
  /-- A save of its resident state is in progress (R302, R304, R305). -/
  saving : Bool := false
  /-- The tile that holds the resident state. -/
  resident : Option Nat := none
  /-- The tile the context is placed on. -/
  onTile : Option Nat := none
  /-- The QTZ cycle up to which OCCUPY has been charged since the placement (R310). -/
  chargedTo : Nat := 0
  /-- Virtual time (R297) and the four counters (R310). -/
  vt : Nat := 0
  occupy : Nat := 0
  mat : Nat := 0
  vec : Nat := 0
  xfer : Nat := 0
  /-- The steps of R301 still to be done before the first command. -/
  prep : List Preparation := []
deriving DecidableEq, Repr

/-- One tile beyond its registers (chapters 05, 06 and 10). -/
structure Tile where
  /-- The context whose window runs on the tile. -/
  ctx : Option Nat := none
  /-- The commit window, oldest first (R176). -/
  window : List WEntry := []
  /-- A kill is being carried out; the victims return at its completion (R183). -/
  killing : Bool := false
  /-- The victims of a kill, in chain order. -/
  victims : List Cmd := []
  /-- The failing command is re-run ahead of every other command (R127). -/
  rerunFirst : Bool := false
  /-- The context leaves the tile when the kill is complete (R296). -/
  leaving : Bool := false
  /-- The context for which the window is being killed (R295). -/
  killFor : Option Nat := none
  /-- The model in the tile's model region, 0 for none, and that region's first byte and length (R309). -/
  model : Nat := 0
  modelAt : Nat × Nat := (0, 0)
  /-- Closed to placement by EVACUATE (R305). -/
  closed : Bool := false
  /-- The running context is fed no further commands (R298). -/
  draining : Bool := false
  /-- A test slot runs (R566). -/
  inSlot : Bool := false
  /-- The test slot's target floor of 44 holds (R566). -/
  preHold : Bool := false
  /-- The owning partition by the window table, 8 for none (R299). -/
  owner : Nat := 8
  /-- Work phase tag and power grant of the running command (R609). -/
  phase : Nat := 0
deriving DecidableEq, Repr

/-- One applied model (R306). -/
structure Model where
  applied : Bool := false
  part : Nat := 0
  pin : Bool := false
  home : Nat := 0
  bytes : Nat := 0
  mregBase : Nat := 0
  mregSize : Nat := 0
  cost : Nat := 0
  /-- Where the model's copy lies in the hot-set area, by offset and length, if it has one (R307). -/
  hot : Option (List (Nat × Nat)) := none
  /-- It did not fit in the hot set, and stays out (R308). -/
  out : Bool := false
  /-- The frame number of its last load into a tile (R308). -/
  age : Nat := 0
deriving DecidableEq, Repr

/-- The scheduler beyond its registers (chapter 10). -/
structure Sched where
  ctxs : Sparse Ctx
  tiles : Sparse Tile
  models : Sparse Model
  /-- The window table in force, 16 entries of (low word, high word): writes take effect at the next tick (R299). -/
  windows : List (Nat × Nat)
  /-- The accounting dump being written (R311). -/
  dump : Option (List (Nat × Nat × Nat × Nat))
deriving DecidableEq, Repr

/-- One 2 MiB page of local DRAM in the page map (R265, R270–R273). -/
structure TierPage where
  /-- Physical frame: below 32,768 in HBM3, from there on in LPDDR5X. -/
  frame : Nat
  heat : Nat := 0
  /-- Interval count (R272). -/
  count : Nat := 0
  /-- The object that tags the page. -/
  obj : Option Nat := none
  pin : Bool := false
  /-- The page's object is flagged NOALLOC (R263). -/
  noAlloc : Bool := false
deriving DecidableEq, Repr

/-- A page exchange: the two address pages, the partition charged, and its kind: 0 an APPLY's, 1 the promotion of
a spilled page, 2 heat's (R271, R273). -/
structure Exchange where
  low : Nat
  high : Nat
  part : Nat
  kind : Nat
deriving DecidableEq, Repr

/-- An applied object (R269, R271). -/
structure TierObj where
  valid : Bool := false
  part : Nat := 0
  hint : Nat := 0
  pin : Bool := false
  noAlloc : Bool := false
  base : Nat := 0
  pages : Nat := 0
deriving DecidableEq, Repr

/-- A weight-window channel that has been started: its descriptor words and its next layer (R275). -/
structure WwChan where
  desc : List Byte := []
  /-- The layer to be loaded next, counted across passes. -/
  g : Nat := 0
  /-- The layer table entry as checked for the layer in work (R277). -/
  layer : List Byte := []
  /-- A layer is being loaded. -/
  loading : Bool := false
  stopping : Bool := false
  /-- READY_OBJ or RELEASE_OBJ has become POISONED or FREE while it ran, and the raise of R277 is still to be made. -/
  broken : Bool := false
deriving DecidableEq, Repr

/-- A line held by the system cache (R262, R263). -/
structure CacheLine where
  valid : Bool := false
  way : Nat := 0
  part : Nat := 0
  dirty : Bool := false
deriving DecidableEq, Repr

/-- A memory request that waits for tokens or for service at a port (R281, R282). -/
structure MemReq where
  write : Bool
  addr : Nat
  units : Nat
  part : Nat
  /-- What a write lands when it is served; none where the command that made it lands its bytes. -/
  data : List Byte
  /-- The request port of its requester (R282). -/
  port : Nat
  /-- The die-to-die module that carries it, if it crosses between the dies (R18). -/
  module : Option Nat := none
  /-- The tiles whose routers its data pass, in order (R14). -/
  path : List Nat := []
  /-- It has been reissued over a substitute module (R20). -/
  again : Bool := false
deriving DecidableEq, Repr

/-- The memory tiers beyond their registers (chapter 09). -/
structure Tier where
  /-- L, the LPDDR5X capacity found by training, in bytes (R57, R518). -/
  lpdBytes : Nat
  pages : Sparse TierPage
  objects : Sparse TierObj
  /-- Exchanges that wait, APPLY's before heat's (R274). -/
  queue : List Exchange
  /-- The exchange in flight and the blocks it has completed (R274). -/
  current : Option (Exchange × Nat)
  chans : Sparse WwChan
  cache : Sparse CacheLine
  /-- Guaranteed and ceiling tokens in bytes, numbered 8 × port + partition (R281). -/
  gTokens : Sparse Nat
  cTokens : Sparse Nat
  /-- Bucket settings in force (a new MEM_BKT value acts from the next refill, R284), numbered likewise. -/
  bktNow : Sparse Nat
  /-- Requests waiting at each port, oldest first. -/
  waiting : Sparse (List MemReq)

  /-- Die-to-die modules taken out of use since the last warm reset (R20). -/
  d2dRemoved : List Nat
  /-- The modules that survived at the last warm reset (R20). -/
  d2dLatched : List Nat
deriving DecidableEq, Repr

/-- The PCIe endpoint beyond its registers (R497, R499). -/
structure Pcie where
  /-- The function is in D3hot: no message is sent (R497). -/
  d3hot : Bool
deriving DecidableEq, Repr


/-- A window watchdog beyond its registers (R575, R670, R671). -/
structure Watch where
  /-- FRAME mode: the watch periods whose CLOSE has not passed, oldest first: the TB4 count of the first tick, and
  whether its kick has come. -/
  periods : List (Nat × Bool) := []
  /-- The first watch period has begun (R671). -/
  begun : Bool := false
  /-- Its first watch period may begin: the stage has kicked once since BOOT was left, or EN has been written (R671). -/
  primed : Bool := false
  /-- INTERVAL mode: the TB4 count of the last kick, or of the enable. -/
  since : Nat := 0
  /-- INTERVAL mode: a kick has come since the enable. -/
  kicked : Bool := false
  /-- The QTZ cycle of the last kick judged: kicks of one cycle count as one (R577). -/
  kickCycle : Option Nat := none
deriving DecidableEq, Repr

/-- The periodic test cycle (R565, R530). -/
structure TestCycle where
  /-- TST_PHASE as latched at the cycle start, µs. -/
  phase : Nat
  /-- 0 no SELFTEST, 1 it waits for the next cycle start, 2 the cycle is its own. -/
  selftest : Nat
  /-- SELFTEST: every slot and check so far has passed. -/
  passed : Bool
deriving DecidableEq, Repr

/-- The frame in progress (R51, R54, R596). -/
structure FrameInfo where
  /-- TB2 and TB4 at the tick, ns. -/
  tb2 : Nat
  tb4 : Nat
  /-- The frame of R54 has been sent. -/
  sent54 : Bool
deriving DecidableEq, Repr

/-- The droop limit of an island (R616): the rate it fell to, and the QTZ cycle from which it rises. -/
structure Droop where
  rate : Nat := 64
  rising : Option Nat := some 0
deriving DecidableEq, Repr

/-- A rail's AVSBus telemetry: the last good reading in 0.1 W and the failures in a row (R602). -/
structure Rail where
  good : Nat := 0
  fails : Nat := 0
deriving DecidableEq, Repr

/-- The power manager beyond its registers (chapter 22). -/
structure Power where
  /-- CAP in force, W (R604). -/
  cap : Nat
  /-- LEVEL in µJ (R605). -/
  level : Int
  /-- The cap issue limit of every tile, 64ths (R605, R606). -/
  capIssue : Nat
  /-- Droop limits by island. -/
  droops : Sparse Droop
  /-- AVSBus rails. -/
  rails : Sparse Rail
  /-- The thermal limit of R618 by tile, as a code. -/
  thermCode : Sparse Nat
  /-- Hub sensor readings, 0.25 °C, as 16-bit two's complement. -/
  hubTemps : Sparse Nat
  /-- A hub sensor has been above TJ_THR and not every one is below TJ_THR − 3 °C yet (R618). -/
  hubHot : Bool
  /-- 10 W steps taken from B, and 50 MHz steps taken from PUM's clock (R618). -/
  hubCut : Nat
  /-- The frequency each tile takes once its island has settled (R613). -/
  goals : Sparse Nat
  /-- Grants by tile, in units of R612's prediction. -/
  grants : Sparse Nat
  /-- The part of the budget that no tile was granted, same units (R609). -/
  spare : Nat
  /-- REPEAT in force (R621). -/
  repeatOn : Bool
  /-- The adjacent islands that the last sample of R33 found more than 250 mV apart. -/
  vdiffOver : List (Nat × Nat)
  /-- The voltage that each island is on its way to, mV, and the islands that rise (R34, R613). -/
  islWant : List Nat
  islRising : List Nat
  /-- WEAR gained over the last 1,000 recorded hours (R625). -/
  wearRise : Option Nat
  /-- The derated codes of this power-on have been formed from fresh measurements (R624). -/
  derated : Bool
  /-- The set point of VDD_HUB that the board's regulator holds, mV (R648). -/
  hubVolt : Nat
deriving DecidableEq, Repr

/-- A recurrent stream beyond its registers (chapter 08). -/
structure Stream where
  /-- An image has been written since EN was set (STM_OP UNPARK). -/
  imageWritten : Bool := false
  /-- A swap-out begins once no chunk of the stream is in a commit window (R251). -/
  swapWanted : Bool := false
  /-- PARKED follows the swap-out (R256). -/
  park : Bool := false
  /-- The tile of the restore in progress (R253). -/
  dest : Nat := 0
deriving DecidableEq, Repr

/-- A request to a neighbour window that is outstanding, or that waits for a free tag (R545, R553). -/
structure OdlOut where
  port : Nat
  /-- Its tag; none while it waits for one. -/
  tag : Option Nat
  pos : Nat
  write : Bool
  /-- Address of its first line in the destination's local map. -/
  addr : Nat
  lines : Nat
  part : Nat
  /-- A write's lines, and their byte enables. -/
  data : List Byte
  mask : List Nat
  /-- The bytes that RD_DATA flits have returned. -/
  got : List Byte
  /-- It has been reissued once. -/
  again : Bool
  /-- The command it serves: a tile and the SEQ of the command's slot; none for a hub engine. -/
  owner : Option (Nat × Nat)
  /-- The request port of its requester (R282, R544). -/
  req : Nat
  /-- What it reads is still wanted: a killed command's data are discarded on return (R183). -/
  wanted : Bool
deriving DecidableEq, Repr

/-- What a device knows of another position (R547, R551). -/
structure OdlPos where
  lends : Bool := false
  /-- Frames since its last beacon. -/
  missed : Nat := 0
  /-- A beacon has come in this frame. -/
  heard : Bool := false
  /-- The links to it over port 0 and over port 1, where flits from it have come in there, and the same of this frame
  (R540, R541). -/
  via0 : Option Nat := none
  via1 : Option Nat := none
  new0 : Option Nat := none
  new1 : Option Nat := none
deriving DecidableEq, Repr

/-- Lending settings as latched at training: base and size in 2 MiB pages, partition, enable (R551). -/
structure OdlLend where
  base : Nat
  pages : Nat
  part : Nat
  en : Bool
deriving DecidableEq, Repr

/-- The Odilo link beyond its registers (chapter 19). -/
structure Odl where
  outs : List OdlOut
  /-- WR_MASK flits held until their WR comes, by port: the tag and its masks (R542). -/
  masks : Sparse (List (Nat × List Nat))
  positions : Sparse OdlPos
  lend : OdlLend
  /-- Replays of one flit in a row, by port (R543). -/
  replays : Sparse Nat
  /-- Ports whose training runs (R539, R554). -/
  training : List Nat
deriving DecidableEq, Repr

/-- A measurement record in Agate's queue (R349, R351). -/
structure AgtRec where
  /-- The ordering key, as it is kept apart from the body: T_CAP, CLASS, SENSOR, SID, arrival. -/
  tcap : Nat
  cls : Nat
  sensor : Nat
  sid : Nat
  arrival : Nat
  /-- The 128 bytes. -/
  data : List Byte
  /-- The frame from whose epoch on it takes part (R43). -/
  eligible : Nat
  /-- The epoch in which it was applied or discarded at its batch; none while it waits. -/
  applied : Option Nat := none
  /-- The ego state at T_CAP with which it was mapped when it was first applied (R357, R369). -/
  frame : Option (List Nat) := none
deriving DecidableEq, Repr

/-- One object track (R359, R366). -/
structure Track where
  /-- 0 free, 1 TENTATIVE, 2 CONFIRMED, 3 COASTING. -/
  status : Nat := 0
  model : Nat := 0
  /-- The state and its covariance, FP32 words. -/
  x : List Nat := []
  p : List Nat := []
  /-- T_CAP of the last update, TB3. -/
  time : Nat := 0
  label : Nat := 0
  score : Nat := 0
  /-- Extent of the last update that carried one. -/
  ext : List Nat := [0, 0, 0]
  born : Nat := 0
  /-- Epochs with an update. -/
  hits : Nat := 0
  last : Nat := 0
  /-- The epoch in which each sensor last updated it. -/
  by_ : Sparse Nat := []
deriving DecidableEq, Repr

/-- The ego filter (R363). -/
structure EgoState where
  /-- The 15 states and their covariance, FP32 words. -/
  x : List Nat := []
  p : List Nat := []
  time : Nat := 0
  /-- The latest angular rate and acceleration, FP32 words. -/
  imu : List Nat := []
  /-- The epoch in which an IMU record was last applied. -/
  imuEpoch : Option Nat := none
deriving DecidableEq, Repr

/-- The checkpoint slot of one epoch (R367). -/
structure Ckpt where
  epoch : Nat
  /-- The ego state at the opening of the epoch. -/
  ego : EgoState
  /-- The image, at the opening, of every track first updated in the epoch: number and state. -/
  images : List (Nat × Track)
  /-- Every update of the epoch in order: the record's arrival number, and the track, 4,096 for the ego filter. -/
  log : List (Nat × Nat)
  dropped : Bool
deriving DecidableEq, Repr

/-- An input ring of Agate that is enabled (R348). -/
structure AgtRing where
  put0 : Nat := 0
  taken : Nat := 0
deriving DecidableEq, Repr

/-- Agate beyond its registers (chapter 12). -/
structure Agate where
  /-- The first epoch has opened since the start (R374). -/
  opened : Bool
  queue : List AgtRec
  /-- Insertions so far. -/
  arrivals : Nat
  tracks : Sparse Track
  ego : EgoState
  /-- The epoch whose commit set the mark; none before the first since the start. -/
  mark : Option Nat
  /-- The address of the last committed snapshot, which a restart leaves (R44). -/
  committed : Option Nat
  /-- The ego filter after each ego record of the last 33 epochs, newest first, with its epoch: the ego state at a past T_CAP comes from
  them (R357). -/
  egoPast : List (Nat × EgoState)
  /-- C(n) of past epochs, newest first (R346). -/
  cuts : List (Nat × Nat)
  /-- Φ 200 of the frame in progress has passed (R43). -/
  cut : Bool
  /-- Checkpoints of the last 32 epochs, newest first. -/
  ckpts : List Ckpt
  /-- Internal copies of the transform table, and the bank that a pending swap names (R356). -/
  active : List Byte
  previous : List Byte
  wantBank : Nat
  /-- The user block as loaded at the start (R361). -/
  user : List Byte
  rings : Sparse AgtRing
  /-- Flags of the epoch in progress. -/
  rewound : Bool
  deferred : Bool
  /-- The rewind of this frame has been done, and the records that the drain may still take (R368, R370). -/
  lateDone : Bool
  drainLeft : Nat
deriving DecidableEq, Repr


/-- A point packet in the point store: its first store index, its points, and the time of point 0 (R376, R380). -/
structure PumPacket where
  first : Nat
  count : Nat
  base : Nat
deriving DecidableEq, Repr

/-- A sweep of a scanner (R377). -/
structure PumSweep where
  scanner : Nat
  sensor : Nat
  number : Nat
  /-- Its end time once it is complete. -/
  done : Option Nat
  packets : List PumPacket
deriving DecidableEq, Repr

/-- A closed frame that waits for its build (R378, R379): its sweeps in canonical order. -/
structure PumFrame where
  number : Nat
  tref : Nat
  leadLost : Bool
  sweeps : List PumSweep
deriving DecidableEq, Repr

/-- A layer of a frame: its rows, those of them that have been written, its grid step as a power of two, and the layer and
KS of the DOWN job that made it (R389, R399, R401). -/
structure PumLayer where
  layer : Nat
  rows : Nat
  written : Nat
  step : Int
  downOf : Option (Nat × Nat)
deriving DecidableEq, Repr

/-- A frame that has been built (R390). -/
structure PumBuilt where
  number : Nat
  tref : Nat
  layers : List PumLayer
deriving DecidableEq, Repr

/-- The build in progress: its frame, EGO_EXTRAP, and the ego states and transform copies it reads (R382–R384). -/
structure PumBuild where
  frame : PumFrame
  extrap : Bool
  egos : List (Nat × List Nat)
  active : List Byte
  previous : List Byte
deriving DecidableEq, Repr

/-- A job that has been taken (R394–R396). -/
structure PumJob where
  ring : Nat
  desc : List Byte
  /-- Its unit has done its work; JOB_COMPLETE signals. -/
  ran : Bool := false
  /-- T_PUB, while a DECODE's records wait for it (R407). -/
  due : Option Nat := none
  /-- A DECODE's boxes, as the box list holds them: ten FP32 words, class and cell index each. -/
  boxes : List (List Nat) := []
deriving DecidableEq, Repr

/-- Pumice beyond its registers and its tables in memory (chapter 13). -/
structure Pumice where
  /-- Next index of the point store. -/
  head : Nat
  sweeps : List PumSweep
  /-- Ego states with their stamps, newest first (R381): 32 words each. -/
  egos : List (Nat × List Nat)
  frames : List PumFrame
  building : Option PumBuild
  nextFrame : Nat
  /-- LEAD_TIMEOUT has passed since the last close (R378). -/
  leadLate : Bool
  /-- The frames that the two banks hold, newest first (R393). -/
  built : List PumBuilt
  jobs : List PumJob
  rings : Sparse AgtRing
  /-- Boxes of the most recently completed decode (R392). -/
  boxes : List (List Nat)
deriving DecidableEq, Repr



/-- An egress port of the switch beyond its registers (R500–R502). -/
structure EthPort where
  /-- Frames by traffic class, oldest first. -/
  queues : Sparse (List (List Byte)) := []
  /-- The gate control entry in force. -/
  entry : Nat := 0
  /-- The gate bank named by a swap that waits for the next cycle start. -/
  swap : Option Nat := none
deriving DecidableEq, Repr

/-- A recovery function of IEEE 802.1CB (R505): the newest sequence number, and the numbers seen in its history. -/
structure RecFn where
  newest : Option Nat := none
  seen : List Nat := []
deriving DecidableEq, Repr

/-- A Qci filter beyond its entry (R504): the meter's tokens in millionths of a bit and the QTZ cycle at which they stood, and BLOCKED. -/
structure QciFilter where
  tokens : Nat := 0
  since : Nat := 0
  blocked : Bool := false
  drops : Nat := 0
deriving DecidableEq, Repr

/-- The Ethernet switch beyond its registers (R500–R508). -/
structure Eth where
  ports : Sparse EthPort
  /-- The next sequence number of a replication function's R-tag. -/
  seqs : Sparse Nat
  recov : Sparse RecFn
  filters : Sparse QciFilter
  /-- gPTP frames dropped for their domain (R506). -/
  ptpDrops : Nat
  /-- Words of 16-byte entries written before the end of their high half, by address (R523). -/
  staged : Sparse Nat
deriving DecidableEq, Repr

/-- A frame that waits for bus arbitration (R511): its source, 0 the lease, 1 + f Garnet's frame f, 100 the mailbox; and
for CAN XL its SDT, SEC, VCID and acceptance field (R509). -/
structure CanTx where
  src : Nat
  frame : CanFrame
  xl : List Nat
deriving DecidableEq, Repr

/-- A CAN controller beyond its registers (R511, R512). -/
structure CanCtl where
  pending : List CanTx := []
  busOff : Bool := false
  /-- Recovery from bus-off has been asked for, or is automatic. -/
  recovering : Bool := false
  /-- Error-passive entries (R512). -/
  passive : Nat := 0
deriving DecidableEq, Repr

/-- The sensor-side ports beyond their registers (R513, R514). -/
structure Iox where
  /-- Chip selects whose burst runs or waits, by SPI master, oldest first. -/
  spi : Sparse (List Nat)
  /-- Transmit FIFO bytes, by UART, and writes that found the FIFO full. -/
  uart : Sparse (List Nat)
  uartDrops : Sparse Nat
  /-- The levels of A, B and Z as bits 0, 1 and 2, by encoder channel (R515). -/
  enc : Sparse Nat
deriving DecidableEq, Repr

/-- The test port (R521): the instruction in force, the boundary cells as preloaded, and the bits that the last scan shifted
out. -/
structure Tap where
  instr : Nat
  boundary : List Bool
  out : List Bool
deriving DecidableEq, Repr

/-- Fuses and boot (chapter 23). -/
structure Sec where
  /-- The fuse array, as it is now and as it was last sensed, by word. The array survives power removal. -/
  live : Sparse Nat
  sensed : Sparse Nat
  /-- The SEC_FPGM write that is programming: word and bits. -/
  prog : Option (Nat × Nat)
  /-- The LMS leaf block in use since power-on, and the quotes made from it (R645). -/
  block : Option Nat
  used : Nat
  /-- Verified images of this boot: type, security version, ADVANCE (R639). -/
  images : List (Nat × Nat × Bool)
deriving DecidableEq, Repr


/-- A node of Slate's static tree (R413): coordinates as 32-bit patterns. -/
structure SltNode where
  x : Nat := 0
  y : Nat := 0
  z : Nat := 0
  level : Nat := 0
  child : Nat := 0
  occ : Bool := false
deriving DecidableEq, Repr

/-- One of the two static banks (R414): nodes by slot, their number, and the T_REF of its newest image. -/
structure SltTree where
  nodes : Sparse (Option SltNode) := []
  count : Nat := 0
  newest : Option Nat := none
deriving DecidableEq, Repr

/-- A static build in progress (R414): the keys still to insert, each with its image's grid and pose words; the bank being
built; and whether it is complete. -/
structure SltBuild where
  todo : List (List Nat)
  tree : SltTree
  complete : Bool
deriving DecidableEq, Repr

/-- A bin of object references (R418): track numbers with BLOCKED. -/
abbrev SltBin := List (Nat × Bool)

/-- One of the two object banks (R413, R417–R419): entries of eight words by slice and track, bins by slice, and the track
copies as last inserted. -/
structure SltBank where
  entries : Sparse (List Nat) := []
  bins : Sparse SltBin := []
  copies : Sparse (List Byte) := []
deriving DecidableEq, Repr

/-- A published snapshot (R421): what its name gives a reader. -/
structure SltSnap where
  id : Nat
  epoch : Nat
  late : Bool
  /-- T_S, TB4 (R411). -/
  time : Nat
  /-- The Agate snapshot that it was built from. -/
  agate : List Byte
  tree : SltTree
  bank : SltBank
  keepOut : List (List Nat)
deriving DecidableEq, Repr

/-- Slate beyond its registers (R411–R421). -/
structure Slate where
  active : SltTree
  build : Option SltBuild
  banks : Sparse SltBank
  /-- The active keep-out copy, eight words each, and the bank that a pending swap names. -/
  keepOut : List (List Nat)
  wantBank : Nat
  /-- The Agate snapshot in work since Φ 250 of this frame, and the tracks that the inserter has not reached. -/
  work : Option (List Byte)
  left : List Nat
  /-- The snapshot in work is truncated; no static image qualifies; a static build has been abandoned. -/
  truncated : Bool
  stale : Bool
  full : Bool
  published : Option SltSnap
  /-- The Φ 400 at which a stop completes has passed (R441). -/
  ended : Bool
deriving DecidableEq, Repr

/-- A trajectory (R422): the frame whose hand-over or lease it is, T0, and 128 knots of eight words. -/
structure Traj where
  frame : Nat
  t0 : Nat
  knots : List Nat
deriving DecidableEq, Repr

/-- A standby lease (R436, R437). -/
structure Lease where
  traj : Traj
  until_ : Nat
  kind : Nat
  unchecked : Bool
deriving DecidableEq, Repr

/-- A candidate of the optimiser (R430): its number, its iterate's knots and its cost, an FP32 word. -/
structure PlanCand where
  number : Nat
  knots : List Nat
  cost : Nat
deriving DecidableEq, Repr

/-- Flint beyond its registers (R423–R439). -/
structure Flint where
  /-- Active reference path and seeds, eight and 256 words each; banks named by swaps that wait for a tick. -/
  path : List (List Nat)
  seeds : List (List Nat)
  wantPath : Option Nat
  wantSeed : Option Nat
  /-- Flint has optimised in this frame, and in an earlier frame since RUNNING (R440). -/
  started : Bool
  before : Bool
  /-- s0 of the frame, eight words, and T0. -/
  s0 : List Nat
  t0 : Nat
  /-- The snapshot that the optimiser uses, and the SLATE_ID of the one that the checker used in this frame (R52, R432). -/
  snap : Option SltSnap
  checked : Option Nat
  /-- Candidates that the checker has still to test or is testing at Φ 850–880; the plan found so far: knots and WINNER. -/
  testing : Bool
  plan : Option (List Nat × Nat)
  /-- The checker is testing the previous plan (R434). -/
  reuse : Bool
  /-- The last plan handed over, and the plan handed over before Garnet adopts it. -/
  handed : Option Traj
  lease : Option Lease
  /-- Hand-over and lease of this frame have been made. -/
  handedNow : Bool
  /-- The grace period has expired (R439), and RESUME ends it from the next frame. -/
  grace : Bool
  resume : Bool
  /-- NO_SAFE_PLAN applies to this frame's hand-over. -/
  noPlan : Bool
  /-- The Φ 950 at which a stop takes effect has passed (R440). -/
  ended : Bool
deriving DecidableEq, Repr


/-- A control loop beyond its registers (R451, R455, R456); values are FP32 words. -/
structure GntLoop where
  /-- The next sample is the first since the enable; it presets the integrator after a start (R451, R466). -/
  fresh : Bool := true
  preset : Bool := false
  yf : Nat := 0
  yfPrev : Nat := 0
  d : Nat := 0
  i : Nat := 0
  /-- v of the most recent completed computation, and whether there is one since the enable. -/
  v : Nat := 0
  done : Bool := false
  /-- Samples since the enable; the repetitive controller's buffers. -/
  k : Nat := 0
  bufV : Sparse Nat := []
  bufE : Sparse Nat := []
  /-- Profile generator: p, v, a; the retarget has not been seen by a step; its target lay above p. -/
  p : Nat := 0
  pv : Nat := 0
  pa : Nat := 0
  retarget : Bool := true
  above : Bool := false
  /-- The number of its last sample instant that has passed (R446). -/
  sampled : Option Nat := none
deriving DecidableEq, Repr

/-- An actuator beyond its registers (R446, R452, R461): u_prev as an FP32 word, a RECOVER that waits for the next sample, the
period exponent and PHASE of its loops, and the number of its last output instant that has passed. -/
structure GntAct where
  uPrev : Nat := 0
  recover : Bool := false
  plog2 : Nat := 0
  phase : Nat := 128
  output : Option Nat := none
deriving DecidableEq, Repr

/-- Garnet beyond its registers (chapter 15). -/
structure Garnet where
  loops : Sparse GntLoop
  acts : Sparse GntAct
  /-- A feedback slot's newest sample and its T_CAP (R449). -/
  slots : Sparse (Option (List Byte × Nat))
  /-- The active plan, and the plan handed over for adoption at Φ 0 (R45). -/
  plan : Option Traj
  next : Option Traj
  /-- The number of the next control-period boundary of the frame (R445). -/
  boundary : Nat
  /-- The number of each actuator frame's last emit instant that has passed (R464). -/
  emitted : Sparse (Option Nat)
deriving DecidableEq, Repr


/-- A sample that has begun (R319, R320): its identifier, T_CAP, T_TRIG, and the encoder count latched with it. -/
structure IngSample where
  sid : Nat
  tcap : Nat
  ttrig : Nat
  count : Nat
deriving DecidableEq, Repr

/-- An ingress stream beyond its registers (R319–R332). -/
structure IngStream where
  /-- Samples that have begun and not ended, oldest first. -/
  begun : List IngSample := []
  /-- SID_FIRST, once a sample has begun since the last start. -/
  first : Option Nat := none
  /-- REL0 and IN0, and the samples taken from the input ring since the start. -/
  rel0 : Nat := 0
  in0 : Nat := 0
  taken : Nat := 0
  /-- SIDs whose slot is being written; samples in the unbroken run of finished ones; finished ones beyond it, as their
  distance from SID_FIRST. -/
  writing : List Nat := []
  run : Nat := 0
  finished : List Nat := []
  /-- The last sequence field since the start. -/
  seq : Option Nat := none
deriving DecidableEq, Repr

/-- A pack channel beyond its registers (R336): TRIG0, the run's number and, while it runs, its list. -/
structure PackChan where
  trig0 : Nat := 0
  run : Nat := 0
  list : Option (List Byte) := none
deriving DecidableEq, Repr

/-- The ingress block beyond its registers (chapter 11). -/
structure Ingress where
  streams : Sparse IngStream
  packs : Sparse PackChan
deriving DecidableEq, Repr

/-- What the block drives out to its surroundings, in order. The list is the model's own record of its pins and links. -/
inductive Emission where
  /-- An Ethernet frame leaves on a port (R502). -/
  | eth (port : Nat) (frame : List Byte)
  /-- A gPTP frame is trapped to Granite with its stamp on TB0 and TB1 (R506). -/
  | gptp (port : Nat) (tb0 : Nat) (tb1 : Nat) (frame : List Byte)
  /-- The egress stamp of a gPTP event frame returns to Granite: port, domain 0 (A) or 1 (B), its base's count (R506). -/
  | stamp (port : Nat) (domain : Nat) (count : Nat)
  /-- A CAN frame is sent on a bus (R511). -/
  | can (ctl : Nat) (frame : CanFrame) (xl : List Nat)
  /-- An MSI-X message is sent (R499). -/
  | msix (vec : Nat)
  /-- An SPI burst starts on a chip select (R513). -/
  | spi (master : Nat) (cs : Nat) (data : List Byte)
  /-- A byte leaves a UART (R514). -/
  | uart (u : Nat) (data : Nat)
  /-- An Odilo flit leaves a port: its kind and its fields (R541). -/
  | odl (port : Nat) (kind : String) (fields : List Nat) (data : List Byte)
deriving DecidableEq, Repr

/-- The state of the block. -/
structure State where
  /-- The commands that wait, first in, first out. -/
  pending : List Instr
  /-- The model's own counter of free values used (no part of spec/). -/
  freeCtr : Nat
  /-- The model's own record of what has been driven out. -/
  sent : List Emission
  /-- The rotating pointers of the shared resources, by resource number (R195). -/
  arb : Sparse Nat
  /-- The device addresses of uncorrectable 64-bit words in the tiles' memories (R140, R143). -/
  ue : List Nat
  /-- Device memory: local DRAM, the tiles' SRAM windows and the scratch partition, by device address (R56). -/
  mem : Sparse Byte
  /-- Register words by address within the register space (R62). -/
  regs : Sparse Word
  /-- Block instances by their lowest page (R63). -/
  blocks : Sparse Block
  pins : Pins
  dev : Dev
  fc : Collector
  qtz : Quartz
  sch : Sched
  tier : Tier
  pcie : Pcie
  wdg : Sparse Watch
  test : TestCycle
  frame : FrameInfo
  pwr : Power
  stm : Sparse Stream
  odl : Odl
  agt : Agate
  pum : Pumice
  eth : Eth
  can : Sparse CanCtl
  iox : Iox
  tap : Tap
  sec : Sec
  slt : Slate
  flt : Flint
  gnt : Garnet
  ing : Ingress
deriving DecidableEq, Repr

/-- Why a run could stop with a fault. No command of spec/ stops the block: the type has no constructor. -/
inductive Fault where
deriving DecidableEq, Repr

/-- Why a command is refused. -/
inductive Refusal where
  /-- The command has no meaning yet; raised by Dispatch for its arm only. Safe: nothing is claimed of it. -/
  | notModelled (mnemonic : String)
deriving DecidableEq, Repr

/-- The block after power-on with the supplies good and RESET_N released, entering BOOT (R533, R653), strapped as position 0: the two
words listed are ODL_MEMBERS and ODL_ROUTE, which show the strap (R538, R540). -/
def State.reset : State where
  pending := []
  freeCtr := 0
  sent := []
  arb := []
  ue := []
  mem := []
  regs := [(0x600080, 1), (0x600084, 3)]
  blocks := []
  pins := { powered := true, supplyOk := true, resetReleased := true, refclkSys := true, cascPos := 0,
            testMode := false, refreshLost := false }
  dev := { mode := .boot, engagePending := false, hbSince := 0, graceSince := none, presentAtArm := 0, op := none, lastWpr := {},
           bootStage := 0, respGranite := ⟨0, []⟩, respCmdp := ⟨0, []⟩, respPcie := ⟨0, []⟩ }
  fc := { broken := [], raised := [] }
  qtz := { bases := [], servos := [], epochs := [], triggers := [], captures := [], nextTick := 1000000,
           cycles := 0, refLost := false }
  sch := { ctxs := [], tiles := [], models := [],
           windows := [(0x80000000, 0xFFFFFFFF), (0x81000028, 0xFFFFFFFF), (0x82000280, 0xFFFFFFFF),
                       (0x83000370, 0xFFFFFFFF)],
           dump := none }
  tier := { lpdBytes := 0, pages := [], objects := [], queue := [], current := none, chans := [], cache := [],
            gTokens := [], cTokens := [], bktNow := [], waiting := [], d2dRemoved := [], d2dLatched := [0, 1, 2, 3] }
  pcie := { d3hot := false }
  wdg := []
  test := { phase := 40, selftest := 0, passed := true }
  frame := { tb2 := 0, tb4 := 0, sent54 := false }
  pwr := { cap := 0, level := 4500000, capIssue := 64, droops := [], rails := [], thermCode := [], hubTemps := [],
           hubHot := false, hubCut := 0, goals := [], grants := [], spare := 0, repeatOn := false, vdiffOver := [],
           islWant := [], islRising := [],
           wearRise := none, derated := false, hubVolt := 800 }
  stm := []
  odl := { outs := [], masks := [], positions := [], lend := ⟨0, 0, 7, false⟩, replays := [], training := [] }
  agt := { opened := false, queue := [], arrivals := 0, tracks := [], ego := {}, mark := none, committed := none, egoPast := [], cuts := [], cut := false,
           ckpts := [], active := [], previous := [], wantBank := 0, user := [], rings := [], rewound := false,
           deferred := false, lateDone := false, drainLeft := 0 }
  pum := { head := 0, sweeps := [], egos := [], frames := [], building := none, nextFrame := 0,
           leadLate := false, built := [], jobs := [], rings := [], boxes := [] }
  eth := { ports := [], seqs := [], recov := [], filters := [], ptpDrops := 0, staged := [] }
  can := []
  iox := { spi := [], uart := [], uartDrops := [], enc := [] }
  tap := { instr := 0, boundary := [], out := [] }
  sec := { live := [], sensed := [], prog := none, block := none, used := 0, images := [] }
  slt := { active := {}, build := none, banks := [], keepOut := [], wantBank := 0, work := none, left := [], truncated := false,
           stale := false, full := false, published := none, ended := false }
  flt := { path := [], seeds := [], wantPath := none, wantSeed := none, started := false, before := false, s0 := [], t0 := 0,
           snap := none, checked := none, testing := false, plan := none, reuse := false, handed := none, lease := none, handedNow := false,
           grace := false, resume := false, noPlan := false, ended := false }
  gnt := { loops := [], acts := [], slots := [], plan := none, next := none, boundary := 0, emitted := [] }
  ing := { streams := [], packs := [] }

end Sys2Proof.Machine
end

