-- ==== Sys2Proof/Machine/Ops.lean ====
section
/-! DEFINITION. The named operations over registers, page headers, block instances, memory and free values that every
meaning uses. -/

namespace Sys2Proof.Machine

/-! ## Registers -/

/-- Register word `a` (R62). -/
def State.reg (s : State) (a : Nat) : Word := Sparse.get resetWord s.regs a

/-- The state with register word `a` holding `v`. -/
def State.setReg (s : State) (a : Nat) (v : Word) : State := { s with regs := Sparse.set resetWord s.regs a v }

/-- `n` consecutive register words from `a` as one number, the lowest word least significant (R9, R80). -/
def State.regNat (s : State) (a : Nat) : Nat → Nat
  | 0 => 0
  | n + 1 => (s.reg a).toNat + 2 ^ 32 * s.regNat (a + 4) n

/-- Write a number into `n` consecutive register words from `a`. -/
def State.setRegNat (s : State) (a : Nat) : Nat → Nat → State
  | 0, _ => s
  | n + 1, v => (s.setReg a (BitVec.ofNat 32 v)).setRegNat (a + 4) n (v / 2 ^ 32)

/-- The value of a field. -/
def State.getF (s : State) (f : Fld) : Nat := bits (s.regNat f.addr (f.hi / 32 + 1)) f.hi f.lo

/-- The state with a field holding the low bits of `v`. -/
def State.putF (s : State) (f : Fld) (v : Nat) : State :=
  s.setRegNat f.addr (f.hi / 32 + 1) (setBits (s.regNat f.addr (f.hi / 32 + 1)) f.hi f.lo v)

/-- A field that is not 0. -/
def State.onF (s : State) (f : Fld) : Bool := s.getF f != 0

/-- A counter field counts up and saturates at its width. -/
def State.satInc (s : State) (f : Fld) (n : Nat := 1) : State := s.putF f (min (s.getF f + n) (2 ^ f.width - 1))

/-- A counter field counts up and wraps at its width. -/
def State.wrapInc (s : State) (f : Fld) (n : Nat := 1) : State := s.putF f (s.getF f + n)

/-- A saturating counter field counts down, not below 0. -/
def State.dec (s : State) (f : Fld) : State := s.putF f (s.getF f - 1)

/-! ## The page directory (R63) -/

/-- One row of the page directory: first and last page, pages of an instance, block type, always on. -/
structure DirRow where
  first : Nat
  last : Nat
  each : Nat
  type : Nat
  always : Bool
deriving DecidableEq, Repr

/-- The page directory (R63). -/
def directory : List DirRow := [
  ⟨0x0000, 0x000F, 16, 0x01, true⟩, ⟨0x0010, 0x001F, 16, 0x02, true⟩, ⟨0x0020, 0x003F, 32, 0x03, true⟩,
  ⟨0x0040, 0x004F, 16, 0x04, true⟩, ⟨0x0050, 0x005F, 16, 0x05, true⟩, ⟨0x0060, 0x006F, 16, 0x06, true⟩,
  ⟨0x0070, 0x007F, 16, 0x07, true⟩, ⟨0x0080, 0x00BF, 64, 0x08, false⟩, ⟨0x00C0, 0x00FF, 64, 0x09, true⟩,
  ⟨0x0100, 0x02FF, 16, 0x0A, false⟩, ⟨0x0300, 0x030F, 4, 0x0B, false⟩, ⟨0x0310, 0x031F, 4, 0x0C, false⟩,
  ⟨0x0320, 0x032F, 4, 0x0D, false⟩, ⟨0x0330, 0x0337, 8, 0x0E, false⟩, ⟨0x0338, 0x033F, 8, 0x0F, false⟩,
  ⟨0x0340, 0x037F, 64, 0x10, false⟩, ⟨0x0380, 0x03BF, 64, 0x11, false⟩, ⟨0x03C0, 0x03FF, 64, 0x12, false⟩,
  ⟨0x0400, 0x047F, 128, 0x13, false⟩, ⟨0x0480, 0x04BF, 64, 0x14, false⟩, ⟨0x04C0, 0x04FF, 64, 0x15, false⟩,
  ⟨0x0500, 0x057F, 128, 0x16, false⟩, ⟨0x0580, 0x05BF, 64, 0x17, false⟩, ⟨0x05C0, 0x05DF, 32, 0x18, false⟩,
  ⟨0x05E0, 0x05EB, 2, 0x19, false⟩, ⟨0x05F0, 0x05FF, 16, 0x1A, false⟩, ⟨0x0600, 0x061F, 16, 0x1B, false⟩,
  ⟨0x0620, 0x063F, 32, 0x1C, true⟩]

/-- The directory row of page `p`; none for a reserved page. -/
def dirRow (p : Nat) : Option DirRow := directory.find? (fun r => r.first ≤ p && p ≤ r.last)

/-- The lowest page of the instance that holds page `p`. -/
def instPage (p : Nat) : Nat :=
  match dirRow p with
  | some r => r.first + (p - r.first) / r.each * r.each
  | none => p

/-- The pages of the instance that holds page `p`. -/
def instPages (p : Nat) : List Nat :=
  match dirRow p with
  | some r => (List.range r.each).map (fun i => instPage p + i)
  | none => []

/-- The block type of page `p`, 0 on a reserved page. -/
def blockType (p : Nat) : Nat := match dirRow p with | some r => r.type | none => 0

/-- Page `p` belongs to an always-on block (R69). -/
def alwaysOn (p : Nat) : Bool := match dirRow p with | some r => r.always | none => false

/-! ## Page headers (R64, R67) -/

namespace Reg
def PG_CTRL_LOCK (p : Nat) : Fld := ⟨0x1000 * p + 0x8, 8, 8⟩
def PG_IRQ_EN (p : Nat) : Fld := ⟨0x1000 * p + 0x14, 31, 0⟩
def PG_IRQ_STAT (p : Nat) : Fld := ⟨0x1000 * p + 0x18, 31, 0⟩
def PG_PART_OWNER (p : Nat) : Fld := ⟨0x1000 * p + 0x1C, 2, 0⟩
end Reg

/-- The owning partition of a page (R64). -/
def State.owner (s : State) (p : Nat) : Nat := s.getF (Reg.PG_PART_OWNER p)

/-- A page is locked (R79). -/
def State.locked (s : State) (p : Nat) : Bool := s.onF (Reg.PG_CTRL_LOCK p)

/-- The block instance that holds page `p`. -/
def State.block (s : State) (p : Nat) : Block := Sparse.get (fun _ => {}) s.blocks (instPage p)

/-- The state with the block instance of page `p` replaced. -/
def State.setBlock (s : State) (p : Nat) (b : Block) : State :=
  { s with blocks := Sparse.set (fun _ => {}) s.blocks (instPage p) b }

/-- STATE of the instance of page `p`: always-on blocks read RUNNING (R69). -/
def State.blockState (s : State) (p : Nat) : BlockState := if alwaysOn p then .running else (s.block p).state

/-- The instance of page `p` is RUNNING. -/
def State.isRunning (s : State) (p : Nat) : Bool := s.blockState p == .running

/-- A page raises its interrupt output while PG_IRQ_STAT AND PG_IRQ_EN is non-zero (R66). -/
def State.pageOutput (s : State) (p : Nat) : Bool :=
  (s.getF (Reg.PG_IRQ_STAT p) &&& s.getF (Reg.PG_IRQ_EN p)) != 0

/-- The MSI-X vector that PCIE_VMAP routes block type `bt` to (R499). -/
def State.vectorOf (s : State) (bt : Nat) : Option Nat :=
  let v := bits (s.reg (Reg.PCIE_VMAP (bt / 4))).toNat (8 * (bt % 4) + 7) (8 * (bt % 4))
  if v < 64 then some v else none

/-- The level of a vector: the OR of the outputs of every page routed to it (R499). -/
def State.vectorLevel (s : State) (v : Nat) : Bool :=
  s.regs.any (fun e => e.1 % 0x1000 == 0x18 &&
    (dirRow (e.1 / 0x1000)).isSome && s.pageOutput (e.1 / 0x1000) && s.vectorOf (blockType (e.1 / 0x1000)) == some v)

/-- Add an emission to the record of what has been driven out. -/
def State.emit (s : State) (e : Emission) : State := { s with sent := s.sent ++ [e] }

/-- The PBA bit of vector `v` (R499). -/
def pbaFld (v : Nat) : Fld := ⟨Reg.PCIE_PBA, v, v⟩

/-- Messages may leave for vector `v`: the endpoint is up and not in D3hot, the host is not lost, and neither the
vector nor the function is masked (R313, R497, R499). -/
def State.vectorOpen (s : State) (v : Nat) : Bool :=
  s.onF Reg.PCIE_LINK_LINK_UP && !s.pcie.d3hot && !s.onF Reg.DEV_MODE_HOST_LOST && !s.onF (Reg.PCIE_MSIX_MASK v)

/-- Vector `v`'s level rises: its message is sent, or its PBA bit sets while it is masked (R499). -/
def State.vectorRise (s : State) (v : Nat) : State :=
  if s.vectorOpen v then s.emit (.msix v) else s.putF (pbaFld v) 1

/-- The levels of the vectors have moved from `old` to `s` for vector `v` (R499). -/
def State.vectorEdge (s old : State) (v : Nat) : State :=
  match old.vectorLevel v, s.vectorLevel v with
  | false, true => s.vectorRise v
  | true, false => s.putF (pbaFld v) 0
  | _, _ => s

/-- A change of page `p`'s interrupt status or enables reaches its vector (R66, R499). -/
def State.pageEdge (s old : State) (p : Nat) : State :=
  match s.vectorOf (blockType p) with
  | some v => s.vectorEdge old v
  | none => s

/-- Set bits of PG_IRQ_STAT of page `p` (R64, R66). -/
def State.irq (s : State) (p : Nat) (mask : Nat) : State :=
  (s.putF (Reg.PG_IRQ_STAT p) (s.getF (Reg.PG_IRQ_STAT p) ||| mask)).pageEdge s p

/-- STATE of the instance of page `p` becomes `st`; RUNNING, OFF and FAULTED set STATE_CHG on every page (R67). -/
def State.enterBlock (s : State) (p : Nat) (b : Block) : State :=
  let s' := s.setBlock p b
  if b.state != (s.block p).state && (b.state == .running || b.state == .off || b.state == .faulted) then
    (instPages p).foldl (fun t q => t.irq q (2 ^ 31)) s'
  else s'

/-- The block-specific registers of the instance of page `p` return to reset, but for RWL fields of locked pages and
the registers that `keep` names (R73). -/
def State.resetBlockRegs (s : State) (p : Nat) (keep : Nat → Bool) : State :=
  let ps := instPages p
  { s with regs := s.regs.filterMap (fun e =>
      let q := e.1 / 0x1000
      if !ps.contains q || e.1 % 0x1000 < 0x40 || keep e.1 then some e
      else if s.locked q then
        match findRow e.1 with
        | some (r, _, _, _, w) =>
          let m := r.mask w [.rwl]
          let v := BitVec.ofNat 32 ((e.2.toNat &&& m) ||| ((resetWord e.1).toNat &&& (2 ^ 32 - 1 - m)))
          if v = resetWord e.1 then none else some (e.1, v)
        | none => none
      else none) }

/-! ## Free values -/

/-- A free value below `2 ^ w`: nothing constrains it. -/
def State.free (s : State) (w : Nat) : Nat × State :=
  (Config.freeValue s.freeCtr % 2 ^ w, { s with freeCtr := s.freeCtr + 1 })

/-- `n` free bytes. -/
def State.freeBytes (s : State) : Nat → List Byte × State
  | 0 => ([], s)
  | n + 1 =>
    let (v, s1) := s.free 8
    let (l, s2) := s1.freeBytes n
    (BitVec.ofNat 8 v :: l, s2)

/-- A quotient whose rounding spec/ does not state: exact where it is exact, else rounded down or up by a free value. -/
def State.quotient (s : State) (num den : Nat) : Nat × State :=
  if num % den = 0 then (num / den, s)
  else
    let (b, s1) := s.free 1
    (num / den + b, s1)

/-! ## Memory bytes -/

/-- What a byte that nothing has written reads as: 0 (the model's choice: spec/ states no content of unwritten memory). -/
def unlistedByte (_ : Nat) : Byte := 0

/-- The canonical form of memory: strictly rising addresses, no entry equal to what an unlisted address reads as. -/
def Memory.wf (m : Sparse Byte) : Bool := Sparse.wf unlistedByte m

/-- The byte at a device address. -/
def State.byte (s : State) (a : Nat) : Byte := Sparse.get unlistedByte s.mem a

/-- Write one byte. -/
def State.setByte (s : State) (a : Nat) (b : Byte) : State := { s with mem := Sparse.set unlistedByte s.mem a b }

/-- `n` bytes from a device address. -/
def State.read (s : State) (a : Nat) : Nat → List Byte
  | 0 => []
  | n + 1 => s.byte a :: s.read (a + 1) n

/-- Write bytes from a device address on. -/
def State.write (s : State) (a : Nat) : List Byte → State
  | [] => s
  | b :: bs => (s.setByte a b).write (a + 1) bs

/-- Uncorrectable words of tile memories that the `n` bytes from `a` meet are good again once written (R140). -/
def State.heal (s : State) (a n : Nat) : State :=
  { s with ue := s.ue.filter (fun w => !(decide (a < w + 8) && decide (w < a + n))) }

/-- Uncorrectable words of tile memories that the `n` bytes from `a` meet. -/
def State.ueIn (s : State) (a n : Nat) : List Nat := s.ue.filter (fun w => decide (a < w + 8) && decide (w < a + n))

/-- The little-endian number in `n` bytes from a device address (R9). -/
def State.readNat (s : State) (a n : Nat) : Nat := leNat (s.read a n)

/-- Write a number little-endian into `n` bytes (R9). -/
def State.writeNat (s : State) (a n v : Nat) : State := s.write a (leBytes n v)

/-! ## The address map (R56–R61) -/

/-- 64 GiB, the HBM3 capacity (R57). -/
def hbmBytes : Nat := 0x1000000000

/-- The parts of the address map (R56). -/
inductive Space where
  /-- Local DRAM at a local address. -/
  | dram (a : Nat)
  /-- Another position's neighbour window at an offset. -/
  | neighbour (pos : Nat) (o : Nat)
  /-- A tile's SRAM window at an offset. -/
  | sram (tile : Nat) (o : Nat)
  /-- The scratch partition at an offset. -/
  | scratch (o : Nat)
  /-- Register space at an offset. -/
  | regs (o : Nat)
  /-- Unmapped. -/
  | none
deriving DecidableEq, Repr

/-- The part of the map that names address `a`; the device's own neighbour window names local DRAM (R56, R60). -/
def State.space (s : State) (a : Nat) : Space :=
  if a < 0x4000000000 then .dram a
  else if 0x10000000000 ≤ a ∧ a < 0x20000000000 then
    let p := (a - 0x10000000000) / 0x4000000000
    let o := (a - 0x10000000000) % 0x4000000000
    if p = s.pins.cascPos then .dram o else .neighbour p o
  else if 0x30000000000 ≤ a ∧ a < 0x30010000000 then .sram ((a - 0x30000000000) / 0x800000) (a % 0x800000)
  else if 0x31000000000 ≤ a ∧ a < 0x31000000000 + s.getF Reg.TIER_SC_WAYS_SCRATCH_WAYS * 0x600000 then
    .scratch (a - 0x31000000000)
  else if 0x3F000000000 ≤ a ∧ a < 0x3F010000000 then .regs (a - 0x3F000000000)
  else .none

/-- The canonical address of a byte: the device's own neighbour window is local DRAM (R60). -/
def State.canon (s : State) (a : Nat) : Nat := match s.space a with | .dram o => o | _ => a

/-- The page-map entry of a 2 MiB page of local DRAM (R265). -/
def State.tierPage (s : State) (p : Nat) : TierPage := Sparse.get (fun k => { frame := k }) s.tier.pages p

/-- TIER_CFG.MODE is UNIFIED (R265). -/
def State.unified (s : State) : Bool := s.onF Reg.TIER_CFG_MODE

/-- The local DRAM address lies in LPDDR5X now: above HBM3 in SPLIT mode, on an LPDDR5X frame in UNIFIED (R57, R58). -/
def State.inLpd (s : State) (a : Nat) : Bool :=
  if s.unified then decide (32768 ≤ (s.tierPage (a / 0x200000)).frame) else decide (0x2000000000 ≤ a)

/-- Local DRAM address `a` is mapped (R57, R59, R518, R520). -/
def State.dramMapped (s : State) (a : Nat) : Bool :=
  (if s.unified then decide (a < hbmBytes + s.tier.lpdBytes)
   else decide (a < hbmBytes) || (decide (0x2000000000 ≤ a) && decide (a < 0x2000000000 + s.tier.lpdBytes))) &&
  (!s.inLpd a || s.isRunning (0x310 + 4 * bits a 13 12))

/-- Address `a` is mapped (R56–R61); register space counts as mapped here. -/
def State.mapped (s : State) (a : Nat) : Bool :=
  match s.space a with
  | .dram o => s.dramMapped o
  | .neighbour p _ =>
    bit (s.reg (Reg.ODL_MEMBERS 0)).toNat p && bit (s.reg (Reg.ODL_MEMBERS 0)).toNat (4 + p)
  | .sram _ _ => true
  | .scratch _ => true
  | .regs _ => true
  | .none => false

/-- The first bytes of the 4 KiB blocks that stand for the `n` bytes from `a` in page `p` of 2 MiB: what is mapped there depends on
the page and on address bits [13:12] alone (R57, R518, R520). -/
def blocksIn (a n p : Nat) : List Nat :=
  let lo := max a (p * 0x200000)
  let hi := min (a + n) ((p + 1) * 0x200000)
  (List.range (min 4 ((hi - 1) / 4096 + 1 - lo / 4096))).map (fun i => (lo / 4096 + i) * 4096)

/-- Every 4 KiB block that the `n` bytes from `a` touch is mapped. -/
def State.rangeMapped (s : State) (a n : Nat) : Bool :=
  decide (a + n ≤ 0x40000000000) &&
  (List.range ((a + n - 1) / 0x200000 + 1 - a / 0x200000)).all (fun i => (blocksIn a n (a / 0x200000 + i)).all s.mapped)

/-- Region `r` of TIER page 1 covers the `n` bytes from `a` (R266). -/
def State.rgnCovers (s : State) (r a n : Nat) : Bool :=
  s.onF (Reg.TIER_RGN_BASE_V r) && decide (s.getF (Reg.TIER_RGN_BASE_BASE r) * 65536 ≤ a) &&
  decide (a + n ≤ (s.getF (Reg.TIER_RGN_LIM_LIM r) + 1) * 65536)

/-- Region `r` of TIER page 1 meets the `n` bytes from `a` (R267). -/
def State.rgnTouches (s : State) (r a n : Nat) : Bool :=
  s.onF (Reg.TIER_RGN_BASE_V r) && decide (a < (s.getF (Reg.TIER_RGN_LIM_LIM r) + 1) * 65536) &&
  decide (s.getF (Reg.TIER_RGN_BASE_BASE r) * 65536 < a + n)

/-- Region `r` covers the access and lets partition `p` make it (R266); rights that SEC_RGN_TIGHT removed from a fused
region are gone (R641). -/
def State.rgnAllows (s : State) (r p a n : Nat) (write : Bool) : Bool :=
  s.rgnCovers r a n &&
  bit (s.getF (if write then Reg.TIER_RGN_MASK_WMASK r else Reg.TIER_RGN_MASK_RMASK r)) p &&
  !(decide (r < 4) && bit (s.getF (if write then Reg.SEC_RGN_TIGHT_WCLR r else Reg.SEC_RGN_TIGHT_RCLR r)) p)

/-- Partition `p` may make the access to the `n` bytes from canonical address `a` (R266, R267). -/
def State.reach (s : State) (p a n : Nat) (write : Bool) : Bool :=
  let a := s.canon a
  if [0, 1, 2, 3].any (fun r => s.rgnTouches r a n) then [0, 1, 2, 3].any (fun r => s.rgnAllows r p a n write)
  else (List.range 28).any (fun i => s.rgnAllows (i + 4) p a n write)

/-- The access is to mapped memory, not register space, within the partition's reach (R165, R266, R268). -/
def State.memOk (s : State) (p a n : Nat) (write : Bool) : Bool :=
  decide (a + n ≤ 0x3F000000000) && s.rangeMapped a n && s.reach p a n write

/-- The address lies in another position's neighbour window. -/
def State.isNeighbour (s : State) (a : Nat) : Bool := match s.space a with | .neighbour _ _ => true | _ => false

/-- `n` bytes at a device address, through the alias of R60. -/
def State.fetch (s : State) (a n : Nat) : List Byte := s.read (s.canon a) n

/-- Write bytes at a device address, through the alias of R60. -/
def State.store (s : State) (a : Nat) (l : List Byte) : State := (s.write (s.canon a) l).heal (s.canon a) l.length

/-- The device address of offset `o` in tile `t`'s SRAM window (R56). -/
def sramAddr (t o : Nat) : Nat := 0x30000000000 + t * 0x800000 + o

/-! ## Time -/

/-- Time base `b` (R470). -/
def State.base (s : State) (b : Nat) : TimeBase := Sparse.get (fun _ => {}) s.qtz.bases b

/-- Bits [31:0] of a time base (R470). -/
def State.now (s : State) (b : Nat) : Nat := (s.base b).count % 2 ^ 32

/-- The QTZ cycles in `ms` milliseconds (R470: 500 MHz). -/
def msCycles (ms : Nat) : Nat := 500000 * ms

/-! ## Modes and outcomes -/

/-- The device mode. -/
def State.mode (s : State) : Mode := s.dev.mode

/-- The device is powered, out of reset and past OFF: its blocks act. -/
def State.live (s : State) : Bool := s.pins.powered && s.dev.mode != .off

/-- The device mode as DEV_MODE codes it (R533). -/
def modeCode : Mode → Nat
  | .off => 0 | .boot => 1 | .ready => 2 | .armed => 3 | .active => 4 | .degraded => 5 | .safe => 6 | .terminal => 7

/-- The state of a block as PG_STAT codes it (R64). -/
def blockStateCode : BlockState → Nat
  | .off => 0 | .starting => 1 | .running => 2 | .stopping => 3 | .faulted => 4

/-- The state of a context as SCH_STAT codes it. -/
def ctxStateCode : CtxState → Nat
  | .free => 0 | .active => 1 | .held => 2 | .tearing => 3 | .torn => 4

/-- `t` with the queue and the pins as in `s`: no command touches the queue, and only what happens at the pins changes them. -/
def State.atPins (s t : State) : State :=
  { t with pending := s.pending, pins := { s.pins with refreshLost := t.pins.refreshLost } }

/-- `t` as a command inside the device leaves it: the queue and the pins stand, and so do OFF and TERMINAL, which only the pins
end (R533, R599, R653). -/
def State.inside (s t : State) : State :=
  match s.dev.mode with
  | .off => { s.atPins t with dev := { t.dev with mode := .off } }
  | .terminal => { s.atPins t with dev := { t.dev with mode := .terminal } }
  | _ => s.atPins t

/-- A command ends in the next state `f s` while the device is live; in OFF or without power nothing happens. -/
def whenLive (f : State → State) (s : State) : Host.Outcome State Fault Refusal :=
  .next (if s.live then s.inside (f s) else s)

/-- A command ends in the next state `f s` while the device is powered. -/
def whenPowered (f : State → State) (s : State) : Host.Outcome State Fault Refusal :=
  .next (if s.pins.powered then s.inside (f s) else s)

/-- `f s` if `c`, else `s`: an event that the state does not enable changes nothing. -/
def State.guard (s : State) (c : Bool) (f : State → State) : State := if c then f s else s

end Sys2Proof.Machine
end

