-- ==== Sys2Proof/Machine/Fabric.lean ====
section
/-! DEFINITION. What requests meet on their way: the arbitration rule of every shared resource (R195, R196), the mesh (R13, R14), the
die-to-die modules (R18–R20), and the queues of the memory ports (R144, R262, R281, R282). -/

namespace Sys2Proof.Machine

/-! ## Arbitration (R195, R196) -/

/-- The resources with a rotating pointer (R195, R233, R282, R325, R349, R395, R501, R544). -/
inductive Resource where
  | sync (obj : Nat)
  | memPort (port : Nat)
  | kvList (part : Nat) (list : Nat)
  | odlPort (port : Nat)
  | egress (port : Nat) (cls : Nat)
  | agateQueue
  | slateBank (bank : Nat)
  /-- Ingress's memory port and sync port, among its streams. -/
  | ingress (sync : Bool)
  /-- A unit of Pumice, by the type of its jobs, among the job rings (R395). -/
  | pumUnit (type : Nat)
deriving DecidableEq, Repr

/-- The number under which a resource's pointer is held. -/
def Resource.number : Resource → Nat
  | .sync i => i
  | .memPort p => 0x10000 + p
  | .kvList p l => 0x10100 + 4 * p + l
  | .odlPort p => 0x10200 + p
  | .egress p c => 0x10300 + 8 * p + c
  | .agateQueue => 0x10400
  | .slateBank b => 0x10500 + b
  | .ingress b => 0x10600 + b2n b
  | .pumUnit t => 0x10700 + t

/-- The rotating pointer of a resource. -/
def State.pointer (s : State) (r : Resource) : Nat := Sparse.get (fun _ => 0) s.arb r.number

/-- A resource grants port `p`: its pointer moves to one above it, contested or not (R195). -/
def State.granted (s : State) (r : Resource) (p : Nat) : State :=
  { s with arb := Sparse.set (fun _ => 0) s.arb r.number (p + 1) }

/-- How far port `p` lies from a pointer, upwards and wrapping; a resource has at most 64 ports. -/
def turn (pointer p : Nat) : Nat := if pointer ≤ p then p - pointer else p + 64 - pointer

/-- Of two requests, each a rank and a port, the first goes before the second: the most critical partition, then the pointer
(R195). -/
def goesBefore (pointer : Nat) (a b : Nat × Nat) : Bool :=
  decide (a.1 < b.1) || (a.1 == b.1 && decide (turn pointer a.2 < turn pointer b.2))

/-- The request that a resource grants, of those that ask together; `key` gives a request's rank and port. Of one port's requests
the first goes first. -/
def State.winner {α : Type} (s : State) (r : Resource) (key : α → Nat × Nat) (l : List α) : Option α :=
  l.foldl (fun m x => match m with
    | none => some x
    | some y => if goesBefore (s.pointer r) (key x) (key y) then some x else some y) none

/-- The rank of a request without a partition (R196). -/
def noPartition : Nat := 8

/-! ## The mesh (R13, R14) -/

/-- The numbers from `x` to `y`, both included, upwards or downwards. -/
def walk (x y : Nat) : List Nat :=
  if x ≤ y then (List.range (y - x + 1)).map (fun i => x + i) else (List.range (x - y + 1)).map (fun i => x - i)

/-- The tiles that a flit passes from tile `a` to tile `b`: along its row to the column, then along the column to the row (R14). -/
def meshRoute (a b : Nat) : List Nat :=
  (walk (a % 8) (b % 8)).map (fun c => 8 * (a / 8) + c) ++ ((walk (a / 8) (b / 8)).drop 1).map (fun r => 8 * r + b % 8)

/-- The mesh flits that `n` bytes take (R14). -/
def flitsOf (n : Nat) : Nat := ceilDiv n 512

/-- The tile at which a die-to-die module's traffic enters and leaves the mesh (R18). -/
def moduleTile (m : Nat) : Nat := 8 * m

/-- The tile through which a line of HBM3 stack `k` passes: one of the four that its controller attaches to; spec/ does not state
which. -/
def stackTile (k line : Nat) : Nat := (if k < 2 then 4 * k else 24 + 4 * (k - 2)) + Config.addressHash 2 line % 4

/-! ## Die-to-die modules (R18–R20) -/

/-- The module that R18 selects while no module has been latched out. -/
def spreadModule (a : Nat) : Nat := bits a 12 11 ^^^ bits a 20 19

/-- The next module above `m`, wrapping, that `ok` admits (R20). -/
def nextModule (m : Nat) (ok : Nat → Bool) : Nat :=
  (([1, 2, 3].map (fun i => (m + i) % 4)).find? ok).getD m

/-- The module that carries an address: the spread of the modules that survived at the last warm reset, and a substitute
for one taken out since (R18, R20). -/
def State.moduleOf (s : State) (a : Nat) : Nat :=
  let l := s.tier.d2dLatched
  let m := match l.length with
    | 4 => spreadModule a
    | 3 => l.getD (a / 2048 % 3) 0
    | 2 => l.getD (bits a 11 11) 0
    | _ => l.getD 0 0
  let ok (i : Nat) : Bool := l.contains i && !s.tier.d2dRemoved.contains i
  if ok m then m else nextModule m ok

/-- The way of a transfer of address `a` between two places, each a tile or, with none, the hub: the module that carries it, if it
crosses between the dies, and the tiles it passes (R14, R18). -/
def State.way (s : State) (a : Nat) (src dst : Option Nat) : Option Nat × List Nat :=
  let m := s.moduleOf a
  match src, dst with
  | some t, some u => (none, meshRoute t u)
  | some t, none => (some m, meshRoute t (moduleTile m))
  | none, some u => (some m, meshRoute (moduleTile m) u)
  | none, none => (none, [])

/-! ## The memory ports and their queues (R262, R281, R282) -/

/-- The request ports that are not tiles' (R282). -/
def ingressPort : Nat := 32
def agatePort : Nat := 33
def pumicePort : Nat := 34
def flintPort : Nat := 35
def garnetPort : Nat := 36
def swapPort : Nat := 37
def kvpPort : Nat := 38
def weightPort : Nat := 39
def exchangePort : Nat := 40
def pciePort : Nat := 41
/-- The request port of Odilo port `p`. -/
def odiloPort (p : Nat) : Nat := 42 + p
def granitePort : Nat := 45

/-- The port of a register write's requester at a sync object (the resources under the arbitration rule, chapter 06). -/
def syncPortOf : Requester → Nat
  | .pcie => 37
  | .cmdp => 38
  | .granite => 39

/-- The port of a register write's requester at a KV free list (R233). -/
def kvPortOf : Requester → Nat
  | .pcie => 32
  | .cmdp => 33
  | .granite => 34

/-- The system-cache slice of an address, and the port that stands for it (R262). -/
def slicePort (a : Nat) : Nat := 8 + bits a 13 12

/-- The HBM3 stack of a line. -/
def stackOf (line : Nat) : Nat := Config.addressHash 0 line % 4

/-- The port that a request meets first: a slice, behind which the LPDDR5X controller lies; an HBM3 controller; the slice alone for
the scratch partition. -/
def State.portOf (s : State) (a : Nat) : Option Nat :=
  match s.space a with
  | .dram o => if s.inLpd o then some (slicePort o) else some (stackOf (o / 64))
  | .scratch o => some (slicePort o)
  | _ => none

/-- Where a device address lies: at a tile, or, with none, on the hub. -/
def State.placeOf (s : State) (a : Nat) : Option Nat :=
  match s.space a with
  | .dram o => if s.inLpd o then none else some (stackTile (stackOf (o / 64)) (o / 64))
  | .sram t _ => some t
  | _ => none

/-- Where a request port lies: tiles on the mesh, every other requester on the hub. -/
def placeOfPort (p : Nat) : Option Nat := if p < 32 then some p else none

/-- A request on its way: a write's data go to the address, a read's come from it (R14, R18). -/
def State.routed (s : State) (r : MemReq) : MemReq :=
  let (a, b) := (placeOfPort r.port, s.placeOf r.addr)
  let w := if r.write then s.way r.addr a b else s.way r.addr b a
  { r with module := w.1, path := w.2 }

/-- Requests that wait at a port. -/
def State.portQueue (s : State) (port : Nat) : List MemReq := Sparse.get (fun _ => []) s.tier.waiting port

/-- The state with a port's waiting requests replaced. -/
def State.setPortQueue (s : State) (port : Nat) (l : List MemReq) : State :=
  { s with tier := { s.tier with waiting := Sparse.set (fun _ => []) s.tier.waiting port l } }

/-- A request joins a port's queue. -/
def State.waitAt (s : State) (port : Nat) (r : MemReq) : State := s.setPortQueue port (s.portQueue port ++ [r])

/-- The size, in lines, of a request at line `n` with `k` lines to go: at most eight, and naturally aligned to its size rounded up
to a power of two (R144). -/
def requestLines (n k : Nat) : Nat :=
  let fit (u align : Nat) : Bool := decide (u ≤ k) && n % align == 0
  if fit 8 8 then 8 else if fit 7 8 then 7 else if fit 6 8 then 6 else if fit 5 8 then 5
  else if fit 4 4 then 4 else if fit 3 4 then 3 else if fit 2 2 then 2 else 1

/-- The requests of at most `fuel` lines from line `n` on: first line and lines. -/
def requestRuns : Nat → Nat → Nat → List (Nat × Nat)
  | 0, _, _ => []
  | fuel + 1, n, k => if k = 0 then [] else (n, requestLines n k) :: requestRuns fuel (n + requestLines n k) (k - requestLines n k)

/-- The requests that an access to the `n` bytes from `a` makes: line address and lines (R144). -/
def requestsOf (a n : Nat) : List (Nat × Nat) :=
  if n = 0 then [] else
  let k := (a + n - 1) / 64 + 1 - a / 64
  (requestRuns k (a / 64) k).map (fun r => (64 * r.1, r.2))

/-- A request joins the queue of the port it meets first. -/
def State.enqueue (s : State) (r : MemReq) : State :=
  match s.portOf r.addr with
  | some p => s.waitAt p (s.routed r)
  | none => s

/-- The requests of an access to the `n` bytes from `a`, made by requester `port` for partition `part`, join the queues of the memory
ports they meet, where they take tokens and are counted (R146, R196, R266, R281); the bytes themselves move with the access. -/
def State.traffic (s : State) (port part : Nat) (write : Bool) (a n : Nat) : State :=
  (requestsOf a n).foldl (fun u r =>
    u.enqueue { write := write, addr := r.1, units := r.2, part := part, data := [], port := port }) s

/-- The requests of several accesses. -/
def State.trafficAll (s : State) (port part : Nat) (write : Bool) (l : List (Nat × Nat)) : State :=
  l.foldl (fun u r => u.traffic port part write r.1 r.2) s

/-- The requests of tile `t`'s access engine that wait at memory ports or over the Odilo link (R144). -/
def State.outstanding (s : State) (t : Nat) : Nat :=
  (s.tier.waiting.foldl (fun n e => n + (e.2.filter (fun r => r.port == t)).length) 0) +
    (s.odl.outs.filter (fun x => x.owner.any (fun w => w.1 == t))).length

end Sys2Proof.Machine
end

