-- ==== Sys2Proof/Machine/Contexts.lean ====
section
/-! DEFINITION. Operations over contexts, tiles and sync objects that several families share: completion records
(R187), holding a context (R290, R193), leaving a tile (R296, R310), kill (R183), sync objects (R188–R193) and the
first steps of a teardown (R312). -/

namespace Sys2Proof.Machine

/-! ## Access to the parts -/

/-- Context `c`. -/
def State.ctx (s : State) (c : Nat) : Ctx := Sparse.get (fun _ => {}) s.sch.ctxs c

/-- The state with context `c` replaced. -/
def State.setCtx (s : State) (c : Nat) (x : Ctx) : State :=
  { s with sch := { s.sch with ctxs := Sparse.set (fun _ => {}) s.sch.ctxs c x } }

/-- Tile `t`. -/
def State.tile (s : State) (t : Nat) : Tile := Sparse.get (fun _ => {}) s.sch.tiles t

/-- The state with tile `t` replaced. -/
def State.setTile (s : State) (t : Nat) (x : Tile) : State :=
  { s with sch := { s.sch with tiles := Sparse.set (fun _ => {}) s.sch.tiles t x } }

/-- Applied model `m` (R306). -/
def State.model (s : State) (m : Nat) : Model := Sparse.get (fun _ => {}) s.sch.models m

/-- The state with model `m` replaced. -/
def State.setModel (s : State) (m : Nat) (x : Model) : State :=
  { s with sch := { s.sch with models := Sparse.set (fun _ => {}) s.sch.models m x } }

/-- The lowest page of tile `t` (R63). -/
def tilePage (t : Nat) : Nat := 0x100 + 0x10 * t

/-- Tile `t` is fenced (R130). -/
def State.fenced (s : State) (t : Nat) : Bool := s.onF (Reg.TILE_FENCE_FENCED t)

/-- TB4 in ns, as records and time stamps carry it (R187). -/
def State.tb4 (s : State) : Nat := s.now 4

/-! ## Descriptor fields of the common part (R161) -/

/-- A byte of a command's descriptor. -/
def Cmd.byte (c : Cmd) (o : Nat) : Nat := byteAt c.desc o

/-- A two-byte field of a command's descriptor. -/
def Cmd.half (c : Cmd) (o : Nat) : Nat := leField c.desc o 2

/-- A four-byte field of a command's descriptor. -/
def Cmd.word (c : Cmd) (o : Nat) : Nat := leField c.desc o 4

/-- An eight-byte field of a command's descriptor. -/
def Cmd.long (c : Cmd) (o : Nat) : Nat := leField c.desc o 8

/-- The opcode of a command. -/
def Cmd.op (c : Cmd) : Nat := c.byte 0

/-- REPORT of a command. -/
def Cmd.report (c : Cmd) : Bool := bit (c.byte 1) 7

/-- The wait of a command: mode, object, target, and whether all 64 bits are compared: the body's for SYNC_WAIT, else
the header's; none with mode 0 (R190). -/
def Cmd.wait (c : Cmd) : Option (Nat × Nat × Nat × Bool) :=
  if c.op = 0x38 then some (bits (c.half 0x10) 15 14, bits (c.half 0x10) 13 0, c.long 0x18, true)
  else if bits (c.half 4) 15 14 = 0 then none
  else some (bits (c.half 4) 15 14, bits (c.half 4) 13 0, c.word 8, false)

/-- A command's wait names object `i`. -/
def Cmd.waitsOn (c : Cmd) (i : Nat) : Bool := match c.wait with | some (_, o, _, _) => o == i | none => false

/-! ## Completion records (R187) -/

/-- The 16 bytes of a completion record. -/
def recordBytes (c : Nat) (cmd : Cmd) (status flags now : Nat) : List Byte :=
  leBytes 2 cmd.seq ++ leBytes 1 cmd.op ++ leBytes 1 status ++ leBytes 1 flags ++ leBytes 1 (min cmd.reruns 255) ++
  leBytes 2 c ++ leBytes 4 now ++ leBytes 1 cmd.slot ++ leBytes 3 0

/-- Write a completion record of command `cmd` of context `c` into its ring (R187). The write carries the context's partition: one
that its regions do not permit changes nothing (R266). -/
def State.record (s : State) (c : Nat) (cmd : Cmd) (status flags : Nat) : State :=
  let x := s.ctx c
  let a := x.entry.ring + 16 * (x.records % max x.entry.ringN 1)
  (if s.memOk x.part a 16 true then s.store a (recordBytes c cmd status flags s.tb4) else s).setCtx c
    { x with records := x.records + 1 }

/-! ## Occupancy and leaving a tile -/

/-- Charge context `c` with `ns` of tile occupancy: OCCUPY and the virtual time of R297. -/
def State.chargeOccupy (s : State) (c ns : Nat) : State :=
  let x := s.ctx c
  s.setCtx c { x with occupy := (x.occupy + ns) % 2 ^ 64,
                      vt := (x.vt + ns * 65536 / max x.entry.weight 1) % 2 ^ 64,
                      chargedTo := s.qtz.cycles }

/-- The ns that context `c` has held its tile since it was last charged. -/
def State.heldNs (s : State) (c : Nat) : Nat := 2 * (s.qtz.cycles - (s.ctx c).chargedTo)

/-- Context `c` leaves its tile: OCCUPY is charged; its resident state stays (R296, R310). -/
def State.leaveTile (s : State) (c : Nat) : State :=
  match (s.ctx c).onTile with
  | none => s
  | some t =>
    let s1 := s.chargeOccupy c (s.heldNs c)
    let s2 := s1.setCtx c { s1.ctx c with onTile := none, prep := [] }
    s2.setTile t { s2.tile t with ctx := none, draining := false, leaving := false, rerunFirst := false }

/-- The commit window of the context is empty and no kill is under way on its tile. -/
def State.windowEmpty (s : State) (c : Nat) : Bool :=
  match (s.ctx c).onTile with
  | none => true
  | some t => (s.tile t).window.isEmpty && !(s.tile t).killing

/-! ## Holding (R193, R290, R313) -/

/-- The partition command page of Pp (R288). -/
def schPage (p : Nat) : Nat := 0x88 + p

/-- A context whose dispatch is closed becomes HELD once its window has drained, and leaves its tile (R289, R290). -/
def State.holdIfDrained (s : State) (c : Nat) : State :=
  let x := s.ctx c
  if x.closing && s.windowEmpty c then
    let s1 := s.leaveTile c
    (s1.setCtx c { s1.ctx c with closing := false, state := .held }).irq (schPage x.part) 1
  else s

/-- Close dispatch of an ACTIVE context for `cause` (R290). -/
def State.holdCtx (s : State) (c cause : Nat) : State :=
  let x := s.ctx c
  if x.state == .active && !x.closing then (s.setCtx c { x with closing := true, cause := cause }).holdIfDrained c else s

/-! ## Sync objects (R188–R193) -/

/-- STATE of object `i`: 0 FREE, 1 LIVE, 2 POISONED. -/
def State.syncState (s : State) (i : Nat) : Nat := s.getF (Reg.SYN_STATE_STATE i)

/-- The value of object `i`. -/
def State.syncValue (s : State) (i : Nat) : Nat := s.getF (Reg.SYN_VALUE_VALUE i)

/-- The partition of object `i`: the owner of its page (R188). -/
def State.syncPart (s : State) (i : Nat) : Nat := s.owner (0xC0 + i / 256)

/-- A wait condition holds on a value (R190): 1 GE, 2 EQ. -/
def waitHolds (mode value target : Nat) (wide : Bool) : Bool :=
  if wide then (if mode = 1 then decide (target ≤ value) else decide (value = target))
  else if mode = 1 then decide ((value % 2 ^ 32 + 2 ^ 32 - target % 2 ^ 32) % 2 ^ 32 < 2 ^ 31)
  else decide (value % 2 ^ 32 = target % 2 ^ 32)

/-- The wait of a command holds now: no wait, or a LIVE object whose value meets it (R190). -/
def State.waitMet (s : State) (c : Cmd) : Bool :=
  match c.wait with
  | none => true
  | some (m, i, v, w) => s.syncState i == 1 && waitHolds m (s.syncValue i) v w

/-- The wait of the context's front command has ended without satisfaction: a record with SYNC_POISONED is written and
the context stops dispatching (R193). -/
def State.endBrokenWait (s : State) (c : Nat) : State :=
  let x := s.ctx c
  match x.queue with
  | cmd :: _ =>
    if x.state == .active && !x.closing && cmd.waitBroken && !cmd.waitOk then (s.record c cmd 0x10 0).holdCtx c 0x10 else s
  | [] => s

/-- The wait of a checked command is looked at: it holds, or it has ended on an object that is POISONED or FREE (R190,
R193). -/
def State.evalWait (s : State) (d : Cmd) : Cmd :=
  match d.wait with
  | none => { d with waitOk := true }
  | some (_, i, _, _) =>
    if s.syncState i != 1 then { d with waitBroken := true } else if s.waitMet d then { d with waitOk := true } else d

/-- A checked command waits on object `i`: its wait is pending. -/
def Cmd.pendingOn (d : Cmd) (i : Nat) : Bool := d.checked && !d.waitOk && !d.waitBroken && d.waitsOn i

/-- Context `c` sees object `i` change: the pending waits of its commands are evaluated, wherever in the queue they stand; one that
has ended without satisfaction holds the context once its command is in front (R190, R193). -/
def State.syncSeen (s : State) (c i : Nat) : State :=
  let x := s.ctx c
  if x.queue.any (fun d => d.pendingOn i) then
    (s.setCtx c { x with queue := x.queue.map (fun d => if d.pendingOn i then s.evalWait d else d) }).endBrokenWait c
  else s

/-- Weight-window channel `e` runs and names object `i`. -/
def State.chanNames (s : State) (i : Nat) (e : Nat × WwChan) : Bool :=
  s.getF (Reg.TIER_WW_STAT_STATE e.1) == 1 &&
    (bits (leField e.2.desc 0x18 2) 13 0 == i || bits (leField e.2.desc 0x1A 2) 13 0 == i)

/-- A running weight-window channel one of whose objects is POISONED or FREE stops in ERROR with code 6 at once; its raise is still to
be made (R277). -/
def State.noteChans (s : State) (i : Nat) : State :=
  if s.syncState i = 1 then s
  else
    let hit := s.tier.chans.filter (s.chanNames i)
    let s1 := hit.foldl (fun u e => (u.putF (Reg.TIER_WW_STAT_STATE e.1) 4).putF (Reg.TIER_WW_STAT_ERR e.1) 6) s
    if hit.isEmpty then s
    else { s1 with tier := { s1.tier with chans := s.tier.chans.map (fun e =>
      if s.chanNames i e then (e.1, { e.2 with broken := true, loading := false, stopping := false }) else e) } }

/-- Every pending wait on object `i` is evaluated after an update of it (R190). -/
def State.syncUpdated (s : State) (i : Nat) : State := s.sch.ctxs.foldl (fun t e => t.syncSeen e.1 i) (s.noteChans i)

/-- Poison object `i`. -/
def State.poison (s : State) (i : Nat) : State := (s.putF (Reg.SYN_STATE_STATE i) 2).syncUpdated i

/-- A signal to an object that is not LIVE is dropped and counted (R192). -/
def State.dropSignal (s : State) (i : Nat) : State := s.satInc (Reg.SYN_DROPS_COUNT (i / 256))

/-- An ADD would carry object `i` past 2^64 − 1 (R191). -/
def State.addOverflows (s : State) (i n : Nat) : Bool := s.syncState i == 1 && decide (2 ^ 64 ≤ s.syncValue i + n)

/-- ADD to object `i` (R191, R192): an overflow poisons it. -/
def State.syncAdd (s : State) (i n : Nat) : State :=
  if s.syncState i != 1 then s.dropSignal i
  else if s.addOverflows i n then s.poison i
  else (s.putF (Reg.SYN_VALUE_VALUE i) (s.syncValue i + n)).syncUpdated i

/-- SET of object `i` (R191, R194). -/
def State.syncSet (s : State) (i v : Nat) : State :=
  if s.syncState i != 1 then s.dropSignal i else (s.putF (Reg.SYN_VALUE_VALUE i) v).syncUpdated i

/-- The 16,384 objects that some register word lists: the ones that are not FREE with owner 0. -/
def State.listedObjects (s : State) : List Nat :=
  s.regs.filterMap (fun e =>
    let p := e.1 / 0x1000
    let o := e.1 % 0x1000
    if 0xC0 ≤ p ∧ p < 0x100 ∧ 0x400 ≤ o ∧ o < 0x800 then some (256 * (p - 0xC0) + (o - 0x400) / 4) else none)

/-- Poison every LIVE object that context `c` owns (R192). -/
def State.poisonOwned (s : State) (c : Nat) : State :=
  s.listedObjects.foldl
    (fun t i => if t.syncState i = 1 ∧ t.getF (Reg.SYN_STATE_OWNER_CTX i) = c then t.poison i else t) s

/-! ## KV pages that a kill returns (R183, R230) -/

/-- The address of page table entry `page` (R213). -/
def State.ptEntry (s : State) (page : Nat) : Nat := s.getF Reg.KVP_PT_BASE_BASE * 2 ^ 24 + 16 * page

/-- STATE of a page (R213): 0 UNUSED, 1 FREE, 2 RESERVED, 3 IN_USE. -/
def State.pageState (s : State) (page : Nat) : Nat := bits (s.byte (s.ptEntry page + 7)).toNat 7 6

/-- The state with STATE of a page replaced. -/
def State.setPageState (s : State) (page st : Nat) : State :=
  let a := s.ptEntry page + 7
  s.setByte a (BitVec.ofNat 8 (setBits (s.byte a).toNat 7 6 st))

/-- REFCNT of a page (R213). -/
def State.refCount (s : State) (page : Nat) : Nat := s.readNat (s.ptEntry page + 8) 2

/-- The state with REFCNT of a page replaced. -/
def State.setRefCount (s : State) (page n : Nat) : State := s.writeNat (s.ptEntry page + 8) 2 n

/-- Put page number `page` on top of free list `l` of partition `p` (R230), as the list grants it to request port `port` (R233). -/
def State.kvStackPush (s : State) (p l page port : Nat) : State :=
  let n := s.getF (Reg.KVP_FL_COUNT_COUNT p l)
  ((s.writeNat (s.canon (s.getF (Reg.KVP_FL_BASE_BASE p l) * 4 + 4 * n)) 4 page).putF (Reg.KVP_FL_COUNT_COUNT p l) (n + 1)).granted
    (.kvList p l) port

/-- A page returns to its list as FREE, at a commit or a kill: the KVP is port 35 (R225, R228, R233). -/
def State.freePage (s : State) (p l page : Nat) : State := (s.setPageState page 1).kvStackPush p l page 35

/-- PART of a page. -/
def State.pagePart (s : State) (n : Nat) : Nat := bits (s.readNat (s.ptEntry n) 8) 60 58

/-- LIST of a page. -/
def State.pageList (s : State) (n : Nat) : Nat := bits (s.readNat (s.ptEntry n) 8) 57 56

/-- An update of page `n`'s table entry is granted by the page's list to request port `port` (R233). -/
def State.ptGranted (s : State) (n port : Nat) : State := s.granted (.kvList (s.pagePart n) (s.pageList n)) port

/-- What a kill undoes in the KV page store (R225, R228). -/
def State.kvUndo (s : State) (u : KvUndo) : State :=
  match u with
  | .page p l page => s.freePage p l page
  | .ref page => (s.setRefCount page (s.refCount page - 1)).ptGranted page 35

/-! ## Kill (R183) -/

/-- Requests over the Odilo link that killed commands of tile `t` made: what they read is discarded (R183 step 2). -/
def State.abandon (s : State) (t : Nat) (seqs : List Nat) : State :=
  { s with odl := { s.odl with outs := s.odl.outs.map (fun o =>
      if o.owner.any (fun w => w.1 == t && seqs.contains w.2) then { o with owner := none, wanted := false } else o) } }

/-- Bytes of an uncommitted memory write: any of them may have landed (R179, R183 step 3). -/
def State.landSome (s : State) (w : Nat × List Byte) : State :=
  if s.isNeighbour w.1 then s else
  let (m, s1) := s.free w.2.length
  let u := (List.range w.2.length).foldl (fun t i => if bit m i then t.store (w.1 + i) [w.2.getD i 0] else t) s1
  { s1 with mem := u.mem, ue := u.ue }

/-- What a kill undoes and leaves of one window entry of tile `t`: its writes, to memory and to the tile's SRAM, may have
landed in part, and the pages it popped are FREE again on their list (R183 steps 3 to 5, R228). -/
def State.killEntry (s : State) (t : Nat) (e : WEntry) : State :=
  let s1 := e.writes.foldl (fun u w => u.landSome w) s
  let s2 := e.outs.foldl (fun u o => u.landSome (sramAddr t o.1, o.2)) s1
  (e.undo.foldl (fun u p => u.kvUndo p) s2)

/-- Kill the commands of tile `t`'s window from place `from` on. They return to the dispatcher when the kill is complete
if `rerun`; what stands in their tile-local output regions is open (R183). `leave`: the context then leaves the tile. -/
def State.kill (s : State) (t : Nat) (start : Nat) (rerun leave : Bool) : State :=
  let x := s.tile t
  if x.ctx.isNone then s else
  let dead := x.window.drop start
  let s1 := (dead.foldl (fun u e => u.killEntry t e) s).abandon t (dead.map (fun e => e.cmd.seq))
  let y := s1.tile t
  s1.setTile t { y with
    window := y.window.take start
    killing := true
    leaving := y.leaving || leave
    rerunFirst := y.rerunFirst && !leave
    victims := if rerun then dead.map (fun e => { e.cmd with reruns := e.cmd.reruns + 1, waitOk := true }) ++ y.victims else [] }

/-! ## Teardown, steps 1 and 2 (R312) -/

/-- A teardown of context `c` begins with `cause`: TEARING, its window is killed without re-run, and the objects it owns
are poisoned. It has an effect in ACTIVE and HELD only; TEARDOWN_DONE carries out the remaining steps. -/
def State.tearDown (s : State) (c cause : Nat) : State :=
  let x := s.ctx c
  if x.state == .active || x.state == .held then
    let s1 := s.setCtx c { x with state := .tearing, cause := cause, closing := false, queue := [] }
    let s2 := match x.onTile with | some t => s1.kill t 0 false true | none => s1
    s2.poisonOwned c
  else s

end Sys2Proof.Machine
end

