-- ==== Sys2Proof/Machine/Collector.lean ====
section
/-! DEFINITION. The fault collector's reactions (chapter 21): device modes as they are entered, faults of block
instances, raises and signals of the hub's engines. -/

namespace Sys2Proof.Machine

/-! ## Modes (R533, R592) -/

/-- The modes whose safety outputs are healthy (R592). -/
def healthyMode : Mode → Bool
  | .ready | .armed | .active | .degraded => true
  | _ => false

/-- The healthy state of the OK pair is driven in this mode, refresh and collector permitting (R591, R592, R594). -/
def State.okDriven (s : State) (m : Mode) : Bool :=
  healthyMode m && !s.pins.refreshLost && !s.onF Reg.FC_STAT_SELF_FAIL

/-- The device is in mode `m`: the OK pair follows, and HB is low and steady while it is unhealthy (R592). -/
def State.setMode (s : State) (m : Mode) : State :=
  let s1 := { s with dev := { s.dev with mode := m } }
  let s2 := s1.putF Reg.FC_STAT_OK (b2n (s.okDriven m))
  if s.okDriven m then s2 else s2.putF Reg.FC_STAT_HB 0

/-- The device drives: ARMED, ACTIVE or DEGRADED. -/
def State.driving (s : State) : Bool := s.mode == .armed || s.mode == .active || s.mode == .degraded

/-- The safe state is in force (R595). -/
def State.inSafe (s : State) : Bool := s.mode == .safe || s.mode == .terminal

/-- Fuse word `w` of the array as it is now (R628). -/
def State.fuseLive (s : State) (w : Nat) : Nat := Sparse.get (fun _ => 0) s.sec.live w

/-- Fuse word `w` as sensed at the last entry to BOOT (R628). -/
def State.fuse (s : State) (w : Nat) : Nat := Sparse.get (fun _ => 0) s.sec.sensed w

/-- Pulses program bits of fuse word `w`: a programmed bit never returns to 0 (R628). -/
def State.burn (s : State) (w b : Nat) : State :=
  { s with sec := { s.sec with live := Sparse.set (fun _ => 0) s.sec.live w (s.fuseLive w ||| (b % 2 ^ 32)) } }

/-- A FUSE operation that is cut short or fails: some words are programmed, one holds a subset of its bits, the rest none
(R530, R632). -/
def State.burnSome (s : State) : List (Nat × Nat) → State
  | [] => s
  | (w, b) :: r =>
    let (m, s1) := s.free 33
    if bit m 32 then (s1.burn w b).burnSome r else s1.burn w (b &&& m)

/-- The word-and-bits pairs in the argument words of FUSE (R529). -/
def pairsOf : List Nat → List (Nat × Nat)
  | w :: b :: r => (w, b) :: pairsOf r
  | _ => []

/-- BUSY of SEC shows a SEC_FPGM write or a FUSE operation that programs (chapter 23). -/
def State.secBusy (s : State) : State :=
  s.setBlock 0x70 { s.block 0x70 with busy := s.sec.prog.isSome || s.dev.op.any (fun o => o.code == 3) }

/-- A long operation ends with a result: 0 OK, 1 NOT_READY, 2 NO_PLAN, 3 FAILED, 4 TIMEOUT, 5 ABORTED (R529). A FUSE that
does not end OK leaves some of its bits programmed; a SELFTEST gives its cycle back. -/
def State.endOp (s : State) (result : Nat) : State :=
  match s.dev.op with
  | none => s
  | some o =>
    let s1 := if o.code = 3 ∧ result ≠ 0 then s.burnSome (pairsOf o.args) else s
    let s2 := if o.code = 6 then { s1 with test := { s1.test with selftest := 0 } } else s1
    let s3 := { s2 with dev := { s2.dev with op := none } }
    ((if o.code = 3 then s3.secBusy else s3).putF Reg.DEV_OP_RESULT result).putF Reg.DEV_OP_RUNNING 0

/-- The grace timer stops (R536, R537). -/
def State.stopGrace (s : State) : State :=
  ({ s with dev := { s.dev with graceSince := none } }).putF Reg.DEV_GRACE_LEFT 0

/-- Every actuator in AUTO or MANUAL enters SAFE_RAMP with a cause: 3 STOP, 4 SAFE_STATE; the others are in SAFE already or
have no loop (R462, R463, R467). -/
def State.rampActuators (s : State) (cause : Nat) : State :=
  (List.range 64).foldl (fun t a =>
    if t.getF (Reg.GNT_A_STAT_STATE a) = 1 ∨ t.getF (Reg.GNT_A_STAT_STATE a) = 2 then
      ((t.putF (Reg.GNT_A_STAT_STATE a) 3).putF (Reg.GNT_A_STAT_CAUSE a) cause).irq 0x500 1
    else t) s

/-- Entry to SAFE: a long operation is aborted, an ENGAGE that waits is void, no grace timer runs (R529, R533, R536). -/
def State.enterSafe (s : State) : State :=
  match s.mode with
  | .boot | .ready | .armed | .active | .degraded =>
    let s1 := (((s.setMode .safe).endOp 5).stopGrace).rampActuators 4
    { s1 with dev := { s1.dev with engagePending := false } }
  | .off | .safe | .terminal => s

/-- Entry to TERMINAL (R533). -/
def State.enterTerminal (s : State) : State :=
  match s.mode with
  | .off | .terminal => s
  | _ =>
    let s1 := (((s.setMode .terminal).endOp 5).stopGrace).rampActuators 4
    { s1 with dev := { s1.dev with engagePending := false } }

/-! ## Faults of block instances (R70, R71) -/

/-- The tile whose instance holds page `p`. -/
def tileOfPage (p : Nat) : Nat := (p - 0x100) / 16

/-- The block instance of page `p` is faulted: FAULTED, a pending stop or re-arm cleared; a tile's window is killed and
goes back to the dispatcher (R70, R71, R151). -/
def State.faultBlock (s : State) (p : Nat) : State :=
  if alwaysOn p || (dirRow p).isNone then s
  else
    let s1 := s.enterBlock p { s.block p with state := .faulted, rearm := false, stopPending := false, safePassed := false }
    if blockType p = 0x0A then s1.kill (tileOfPage p) 0 true true else s1

/-! ## Raises (R582–R590) -/

/-- The programmed class field of source `n` (R586). -/
def sevFld (n : Nat) : Fld := ⟨Reg.FC_SEV (n / 8), 4 * (n % 8) + 2, 4 * (n % 8)⟩

/-- The fused floor of source `n` (R586). -/
def floorFld (n : Nat) : Fld := ⟨Reg.FC_FLOOR (n / 8), 4 * (n % 8) + 2, 4 * (n % 8)⟩

/-- The sticky bit of source `n` (R584). -/
def stickyFld (n : Nat) : Fld := ⟨Reg.FC_STICKY (n / 32), n % 32, n % 32⟩

/-- The programmed class of source `n`. -/
def State.severity (s : State) (n : Nat) : Severity := severityOf (s.getF (sevFld n))

/-- Source `n` is raised now, or its pair is broken (R582, R583). -/
def State.raisedNow (s : State) (n : Nat) : Bool := s.fc.raised.contains n || s.fc.broken.contains n

/-- The reactions of a raise of source `n` at a class, carrying contexts (R588, R589); a context is torn down with
`cause`. -/
def State.react (s : State) (n : Nat) (cls : Severity) (ctxs : List Nat) (cause : Nat) : State :=
  match cls with
  | .note => s
  | .corrected => s.irq 0x20 1
  | .context =>
    if ctxs.isEmpty then s.irq 0x20 1 else ctxs.foldl (fun t c => t.tearDown c cause) (s.irq 0x20 3)
  | .critical => ((s.irq 0x20 5).enterSafe).faultBlock (sourcePage n)
  | .terminal => ((s.irq 0x20 5).enterTerminal).faultBlock (sourcePage n)

/-- The sticky bit of source `n` sets (R584). -/
def State.stick (s : State) (n : Nat) : State := s.putF (stickyFld n) 1

/-- Source `n` raises at a class: its sticky bit sets; the reactions happen once per raise, not while the source is
raised already (R584). -/
def State.raiseOnly (s : State) (n : Nat) (cls : Severity) (ctxs : List Nat) (cause : Nat) : State :=
  if realSource n then
    if s.raisedNow n then s.stick n else (s.stick n).react n cls ctxs cause
  else s

/-- The raises of weight-window channels that an object of theirs has stopped (R277). -/
def State.raiseChans (s : State) : State :=
  if s.tier.chans.any (fun e => e.2.broken) then
    ({ s with tier := { s.tier with chans := s.tier.chans.map (fun (e : Nat × WwChan) => (e.1, { e.2 with broken := false })) } }).raiseOnly
      FS.TIER_WW (s.severity FS.TIER_WW) [] 0x24
  else s

/-- Source `n` raises, and weight-window channels that a teardown of the raise stops raise with it. -/
def State.raiseAt (s : State) (n : Nat) (cls : Severity) (ctxs : List Nat) (cause : Nat) : State :=
  if cls = .context ∧ s.raisedNow n = false then (s.raiseOnly n cls ctxs cause).raiseChans else s.raiseOnly n cls ctxs cause

/-- A context is torn down, and weight-window channels that its poisoned objects stop raise (R277, R312). -/
def State.endContext (s : State) (c cause : Nat) : State := (s.tearDown c cause).raiseChans

/-- An event source raises with its programmed class and the contexts it carries (R587, R589). -/
def State.raise (s : State) (n : Nat) (ctxs : List Nat := []) (cause : Nat := 0x24) : State :=
  s.raiseAt n (s.severity n) ctxs cause

/-- A raise "at severity NOTE" acts with the higher of NOTE and the floor (R587). -/
def State.raiseNote (s : State) (n : Nat) : State := s.raiseAt n (severityOf (s.getF (floorFld n))) [] 0x24

/-- A level source becomes raised and stays so (R582). -/
def State.raiseLevel (s : State) (n : Nat) (ctxs : List Nat := []) : State :=
  let s1 := s.raise n ctxs
  if s.fc.raised.contains n || !realSource n then s1 else { s1 with fc := { s1.fc with raised := n :: s1.fc.raised } }

/-- A level source is no longer raised (R582). -/
def State.dropLevel (s : State) (n : Nat) : State :=
  { s with fc := { s.fc with raised := s.fc.raised.filter (fun m => m != n) } }

/-- The higher of a class and CRITICAL (R583). -/
def atLeastCritical : Severity → Severity
  | .terminal => .terminal
  | _ => .critical

/-- The class at reset of source `n`: the higher of its default and its floor (R586). -/
def State.resetClass (s : State) (n : Nat) : Nat := max (severityCode (defaultSeverity n)) (s.getF (floorFld n))

/-! ## Signals of the hub's engines (R191, R192) -/

/-- A hub engine or a register write, at the object's request port `port`, adds to object `i`: an overflow poisons it and raises
FS_SYN_OVF, which carries no context here (R191, R195, R589). -/
def State.signal (s : State) (port i n : Nat) : State :=
  let s1 := (s.granted (.sync i) port).syncAdd i n
  if s.addOverflows i n then (s1.raise FS.SYN_OVF).raiseChans else s1

/-- A register write sets object `i` through the requester's port `port` (R193–R195). -/
def State.setSignal (s : State) (port i v : Nat) : State := (s.granted (.sync i) port).syncSet i v

/-- A LIVE object of partition `p`: what engines ask of the objects they are given. -/
def State.liveOf (s : State) (i p : Nat) : Bool := s.syncState i == 1 && s.syncPart i == p

end Sys2Proof.Machine
end

