-- ==== Sys2Proof/Machine/Flags.lean ====
section
/-! DEFINITION. The arithmetic flags of a command (R103) as a completion record carries them (R187). -/

namespace Sys2Proof.Machine

/-- INVALID: an operation on operands that are not NaN produced NaN. -/
def fInvalid : Nat := 1

/-- SATURATED: a result was delivered as the largest finite value, or clamped to an integer range. -/
def fSaturated : Nat := 2

/-- INFINITE: a finite result overflowed to infinity. -/
def fInfinite : Nat := 4

/-- NAN_DROPPED: a NaN was converted into a format or value that cannot hold it. -/
def fNanDropped : Nat := 8

/-- The flags with those of `g` taken away. -/
def dropFlags (f g : Nat) : Nat := f - (f &&& g)

/-- The flags of the last operation of an element and of its conversion, by what is delivered (R101, R112): an overflow
of the operation that the conversion delivers as the largest finite value is SATURATED, as infinity INFINITE. -/
def deliveredFlags (op conv : Nat) (infinite : Bool) : Nat :=
  if op &&& fInfinite = 0 then op ||| conv
  else dropFlags op fInfinite ||| dropFlags conv fSaturated ||| (if infinite then fInfinite else fSaturated)

end Sys2Proof.Machine
end

