-- ==== Sys2Proof/Machine/Operands.lean ====
section
/-! DEFINITION. The operand formats of chapter 04: exact values, the ten formats and their conversions (R90–R106), and
FP32 arithmetic (R110, R112, R115). A floating value is a dyadic number, so every sum and product is exact before its
rounding. -/

namespace Sys2Proof.Machine

/-! ## Values -/

/-- A value of a floating format: NaN, an infinity, or (−1)^neg × m × 2^e. -/
inductive Num where
  | nan
  | inf (neg : Bool)
  | fin (neg : Bool) (m : Nat) (e : Int)
deriving DecidableEq, Repr

/-- +0. -/
def Num.zero : Num := .fin false 0 0

/-- A value is zero. -/
def Num.isZero : Num → Bool
  | .fin _ m _ => m == 0
  | _ => false

/-- A value is NaN. -/
def Num.isNan : Num → Bool
  | .nan => true
  | _ => false

/-- A value is infinite. -/
def Num.isInf : Num → Bool
  | .inf _ => true
  | _ => false

/-- A value is finite. -/
def Num.isFin : Num → Bool
  | .fin _ _ _ => true
  | _ => false

/-- The sign of a value; NaN has sign 0 (R95). -/
def Num.neg : Num → Bool
  | .nan => false
  | .inf n => n
  | .fin n _ _ => n

/-- The negated value. -/
def Num.opp : Num → Num
  | .nan => .nan
  | .inf n => .inf (!n)
  | .fin n m e => .fin (!n) m e

/-- The magnitude. -/
def Num.abs : Num → Num
  | .nan => .nan
  | .inf _ => .inf false
  | .fin _ m e => .fin false m e

/-- The signed mantissa of a finite value at exponent `q`, which is at most its own. -/
def mantAt (neg : Bool) (m : Nat) (e q : Int) : Int :=
  let x : Int := ((m * 2 ^ (e - q).toNat : Nat) : Int)
  if neg then -x else x

/-- A finite value from a signed mantissa. -/
def ofMant (v q : Int) : Num := .fin (decide (v < 0)) v.natAbs q

/-- An integer as a value. -/
def Num.ofInt (v : Int) : Num := ofMant v 0

/-- `a ≤ b` for finite values as real numbers; false if one is not finite. -/
def Num.le : Num → Num → Bool
  | .fin n m e, .fin n' m' e' => decide (mantAt n m e (min e e') ≤ mantAt n' m' e' (min e e'))
  | _, _ => false

/-! ## Exact arithmetic -/

/-- The exact sum, with INVALID for ∞ − ∞; a sum of opposite equal values is +0, of −0 values −0 (R97, R103). -/
def Num.add : Num → Num → Num × Nat
  | .nan, _ => (.nan, 0)
  | _, .nan => (.nan, 0)
  | .inf a, .inf b => if a = b then (.inf a, 0) else (.nan, fInvalid)
  | .inf a, _ => (.inf a, 0)
  | _, .inf b => (.inf b, 0)
  | .fin n m e, .fin n' m' e' =>
    if m = 0 ∧ m' = 0 then (.fin (n && n') 0 0, 0)
    else
      let q := min e e'
      (ofMant (mantAt n m e q + mantAt n' m' e' q) q, 0)

/-- The exact product, with INVALID for 0 × ∞ (R103). -/
def Num.mul : Num → Num → Num × Nat
  | .nan, _ => (.nan, 0)
  | _, .nan => (.nan, 0)
  | .inf a, .inf b => (.inf (a != b), 0)
  | .inf a, .fin n m _ => if m = 0 then (.nan, fInvalid) else (.inf (a != n), 0)
  | .fin n m _, .inf b => if m = 0 then (.nan, fInvalid) else (.inf (n != b), 0)
  | .fin n m e, .fin n' m' e' => (.fin (n != n') (m * m') (e + e'), 0)

/-- The value times 2^k. -/
def Num.scale (x : Num) (k : Int) : Num :=
  match x with
  | .fin n m e => .fin n m (e + k)
  | y => y

/-! ## Rounding (R100) -/

/-- Round a magnitude m × 2^e to at most `w + 1` bits at or above 2^qmin, with unbounded exponents: mode 0 nearest even,
1 toward zero, 2 toward −∞, 3 toward +∞. -/
def roundMag (w : Nat) (qmin : Int) (mode : Nat) (neg : Bool) (m : Nat) (e : Int) : Nat × Int :=
  if m = 0 then (0, qmin)
  else
    let q := max (e + Nat.log2 m - w) qmin
    if q ≤ e then (m * 2 ^ (e - q).toNat, q)
    else
      let d := (q - e).toNat
      let n := m / 2 ^ d
      let r := m % 2 ^ d
      let up := match mode with
        | 0 => decide (2 ^ d < 2 * r) || (decide (2 * r = 2 ^ d) && n % 2 == 1)
        | 1 => false
        | 2 => neg && r != 0
        | _ => !neg && r != 0
      (n + b2n up, q)

/-- A floating format (R93, R94): mantissa width, exponent bias, the largest finite value n × 2^q, whether it has
infinities, its canonical NaN if it has one, and its width in bits. -/
structure FloatFmt where
  mant : Nat
  bias : Nat
  maxN : Nat
  maxQ : Int
  hasInf : Bool
  nan : Option Nat
  width : Nat
deriving DecidableEq, Repr

/-- FP4 E2M1. -/
def fp4 : FloatFmt := ⟨1, 1, 3, 1, false, none, 4⟩
/-- FP8 E4M3. -/
def e4m3 : FloatFmt := ⟨3, 7, 14, 5, false, some 0x7F, 8⟩
/-- FP8 E5M2. -/
def e5m2 : FloatFmt := ⟨2, 15, 7, 13, true, some 0x7E, 8⟩
/-- BF16. -/
def bf16 : FloatFmt := ⟨7, 127, 255, 120, true, some 0x7FC0, 16⟩
/-- FP16. -/
def fp16 : FloatFmt := ⟨10, 15, 2047, 5, true, some 0x7E00, 16⟩
/-- FP32. -/
def fp32 : FloatFmt := ⟨23, 127, 16777215, 104, true, some 0x7FC00000, 32⟩

/-- The exponent of the least bit of a format. -/
def FloatFmt.qmin (f : FloatFmt) : Int := 1 - f.bias - f.mant

/-- The largest finite value of a format. -/
def FloatFmt.maxFin (f : FloatFmt) (neg : Bool) : Num := .fin neg f.maxN f.maxQ

/-- The value that the bits of a floating format hold (R93, R94). -/
def FloatFmt.decode (f : FloatFmt) (x : Nat) : Num :=
  let s := x.testBit (f.width - 1)
  let e := (x / 2 ^ f.mant) % 2 ^ (f.width - 1 - f.mant)
  let m := x % 2 ^ f.mant
  let top := 2 ^ (f.width - 1 - f.mant) - 1
  if f.hasInf && e == top then (if m = 0 then .inf s else .nan)
  else if !f.hasInf && f.nan.isSome && e == top && m == 2 ^ f.mant - 1 then .nan
  else if e = 0 then .fin s m f.qmin
  else .fin s (2 ^ f.mant + m) (f.qmin + e - 1)

/-- The bits of a finite magnitude n × 2^q that lies on the format's grid. -/
def FloatFmt.pack (f : FloatFmt) (neg : Bool) (n : Nat) (q : Int) : Nat :=
  (b2n neg) * 2 ^ (f.width - 1) +
    (if n < 2 ^ f.mant then n else ((q - f.qmin + 1).toNat) * 2 ^ f.mant + (n - 2 ^ f.mant))

/-- The bits of an infinity. -/
def FloatFmt.infBits (f : FloatFmt) (neg : Bool) : Nat :=
  (b2n neg) * 2 ^ (f.width - 1) + (2 ^ (f.width - 1 - f.mant) - 1) * 2 ^ f.mant

/-- Convert a value into a floating format under ROUND and SAT (R100–R102), with the flags it sets. -/
def FloatFmt.encode (f : FloatFmt) (mode : Nat) (sat : Bool) (x : Num) : Nat × Nat :=
  match x with
  | .nan => match f.nan with
    | some c => (c, 0)
    | none => (0, fNanDropped)
  | .inf neg =>
    if f.hasInf && !sat then (f.infBits neg, 0) else (f.pack neg f.maxN f.maxQ, fSaturated)
  | .fin neg m e =>
    let (n, q) := roundMag f.mant f.qmin mode neg m e
    if (Num.fin false n q).le (f.maxFin false) then (f.pack neg n q, 0)
    else if !f.hasInf || sat then (f.pack neg f.maxN f.maxQ, fSaturated)
    else if mode = 0 ∨ (mode = 2 ∧ neg) ∨ (mode = 3 ∧ ¬ neg) then (f.infBits neg, fInfinite)
    else (f.pack neg f.maxN f.maxQ, fSaturated)

/-- Round an exact value to FP32, to nearest with ties to even; an overflowing finite value becomes infinite and sets
INFINITE (R100, R103). -/
def Num.round (x : Num) : Num × Nat :=
  match x with
  | .fin neg m e =>
    let (n, q) := roundMag 23 fp32.qmin 0 neg m e
    if (Num.fin false n q).le (fp32.maxFin false) then (.fin neg n q, 0) else (.inf neg, fInfinite)
  | y => (y, 0)

/-- The FP32 value of a 32-bit word. -/
def f32 (x : Nat) : Num := fp32.decode x

/-- The FP32 word of a value that FP32 holds. -/
def toF32 (x : Num) : Nat := (fp32.encode 0 false x).1

/-! ## Formats by code (R90) -/

/-- The width in bits of the elements of format code `c`. -/
def fmtBits : Nat → Nat
  | 0 => 4 | 1 => 8 | 2 => 16 | 3 => 32 | 4 => 4 | 5 => 8 | 6 => 8 | 7 => 16 | 8 => 16 | _ => 32

/-- A format code that is not reserved (R90). -/
def fmtValid (c : Nat) : Bool := decide (c ≤ 9)

/-- An integer format (R91). -/
def fmtInt (c : Nat) : Bool := decide (c ≤ 3)

/-- A format that may carry a block scale (R90). -/
def fmtScalable (c : Nat) : Bool := c == 4 || c == 5 || c == 6

/-- The floating format of code `c`. -/
def floatFmt : Nat → FloatFmt
  | 4 => fp4 | 5 => e4m3 | 6 => e5m2 | 7 => bf16 | 8 => fp16 | _ => fp32

/-- The exact value of an element. -/
def decodeElem (c x : Nat) : Num :=
  if fmtInt c then .ofInt (signed (fmtBits c) x) else (floatFmt c).decode x

/-- Round a finite value to an integer under a rounding mode. -/
def roundInt (mode : Nat) (neg : Bool) (m : Nat) (e : Int) : Int :=
  let v : Nat :=
    if 0 ≤ e then m * 2 ^ e.toNat
    else
      let d := (-e).toNat
      let n := m / 2 ^ d
      let r := m % 2 ^ d
      let up := match mode with
        | 0 => decide (2 ^ d < 2 * r) || (decide (2 * r = 2 ^ d) && n % 2 == 1)
        | 1 => false
        | 2 => neg && r != 0
        | _ => !neg && r != 0
      n + b2n up
  if neg then -(v : Int) else v

/-- Clamp an integer into a `w`-bit two's-complement format, with SATURATED if it was outside. -/
def clampInt (w : Nat) (v : Int) : Nat × Nat :=
  let lo : Int := -(2 ^ (w - 1))
  let hi : Int := 2 ^ (w - 1) - 1
  if v < lo then (toBits w lo, fSaturated) else if hi < v then (toBits w hi, fSaturated) else (toBits w v, 0)

/-- Convert an FP32 value into format code `c` under ROUND and SAT (R102). -/
def encodeElem (c mode : Nat) (sat : Bool) (x : Num) : Nat × Nat :=
  if fmtInt c then
    let w := fmtBits c
    match x with
    | .nan => (0, fNanDropped)
    | .inf neg => (toBits w (if neg then -(2 ^ (w - 1)) else 2 ^ (w - 1) - 1), fSaturated)
    | .fin neg m e => clampInt w (roundInt mode neg m e)
  else (floatFmt c).encode mode sat x

/-- The factor of a block scale byte: none stands for NaN (R98). -/
def blockScale (s : Nat) : Option Int := if s = 255 then none else some (s - 127)

/-- A block-scaled element (R98). -/
def scaledElem (c x s : Nat) : Num :=
  match blockScale s with
  | some k => (decodeElem c x).scale k
  | none => .nan

/-! ## Block-scaled output (R105, R106) -/

/-- The smallest exponent e with a ≤ f × 2^e, for a finite non-zero magnitude. -/
def blockExp (f : FloatFmt) (a : Num) : Int :=
  match a with
  | .fin _ m e =>
    let g := e + Nat.log2 m - (f.maxQ + Nat.log2 f.maxN)
    if a.abs.le ((f.maxFin false).scale g) then g else g + 1
  | _ => 0

/-- The largest finite magnitude of a block; +0 if there is none. -/
def blockMax (l : List Num) : Num :=
  l.foldl (fun a x => if x.isFin && !(x.abs.le a) then x.abs else a) Num.zero

/-- Quantise one block of FP32 values into a block-scaled format: the scale byte, the elements' bits, the flags. Where the clamp of s
binds, the elements are divided by the power of two that the scale byte written names (DESIGN CHOICE, log entry 152). -/
def quantBlock (c mode : Nat) (l : List Num) : Nat × List Nat × Nat :=
  let f := floatFmt c
  if l.any Num.isNan then (255, l.map (fun _ => 0), 0)
  else
    let a := blockMax l
    let s : Int := if a.isZero then 127 else max 0 (min 254 (blockExp f a + 127))
    let out := l.map (fun x => match x with
      | .inf neg => (f.pack neg f.maxN f.maxQ, fSaturated)
      | y => f.encode mode true (y.scale (127 - s)))
    (s.toNat, out.map (fun p => p.1), out.foldl (fun g p => g ||| p.2) 0)

/-! ## FP32 operations (R112, R662): results rounded once, with the flags they set -/

/-- Exact result and flags, then one rounding to FP32. -/
def rounded (r : Num × Nat) : Num × Nat := ((r.1.round).1, r.2 ||| (r.1.round).2)

/-- FP32 sum. -/
def fAdd (a b : Num) : Num × Nat := rounded (a.add b)

/-- FP32 difference. -/
def fSub (a b : Num) : Num × Nat := rounded (a.add b.opp)

/-- FP32 product. -/
def fMul (a b : Num) : Num × Nat := rounded (a.mul b)

/-- Fused multiply-add, one rounding. -/
def fFma (a b c : Num) : Num × Nat :=
  let (p, g) := a.mul b
  let (r, h) := p.add c
  rounded (r, g ||| h)

/-- The quotient before rounding: 64 quotient bits and a sticky bit, enough for any single rounding. -/
def divWide (a b : Num) : Num × Nat :=
  match a, b with
  | .nan, _ => (.nan, 0)
  | _, .nan => (.nan, 0)
  | .inf _, .inf _ => (.nan, fInvalid)
  | .inf x, .fin y _ _ => (.inf (x != y), 0)
  | .fin x _ _, .inf y => (.fin (x != y) 0 0, 0)
  | .fin x m e, .fin y n f =>
    if n = 0 then (if m = 0 then (.nan, fInvalid) else (.inf (x != y), 0))
    else
      let k := 64 + Nat.log2 n
      let t := m * 2 ^ k
      (.fin (x != y) (2 * (t / n) + b2n (t % n != 0)) (e - f - k - 1), 0)

/-- Correctly rounded quotient. -/
def fDiv (a b : Num) : Num × Nat := rounded (divWide a b)

/-- The integer square root, found bit by bit from bit `i`. -/
def isqrtFrom (x : Nat) : Nat → Nat → Nat
  | 0, r => if (r + 1) * (r + 1) ≤ x then r + 1 else r
  | i + 1, r => isqrtFrom x i (if (r + 2 ^ (i + 1)) * (r + 2 ^ (i + 1)) ≤ x then r + 2 ^ (i + 1) else r)

/-- The integer square root. -/
def isqrt (x : Nat) : Nat := isqrtFrom x (Nat.log2 x / 2 + 1) 0

/-- The exactly rounded square root of a positive finite value. -/
def sqrtFin (m : Nat) (e : Int) : Num :=
  let k : Int := if (e - 64) % 2 = 0 then e - 64 else e - 65
  let t := m * 2 ^ (e - k).toNat
  let r := isqrt t
  ((Num.fin false (2 * r + b2n (r * r != t)) (k / 2 - 1)).round).1

/-- The exactly rounded reciprocal square root of a positive finite value: 1/√(m·2^e) from √(2^(2j)/m). -/
def rsqrtFin (m : Nat) (e : Int) : Num :=
  let m' := if e % 2 = 0 then m else 2 * m
  let e' := if e % 2 = 0 then e else e - 1
  let j := 64 + Nat.log2 m'
  let t := 2 ^ (2 * j) / m'
  let r := isqrt t
  let exact := r * r * m' == 2 ^ (2 * j)
  ((Num.fin false (2 * r + b2n (!exact)) (-(e' / 2) - j - 1)).round).1

/-- An FP32 result moved by the distance, at most 1 ulp, that spec/ leaves to the silicon (R136). -/
def ulpAway (fn : Nat) (x r : Num) : Num :=
  match r with
  | .fin neg 0 e => .fin neg 0 e
  | .fin neg m e =>
    let w := toF32 (.fin neg m e)
    match Config.ulpChoice fn (toF32 x) % 3 with
    | 0 => f32 w
    | 1 => f32 (w - 1)
    | _ => f32 (w + 1)
  | y => y

/-- Reciprocal: 1/±0 = ±∞ with no flag (R136). -/
def fRecip (x : Num) : Num × Nat :=
  match x with
  | .nan => (.nan, 0)
  | .inf n => (.fin n 0 0, 0)
  | .fin n m e => if m = 0 then (.inf n, 0) else
    let (r, g) := fDiv (.ofInt 1) (.fin n m e)
    (ulpAway 8 x r, g)

/-- Square root (R136). -/
def fSqrt (x : Num) : Num × Nat :=
  match x with
  | .nan => (.nan, 0)
  | .inf n => if n then (.nan, fInvalid) else (.inf false, 0)
  | .fin n m e => if m = 0 then (.fin n 0 0, 0) else if n then (.nan, fInvalid) else (ulpAway 9 x (sqrtFin m e), 0)

/-- Reciprocal square root: rsqrt(+0) = +∞, rsqrt(−0) = −∞ with no flag (R136). -/
def fRsqrt (x : Num) : Num × Nat :=
  match x with
  | .nan => (.nan, 0)
  | .inf n => if n then (.nan, fInvalid) else (.fin false 0 0, 0)
  | .fin n m e => if m = 0 then (.inf n, 0) else if n then (.nan, fInvalid) else (ulpAway 10 x (rsqrtFin m e), 0)

/-! ## The transcendental functions (R136)

Each is computed in fixed point with 224 bits after the point, far beyond FP32, and rounded once: the exactly rounded result from
which R136 measures the accuracy. -/

/-- 2^224, the unit of the fixed-point values below; and ln 2, log2 e, 2π and 2/√π in it. -/
def fxOne : Int := 2 ^ 224
def fxLn2 : Int := 18687211020381960287278961438292188228571477255688502128730264377180
def fxLog2e : Int := 38894981359329165016064799055747578848916264863948116579755768818906
def fxTwoPi : Int := 169394340781386161353548496392429742335059390090588680449301447308594
def fxErfScale : Int := 30421042165218879093306145945101556501855209033202848919218852900962

/-- The fixed-point product. -/
def fxMul (a b : Int) : Int := a * b / fxOne

/-- The magnitude m × 2^e in fixed point. -/
def fxOf (m : Nat) (e : Int) : Int :=
  if 0 ≤ e + 224 then ((m * 2 ^ (e + 224).toNat : Nat) : Int) else ((m / 2 ^ (-(e + 224)).toNat : Nat) : Int)

/-- The fixed-point value, rounded to FP32. -/
def fxNum (v : Int) : Num := ((ofMant v (-224)).round).1

/-- The sum of x^k/k! over `n` terms after the term `t` of number `k`. -/
def fxExpSum (x : Int) : Nat → Nat → Int → Int → Int
  | 0, _, _, acc => acc
  | n + 1, k, t, acc => fxExpSum x n (k + 1) (fxMul t x / (k + 1)) (acc + fxMul t x / (k + 1))

/-- 2^y for a fixed-point y: a mantissa in [1, 2) in fixed point, and an exponent. -/
def fxExp2 (y : Int) : Int × Int := (fxExpSum (fxMul (y % fxOne) fxLn2) 60 0 fxOne fxOne, y / fxOne)

/-- e^(−x) in fixed point for x ≥ 0; 0 beyond 150. -/
def fxExpNeg (x : Int) : Int :=
  if 150 * fxOne < x then 0
  else
    let (m, n) := fxExp2 (-(fxMul x fxLog2e))
    m / 2 ^ (-n).toNat

/-- log2 of z in [1, 2), `n` bits of it from bit weight `w` on. -/
def fxLog2Bits : Nat → Int → Int → Int → Int
  | 0, _, _, acc => acc
  | n + 1, z, w, acc =>
    let q := fxMul z z
    if 2 * fxOne ≤ q then fxLog2Bits n (q / 2) (w / 2) (acc + w) else fxLog2Bits n q (w / 2) acc

/-- log2 of a positive value. -/
def fxLog2 (m : Nat) (e : Int) : Int :=
  let k := Nat.log2 m
  (e + k) * fxOne + fxLog2Bits 200 (fxOf m (-(k : Int))) (fxOne / 2) 0

/-- The alternating sum of the sine's (k odd) or cosine's (k even) series after the term `t` of number `k`. -/
def fxTrigSum (xx : Int) : Nat → Nat → Int → Int → Int
  | 0, _, _, acc => acc
  | n + 1, k, t, acc =>
    let u := -(fxMul t xx) / ((k + 1) * (k + 2))
    fxTrigSum xx n (k + 2) u (acc + u)

/-- The sine and the cosine of the magnitude m × 2^e in fixed point. -/
def fxSin (m : Nat) (e : Int) : Int := let r := fxOf m e % fxTwoPi; fxTrigSum (fxMul r r) 70 1 r r
def fxCos (m : Nat) (e : Int) : Int := let r := fxOf m e % fxTwoPi; fxTrigSum (fxMul r r) 70 0 fxOne fxOne

/-- The alternating sum of the arctangent's series after the power `t` of odd number `k`. -/
def fxAtanSum (xx : Int) : Nat → Nat → Int → Int → Int
  | 0, _, _, acc => acc
  | n + 1, k, t, acc =>
    let u := -(fxMul t xx)
    fxAtanSum xx n (k + 2) u (acc + u / (k + 2))

/-- The arctangent of a fixed-point value from 0 to 1: the series converges below 1/2, and above it starts from π/4. -/
def fxAtan (x : Int) : Int :=
  if 2 * x ≤ fxOne then fxAtanSum (fxMul x x) 120 1 x x
  else
    let y := (x - fxOne) * fxOne / (x + fxOne)
    fxTwoPi / 8 + fxAtanSum (fxMul y y) 120 1 y y

/-- The exact angle of the point (`b`, `a`), in [−π, π], in fixed point: finite coordinates that are not both 0. -/
def fxAtan2 (na : Bool) (ma : Nat) (ea : Int) (nb : Bool) (mb : Nat) (eb : Int) : Int :=
  let low := min ea eb
  let a : Int := (ma * 2 ^ (ea - low).toNat : Nat)
  let b : Int := (mb * 2 ^ (eb - low).toNat : Nat)
  let t := if a ≤ b then fxAtan (a * fxOne / b) else fxTwoPi / 4 - fxAtan (b * fxOne / a)
  let u := if nb then fxTwoPi / 2 - t else t
  if na then -u else u

/-- atan2, without rounding: none where an operand is not finite, or both are 0. -/
def exactAtan2 (a b : Num) : Option Num :=
  match a, b with
  | .fin na ma ea, .fin nb mb eb => if ma = 0 ∧ mb = 0 then none else some (ofMant (fxAtan2 na ma ea nb mb eb) (-224))
  | _, _ => none

/-- The error function's series without its scale. -/
def fxErfSum (xx : Int) : Nat → Nat → Int → Int → Int
  | 0, _, _, acc => acc
  | n + 1, k, t, acc =>
    let u := -(fxMul t xx) / (k + 1)
    fxErfSum xx n (k + 1) u (acc + u / (2 * k + 3))

/-- The exactly rounded value of function `fn` at a finite operand: exp 0x0B, exp2 0x0C, ln 0x0D, log2 0x0E, tanh 0x0F, sigmoid 0x10,
erf 0x11, sin 0x12, cos 0x13. Beyond 2^10 the exponentials overflow or vanish; beyond 8 the error function rounds to 1. -/
def exactFn (fn : Nat) (neg : Bool) (m : Nat) (e : Int) : Num :=
  let big := 10 < e + Nat.log2 m
  let x := if big then 1024 * fxOne else fxOf m e
  let odd (v : Int) : Num := match fxNum v with | .fin _ a b => .fin neg a b | y => y
  match fn with
  | 0x0B | 0x0C =>
    let (a, n) := fxExp2 (if fn = 0x0C then (if neg then -x else x) else fxMul (if neg then -x else x) fxLog2e)
    ((Num.fin false a.toNat (n - 224)).round).1
  | 0x0D => fxNum (fxMul (fxLog2 m e) fxLn2)
  | 0x0E => fxNum (fxLog2 m e)
  | 0x0F => if m = 0 then .fin neg 0 0 else let u := fxExpNeg (2 * x); odd ((fxOne - u) * fxOne / (fxOne + u))
  | 0x10 => let u := fxExpNeg x; fxNum ((if neg then u else fxOne) * fxOne / (fxOne + u))
  | 0x11 =>
    if m = 0 then .fin neg 0 0
    else if 8 * fxOne ≤ x then .fin neg 1 0
    else odd (fxMul (fxErfSum (fxMul x x) 450 0 x x) fxErfScale)
  | 0x12 => if m = 0 then .fin neg 0 0 else fxNum ((if neg then -1 else 1) * fxSin m e)
  | _ => fxNum (fxCos m e)

/-- The place of an FP32 word among the words in the order of their values: equal places are one ulp apart. -/
def wordPlace (w : Nat) : Int := if w < 2 ^ 31 then (w : Int) else -((w - 2 ^ 31 : Nat) : Int)

/-- Two values lie within 2^k of each other. -/
def within (a b : Num) (k : Int) : Bool :=
  let d := (a.add b.opp).1.abs
  d.isFin && d.le (.fin false 1 k)

/-- `v` is a result that R136 lets function `fn` give where the exactly rounded one is `r`; a zero has the sign of the exact result
(R97). -/
def accurate (fn : Nat) (v r : Num) : Bool :=
  (!v.isZero || v.neg == r.neg) &&
  let near (n : Int) : Bool := !v.isNan && decide (wordPlace (toF32 v) - wordPlace (toF32 r) ≤ n ∧ wordPlace (toF32 r) - wordPlace (toF32 v) ≤ n)
  match fn with
  | 0x0B | 0x0D => near 3
  | 0x0C | 0x0E => near 2
  | 0x0F | 0x10 | 0x11 => near 4 || within v r (-24)
  | _ => within v r (-22)

/-- A function of the transcendental tables at a finite operand: some value within the accuracy of R136, which spec/ does not fix
further; an infinite result of a finite operand is an overflow. The sine, tanh and erf of a zero are that zero (R97). -/
def tableFn (fn : Nat) (x : Num) : Num × Nat :=
  match x with
  | .fin n m e =>
    let r := exactFn fn n m e
    let v := f32 (Config.transcendental fn (toF32 x) % 2 ^ 32)
    match if accurate fn v r && !(m == 0 && r.isZero) then v else r with
    | .inf s => (.inf s, fInfinite)
    | y => (y, 0)
  | y => (y, 0)

/-- exp (0x0B) and exp2 (0x0C): +0 at −∞ (R136). -/
def fExp (fn : Nat) (x : Num) : Num × Nat :=
  match x with
  | .nan => (.nan, 0)
  | .inf n => if n then (Num.zero, 0) else (.inf false, 0)
  | y => tableFn fn y

/-- ln (0x0D) and log2 (0x0E): −∞ at zero, NaN with INVALID below it (R136). That −0 gives −∞ as +0 does is the model's reading
(DEDUCED, log entry 155): R136 names log2(+0) and log2(x < 0) only. -/
def fLog (fn : Nat) (x : Num) : Num × Nat :=
  match x with
  | .nan => (.nan, 0)
  | .inf n => if n then (.nan, fInvalid) else (.inf false, 0)
  | .fin n m e => if m = 0 then (.inf true, 0) else if n then (.nan, fInvalid) else tableFn fn (.fin n m e)

/-- tanh (0x0F), sigmoid (0x10) and erf (0x11): exact limits at ±∞ (R136). -/
def fLimit (fn : Nat) (x : Num) : Num × Nat :=
  match x with
  | .nan => (.nan, 0)
  | .inf n => if fn = 0x10 then (if n then (Num.zero, 0) else (.ofInt 1, 0)) else (.fin n 1 0, 0)
  | y => tableFn fn y

/-- sin (0x12) and cos (0x13): NaN with INVALID beyond 2^20 (R136). -/
def fTrig (fn : Nat) (x : Num) : Num × Nat :=
  match x with
  | .nan => (.nan, 0)
  | .inf _ => (.nan, fInvalid)
  | y => if y.abs.le (.fin false 1 20) then tableFn fn y else (.nan, fInvalid)

/-- Maximum of R662: NaN if an operand is, −0 below +0; no flag. -/
def fMax (a b : Num) : Num :=
  match a, b with
  | .nan, _ => .nan
  | _, .nan => .nan
  | .inf n, y => if n then y else .inf false
  | x, .inf n => if n then x else .inf false
  | x, y => if x.isZero && y.isZero then (if x.neg then y else x) else if x.le y then y else x

/-- Minimum of R662. -/
def fMin (a b : Num) : Num := (fMax a.opp b.opp).opp

/-! ## Matrix accumulation (R108–R111) -/

/-- The exponent of the leading bit of a finite non-zero value. -/
def leadExp : Num → Option Int
  | .fin _ m e => if m = 0 then none else some (e + Nat.log2 m)
  | _ => none

/-- The largest leading-bit exponent of a list of products. -/
def maxLead (l : List Num) : Option Int :=
  l.foldl (fun a x => match leadExp x, a with
    | none, _ => a
    | some k, none => some k
    | some k, some j => some (max k j)) none

/-- A product cut toward zero to the grid 2^q (R110 step 2). -/
def truncTo (q : Int) : Num → Num
  | .fin n m e => if q ≤ e then .fin n m e else .fin n (m / 2 ^ (q - e).toNat) q
  | y => y

/-- The exact sum of a list, with its flags. Of infinities of both signs beside a NaN, INVALID is set if the infinities meet before the
NaN in the order of the list (DESIGN CHOICE, log entry 151): spec/ does not say. -/
def sumExact : List Num → Num × Nat
  | [] => (Num.zero, 0)
  | x :: xs => xs.foldl (fun a y => let (r, g) := a.1.add y; (r, a.2 ||| g)) (x, 0)

/-- One group of R110 added to an accumulator: products exact, aligned and cut, summed exactly, rounded, added. -/
def addGroup (acc : Num) (ps : List (Num × Nat)) : Num × Nat :=
  let flags := ps.foldl (fun g p => g ||| p.2) 0
  let xs := ps.map (fun p => p.1)
  let cut := if xs.all Num.isFin then
      match maxLead xs with
      | some k => xs.map (truncTo (k - 48))
      | none => xs
    else xs
  let (s, g1) := rounded (sumExact cut)
  let (r, g2) := fAdd acc s
  (r, flags ||| g1 ||| g2)

/-- A list in groups of `n`; the fuel bounds the number of groups. -/
def groupsOf {α : Type} (n : Nat) : Nat → List α → List (List α)
  | 0, _ => []
  | k + 1, l => if l.isEmpty then [] else l.take n :: groupsOf n k (l.drop n)

/-- The floating product sum of two equally long lists added to an accumulator, group by group (R110, R111). -/
def dotAcc (acc : Num) (xs ys : List Num) : Num × Nat :=
  let ps := (xs.zip ys).map (fun p => p.1.mul p.2)
  (groupsOf 32 ps.length ps).foldl (fun a g => let (r, f) := addGroup a.1 g; (r, a.2 ||| f)) (acc, 0)

/-- The integer product sum added to an accumulator, wrapping modulo 2^w (R108, R109). -/
def dotInt (w : Nat) (acc : Int) (xs ys : List Int) : Nat :=
  toBits w ((xs.zip ys).foldl (fun a p => a + p.1 * p.2) acc)

/-! ## Ordered reductions (R113) -/

/-- A value, the flags of the operations on the way to it, and those of its last operation, which its conversion may revise
(R101, R103). -/
structure Res where
  val : Num
  before : Nat := 0
  last : Nat := 0
deriving DecidableEq, Repr

/-- All of a value's flags. -/
def Res.flags (a : Res) : Nat := a.before ||| a.last

/-- The result of one operation after flags that came before. -/
def Res.after (g : Nat) (r : Num × Nat) : Res := ⟨r.1, g, r.2⟩

/-- Two values combined by one operation. -/
def Res.join (f : Num → Num → Num × Nat) (a b : Res) : Res := Res.after (a.flags ||| b.flags) (f a.val b.val)

/-- One level of the pairwise tree; an empty input passes the other on. -/
def treeLevel (f : Num → Num → Num × Nat) : List (Option Res) → List (Option Res)
  | a :: b :: r =>
    (match a, b with
    | some x, some y => some (x.join f y)
    | some x, none => some x
    | none, y => y) :: treeLevel f r
  | l => l

/-- The levels of the tree. -/
def treeFold (f : Num → Num → Num × Nat) : Nat → List (Option Res) → Option Res
  | 0, l => l.headD none
  | k + 1, l => treeFold f k (treeLevel f l)

/-- Reduce elements, absent ones taking no part, in the order of R113: 128 lanes by index, then the tree. `first` makes
a lane's first value from an element, `step` adds a further element to a lane, `join` combines lanes. -/
def reduceWith (first : Num → Num × Nat) (step join : Num → Num → Num × Nat) (l : List (Option Num)) : Option Res :=
  let lane (i : Nat) : Option Res :=
    ((List.range (ceilDiv (l.length - i) 128)).filterMap (fun k => l.getD (i + 128 * k) none)).foldl
      (fun a x => match a with
        | none => some (Res.after 0 (first x))
        | some y => some (Res.after y.flags (step y.val x))) none
  treeFold join 7 ((List.range 128).map lane)

/-- The sum of R113. -/
def reduceSum (l : List (Option Num)) : Option Res := reduceWith (fun x => (x, 0)) fAdd fAdd l

/-- The sum of squares: each lane accumulates with a fused x·x + acc (R669). -/
def reduceSumSq (l : List (Option Num)) : Option Res := reduceWith (fun x => fMul x x) (fun a x => fFma x x a) fAdd l

/-- The maximum in the order of R113, by R662. -/
def reduceMax (l : List (Option Num)) : Option Res :=
  reduceWith (fun x => (x, 0)) (fun a x => (fMax a x, 0)) (fun a x => (fMax a x, 0)) l

/-- The minimum in the order of R113, by R662. -/
def reduceMin (l : List (Option Num)) : Option Res :=
  reduceWith (fun x => (x, 0)) (fun a x => (fMin a x, 0)) (fun a x => (fMin a x, 0)) l

/-! ## The compensated pair (R115) -/

/-- Round an exact value v to the pair (h, c): c is v − h, rounded, also where h is infinite (R115). -/
def roundPair (v : Num) : (Num × Num) × Nat :=
  let (h, g) := v.round
  let (d, k) := v.add h.opp
  ((h, (d.round).1), g ||| k)

/-- One step of the recurrence: a × h + a × c + b × x, exact, rounded once to a pair (R115). -/
def pairStep (a b x : Num) (hc : Num × Num) : (Num × Num) × Nat :=
  let (p, g1) := a.mul hc.1
  let (q, g2) := a.mul hc.2
  let (r, g3) := b.mul x
  let (u, g4) := p.add q
  let (v, g5) := u.add r
  let (w, g6) := roundPair v
  (w, g1 ||| g2 ||| g3 ||| g4 ||| g5 ||| g6)

end Sys2Proof.Machine
end

