-- ==== Sys2Proof/Machine/Protect.lean ====
section
/-! DEFINITION. Register access: who may reach which register, what a write stores, and why it is refused (R76–R89,
R663, R664 and the protections that the chapters name). -/

namespace Sys2Proof.Machine

/-! ## Refusal causes (R88, R89) -/

/-- Why an access is refused, in the order of R89; `config` is the cause of Agate's ring enable, for which DEV_ACCERR
has no bit. -/
inductive Cause where
  | unmapped | size | rsvdPage | tileSram | rights | locked | busy | config
deriving DecidableEq, Repr

/-- The DEV_ACCERR bit of a cause. -/
def causeFld : Cause → Option Fld
  | .unmapped => some Reg.DEV_ACCERR_C_UNMAPPED
  | .size => some Reg.DEV_ACCERR_C_SIZE
  | .rsvdPage => some Reg.DEV_ACCERR_C_RSVD_PAGE
  | .tileSram => some Reg.DEV_ACCERR_C_TILE_SRAM
  | .rights => some Reg.DEV_ACCERR_C_RIGHTS
  | .locked => some Reg.DEV_ACCERR_C_LOCKED
  | .busy => some Reg.DEV_ACCERR_C_BUSY
  | .config => none

/-- The count of refused accesses of a requester. -/
def accCount : Requester → Fld
  | .granite => Reg.DEV_ACCERR_GRN_CNT
  | .cmdp => Reg.DEV_ACCERR_CMDP_CNT
  | .pcie => Reg.DEV_ACCERR_PCIE_CNT

/-- The status a refused access returns: a Granite bus error 2, the command port's ACCESS 2, Unsupported Request 1
(R87, R526). -/
def refusedStatus : Requester → Nat
  | .granite => 2
  | .cmdp => 2
  | .pcie => 1

/-- Record the answer a requester gets (R87, R526). -/
def State.respond (s : State) (req : Requester) (status : Nat) (words : List Nat) : State :=
  match req with
  | .granite => { s with dev := { s.dev with respGranite := ⟨status, words⟩ } }
  | .cmdp => { s with dev := { s.dev with respCmdp := ⟨status, words⟩ } }
  | .pcie => { s with dev := { s.dev with respPcie := ⟨status, words⟩ } }

/-- A refused access: counted, its cause recorded, FS_DEV_ACCERR raised, the refusal answered (R87, R88). A count that
stands at its limit does not increment, and then nothing is raised. -/
def State.refuse (s : State) (req : Requester) (c : Cause) : State :=
  let f := accCount req
  let s1 := match causeFld c with | some b => s.putF b 1 | none => s
  let s2 := if s.getF f < 255 then (s1.putF f (s.getF f + 1)).raise FS.DEV_ACCERR else s1
  s2.respond req (refusedStatus req) []

/-! ## What a write stores -/

/-- A value lies in a range. -/
def inRange (lo hi : Nat) (v : Nat) : Bool := decide (lo ≤ v ∧ v ≤ hi)

/-- An FP32 word holds a value that is not at or below zero (R468's test of VMAX, AMAX and JMAX). -/
def f32NotLeZero (v : Nat) : Bool := !((f32 v).isZero || (f32 v).neg)

/-- The control period of 62.5 µs × 2^e in s, as FP32 (R41, R445). -/
def periodF32 (e : Nat) : Num := ((Num.fin false (625 * 2 ^ e) 0).round.1 |> fun x => (fDiv x (.ofInt 10000000)).1)

/-- Base `n` would follow itself, directly or through a chain of FOLLOW bases, if base `b` took the given mode and source
(R471). TB2's source comes from QTZ_TB2_SEL and is never a FOLLOW base. -/
def State.followsItself (s : State) (b mode src : Nat) : Bool :=
  let next (n : Nat) : Option Nat :=
    let m := if n = b then mode else s.getF (Reg.QTZ_TB_CTRL_MODE n)
    let c := if n = b then src else s.getF (Reg.QTZ_TB_CTRL_SRC n)
    if n = 2 then none else if m = 2 then some c else none
  let rec walk : Nat → Option Nat → Bool
    | 0, _ => false
    | _, none => false
    | k + 1, some n => n == b || walk k (next n)
  walk 8 (next b)

/-- Base `n` allows MODE `m` (R471). -/
def modeAllowed (n m : Nat) : Bool :=
  match m with
  | 0 => n == 3 || n == 4 || n == 5 || n == 6 || n == 7
  | 1 => n == 0 || n == 1
  | 2 => n == 2 || n == 3 || n == 4
  | _ => false

/-- The fields of register word `a` whose illegal values a write leaves unchanged: bits and test of the new value. -/
def State.fieldRules (s : State) (a : Nat) : List (Nat × Nat × (Nat → Bool)) :=
  let p := a / 0x1000
  let o := a % 0x1000
  if a = Reg.DEV_HOSTLOSS then [(23, 16, inRange 1 255), (14, 0, inRange 100 30000)]
  else if 0x338 ≤ p ∧ p < 0x340 then
    if o = 0x48 then (List.range 8).map (fun i => (2 * i + 1, 2 * i, inRange 0 2))
    else if 0x80 ≤ o ∧ o < 0xE0 ∧ o % 0x20 = 8 then
      [(20, 0, fun v => decide (s.getF (Reg.KVP_FL_POP_POP (p - 0x338) ((o - 0x80) / 0x20)) ≤ v ∧ v ≤ 1048576))]
    else []
  else if 0x340 ≤ p ∧ p < 0x380 then
    if 0x800 ≤ o ∧ o % 0x20 = 0 then [(29, 28, inRange 0 1), (13, 8, inRange 1 32)] else []
  else if a = Reg.TIER_SC_WAYS then [(4, 0, inRange 0 16)]
  else if a = Reg.TIER_HEAT then [(23, 16, inRange 1 255)]
  else if a = Reg.TIER_MIG then [(3, 0, inRange 1 8)]
  else if 0x300 ≤ p ∧ p < 0x330 ∧ p % 4 = 0 ∧ 0x100 ≤ o ∧ o < 0x140 ∧ o % 8 = 4 then [(15, 0, inRange 1 1024)]
  else if a = Reg.SCH_CFG then [(24, 24, inRange 0 0), (15, 8, inRange 1 255), (7, 0, inRange 1 255)]
  else if p = 0x81 ∧ 0x40 ≤ o ∧ o < 0xC0 ∧ o % 8 = 0 then [(9, 0, inRange 0 999)]
  else if 0x381 ≤ p ∧ p < 0x390 ∧ 0x400 ≤ o ∧ o % 0x80 = 0x30 then [(7, 6, inRange 0 2)]
  else if 0x390 ≤ p ∧ p < 0x3B0 ∧ o = 0x44 then [(21, 20, inRange 0 1), (13, 12, fun v => v == 1 || v == 3)]
  else if a = Reg.AGT_CFG then [(31, 24, inRange 16 200), (23, 16, inRange 1 255)]
  else if 0x3C1 ≤ p ∧ p < 0x3C9 ∧ 0x400 ≤ o ∧ o % 0x80 = 0 then [(19, 16, inRange 0 4)]
  else if a = Reg.PUM_CFG then [(23, 16, inRange 2 128), (4, 0, inRange 1 24)]
  else if a = Reg.FLT_CFG then [(31, 24, inRange 1 32)]
  else if a = Reg.FLT_CHK then [(19, 0, inRange 1 (2 ^ 20))]
  else if a = Reg.FLT_LEASE then [(25, 16, inRange 2 1000)]
  else if a = Reg.SLT_CFG then [(31, 24, inRange 5 100)]
  else if 0x501 ≤ p ∧ p ≤ 0x540 ∧ 0x80 ≤ o ∧ o < 0x100 then
    let k := (o - 0x80) / 4
    let ts := periodF32 (s.getF (Reg.GNT_L_CFG_PLOG2 (p - 0x501)))
    if k = 3 then [(31, 0, fun v => let r := (fAdd (f32 v) ts).1; !(r.isZero || r.neg))]
    else if k = 5 then [(31, 0, fun v => f32NotLeZero v && (f32 v).le (.ofInt 1))]
    else if k = 26 ∨ k = 27 ∨ k = 28 then [(31, 0, f32NotLeZero)] else []
  else if a = Reg.QTZ_TB2_SEL then
    [(1, 0, fun v => s.pins.cascPos == 0 && decide (v ≤ 1))]
  else if a = Reg.QTZ_FRAME_ORG then [(19, 0, inRange 0 999999)]
  else if p = 0x41 ∧ 0x400 ≤ o ∧ o < 0x600 ∧ o % 0x40 = 0 then
    let n := (o - 0x400) / 0x40
    [(31, 30, fun v => modeAllowed n v && !s.followsItself n v (s.getF (Reg.QTZ_TB_CTRL_SRC n))), (21, 16, inRange 1 50)]
  else if p = 0x41 ∧ o = 0x548 then [(31, 0, fun _ => false)]
  else if p = 0x42 ∧ 0x400 ≤ o ∧ o % 0x40 = 4 then [(28, 24, inRange 0 20), (20, 16, inRange 0 20)]
  else if a = Reg.PCIE_WIN then [(2, 0, inRange 1 7)]
  else if 0x5E0 ≤ p ∧ p < 0x5EC ∧ p % 2 = 0 ∧ o = 0x40 then [(31, 30, inRange 0 2)]
  else if (p = 0x600 ∨ p = 0x610) ∧ o = 0x40 then [(31, 24, inRange 1 255), (7, 0, inRange 1 255)]
  else if 0x620 ≤ p ∧ p < 0x640 ∧ 0x400 ≤ o ∧ o < 0x600 ∧ o % 0x40 = 0 then [(27, 24, inRange 0 8)]
  else if a = Reg.GRN_TST_CFG then [(8, 0, inRange 0 292)]
  else if a = Reg.PWR_CFG then [(22, 16, inRange 1 64), (15, 8, inRange 1 255), (7, 0, inRange 3 40)]
  else if a = Reg.TIER_CFG then [(0, 0, fun _ => !s.onF Reg.TIER_CFG_MODE_LOCKED)]
  else []

/-- `v` with the fields whose new value is illegal taken from `old`. -/
def keepIllegal (old : Nat) (rules : List (Nat × Nat × (Nat → Bool))) (v : Nat) : Nat :=
  rules.foldl (fun w r => if r.2.2 (bits w r.1 r.2.1) then w else setBits w r.1 r.2.1 (bits old r.1 r.2.1)) v

/-- A written SRC of a base that would make it follow itself is not taken (R471); it is tested with the MODE that the
same write leaves. -/
def State.keepSrc (s : State) (a old v : Nat) : Nat :=
  let o := a % 0x1000
  if a / 0x1000 = 0x41 ∧ 0x400 ≤ o ∧ o < 0x600 ∧ o % 0x40 = 0 ∧
      s.followsItself ((o - 0x400) / 0x40) (bits v 31 30) (bits v 26 24) then
    setBits v 26 24 (bits old 26 24)
  else v

/-- The word that a write of `v` leaves at register word `a` (R83, R84): RW and RWL fields take their new values, W1C
clears, W1S sets, all else stands; illegal values leave their fields. -/
def State.written (s : State) (a v : Nat) : Nat :=
  let old := (s.reg a).toNat
  match findRow a with
  | none => old
  | some (r, _, _, _, w) =>
    let m := r.mask w [.rw, .rwl]
    let n := (old &&& (2 ^ 32 - 1 - m)) ||| (v &&& m)
    let n := n &&& (2 ^ 32 - 1 - (v &&& r.mask w [.w1c]))
    let n := n ||| (v &&& r.mask w [.w1s])
    s.keepSrc a old (keepIllegal old (s.fieldRules a) n)

/-- A plain write of one register word. -/
def State.applyWord (s : State) (a v : Nat) : State := s.setReg a (BitVec.ofNat 32 (s.written a v))

/-! ## Protections (R85, R664) -/

/-- A mask of bits hi:lo. -/
def maskOf (hi lo : Nat) : Nat := (2 ^ (hi + 1 - lo) - 1) * 2 ^ lo

/-- All bits of a word. -/
def allBits : Nat := 2 ^ 32 - 1

/-- All bits of a word when `c` holds. -/
def allIf (c : Bool) : Nat := if c then allBits else 0

/-- All bits of a word but bit 31 (an enable) when `c` holds. -/
def allButEn (c : Bool) : Nat := if c then 2 ^ 31 - 1 else 0

/-- A block's registers whose RWL fields are refused while it RUNs: FLT, SLT, ETH, PCIe, CAN (R442, chapter 17). -/
def State.rwlWhileRunning (s : State) (a : Nat) : Nat :=
  let p := a / 0x1000
  let free := a == Reg.FLT_LEASE || a == Reg.FLT_WPR_DST || a == Reg.SLT_KSIG
  if s.isRunning p && !free then
    match findRow a with
    | some (r, _, _, _, w) => r.mask w [.rwl]
    | none => 0
  else 0

/-- The bits of register word `a` that no write may change now (R664): the cause is C_BUSY. -/
def State.protectedBits (s : State) (a : Nat) : Nat :=
  let p := a / 0x1000
  let o := a % 0x1000
  if 0x340 ≤ p ∧ p < 0x380 ∧ 0x800 ≤ o then
    let i := 64 * (p - 0x340) + (o - 0x800) / 0x20
    let c := s.onF (Reg.STM_STAT_STATUS i)
    match o % 0x20 with
    | 0x00 => if c then maskOf 29 20 ||| maskOf 13 8 else 0
    | 0x04 => if c then maskOf 10 8 ||| maskOf 6 0 else 0
    | 0x08 => allIf c
    | 0x0C => allIf c
    | 0x1C => allIf c
    | _ => 0
  else if a = Reg.TIER_SC_WAYS then allIf (s.blockState 0x330 != .off)
  else if a = Reg.TIER_CFG then (if s.blockState 0x330 != .off || s.mode != .boot then 1 else 0)
  else if p = 0x332 ∧ 0x800 ≤ o ∧ o < 0xA00 ∧ o % 0x20 < 8 then
    allIf (s.getF (Reg.TIER_WW_STAT_STATE ((o - 0x800) / 0x20)) == 1)
  else if 0x381 ≤ p ∧ p < 0x389 ∧ 0x400 ≤ o ∧ o < 0x800 then
    let c := s.onF (Reg.ING_S_STAT_STATE (8 * (p - 0x381) + (o - 0x400) / 0x80))
    match o % 0x80 with
    | 0x00 => allButEn c
    | 0x0C => if c then allBits - maskOf 23 8 else 0
    | _ => allIf c
  else if 0x390 ≤ p ∧ p < 0x3B0 ∧ 0x40 ≤ o then allIf (s.getF (Reg.ING_S_STAT_STATE (p - 0x390)) == 1)
  else if 0x3B0 ≤ p ∧ p < 0x3C0 ∧ 0x40 ≤ o ∧ o < 0x60 then allIf (s.getF (Reg.PK_STAT_STATE (p - 0x3B0)) == 1)
  else if 0x3C1 ≤ p ∧ p < 0x3C9 ∧ 0x400 ≤ o ∧ o < 0x800 then
    let c := s.onF (Reg.AGT_S_CFG_EN (8 * (p - 0x3C1) + (o - 0x400) / 0x80))
    let q := o % 0x80
    if q = 0 then (if c then maskOf 27 4 else 0) else if 0x20 ≤ q ∧ q < 0x30 then allIf c else 0
  else if p = 0x3C9 ∧ 0x400 ≤ o ∧ o < 0x600 then
    let c := s.onF (Reg.AGT_R_CFG_EN ((o - 0x400) / 0x20))
    if o % 0x20 = 8 then allButEn c else if o % 0x20 < 0x10 then allIf c else 0
  else if p = 0x400 ∧ 0x40 ≤ o ∧ o < 0x50 then allIf (s.isRunning p)
  else if p = 0x401 ∧ 0x400 ≤ o ∧ o < 0x600 ∧ o % 0x20 = 0 then
    allButEn (s.onF (Reg.PUM_SC_CFG_EN ((o - 0x400) / 0x20)))
  else if 0x404 ≤ p ∧ p < 0x408 ∧ 0x40 ≤ o ∧ o < 0x50 then
    let c := s.onF (Reg.PUM_J_CFG_EN (p - 0x404))
    if o = 0x48 then allButEn c else allIf c
  else if 0x480 ≤ p ∧ p < 0x500 then s.rwlWhileRunning a
  else if 0x501 ≤ p ∧ p ≤ 0x540 then
    let c := s.onF (Reg.GNT_L_CFG_EN (p - 0x501))
    if o = 0x40 then allButEn c else if (0x44 ≤ o ∧ o < 0x58) ∨ o = 0x5C ∨ o = 0x60 then allIf c else 0
  else if 0x549 ≤ p ∧ p < 0x551 ∧ 0x400 ≤ o ∧ o < 0x800 then
    let c := s.onF (Reg.GNT_F_CFG_EN (4 * (p - 0x549) + (o - 0x400) / 0x100))
    if o % 0x100 = 0 then allButEn c else if o % 0x100 < 0x20 then allIf c else 0
  else if p = 0x551 ∧ 0x400 ≤ o ∧ o % 0x10 = 0 then
    allButEn (s.onF (Reg.GNT_FB_CFG_EN ((o - 0x400) / 0x10)))
  else if p = 0x40 ∧ o = 0x4C then allIf s.driving
  else if a = Reg.QTZ_TB_CTRL 4 then (if s.driving then maskOf 31 30 ||| maskOf 26 24 else 0)
  else if a = Reg.QTZ_TB_RATE 4 then allIf s.driving
  else if 0x44 ≤ p ∧ p ≤ 0x46 ∧ 0x400 ≤ o ∧ o < 0x600 then
    let c := s.onF (Reg.QTZ_TR_CFG_EN (8 * (p - 0x44) + (o - 0x400) / 0x40))
    if o % 0x40 = 0 then allButEn c else if o % 0x40 < 0x14 then allIf c else 0
  else if 0x47 ≤ p ∧ p ≤ 0x49 ∧ 0x400 ≤ o ∧ o < 0x600 ∧ o % 0x40 = 0 then
    allButEn (s.onF (Reg.QTZ_CAP_CFG_EN (8 * (p - 0x47) + (o - 0x400) / 0x40)))
  else if 0x580 ≤ p ∧ p < 0x5EC then s.rwlWhileRunning a
  else if (p = 0x600 ∨ p = 0x610) ∧ o = 0x40 then allIf (s.onF (Reg.ODL_STAT_UP ((p - 0x600) / 0x10)))
  else if 0x620 ≤ p ∧ p < 0x640 ∧ 0x400 ≤ o ∧ o < 0x600 then
    let c := s.onF (Reg.WDG_CFG_EN (8 * (p - 0x620) + (o - 0x400) / 0x40))
    if o % 0x40 = 0 then (if c then maskOf 30 30 ||| maskOf 27 24 else 0)
    else if o % 0x40 < 0xC then allIf c else 0
  else if p = 0x60 ∧ 0x40 ≤ o then
    if (Reg.AGE_HOURS ≤ a ∧ a < Reg.AGE_HOURS + 8) ∨ (Reg.AGE_HIST ≤ a ∧ a < Reg.AGE_HIST + 8) then
      allIf (s.mode != .boot) else 0
  else 0

/-- The state of a block shows BUSY and its chapter does not name word `a` as writable meanwhile (R85): in TIER only
TIER_OBJ_APPLY and TIER_CFG refuse, in SCH SCH_CMD and SCH_IDX do not; chapter 23 names no register of SEC. -/
def State.refusedByBusy (s : State) (a : Nat) : Bool :=
  let p := a / 0x1000
  let o := a % 0x1000
  (s.block p).busy && decide (0x40 ≤ o) &&
    (if blockType p = 0x0E then a == Reg.TIER_OBJ_APPLY || a == Reg.TIER_CFG
     else if blockType p = 0x08 then !(decide (0x88 ≤ p ∧ p < 0x90) && (o == 0x40 || o == 0x48))
     else true)

/-- A stream's chunk is in a commit window: a SCAN of a context's window names it (R247). -/
def State.scanInWindow (s : State) (i : Nat) : Bool :=
  s.sch.tiles.any (fun t => t.2.window.any (fun e => e.cmd.op == 0x28 && bits (leField e.cmd.desc 0x10 4) 11 0 == i))

/-- The extent in elements of a stream: CH × NST (R238). -/
def State.stmElems (s : State) (i : Nat) : Nat :=
  128 * s.getF (Reg.STM_CTRL_CH128 i) * (s.getF (Reg.STM_CTRL_NSTM1 i) + 1)

/-- Both copies of the stream end within bank 15 (R247). -/
def State.stmFits (s : State) (i : Nat) : Bool :=
  decide (s.getF (Reg.STM_HOME_OFFSET i) * 1024 + 8 * s.stmElems i ≤ (8 - s.getF (Reg.STM_HOME_PAIR i)) * 131072)

/-- The length of a watchdog's watch period in ns (R575). -/
def State.wdgPeriod (s : State) (w : Nat) : Nat := 1000000 * 2 ^ s.getF (Reg.WDG_CFG_EVERY w)

/-- OPEN and CLOSE of watchdog `w` allow EN = 1 (R670, R578), with the mode and period that word `v` of WDG_CFG gives. -/
def State.wdgWindowOk (s : State) (w v : Nat) : Bool :=
  let op := s.getF (Reg.WDG_OPEN_OPEN w)
  let cl := s.getF (Reg.WDG_CLOSE_CLOSE w)
  decide (op < cl) && (bit v 30 || decide (cl < op + 1000000 * 2 ^ bits v 27 24))

/-- Refusals with C_BUSY of a write of word `v` to `a` that rest on more than a protected field (R247, R472, R578,
R464's neighbours, R646). -/
def State.refusedSpecial (s : State) (a v : Nat) : Bool :=
  let p := a / 0x1000
  let o := a % 0x1000
  if 0x340 ≤ p ∧ p < 0x380 ∧ 0x800 ≤ o ∧ o % 0x20 = 0 then
    let i := 64 * (p - 0x340) + (o - 0x800) / 0x20
    let st := s.getF (Reg.STM_STAT_STATUS i)
    if bit v 31 then
      st == 0 &&
        !((s.setReg a (BitVec.ofNat 32 (s.written a v))).stmFits i)
    else st != 0 && (st == 3 || st == 5 || s.scanInWindow i)
  else if p = 0x41 ∧ 0x400 ≤ o ∧ o < 0x600 ∧ o % 0x40 = 0x10 then
    let n := (o - 0x400) / 0x40
    n == 5 || s.getF (Reg.QTZ_TB_CTRL_MODE n) == 2 || (n == 4 && s.driving)
  else if 0x620 ≤ p ∧ p < 0x640 ∧ 0x400 ≤ o ∧ o < 0x600 ∧ o % 0x40 = 0 then
    bit v 31 && !s.wdgWindowOk (8 * (p - 0x620) + (o - 0x400) / 0x40) (s.written a v)
  else if a = Reg.SEC_FPGM then s.dev.op.any (fun x => x.code == 3)
  else false

/-! ## Rights (R77, R528) -/

/-- The command port reaches page `p` (R528). -/
def cmdpPage (p : Nat) : Bool :=
  decide (p ≤ 0x0F) || decide (0x20 ≤ p ∧ p ≤ 0x3F) || p == 0x40 || p == 0x50 || p == 0x60 ||
  decide (0x88 ≤ p ∧ p ≤ 0x8F) || p == 0x380 || p == 0x480 || p == 0x500 || decide (0x541 ≤ p ∧ p ≤ 0x548) ||
  decide (0x620 ≤ p ∧ p ≤ 0x63F)

/-- PCIe may write pages of partition `q` (R77). -/
def State.pcieMayWrite (s : State) (q : Nat) : Bool :=
  decide (0 < q) && bit (s.reg Reg.DEV_PCIE_WMASK).toNat q

/-- The effective debug level: the highest of the fused level, the level set and the lifecycle's minimum (R640, R641). -/
def State.debugLevel (s : State) : Nat :=
  max (max (s.getF Reg.SEC_DEBUG_SET_LEVEL) (s.getF Reg.SEC_LIFE_DEBUG_FUSE))
    (match s.getF Reg.SEC_LIFE_LIFE with | 0 => 0 | 1 => 0 | 2 => 1 | _ => 3)

/-- A write of word `a` is outside the requester's rights: the page's owner, PG_PART, and the registers that name their
writers (R77, R79, R265, R317, chapter 18). -/
def State.rightsRefuse (s : State) (req : Requester) (a : Nat) : Bool :=
  let p := a / 0x1000
  let o := a % 0x1000
  match req with
  | .granite => p == 0x380 && decide (0x100 ≤ o ∧ o < 0x140)
  | .cmdp => !cmdpPage p || o == 0x1C || (p == 0x380 && decide (0x100 ≤ o ∧ o < 0x140))
  | .pcie =>
    !s.pcieMayWrite (s.owner p) || o == 0x1C || a == Reg.DEV_MODECMD || (p == 0x380 && decide (0x100 ≤ o ∧ o < 0x140)) ||
      (a == Reg.TIER_CFG && !s.onF Reg.TIER_CFG_MODE_LOCKED)

/-- Word `a` holds an RWL field (R79), PG_PART's OWNER among them. -/
def hasRwl (a : Nat) : Bool :=
  a % 0x1000 == 0x1C ||
  match findRow a with
  | some (r, _, _, _, w) => r.mask w [.rwl] != 0
  | none => false

/-- A write of `v` to SEC_KEY_OFF would leave no usable slot of a kind: it is refused with C_RIGHTS (R642). -/
def State.keyOffBad (s : State) (a v : Nat) : Bool :=
  a == Reg.SEC_KEY_OFF &&
    (s.getF Reg.SEC_KEYS_ECDSA_USABLE &&& (15 - bits v 3 0) == 0 || s.getF Reg.SEC_KEYS_LMS_USABLE &&& (15 - bits v 11 8) == 0)

/-- Why a write of word `v` to register word `a` is refused, if it is (R79, R85, R89, R664). `n` bits of the size check
have been made. -/
def State.checkWord (s : State) (req : Requester) (a v : Nat) : Option Cause :=
  let p := a / 0x1000
  if (dirRow p).isNone then some .rsvdPage
  else if s.rightsRefuse req a || s.keyOffBad a v then some .rights
  else if s.locked p && hasRwl a then some .locked
  else if s.refusedByBusy a || (s.written a v ^^^ (s.reg a).toNat) &&& s.protectedBits a != 0 || s.refusedSpecial a v then
    some .busy
  else none

/-! ## Sizes (R80) -/

/-- The width in bytes of the packed registers in word `a`, 4 where the word holds one register (R80). -/
def packWidth (a : Nat) : Nat :=
  let p := a / 0x1000
  let o := a % 0x1000
  if p = 0x5C2 ∧ 0x400 ≤ o ∧ o < 0x420 then 1
  else if 0x549 ≤ p ∧ p < 0x551 ∧ 0x400 ≤ o ∧ 0x10 ≤ o % 0x100 ∧ o % 0x100 < 0x20 then 1
  else if 0x501 ≤ p ∧ p ≤ 0x540 ∧ 0x48 ≤ o ∧ o < 0x58 then 2
  else if 0x3C1 ≤ p ∧ p < 0x3C9 ∧ 0x400 ≤ o ∧ 0x20 ≤ o % 0x80 ∧ o % 0x80 < 0x40 then 2
  else 4

/-- A register that only an 8-byte write may change (R194, R235, R646). -/
def wideOnly (a : Nat) : Bool :=
  let p := a / 0x1000
  let o := a % 0x1000
  (decide (0xC0 ≤ p ∧ p < 0x100) && (o - o % 8 == 0x40 || decide (0x800 ≤ o))) ||
  (decide (0x338 ≤ p ∧ p < 0x340) && decide (0x80 ≤ o ∧ o < 0xE0) && o % 0x20 - o % 4 == 0x10) ||
  (decide (0x338 ≤ p ∧ p < 0x340) && decide (0x80 ≤ o ∧ o < 0xE0) && o % 0x20 - o % 4 == 0x14) ||
  a - a % 8 == Reg.SEC_FPGM

/-- An access of `size` bytes at `a` is of a legal size and alignment for a write (R80). -/
def sizeOk (a size : Nat) : Bool :=
  if size = 8 then a % 8 == 0
  else if size = 4 then a % 4 == 0 && !wideOnly a
  else (size == 1 || size == 2) && size == packWidth (a - a % 4) && a % size == 0

/-- The word that a write of `size` bytes at `a` sends to word `a − a mod 4`: the other bytes as they stand (R80). -/
def State.mergeWord (s : State) (a size v : Nat) : Nat :=
  if size < 4 then
    setBits (s.reg (a - a % 4)).toNat (8 * (a % 4) + 8 * size - 1) (8 * (a % 4)) v
  else v % 2 ^ 32

/-- An access that is turned away before any check: while a long operation runs, every transaction of the command port
returns BUSY (R529); while the PCIe block is STOPPING, a request completes with Unsupported Request (R497). -/
def State.turnedAway (s : State) (req : Requester) : Option State :=
  match req with
  | .granite => none
  | .cmdp => if s.dev.op.isSome then some ((s.satInc Reg.DEV_CMDP_CNT_BUSYS).respond .cmdp 1 []) else none
  | .pcie => if s.blockState 0x5C0 == .stopping then some (s.respond .pcie 1 []) else none

/-- A checked write of one register word by a command of its own: refused with its cause, or answered OK with the
command's effect (R86–R89). -/
def State.access (s : State) (req : Requester) (a v : Nat) (f : State → State) : State :=
  match s.turnedAway req, s.checkWord req a v with
  | some t, _ => t
  | none, some c => s.refuse req c
  | none, none => (f s).respond req 0 []

/-- A checked 8-byte write of an atomic register, as one word (R663): refused if either half is. -/
def State.accessWide (s : State) (req : Requester) (a v : Nat) (f : State → State) : State :=
  match s.turnedAway req, s.checkWord req a (v % 2 ^ 32), s.checkWord req (a + 4) (v / 2 ^ 32 % 2 ^ 32) with
  | some t, _, _ => t
  | none, some c, _ => s.refuse req c
  | none, none, some c => s.refuse req c
  | none, none, none => (f s).respond req 0 []

end Sys2Proof.Machine
end

