-- ==== Sys2Proof/Machine/Quartz.lean ====
section
/-! DEFINITION. Quartz (chapter 16): time bases and their rates (R470–R473), servos and TB2's source (R474–R477),
latches (R478), epochs (R481), trigger outputs (R484–R487) and capture inputs (R488, R489). -/

namespace Sys2Proof.Machine

/-! ## Time bases -/

/-- The state with time base `b` replaced. -/
def State.setBase (s : State) (b : Nat) (x : TimeBase) : State :=
  { s with qtz := { s.qtz with bases := Sparse.set (fun _ => {}) s.qtz.bases b x } }

/-- An integer saturated to the signed 32-bit range. -/
def sat32 (x : Int) : Int := max (-(2 ^ 31)) (min (2 ^ 31 - 1) x)

/-- The clamp of a follow correction in 2^−40 units: floor(SLEW × 1,099,511.627776) (R473). -/
def slewClamp (slew : Nat) : Int := ((slew * 1099511627776 / 1000000 : Nat) : Int)

/-- The base that stands for the cascade master's TB2 as received over the Odilo link (R490). -/
def cascBase : Nat := 8

/-- The source that FOLLOW base `b` follows now; none for TB2 in HOLDOVER (R471, R475, R490). -/
def State.followSrc (s : State) (b : Nat) : Option Nat :=
  if b = 2 then
    match s.getF Reg.QTZ_STAT_TB2_SRC with
    | 0 => some 0
    | 1 => some 1
    | 2 => some cascBase
    | _ => none
  else some (s.getF (Reg.QTZ_TB_CTRL_SRC b))

/-- The follow error e = source + OFS − self, as a signed 64-bit value in ns (R473). -/
def State.followErr (s : State) (b src : Nat) : Int :=
  signed 64 (toBits 64 ((s.base src).count + signed 32 (s.getF (Reg.QTZ_TB_OFS_OFS b)) - (s.base b).count))

/-- The effective rate of base `b` in 2^−40 units (R471, R473, R475); the fuel bounds the chain of FOLLOW bases. -/
def State.effRate (s : State) : Nat → Nat → Int
  | 0, _ => 0
  | k + 1, b =>
    if b = cascBase then (s.base b).held
    else
      match s.getF (Reg.QTZ_TB_CTRL_MODE b) with
      | 0 => if b = 5 then 0 else signed 32 (s.getF (Reg.QTZ_TB_RATE_RATE b))
      | 1 => (s.base b).held
      | _ => match s.followSrc b with
        | none => (s.base b).held
        | some c =>
          let lim := slewClamp (s.getF (Reg.QTZ_TB_CTRL_SLEW b))
          sat32 (s.effRate k c + max (-lim) (min lim (s.followErr b c * 2 ^ 20)))

/-- The effective rate of base `b`. -/
def State.rate (s : State) (b : Nat) : Int := s.effRate 9 b

/-- Base `b` after one QTZ cycle: 2 ns × (1 + R × 2^−40) (R470). -/
def State.advanced (s : State) (b : Nat) : TimeBase :=
  let x := s.base b
  let t : Int := (x.count * 2 ^ 40 + x.frac : Nat) + 2 * 2 ^ 40 + 2 * s.rate b
  { x with count := (t / 2 ^ 40).toNat % 2 ^ 64, frac := (t % 2 ^ 40).toNat }

/-- The base numbers that count: TB0–TB7 and the cascade master's. -/
def baseNumbers : List Nat := [0, 1, 2, 3, 4, 5, 6, 7, cascBase]

/-- Every base after one QTZ cycle, all from the state before it (R470). -/
def State.advanceBases (s : State) : State := baseNumbers.foldl (fun t b => t.setBase b (s.advanced b)) s

/-- GEN of base `b` increments and sets its bit of BLK_STAT on page 1 (R480). -/
def State.genInc (s : State) (b : Nat) : State := (s.wrapInc (Reg.QTZ_TB_GEN_GEN b)).irq 0x41 (2 ^ b)

/-- The smallest value above `count` that equals `org` modulo 1,000,000 (R667). -/
def nextTickAfter (count org : Nat) : Nat :=
  let r := count % 1000000
  if r < org then count - r + org else count - r + 1000000 + org

/-! ## Trigger edges -/

/-- Trigger output `o`. -/
def State.trigger (s : State) (o : Nat) : Trigger := Sparse.get (fun _ => {}) s.qtz.triggers o

/-- The state with trigger output `o` replaced. -/
def State.setTrigger (s : State) (o : Nat) (x : Trigger) : State :=
  { s with qtz := { s.qtz with triggers := Sparse.set (fun _ => {}) s.qtz.triggers o x } }

/-- PERIOD of output `o` in 2^−16 ns (R484). -/
def State.trigPeriod (s : State) (o : Nat) : Nat :=
  s.getF (Reg.QTZ_TR_PER_PER o) * 65536 + s.getF (Reg.QTZ_TR_PERF_PERF o)

/-- The 64-bit count of output `o`'s base, in 2^−16 ns. -/
def State.trigCount (s : State) (o : Nat) : Int :=
  (((s.base (s.getF (Reg.QTZ_TR_CFG_BASE o))).count * 65536 : Nat) : Int)

/-- The number of the first edge after a count. -/
def firstEdgeAfter (e0 : Int) (period : Nat) (count : Int) : Nat :=
  if count < e0 then 0 else if period = 0 then 1 else ((count - e0) / period).toNat + 1

/-- E_k of the next scheduled edge of output `o`. -/
def State.trigNext (s : State) (o : Nat) : Int := (s.trigger o).e0 + ((s.trigger o).next * s.trigPeriod o : Nat)

/-- Output `o` still has an edge: it is enabled, and a one-shot has not used E_0. -/
def State.trigArmed (s : State) (o : Nat) : Bool :=
  s.onF (Reg.QTZ_TR_CFG_EN o) && (!s.onF (Reg.QTZ_TR_CFG_ONESHOT o) || (s.trigger o).next == 0)

/-- A leading edge of output `o` is due: its base has reached E_k (R484). -/
def State.edgeDue (s : State) (o : Nat) : Bool := s.trigArmed o && decide (s.trigNext o ≤ s.trigCount o)

/-- A pulse of output `o` is to end: WIDTH has elapsed on its base (R484). -/
def State.pulseEndDue (s : State) (o : Nat) : Bool :=
  s.onF (Reg.QTZ_TR_STAT_ACTIVE o) &&
    decide ((s.trigger o).pulseEnd ≤ (s.base (s.getF (Reg.QTZ_TR_CFG_BASE o))).count)

/-- A forward step of base `b` skips every edge it jumps over; a backward step repeats none (R485). -/
def State.skipEdges (s : State) (b : Nat) : State :=
  (List.range 24).foldl (fun t o =>
    if t.trigArmed o && t.getF (Reg.QTZ_TR_CFG_BASE o) == b then
      let x := t.trigger o
      t.setTrigger o { x with next := max x.next (firstEdgeAfter x.e0 (t.trigPeriod o) (t.trigCount o)) }
    else t) s

/-- Add a signed step to base `b`: GEN increments (R472, R480). -/
def State.stepBase (s : State) (b : Nat) (step : Int) : State :=
  let x := s.base b
  let s1 := (s.setBase b { x with count := toBits 64 (x.count + step) }).genInc b
  if 0 < step then s1.skipEdges b else s1

/-! ## Servos and the source of TB2 (R474–R476) -/

/-- TB2 enters HOLDOVER at its effective rate (R475). -/
def State.holdoverAt (s : State) : State :=
  let r := s.rate 2
  (s.setBase 2 { s.base 2 with held := r }).putF Reg.QTZ_STAT_TB2_SRC 3

/-- TB2 enters HOLDOVER from a followed source (R475). -/
def State.enterHoldover (s : State) : State := (s.holdoverAt.irq 0x40 2).raise FS.QTZ_HOLDOVER

/-- TB2 switches by itself to the other domain (R475). -/
def State.autoSwitch (s : State) (d : Nat) : State :=
  (((s.putF Reg.QTZ_STAT_TB2_SRC d).wrapInc Reg.QTZ_STAT_SWITCHES).irq 0x40 1).raise FS.QTZ_SWITCH

/-- Servo `d` is LOCKED. -/
def State.servoLocked (s : State) (d : Nat) : Bool := s.getF (Reg.QTZ_SV_STAT_STATE d) == 2

/-- TB2's source after a state change of servo `d`, on position 0 (R475, R490). -/
def State.tb2Follow (s : State) (d : Nat) : State :=
  if s.pins.cascPos != 0 then s
  else
    let src := s.getF Reg.QTZ_STAT_TB2_SRC
    let auto := s.onF Reg.QTZ_TB2_SEL_AUTO
    if src ≤ 1 then
      if s.servoLocked src then s
      else if auto && s.servoLocked (1 - src) then s.autoSwitch (1 - src)
      else s.enterHoldover
    else if src = 3 ∧ s.servoLocked d = true ∧ (auto = true ∨ d = s.getF Reg.QTZ_TB2_SEL_SEL) then
      s.putF Reg.QTZ_STAT_TB2_SRC d
    else s

/-- Servo `d` takes a state: 0 LOST, 1 ACQUIRING, 2 LOCKED; a change shows on page 2 and may move TB2 (R474, R475). -/
def State.servoState (s : State) (d st : Nat) : State :=
  if s.getF (Reg.QTZ_SV_STAT_STATE d) = st then s
  else ((s.putF (Reg.QTZ_SV_STAT_STATE d) st).irq 0x42 (2 ^ d)).tb2Follow d

/-- Servo `d` beyond its registers. -/
def State.servo (s : State) (d : Nat) : Servo := Sparse.get (fun _ => {}) s.qtz.servos d

/-- The state with servo `d` replaced. -/
def State.setServo (s : State) (d : Nat) (x : Servo) : State :=
  { s with qtz := { s.qtz with servos := Sparse.set (fun _ => {}) s.qtz.servos d x } }

/-- One servo sample o, in ns (R474). -/
def State.servoSample (s : State) (d : Nat) (o : Int) : State :=
  let stepNs := s.getF (Reg.QTZ_SV_STEP_STEP_NS d)
  let s1 := s.putF (Reg.QTZ_SV_LAST_LAST d) (toBits 32 o)
  let s2 :=
    if stepNs != 0 && decide (stepNs < o.natAbs) then (s1.stepBase d o).wrapInc (Reg.QTZ_SV_STAT_STEPS d)
    else
      let i := sat32 (signed 32 (s1.getF (Reg.QTZ_SV_INT_I d)) + o * 2 ^ s1.getF (Reg.QTZ_SV_CFG_KI_SH d))
      let r := sat32 (i + o * 2 ^ s1.getF (Reg.QTZ_SV_CFG_KP_SH d))
      (s1.putF (Reg.QTZ_SV_INT_I d) (toBits 32 i)).setBase d { s1.base d with held := r }
  let good := decide (o.natAbs ≤ s.getF (Reg.QTZ_SV_CFG_LOCK_NS d))
  let run := if good then (s.servo d).run + 1 else 0
  let old := s.getF (Reg.QTZ_SV_STAT_STATE d)
  let st := if 8 ≤ run then 2 else if old = 2 ∧ good = true then 2 else 1
  (s2.setServo d { run := run, since := s.qtz.cycles }).servoState d st

/-! ## Register writes (Quartz) -/

/-- QTZ_TB_STEP (R472). -/
def State.wrTbStep (s : State) (b v : Nat) : State := s.stepBase b (signed 32 v)

/-- QTZ_FRAME_ORG: N afresh, no tick (R667). A value above 999,999 leaves all as it is. -/
def State.wrFrameOrg (s : State) (v : Nat) : State :=
  if bits v 19 0 ≤ 999999 then
    let s1 := s.putF Reg.QTZ_FRAME_ORG_ORG v
    { s1 with qtz := { s1.qtz with nextTick := nextTickAfter (s1.base 4).count (bits v 19 0) } }
  else s

/-- QTZ_SV_OFS (R474). -/
def State.wrServoOfs (s : State) (d v : Nat) : State := s.servoSample d (signed 32 v)

/-- QTZ_TB2_SEL: TB2 follows the named source (R476, R490). -/
def State.wrTb2Sel (s : State) (v : Nat) : State :=
  let s1 := s.applyWord Reg.QTZ_TB2_SEL v
  if s.pins.cascPos = 0 ∧ bits v 1 0 ≤ 1 then s1.putF Reg.QTZ_STAT_TB2_SRC (bits v 1 0) else s1

/-- QTZ_SNAP: GO latches the bases and the frame number (R478). -/
def State.wrSnap (s : State) (v : Nat) : State :=
  if bit v 0 then
    ((List.range 8).foldl (fun t b => t.putF (Reg.QTZ_TB_SNAP_SNAP b) (s.now b)) s).putF Reg.QTZ_SNAP_FRAME_FRAME
      (s.getF Reg.QTZ_FRAME_FRAME)
  else s

/-- QTZ_EPOCH_TAG commits the epoch of domain `d` (R481). -/
def State.wrEpochTag (s : State) (d v : Nat) : State :=
  let s1 := s.putF (Reg.QTZ_EPOCH_TAG_TAG d) v
  let e : Epoch := { sec := s1.getF (Reg.QTZ_EPOCH_SEC_SEC d), ns := s1.getF (Reg.QTZ_EPOCH_NS_NS d), tag := bits v 15 0 }
  { s1 with qtz := { s1.qtz with epochs := Sparse.set (fun _ => {}) s1.qtz.epochs d e } }

/-- The level of an output at rest and during a pulse (POL, R484). -/
def State.trigLevel (s : State) (o : Nat) (pulse : Bool) : Bool := pulse != s.onF (Reg.QTZ_TR_CFG_POL o)

/-- The timing of output `o` is refused at EN = 1 (R487). -/
def State.trigBad (s : State) (o : Nat) : Bool :=
  let w := s.getF (Reg.QTZ_TR_WIDTH_WIDTH o)
  let p := s.trigPeriod o
  decide (w < 2) || (!s.onF (Reg.QTZ_TR_CFG_ONESHOT o) && (decide (p < 4 * 65536) || decide (p < (w + 2) * 65536)))

/-- A write of EN = 1 to output `o`, its word written but for EN: refused with CFG_ERR, or its edges are scheduled from
START (R485, R487). -/
def State.trigStart (s : State) (o : Nat) : State :=
  if s.trigBad o then ((s.putF (Reg.QTZ_TR_CFG_EN o) 0).putF (Reg.QTZ_TR_CFG_CFG_ERR o) 1).raise FS.QTZ_CFG
  else
    let c := (s.base (s.getF (Reg.QTZ_TR_CFG_BASE o))).count
    let e0 : Int := ((c : Int) + signed 32 (toBits 32 (s.getF (Reg.QTZ_TR_START_START o) - c))) * 65536
    let s1 := ((s.putF (Reg.QTZ_TR_CFG_EN o) 1).putF (Reg.QTZ_TR_CFG_CFG_ERR o) 0).putF (Reg.QTZ_TR_STAT_MISSED o) 0
    if e0 < s.trigCount o then
      if s.onF (Reg.QTZ_TR_CFG_ONESHOT o) then
        (((s1.putF (Reg.QTZ_TR_STAT_MISSED o) 1).putF (Reg.QTZ_TR_CFG_EN o) 0).irq (0x44 + o / 8) (2 ^ (o % 8))).raise
          FS.QTZ_MISSED
      else s1.setTrigger o { s1.trigger o with e0 := e0, suppress := false,
                                               next := firstEdgeAfter e0 (s.trigPeriod o) (s.trigCount o) }
    else s1.setTrigger o { s1.trigger o with e0 := e0, next := 0, suppress := false }

/-- QTZ_TR_CFG: a write of EN = 1 to a disabled output starts it, of EN = 0 disables it (R484–R487). -/
def State.wrTrigCfg (s : State) (o v : Nat) : State :=
  let was := s.onF (Reg.QTZ_TR_CFG_EN o)
  let s1 := s.applyWord (Reg.QTZ_TR_CFG o) v
  if bit v 31 && !was then s1.trigStart o
  else if !bit v 31 then
    (s1.putF (Reg.QTZ_TR_STAT_ACTIVE o) 0).setTrigger o { s1.trigger o with suppress := false, level := s1.trigLevel o false }
  else s1

/-- A re-arm of output `o` suppresses the next scheduled edge (R486). -/
def State.trigRearm (s : State) (o : Nat) : State :=
  (s.setTrigger o { s.trigger o with suppress := true }).satInc (Reg.QTZ_TR_STAT_REARMS o)

/-- QTZ_TR_CMD (R486). -/
def State.wrTrigCmd (s : State) (o v : Nat) : State := if bit v 0 then s.trigRearm o else s

/-- The FIFO of capture input `i`. -/
def State.capture (s : State) (i : Nat) : List CapEdge := Sparse.get (fun _ => []) s.qtz.captures i

/-- The state with the FIFO of capture input `i` replaced; QTZ_CAP_HEAD shows its oldest entry (R489). -/
def State.setCapture (s : State) (i : Nat) (l : List CapEdge) : State :=
  let s1 := { s with qtz := { s.qtz with captures := Sparse.set (fun _ => []) s.qtz.captures i l } }
  let h := l.headD ⟨0, false⟩
  (((s1.putF (Reg.QTZ_CAP_HEAD_TIME i) h.time).putF (Reg.QTZ_CAP_HEAD_LEVEL i) l.length).putF
    (Reg.QTZ_CAP_HEAD_RISE i) (b2n h.rise)).putF (Reg.QTZ_CAP_HEAD_VALID i) (b2n (!l.isEmpty))

/-- QTZ_CAP_CFG: EN = 0 empties the FIFO. -/
def State.wrCapCfg (s : State) (i v : Nat) : State :=
  let s1 := s.applyWord (Reg.QTZ_CAP_CFG i) v
  if bit v 31 then s1 else s1.setCapture i []

/-- QTZ_CAP_POP removes the oldest entry (R489). -/
def State.wrCapPop (s : State) (i v : Nat) : State := if bit v 0 then s.setCapture i (s.capture i).tail else s

/-! ## Reset (R668) -/

/-- Quartz at a warm reset or RESET_N: counts, GEN, frame number, N and latched values are kept; configuration takes its
reset values, both servos are LOST, triggers and captures are disabled, TB2 is in HOLDOVER at the rate it holds. -/
def State.quartzReset (s : State) : State :=
  let r := s.rate 2
  let kept (a : Nat) : Bool :=
    let p := a / 0x1000
    let o := a % 0x1000
    (p == 0x40 && (o == 0x48 || o == 0x54 || o == 0x58)) ||
    (p == 0x41 && decide (0x400 ≤ o ∧ o < 0x600) && (o % 0x40 == 0x1C || o % 0x40 == 0x20 || o % 0x40 == 0x24))
  let s1 := { s with regs := s.regs.filter (fun e => !(decide (0x40000 ≤ e.1 ∧ e.1 < 0x50000)) || kept e.1) }
  let s2 := s1.setBase 2 { s1.base 2 with held := r }
  { s2 with qtz := { s2.qtz with servos := [], epochs := [], triggers := [], captures := [], refLost := false } }

/-! ## Commands -/

/-- TB_WRAP. -/
def execTbWrap (base : Nat) (s : State) : Host.Outcome State Fault Refusal :=
  whenPowered (fun s => s.guard (decide (base < 8)) (fun s => s.genInc base)) s

/-- TB_STEP. -/
def execTbStep (req : Requester) (base step : Nat) (s : State) : Host.Outcome State Fault Refusal :=
  whenLive (fun s => s.guard (decide (base < 8)) (fun s =>
    s.access req (Reg.QTZ_TB_STEP base) (step % 2 ^ 32) (fun t => t.wrTbStep base step))) s

/-- FRAME_ORG_WRITE. -/
def execFrameOrgWrite (req : Requester) (org : Nat) (s : State) : Host.Outcome State Fault Refusal :=
  whenLive (fun s => s.access req Reg.QTZ_FRAME_ORG (org % 2 ^ 32) (fun t => t.wrFrameOrg org)) s

/-- SERVO_SAMPLE. -/
def execServoSample (req : Requester) (servo ofs : Nat) (s : State) : Host.Outcome State Fault Refusal :=
  whenLive (fun s => s.guard (decide (servo < 2)) (fun s =>
    s.access req (Reg.QTZ_SV_OFS servo) (ofs % 2 ^ 32) (fun t => t.wrServoOfs servo ofs))) s

/-- SERVO_TIMEOUT. -/
def execServoTimeout (servo : Nat) (s : State) : Host.Outcome State Fault Refusal :=
  whenPowered (fun s => s.guard (decide (servo < 2)) (fun s =>
    (s.setServo servo { s.servo servo with run := 0 }).servoState servo 0)) s

/-- TB2_SEL_WRITE. -/
def execTb2SelWrite (req : Requester) (auto : Bool) (sel : Nat) (s : State) : Host.Outcome State Fault Refusal :=
  let v := b2n auto * 2 ^ 31 + sel % 4
  whenLive (fun s => s.access req Reg.QTZ_TB2_SEL v (fun t => t.wrTb2Sel v)) s

/-- REF_LOST. -/
def execRefLost (s : State) : Host.Outcome State Fault Refusal :=
  whenPowered (fun s => s.guard (!s.onF Reg.QTZ_STAT_REF_LOST) (fun s =>
    let s1 := s.putF Reg.QTZ_STAT_REF_LOST 1
    (if s1.live then s1.raise FS.QTZ_REF else s1))) s

/-- REF_RECOVERED. -/
def execRefRecovered (s : State) : Host.Outcome State Fault Refusal :=
  whenPowered (fun s => s.putF Reg.QTZ_STAT_REF_LOST 0) s

/-- SNAP. -/
def execSnap (req : Requester) (s : State) : Host.Outcome State Fault Refusal :=
  whenLive (fun s => s.access req Reg.QTZ_SNAP 1 (fun t => t.wrSnap 1)) s

/-- EPOCH_COMMIT_TAG. -/
def execEpochCommitTag (req : Requester) (domain tag : Nat) (s : State) : Host.Outcome State Fault Refusal :=
  whenLive (fun s => s.guard (decide (domain < 2)) (fun s =>
    s.access req (Reg.QTZ_EPOCH_TAG domain) (tag % 2 ^ 32) (fun t => t.wrEpochTag domain tag))) s

/-- TRIGGER_ENABLE: the configuration word is written with EN = 1. -/
def execTriggerEnable (req : Requester) (out cfg : Nat) (s : State) : Host.Outcome State Fault Refusal :=
  let v := setBits (cfg % 2 ^ 32) 31 31 1
  whenLive (fun s => s.guard (decide (out < 24)) (fun s =>
    s.access req (Reg.QTZ_TR_CFG out) v (fun t => t.wrTrigCfg out v))) s

/-- The base has reached E_k of output `o`: the leading edge is driven, or a re-arm suppresses it (R484, R486). -/
def State.driveEdge (s : State) (o : Nat) : State :=
  let x := s.trigger o
  if x.suppress then s.setTrigger o { x with next := x.next + 1, suppress := false }
  else
    let c := (s.base (s.getF (Reg.QTZ_TR_CFG_BASE o))).count
    let s1 := s.setTrigger o { x with next := x.next + 1, level := s.trigLevel o true, edgeTb3 := s.now 3,
                                      pulseEnd := c + 2 * ceilDiv (s.getF (Reg.QTZ_TR_WIDTH_WIDTH o)) 2 }
    ((s1.putF (Reg.QTZ_TR_STAT_ACTIVE o) 1).wrapInc (Reg.QTZ_TR_STAT_EDGES o)).putF (Reg.QTZ_TR_LAST_LAST o) c

/-- The pulse of output `o` ends (R484). -/
def State.endPulse (s : State) (o : Nat) : State :=
  (s.putF (Reg.QTZ_TR_STAT_ACTIVE o) 0).setTrigger o { s.trigger o with level := s.trigLevel o false }

/-- REARM. -/
def execRearm (req : Requester) (out : Nat) (s : State) : Host.Outcome State Fault Refusal :=
  whenLive (fun s => s.guard (decide (out < 24)) (fun s =>
    s.access req (Reg.QTZ_TR_CMD out) 1 (fun t => t.wrTrigCmd out 1))) s

/-- CAPTURE_EDGE: an edge of the selected kind is stamped with the base's value and pushed, or dropped on a full FIFO. -/
def execCaptureEdge (input : Nat) (rise : Bool) (s : State) : Host.Outcome State Fault Refusal :=
  whenLive (fun s =>
    let e := s.getF (Reg.QTZ_CAP_CFG_EDGE input)
    s.guard (decide (input < 24) && s.onF (Reg.QTZ_CAP_CFG_EN input) && bit e (if rise then 0 else 1)) (fun s =>
      let s1 := s.wrapInc (Reg.QTZ_CAP_CNT_EDGES input)
      if (s.capture input).length < 8 then
        s1.setCapture input (s.capture input ++ [⟨s.now (s.getF (Reg.QTZ_CAP_CFG_BASE input)), rise⟩])
      else
        ((s1.satInc (Reg.QTZ_CAP_CNT_OVF input)).irq (0x47 + input / 8) (2 ^ (input % 8))).raise FS.QTZ_CAPOVF)) s

/-- CAPTURE_POP. -/
def execCapturePop (req : Requester) (input : Nat) (s : State) : Host.Outcome State Fault Refusal :=
  whenLive (fun s => s.guard (decide (input < 24)) (fun s =>
    s.access req (Reg.QTZ_CAP_POP input) 1 (fun t => t.wrCapPop input 1))) s

end Sys2Proof.Machine
end

