-- ==== Sys2Proof/Machine/Faults.lean ====
section
/-! DEFINITION. The fault collector's commands (chapter 21) and the window watchdogs (R575–R578, R670, R671). -/

namespace Sys2Proof.Machine

/-! ## Raises from outside a meaning -/

/-- The contexts bound to watchdog `n`: the ACTIVE or HELD ones whose entry names it; watchdogs 0–7 bind none (R576,
R577). -/
def State.boundTo (s : State) (n : Nat) : List Nat :=
  if n < 8 then []
  else s.sch.ctxs.filterMap (fun e =>
    if (e.2.state == .active || e.2.state == .held) && e.2.entry.wdg == n then some e.1 else none)

/-- The contexts that a raise of source `n` carries: those bound to a watchdog, the given ones for a tile, SCH, SYN, KVP
or STM source, else none (R589). -/
def State.carried (s : State) (n : Nat) (given : List Nat) : List Nat :=
  if 256 ≤ n ∧ n < 512 then s.boundTo (n - 256)
  else if 512 ≤ n then given
  else if (23 ≤ n ∧ n ≤ 26) ∨ (78 ≤ n ∧ n ≤ 86) then given
  else []

/-- CAUSE of a teardown that source `n` brings about as a CONTEXT-class raise (R312). -/
def tearCause (n : Nat) : Nat := if 256 ≤ n ∧ n < 512 then 0x23 else 0x24

/-- The pair of source `n` is broken: its sticky bit sets and the reactions of at least CRITICAL happen once, at the first
cycle in which the pair counts as broken (R583, R584). -/
def State.breakPair (s : State) (n : Nat) : State :=
  if realSource n && !s.fc.broken.contains n then
    let s1 := (s.stick n).react n (atLeastCritical (s.severity n)) [] 0x24
    { s1 with fc := { s1.fc with broken := n :: s1.fc.broken } }
  else s

/-- FC_STICKY word `k`: a written 1 clears the bit of a source that is not raised (R584). -/
def State.wrSticky (s : State) (k v : Nat) : State :=
  (List.range 32).foldl
    (fun t j => if bit v j && !t.raisedNow (32 * k + j) then t.putF (stickyFld (32 * k + j)) 0 else t) s

/-- FC_SEV word `w`: each field stores the higher of the written class and the floor; a code above 4 leaves it (R586). -/
def State.wrSev (s : State) (w v : Nat) : State :=
  (List.range 8).foldl
    (fun t i =>
      let c := bits v (4 * i + 2) (4 * i)
      if c ≤ 4 then t.putF (sevFld (8 * w + i)) (max c (t.getF (floorFld (8 * w + i)))) else t) s

/-- FC_SUM: the words of FC_STICKY that are not 0. -/
def State.fcSum (s : State) : Nat :=
  (List.range 32).foldl (fun m k => m ||| b2n ((s.reg (Reg.FC_STICKY k)).toNat != 0) * 2 ^ k) 0

/-- Source `n` is clear for a warm reset (R597). -/
def State.clearForReset (s : State) (n : Nat) : Bool :=
  !s.onF (stickyFld n) || match s.severity n with
    | .note => true
    | .corrected => true
    | .context => true
    | .critical => false
    | .terminal => false

/-- FC_SUM_CRIT: the sticky words that hold a bit that is not clear (R597). -/
def State.fcSumCrit (s : State) : Nat :=
  (List.range 32).foldl
    (fun m k => m ||| b2n ((List.range 32).any (fun j => !s.clearForReset (32 * k + j))) * 2 ^ k) 0

/-! ## Window watchdogs -/

/-- Watchdog `w`. -/
def State.watch (s : State) (w : Nat) : Watch := Sparse.get (fun _ => {}) s.wdg w

/-- The state with watchdog `w` replaced. -/
def State.setWatch (s : State) (w : Nat) (x : Watch) : State :=
  { s with wdg := Sparse.set (fun _ => {}) s.wdg w x }

/-- The 64-bit TB4 count. -/
def State.tb4Count (s : State) : Nat := (s.base 4).count

/-- Watchdog `w` runs: it is enabled and has not failed, and the device is past OFF (R577, R671). -/
def State.wdgRuns (s : State) (w : Nat) : Bool :=
  s.live && s.onF (Reg.WDG_CFG_EN w) && s.getF (Reg.WDG_STAT_STATE w) != 3

/-- The mode of watchdog `w` is INTERVAL. -/
def State.wdgInterval (s : State) (w : Nat) : Bool := s.onF (Reg.WDG_CFG_MODE w)

/-- CLOSE has passed without a kick: a kick in the cycle of CLOSE is still good (R575, R577). -/
def State.wdgOverdue (s : State) (w : Nat) : Bool :=
  let x := s.watch w
  let close := s.getF (Reg.WDG_CLOSE_CLOSE w)
  if s.wdgInterval w then decide (x.since + close < s.tb4Count)
  else x.periods.any (fun p => !p.2 && decide (p.1 + close < s.tb4Count))

/-- The window of watchdog `w` is open: an unkicked watch period has reached OPEN; in INTERVAL mode the first kick after
the enable knows no OPEN (R575). -/
def State.wdgOpenNow (s : State) (w : Nat) : Bool :=
  let x := s.watch w
  let op := s.getF (Reg.WDG_OPEN_OPEN w)
  if s.wdgInterval w then !x.kicked || decide (x.since + op ≤ s.tb4Count)
  else x.periods.any (fun p => !p.2 && decide (p.1 + op ≤ s.tb4Count))

/-- STATE of watchdog `w` shows WAITING or OPEN. -/
def State.wdgShow (s : State) (w : Nat) : State := s.putF (Reg.WDG_STAT_STATE w) (if s.wdgOpenNow w then 2 else 1)

/-- Watchdog `w` fails: FAILED, its bits set, FS_WDG_n raised with the contexts bound to it (R577, R578). -/
def State.wdgFail (s : State) (w : Nat) (early : Bool) : State :=
  let s1 := ((s.putF (Reg.WDG_STAT_STATE w) 3).putF (Reg.WDG_STAT_EARLY w) (b2n early)).putF (Reg.WDG_STAT_LATE w) (b2n (!early))
  let s2 := s1.putF ⟨Reg.WDG_FAILED (w / 32), w % 32, w % 32⟩ 1
  let s3 := s2.setWatch w { s2.watch w with periods := [] }
  (s3.irq (0x620 + w / 8) (2 ^ (w % 8))).raise (FS.WDG w) (s3.boundTo w) 0x23

/-- A kick that is judged: EARLY or good (R575, R670). -/
def State.wdgJudge (s : State) (w : Nat) : State :=
  let x := s.watch w
  let now := s.tb4Count
  let op := s.getF (Reg.WDG_OPEN_OPEN w)
  let close := s.getF (Reg.WDG_CLOSE_CLOSE w)
  let s1 := s.putF (Reg.WDG_LAST_LAST w) now
  if s.wdgInterval w then
    if x.kicked && decide (now < x.since + op) then s1.wdgFail w true
    else ((s1.setWatch w { x with kicked := true, since := now, kickCycle := some s.qtz.cycles }).wrapInc
      (Reg.WDG_STAT_KICKS w)).wdgShow w
  else
    match x.periods.filter (fun p => decide (now ≤ p.1 + close)) with
    | (t0, false) :: rest =>
      if now < t0 + op then s1.wdgFail w true
      else ((s1.setWatch w { x with periods := (t0, true) :: rest, kickCycle := some s.qtz.cycles }).wrapInc
        (Reg.WDG_STAT_KICKS w)).wdgShow w
    | _ => s1.wdgFail w true

/-- One kick of watchdog `w` (R576, R577, R671). -/
def State.kick (s : State) (w : Nat) : State :=
  let x := s.watch w
  if !s.wdgRuns w then s
  else if w < 6 && !x.primed then (if s.mode == .boot then s else s.setWatch w { x with primed := true })
  else if s.wdgOverdue w then s.wdgFail w false
  else if x.kickCycle == some s.qtz.cycles then s
  else if !s.wdgInterval w && !x.begun then s
  else s.wdgJudge w

/-- The watch periods that begin at the tick of the frame numbered QTZ_FRAME (R575, R670, R671). -/
def State.wdgTick (s : State) : State :=
  (List.range 256).foldl (fun t w =>
    if t.wdgRuns w && !t.wdgInterval w && (decide (6 ≤ w) || (t.watch w).primed) &&
        t.getF Reg.QTZ_FRAME_FRAME % 2 ^ t.getF (Reg.WDG_CFG_EVERY w) == 0 then
      if t.wdgOverdue w then t.wdgFail w false
      else
        let x := t.watch w
        let live := x.periods.filter (fun p => decide (t.tb4Count ≤ p.1 + t.getF (Reg.WDG_CLOSE_CLOSE w)))
        (t.setWatch w { x with periods := live ++ [(t.tb4Count, false)], begun := true }).wdgShow w
    else t) s

/-- Watchdog `w` starts afresh: the first watch period is the next that begins; an interval runs from now (R671). -/
def State.wdgStart (s : State) (w : Nat) (primed : Bool) : State :=
  let s1 := s.setWatch w { primed := primed, since := if s.wdgInterval w then s.tb4Count else 0 }
  (s1.putF ⟨Reg.WDG_FAILED (w / 32), w % 32, w % 32⟩ 0).wdgShow w

/-- WDG_CFG: EN = 1 to a watchdog that is off or FAILED starts it; EN = 0 takes it to OFF (R577, R578). -/
def State.wrWdgCfg (s : State) (w v : Nat) : State :=
  let runs := s.onF (Reg.WDG_CFG_EN w) && s.getF (Reg.WDG_STAT_STATE w) != 3
  let s1 := s.applyWord (Reg.WDG_CFG w) v
  if bit v 31 then (if runs then s1 else s1.wdgStart w true)
  else ((s1.setWatch w {}).putF (Reg.WDG_STAT_STATE w) 0).putF ⟨Reg.WDG_FAILED (w / 32), w % 32, w % 32⟩ 0

/-- WDG_KICK: watchdogs 0–5 ignore it (R576, R578). -/
def State.wrWdgKick (s : State) (w v : Nat) : State := if bit v 0 && decide (6 ≤ w) then s.kick w else s

/-- At every entry to BOOT every watchdog takes its reset configuration and starts afresh (R671). -/
def State.wdgAtBoot (s : State) : State :=
  let s1 := { s with wdg := [], regs := Sparse.keep (fun a => !(decide (0x620000 ≤ a ∧ a < 0x640000) && decide (0x40 ≤ a % 0x1000))) s.regs }
  s1.setWatch 6 { since := s1.tb4Count }

/-! ## Commands -/

/-- LPC_CNT counts the corrected and the uncorrectable link errors of its controller (R520). -/
def State.countLink (s : State) (n : Nat) : State :=
  if 39 ≤ n ∧ n < 63 then
    match (n - 39) % 6 with
    | 0 => s.satInc (Reg.LPC_CNT_CE ((n - 39) / 6))
    | 1 => s.satInc (Reg.LPC_CNT_UE ((n - 39) / 6))
    | _ => s
  else s

/-- FAULT_RAISE: an event or, while it lasts, a level. -/
def execFaultRaise (source : Nat) (level : Bool) (ctxs : List Nat) (s : State) : Host.Outcome State Fault Refusal :=
  whenLive (fun s =>
    let s1 := (s.countLink source).raise source (s.carried source ctxs) (tearCause source)
    if level && realSource source && !s.fc.raised.contains source then
      { s1 with fc := { s1.fc with raised := source :: s1.fc.raised } }
    else s1) s

/-- FAULT_PAIR_INACTIVE: the condition has ended or the pair has healed; a fenced tile's FS_TILE_FENCED stays (R131). -/
def execFaultPairInactive (source : Nat) (s : State) : Host.Outcome State Fault Refusal :=
  whenLive (fun s =>
    let t := (source - 512) / 16
    let held := decide (512 ≤ source ∧ source < 1024) && source % 16 == 2 && s.fenced t
    s.guard (!held) (fun s =>
      let s1 := s.dropLevel source
      { s1 with fc := { s1.fc with broken := s1.fc.broken.filter (fun m => m != source) } })) s

/-- BROKEN_PAIR. -/
def execBrokenPair (source : Nat) (s : State) : Host.Outcome State Fault Refusal :=
  whenLive (fun s => s.breakPair source) s

/-- STICKY_CLEAR. -/
def execStickyClear (req : Requester) (word value : Nat) (s : State) : Host.Outcome State Fault Refusal :=
  whenLive (fun s => s.guard (decide (word < 32)) (fun s =>
    s.access req (Reg.FC_STICKY word) (value % 2 ^ 32) (fun t => t.wrSticky word value))) s

/-- SEVERITY_WRITE. -/
def execSeverityWrite (req : Requester) (word value : Nat) (s : State) : Host.Outcome State Fault Refusal :=
  whenLive (fun s => s.guard (decide (word < 128)) (fun s =>
    s.access req (Reg.FC_SEV word) (value % 2 ^ 32) (fun t => t.wrSev word value))) s

/-- COLLECTOR_MISMATCH: unhealthy outputs, TERMINAL and SELF_FAIL, and no sticky bit (R591). -/
def execCollectorMismatch (s : State) : Host.Outcome State Fault Refusal :=
  whenLive (fun s => (s.putF Reg.FC_STAT_SELF_FAIL 1).enterTerminal) s

/-- OK_REFRESH_LOSS: the drivers hold the unhealthy state until power-on or a warm reset (R594). -/
def execOkRefreshLoss (s : State) : Host.Outcome State Fault Refusal :=
  whenLive (fun s => ({ s with pins := { s.pins with refreshLost := true } }).setMode s.mode) s

/-- OK_PIN_MISMATCH. -/
def execOkPinMismatch (s : State) : Host.Outcome State Fault Refusal := whenLive (fun s => s.raise FS.FC_OKPIN) s

/-- WDG_KICK. -/
def execWdgKick (req : Requester) (wdg : Nat) (s : State) : Host.Outcome State Fault Refusal :=
  whenLive (fun s => s.guard (decide (wdg < 256)) (fun s =>
    s.access req (Reg.WDG_KICK wdg) 1 (fun t => t.wrWdgKick wdg 1))) s

/-- WATCHDOG_LATE. -/
def execWatchdogLate (wdg : Nat) (s : State) : Host.Outcome State Fault Refusal :=
  whenLive (fun s => s.guard (decide (wdg < 256) && s.wdgRuns wdg && s.wdgOverdue wdg) (fun s => s.wdgFail wdg false)) s

/-- WATCHDOG_ENABLE: the configuration word is written with EN = 1. -/
def execWatchdogEnable (req : Requester) (wdg cfg : Nat) (s : State) : Host.Outcome State Fault Refusal :=
  let v := setBits (cfg % 2 ^ 32) 31 31 1
  whenLive (fun s => s.guard (decide (wdg < 256)) (fun s =>
    s.access req (Reg.WDG_CFG wdg) v (fun t => t.wrWdgCfg wdg v))) s

/-- WATCHDOG_WINDOW_OPEN. -/
def execWatchdogWindowOpen (wdg : Nat) (s : State) : Host.Outcome State Fault Refusal :=
  whenLive (fun s => s.guard (decide (wdg < 256) && s.wdgRuns wdg && s.wdgOpenNow wdg) (fun s =>
    s.putF (Reg.WDG_STAT_STATE wdg) 2)) s

end Sys2Proof.Machine
end

