-- ==== Sys2Proof/Machine/Power.lean ====
section
/-! DEFINITION. Power, thermal and ageing (chapter 22) and the neighbour limits of chapter 01 (R33–R36). -/

namespace Sys2Proof.Machine

/-! ## Places -/

/-- The tiles that share a mesh link with tile `t` (R13, R35). -/
def meshNeighbours (t : Nat) : List Nat :=
  (if t % 8 = 0 then [] else [t - 1]) ++ (if t % 8 = 7 then [] else [t + 1]) ++
  (if t < 8 then [] else [t - 8]) ++ (if 24 ≤ t then [] else [t + 8])

/-- The voltage island of tile `t` (R30). -/
def islandOf (t : Nat) : Nat := 4 * (t / 16) + t % 8 / 2

/-- The four tiles of island `n` (R30). -/
def islandTiles (n : Nat) : List Nat :=
  let b := 16 * (n / 4) + 2 * (n % 4)
  [b, b + 1, b + 8, b + 9]

/-- The ten adjacent pairs of islands (R30). -/
def islandPairs : List (Nat × Nat) :=
  [(0, 1), (1, 2), (2, 3), (4, 5), (5, 6), (6, 7), (0, 4), (1, 5), (2, 6), (3, 7)]

/-! ## Issue rates (R615, R616, R621) -/

/-- The droop state of island `n`. -/
def State.droop (s : State) (n : Nat) : Droop := Sparse.get (fun _ => {}) s.pwr.droops n

/-- The state with island `n`'s droop state replaced. -/
def State.setDroop (s : State) (n : Nat) (d : Droop) : State :=
  { s with pwr := { s.pwr with droops := Sparse.set (fun _ => {}) s.pwr.droops n d } }

/-- The droop limit of island `n` now: it rises by 1/64 per 100 ns, 50 QTZ cycles, once DROOP_HOLD is over (R616). -/
def State.droopLimit (s : State) (n : Nat) : Nat :=
  match (s.droop n).rising with
  | none => (s.droop n).rate
  | some c => min 64 ((s.droop n).rate + (s.qtz.cycles - c) / 50)

/-- The lower of the cap and droop limits of tile `t`: the lowest of all tiles in repeatable mode (R615, R621). -/
def State.pmIssue (s : State) (t : Nat) : Nat :=
  if s.pwr.repeatOn then (List.range 8).foldl (fun m n => min m (s.droopLimit n)) s.pwr.capIssue
  else min s.pwr.capIssue (s.droopLimit (islandOf t))

/-- The effective issue rate of tile `t`; in a test slot the power manager applies none (R566, R615). -/
def State.issueRate (s : State) (t : Nat) : Nat :=
  let th := s.getF (Reg.TILE_ISSUE_THERMAL t)
  if (s.tile t).inSlot then th else min (s.pmIssue t) th

/-- REPEAT_CAPPED sets when a limit lowers some tile's issue rate in repeatable mode (R621). -/
def State.noteCapped (s : State) : State :=
  if s.pwr.repeatOn && (List.range 32).any (fun t => decide (min (s.pmIssue t) (s.getF (Reg.TILE_ISSUE_THERMAL t)) < 64)) then
    s.putF Reg.PWR_MODE_REPEAT_CAPPED 1
  else s

/-! ## Temperatures -/

/-- The temperature of tile `t` in 0.25 °C. -/
def State.tileTemp (s : State) (t : Nat) : Int := signed 16 (s.getF (Reg.TILE_TEMP_TEMP t))

/-- The temperature of hub sensor `n` in 0.25 °C. -/
def State.hubTemp (s : State) (n : Nat) : Int := signed 16 (Sparse.get (fun _ => 0) s.pwr.hubTemps n)

/-- The temperature of sensor 0–31 a tile, 32–47 the hub. -/
def State.sensorTemp (s : State) (n : Nat) : Int := if n < 32 then s.tileTemp n else s.hubTemp (n - 32)

/-- TJ_MAX in 0.25 °C (R617). -/
def State.tjMax (s : State) : Int := 4 * (s.getF Reg.PWR_THERM_TJ_MAX : Int)

/-- TJ_THR in 0.25 °C (R617). -/
def State.tjThr (s : State) : Int := s.tjMax - 4 * (s.getF Reg.PWR_CFG_THR_OFS : Int)

/-- PWR_THERM shows the hottest sensor. -/
def State.showHottest (s : State) : State :=
  let h := (List.range 48).foldl (fun m n => if s.sensorTemp m < s.sensorTemp n then n else m) 0
  (s.putF Reg.PWR_THERM_HOT h).putF Reg.PWR_THERM_TMAX (toBits 16 (s.sensorTemp h))

/-- A reading outside −60 °C to +160 °C stands for TJ_MAX + 10 °C; it and a reading above TJ_MAX + 10 °C raise
FS_PWR_OVERTEMP (R619). -/
def State.checkReading (s : State) (v : Int) : Int × Bool :=
  if v < -240 ∨ 640 < v then (s.tjMax + 40, true) else (v, decide (s.tjMax + 40 < v))

/-- The thermal limit of tile `t` as a frequency code (R618). -/
def State.thermCode (s : State) (t : Nat) : Nat := Sparse.get (fun _ => 54) s.pwr.thermCode t

/-- The state with tile `t`'s thermal limit replaced. -/
def State.setThermCode (s : State) (t c : Nat) : State :=
  { s with pwr := { s.pwr with thermCode := Sparse.set (fun _ => 54) s.pwr.thermCode t c } }

/-- A thermal throttle begins: PWR page 0 bit 1. -/
def State.throttleIrq (s : State) (fresh : Bool) : State := if fresh then s.irq 0x50 2 else s

/-! ## Prediction and allocation (R607–R614) -/

/-- One µW in the units of the predictions: they are µW times this. -/
def powerUnit : Nat := 1024 * 65536 * 562500

/-- The voltage tile `t` needs for code `c` (R612). -/
def State.voltFor (s : State) (t c : Nat) : Nat :=
  Config.tileVoltage t c (s.getF (Reg.TILE_FREQ_FMAX t) - s.getF (Reg.TILE_FREQ_FMAX_DERATED t))

/-- The predicted power of tile `t` in phase `p` at code `c` (R607, R612). -/
def State.predicted (s : State) (t p c : Nat) : Nat :=
  if s.onF (Reg.PWR_PH_VALID p) then
    s.getF (Reg.PWR_PH_E p) * s.getF (Reg.PWR_PH_U p) * c * 25000000 * s.voltFor t c ^ 2 +
      Config.tileLeakage t (s.getF (Reg.TILE_TEMP_TEMP t)) * powerUnit
  else Config.tileMaxPower t c * powerUnit

/-- The code of phase `p`'s class on tile `t` (R608). -/
def State.classCode (s : State) (t p : Nat) : Nat :=
  match s.getF (Reg.PWR_PH_CLASS p) with
  | 0 => 16
  | 1 => Config.efficientCode t
  | 2 => 44
  | _ => s.getF (Reg.TILE_FREQ_FMAX_DERATED t)

/-- The preferred point of phase `p` on tile `t`, within the codes a tile can take (R149, R608). -/
def State.preferred (s : State) (t p : Nat) : Nat :=
  max 16 (min (s.classCode t p) (s.getF (Reg.TILE_FREQ_FMAX_DERATED t)))

/-- The highest code from 16 up whose predicted power fits a grant. -/
def State.codeFor (s : State) (t p grant : Nat) : Nat :=
  (List.range 39).foldl (fun c i => if s.predicted t p (16 + i) ≤ grant then 16 + i else c) 16

/-- Tile `t` takes code `c` as its goal: a fall acts at once, a rise waits for its island (R613). -/
def State.setGoal (s : State) (t c : Nat) : State :=
  let s1 := { s with pwr := { s.pwr with goals := Sparse.set (fun _ => 44) s.pwr.goals t c } }
  if c ≤ s1.getF (Reg.TILE_FREQ_TARGET t) then s1.putF (Reg.TILE_FREQ_TARGET t) c else s1

/-- Tile `t`'s goal. -/
def State.goal (s : State) (t : Nat) : Nat := Sparse.get (fun _ => 44) s.pwr.goals t

/-- Tile `t` takes its goal, within the codes it can take now (R149). -/
def State.takeGoal (s : State) (t : Nat) : State :=
  s.putF (Reg.TILE_FREQ_TARGET t) (min (s.goal t) (s.getF (Reg.TILE_FREQ_FMAX_DERATED t)))

/-- A voltage in the regulator's 5 mV steps, within its range (R31). -/
def regulatorStep (v : Nat) : Nat := max 600 (min 950 (ceilDiv v 5 * 5))

/-- Raise the lower of each adjacent pair that would lie more than 200 mV apart (R34). -/
def liftPairs (l : List Nat) : List Nat :=
  islandPairs.foldl (fun v p =>
    let a := v.getD p.1 0
    let b := v.getD p.2 0
    if a + 200 < b then setAt v p.1 (b - 200) else if b + 200 < a then setAt v p.2 (a - 200) else v) l

/-- Lift pairs until the rule holds on all of them: seven islands lie at most four links from any other. -/
def liftAll : Nat → List Nat → List Nat
  | 0, l => l
  | n + 1, l => liftAll n (liftPairs l)

/-- The islands adjacent to island `n` (R30). -/
def islandNeighbours (n : Nat) : List Nat :=
  islandPairs.filterMap (fun p => if p.1 = n then some p.2 else if p.2 = n then some p.1 else none)

/-- The voltage commanded of island `n`. -/
def State.islandSet (s : State) (n : Nat) : Nat := s.getF (Reg.PWR_ISL_V_SET n)

/-- The voltage that island `n` is on its way to; the commanded one while nothing else is wanted. -/
def State.islandWant (s : State) (n : Nat) : Nat := s.pwr.islWant.getD n (s.islandSet n)

/-- Island `n` is commanded to its wanted voltage and settles (R613). -/
def State.ramp (s : State) (n : Nat) : State :=
  (s.putF (Reg.PWR_ISL_V_SET n) (s.islandWant n)).putF (Reg.PWR_ISL_STAT_SETTLING n) 1

/-- Of the islands `l` that would fall together, those that may: each stays within 200 mV of its neighbours, the falling ones
at their new voltage and the others at their commanded one (R34). -/
def State.fallSet (s : State) : Nat → List Nat → List Nat
  | 0, l => l
  | k + 1, l => s.fallSet k (l.filter (fun n => (islandNeighbours n).all (fun m =>
      let v := if l.contains m then s.islandWant m else s.islandSet m
      decide (s.islandWant n ≤ v + 200) && decide (v ≤ s.islandWant n + 200))))

/-- The islands that want a lower voltage than the commanded one. -/
def State.islandsDown (s : State) : List Nat :=
  (List.range 8).filter (fun n => decide (s.islandWant n < s.islandSet n))

/-- An island that is to fall is commanded once no adjacent island rises any more (R34). -/
def State.fallIslands (s : State) : State :=
  (s.fallSet 8 (s.islandsDown.filter (fun n => (islandNeighbours n).all (fun m => !s.pwr.islRising.contains m)))).foldl
    (fun (u : State) n => u.ramp n) s

/-- Islands that rise are commanded first, then those that may fall (R34). The tiles of every island that is not rising take their
goals (R613). -/
def State.rampIslands (s : State) : State :=
  let up := (List.range 8).filter (fun n => decide (s.islandSet n < s.islandWant n))
  let rising := s.pwr.islRising.filter (fun n => !up.contains n && !s.islandsDown.contains n) ++ up
  let s1 := (up.foldl (fun (u : State) n => u.ramp n) { s with pwr := { s.pwr with islRising := rising } }).fallIslands
  ((List.range 8).filter (fun n => !rising.contains n)).foldl (fun u n =>
    (islandTiles n).foldl (fun w t => w.takeGoal t) u) s1

/-- Every island goes to the highest voltage its four tiles' goals need, within R34 (R613). -/
def State.setIslands (s : State) : State :=
  let need := (List.range 8).map (fun n =>
    regulatorStep ((islandTiles n).foldl (fun m t => max m (s.voltFor t (s.goal t))) 0))
  ({ s with pwr := { s.pwr with islWant := liftAll 8 need } }).rampIslands

/-- A tile is held at code 44 or above by its test slot or the hold before it (R566, R612). -/
def State.slotHold (s : State) (t : Nat) : Bool := (s.tile t).inSlot || (s.tile t).preHold

/-- A slot of tile `t`, or the hold of 40 µs before it, begins within the next cap period of 100 µs (R565, R611). -/
def State.holdComing (s : State) (t : Nat) : Bool :=
  let now := ((s.base 4).count + 5000000 - s.getF Reg.QTZ_FRAME_ORG_ORG) % 5000000
  decide ((1000 * s.test.phase + 312500 * (t % 16) + 9960000 - now) % 5000000 < 100000)

/-- The frequency goal of tile `t` from its grant (R612, R614, R621); a fenced tile keeps code 16 and asks no voltage of its island
(R25, R38). While the device pays for an excursion the allocation lowers the goal by an amount that spec/ does not state. -/
def State.allocGoal (s : State) (t grant : Nat) : Nat × State :=
  let p := (s.tile t).phase
  let c := s.codeFor t p grant
  let th := s.thermCode t
  let dm := s.getF (Reg.TILE_FREQ_FMAX_DERATED t)
  let want := max 16 (if s.pwr.repeatOn then min 44 th else min (min c (s.preferred t p)) (min th dm))
  let s1 := s.putF (Reg.PWR_TILE_CAP_TARGET t) c
  let (low, s2) :=
    if (s1.pwr.level < 0 ∨ s1.pwr.capIssue < 64) ∧ s1.pwr.repeatOn = false then
      let (f, u) := s1.free 6
      (16 + f % (want - 16 + 1), u)
    else (want, s1)
  (if s.slotHold t then max 44 low else if s.fenced t then 16 else low, s2)

/-- The allocation of the tile budget (R611–R613). -/
def State.allocate (s : State) : State :=
  let tiles := List.range 32
  let holds := (tiles.filter (fun t => s.slotHold t || s.holdComing t)).length
  let b : Int := (s.pwr.cap : Int) * 10 - s.getF Reg.PWR_MEAS_NONTILE - 80 * holds - 100 * s.pwr.hubCut
  let budget := b.toNat * 100000 * powerUnit
  let demand (t : Nat) : Nat := s.predicted t (s.tile t).phase (s.preferred t (s.tile t).phase)
  let prio (t : Nat) : Nat := s.getF (Reg.PWR_PH_PRIO (s.tile t).phase)
  -- the remaining budget, and whether a priority has already failed to fit
  let (grants, rest, _) := (List.range 8).foldl (fun (a : List (Nat × Nat) × Nat × Bool) i =>
    let ts := tiles.filter (fun t => prio t == 7 - i)
    let sum := ts.foldl (fun m t => m + demand t) 0
    if a.2.2 then (a.1 ++ ts.map (fun t => (t, s.predicted t (s.tile t).phase 16)), a.2.1, true)
    else if sum ≤ a.2.1 then (a.1 ++ ts.map (fun t => (t, demand t)), a.2.1 - sum, false)
    else (a.1 ++ ts.map (fun t => (t, a.2.1 * demand t / sum)), 0, true)) ([], budget, false)
  let s1 := { s with pwr := { s.pwr with spare := rest, grants := [] } }
  let s2 := grants.foldl (fun u g =>
    let (q, u1) := u.quotient (4 * g.2) (1000000 * powerUnit)
    let u2 := { u1 with pwr := { u1.pwr with grants := Sparse.set (fun _ => 0) u1.pwr.grants g.1 g.2 } }
    let (c, u3) := (u2.putF (Reg.PWR_TILE_GRANT g.1) (min q 255)).allocGoal g.1 g.2
    u3.setGoal g.1 c) s1
  s2.setIslands

/-- The commit of a PHASE command on tile `t` with NEXT = p and a WORK hint (R609, R610). -/
def State.preGrant (s : State) (t p work : Nat) : State :=
  let code := s.getF (Reg.TILE_FREQ_TARGET t)
  let u := s.getF (Reg.PWR_PH_U p)
  let short := work != 0 && u != 0 && decide (work * 65536 < u * code * 2500)
  let have_ := Sparse.get (fun _ => 0) s.pwr.grants t
  let need := s.predicted t p (s.preferred t p)
  if short || decide (need ≤ have_) || decide (have_ + s.pwr.spare < need) then s
  else
    let s1 := { s with pwr := { s.pwr with spare := s.pwr.spare - (need - have_),
                                           grants := Sparse.set (fun _ => 0) s.pwr.grants t need } }
    let (q, s2) := s1.quotient (4 * need) (1000000 * powerUnit)
    let c := max 16 (min (s2.preferred t p) (s2.thermCode t))
    let c := if s2.pwr.repeatOn then min 44 c else c
    ((s2.putF (Reg.PWR_TILE_GRANT t) (min q 255)).setGoal t (if s2.slotHold t then max 44 c else c)).setIslands

/-! ## Learning (R607) -/

/-- One learning step of a value held in a register: v + (x − v) / 2^learn, with a free rounding. -/
def State.learnStep (s : State) (f : Fld) (x lim : Nat) : State :=
  let v := s.getF f
  let d := 2 ^ s.getF Reg.PWR_CFG_LEARN
  let (q, s1) := s.quotient (if v ≤ x then x - v else v - x) d
  s1.putF f (min lim (if v ≤ x then v + q else v - q))

/-- The sample values of one phase. -/
def State.learn (s : State) (x : Nat × Nat × Nat) : State :=
  if x.1 < 64 then
    ((s.learnStep (Reg.PWR_PH_E x.1) x.2.1 65535).learnStep (Reg.PWR_PH_U x.1) x.2.2 2048).putF (Reg.PWR_PH_VALID x.1) 1
  else s

/-! ## Register writes -/

/-- PWR_CAP: above the fused cap the fused cap is stored, below 60 W nothing (R604). -/
def State.wrCap (s : State) (v : Nat) : State :=
  let c := bits v 8 0
  let f := s.getF Reg.PWR_CAP_FUSED_CAP
  if f < c then s.putF Reg.PWR_CAP_CAP f else if c < 60 then s else s.putF Reg.PWR_CAP_CAP c

/-- PWR_MODE: a write of REPEAT clears REPEAT_CAPPED (R621). -/
def State.wrPwrMode (s : State) (v : Nat) : State := (s.applyWord Reg.PWR_MODE v).putF Reg.PWR_MODE_REPEAT_CAPPED 0

/-! ## Commands -/

/-- The frequency that TILE_FMEAS shows: a free value between half the target, as no stretched cycle exceeds twice the target's
period, and the target (R23–R25). -/
def State.measureFreq (s : State) (t : Nat) : State :=
  let (f, s1) := s.free 16
  let top := 25 * s.getF (Reg.TILE_FREQ_TARGET t)
  let low := ceilDiv top 2
  s1.putF (Reg.TILE_FMEAS_MHZ t) (low + f % (top - low + 1))

/-- TILE_TEMP_SAMPLE: a reading of tile `tile`'s sensor (R35, R36, R618, R619). Each engagement of a tile's throttle from the full
rate counts as its first (R36; the model's choice, log entry 147). -/
def execTileTempSample (tile temp : Nat) (s : State) : Host.Outcome State Fault Refusal :=
  whenLive (fun s => s.guard (decide (tile < 32)) (fun s =>
    let (v, exceed) := s.checkReading (signed 16 temp)
    let s1 := (s.putF (Reg.TILE_TEMP_TEMP tile) (toBits 16 v)).measureFreq tile
    let s2 := s1.showHottest
    let hot := (meshNeighbours tile).any (fun n => decide (s2.tileTemp n + 120 < v))
    let th := s2.getF (Reg.TILE_ISSUE_THERMAL tile)
    let s3 := if hot then (s2.putF (Reg.TILE_ISSUE_THERMAL tile) (max 16 (th - 1))).throttleIrq (th == 64) else s2
    let s4 := if hot && th == 64 then s3.raise FS.PWR_TGRAD_THR else s3
    let c := s4.thermCode tile
    let s5 := if s4.tjThr < v then (s4.setThermCode tile (max 16 (c - 1))).throttleIrq (c == 54) else s4
    (if exceed then s5.raise FS.PWR_OVERTEMP else s5).noteCapped)) s

/-- THROTTLE_RECOVERY: a tile within 25 °C of all its neighbours regains 1/64 (R35). -/
def execThrottleRecovery (tile : Nat) (s : State) : Host.Outcome State Fault Refusal :=
  whenLive (fun s =>
    s.guard (decide (tile < 32) && (meshNeighbours tile).all (fun n => decide (s.tileTemp tile ≤ s.tileTemp n + 100))) (fun s =>
      s.putF (Reg.TILE_ISSUE_THERMAL tile) (min 64 (s.getF (Reg.TILE_ISSUE_THERMAL tile) + 1)))) s

/-- TGRAD_TIMEOUT: some throttled tile is more than 40 °C hotter than a neighbour, for 1 ms (R33). -/
def execTgradTimeout (s : State) : Host.Outcome State Fault Refusal :=
  whenLive (fun s =>
    s.guard ((List.range 32).any (fun t => (meshNeighbours t).any (fun n => decide (s.tileTemp n + 160 < s.tileTemp t)))) (fun s =>
      s.raise FS.PWR_TGRAD)) s

/-- VDIFF_SAMPLE: the measured island voltages in mV; a pair above 250 mV apart in two samples in a row raises (R33). -/
def execVdiffSample (volts : List Nat) (s : State) : Host.Outcome State Fault Refusal :=
  whenLive (fun s =>
    let s1 := (List.range 8).foldl (fun t n => t.putF (Reg.PWR_ISL_V_MEAS n) (volts.getD n 0)) s
    let pairs := islandPairs.filter (fun p =>
      let a := volts.getD p.1 0
      let b := volts.getD p.2 0
      decide (a + 250 < b) || decide (b + 250 < a))
    let s2 := { s1 with pwr := { s1.pwr with vdiffOver := pairs } }
    if pairs.any (fun p => s.pwr.vdiffOver.contains p) then s2.raise FS.PWR_VDIFF else s2) s

/-- CLKRATIO_DETECT (R33). -/
def execClkratioDetect (s : State) : Host.Outcome State Fault Refusal := whenLive (fun s => s.raise FS.PWR_CLKRATIO) s

/-- The excursion account at a period end (R605, R606): power in 0.01 W, account in µJ. -/
def State.account (s : State) (p : Nat) : State :=
  let exc : Int := (450 - (s.pwr.cap : Int)) * 10000
  let level := min exc (s.pwr.level + ((s.pwr.cap : Int) * 100 - p))
  let debt := decide (level < 0)
  let lim := if debt then max 1 (s.pwr.capIssue - 4) else min 64 (s.pwr.capIssue + 1)
  let lim2 := if 45000 < p then (if debt then min 16 lim else min 16 s.pwr.capIssue) else lim
  let s1 := { s with pwr := { s.pwr with level := level, capIssue := lim2 } }
  let s2 := if debt && !s.onF Reg.PWR_ACCT_DEBT then (s1.satInc Reg.PWR_CNT_DEBTS).irq 0x50 1 else s1
  s2.putF Reg.PWR_ACCT_DEBT (b2n debt)

/-- Tile `n`'s thermal limit rises by one code if it is below TJ_THR − 3 °C (R618). -/
def State.thermRise (s : State) (n : Nat) : State :=
  if s.tileTemp n + 12 < s.tjThr then s.setThermCode n (min 54 (s.thermCode n + 1)) else s

/-- Some thermal throttle is engaged. -/
def State.throttled (s : State) : Bool :=
  s.pwr.hubHot ||
    (List.range 32).any (fun n => decide (s.thermCode n < 54) || decide (s.getF (Reg.TILE_ISSUE_THERMAL n) < 64))

/-- The thermal limits of tiles and hub over one period of 100 µs (R618). -/
def State.thermalPeriod (s : State) : State :=
  let s1 := (List.range 32).foldl (fun t n => t.thermRise n) s
  let hot := (List.range 16).any (fun n => decide (s1.tjThr < s1.hubTemp n))
  let cool := (List.range 16).all (fun n => decide (s1.hubTemp n + 12 < s1.tjThr))
  let h := hot || (s1.pwr.hubHot && !cool)
  let cut := if h then s1.pwr.hubCut + 1 else s1.pwr.hubCut - 1
  let s2 := { s1 with pwr := { s1.pwr with hubHot := h, hubCut := cut } }
  let s3 := if s2.throttled then s2.satInc Reg.PWR_CNT_THROTTLES else s2
  s3.throttleIrq (h && !s.pwr.hubHot)

/-- PUM's clock in 50 MHz steps: 1.00 GHz less one step per period above the limit, not below 0.50 GHz (R618, R620). -/
def State.pumClock (s : State) : Nat := if s.pwr.repeatOn then 20 else 20 - min 10 s.pwr.hubCut

/-- CAP_PERIOD_END: power is summed, the account and the learned values are updated, the next period's cap and mode come
into force and its budget is allocated (R601, R605–R614, R621). -/
def execCapPeriodEnd (power : PowerSample) (s : State) : Host.Outcome State Fault Refusal :=
  whenLive (fun s =>
    let rails := s.pwr.rails.foldl (fun m r => m + r.2.good + (if 3 ≤ r.2.fails then 200 else 0)) 0
    let isl := power.islands.foldl (fun m x => m + x) 0
    let p := isl + 10 * rails
    let s1 := (List.range 8).foldl (fun t n => t.putF (Reg.PWR_ISL_P_P n) (power.islands.getD n 0)) s
    let (tot, s2) := s1.quotient p 10
    let s3 := ((s2.putF Reg.PWR_MEAS_TOTAL tot).putF Reg.PWR_MEAS_NONTILE rails).account p
    let s4 := (power.phases.foldl (fun t x => t.learn x) s3).thermalPeriod
    let c := s4.getF Reg.PWR_CAP_CAP
    let s5 := { s4 with pwr := { s4.pwr with repeatOn := s4.onF Reg.PWR_MODE_REPEAT } }
    let s6 := if c = s5.pwr.cap then s5
      else { s5 with pwr := { s5.pwr with cap := c, level := (450 - (c : Int)) * 10000 } }
    s6.allocate.noteCapped) s

/-- CAP_WRITE. -/
def execCapWrite (req : Requester) (cap : Nat) (s : State) : Host.Outcome State Fault Refusal :=
  whenLive (fun s => s.access req Reg.PWR_CAP (cap % 2 ^ 32) (fun t => t.wrCap cap)) s

/-- AVS_READ: a rail's power in 0.1 W, or a failed read; the third failure in a row raises (R602). -/
def execAvsRead (rail : Nat) (good : Bool) (power : Nat) (s : State) : Host.Outcome State Fault Refusal :=
  whenLive (fun s =>
    let r := Sparse.get (fun _ => ({} : Rail)) s.pwr.rails rail
    let put (x : Rail) : State := { s with pwr := { s.pwr with rails := Sparse.set (fun _ => {}) s.pwr.rails rail x } }
    if good then put { good := power, fails := 0 }
    else
      let s1 := put { r with fails := r.fails + 1 }
      if r.fails + 1 = 3 then s1.raise FS.PWR_AVS else s1) s

/-- VREG_FAULT (R603). -/
def execVregFault (island : Nat) (s : State) : Host.Outcome State Fault Refusal :=
  whenLive (fun s => s.guard (decide (island < 8)) (fun s => s.raise FS.PWR_VREG)) s

/-- VOLTAGE_SETTLED: the island's tiles take their goals (R613), and a neighbour that has waited to fall may fall (R34). -/
def execVoltageSettled (island : Nat) (s : State) : Host.Outcome State Fault Refusal :=
  whenLive (fun s => s.guard (decide (island < 8)) (fun s =>
    let s1 := s.putF (Reg.PWR_ISL_STAT_SETTLING island) 0
    let s2 := (islandTiles island).foldl (fun t n => t.takeGoal n) s1
    ({ s2 with pwr := { s2.pwr with islRising := s2.pwr.islRising.filter (fun n => n != island) } }).fallIslands)) s

/-- DROOP_ALERT (R616). -/
def execDroopAlert (island : Nat) (s : State) : Host.Outcome State Fault Refusal :=
  whenLive (fun s => s.guard (decide (island < 8)) (fun s =>
    let s1 := (s.putF (Reg.PWR_ISL_STAT_DROOP island) 1).satInc Reg.PWR_CNT_DROOPS
    (s1.setDroop island { rate := s1.getF Reg.PWR_CFG_DROOP_RATE, rising := none }).noteCapped)) s

/-- DROOP_CLEAR: the alert ends and DROOP_HOLD runs. -/
def execDroopClear (island : Nat) (s : State) : Host.Outcome State Fault Refusal :=
  whenLive (fun s => s.guard (decide (island < 8)) (fun s => s.putF (Reg.PWR_ISL_STAT_DROOP island) 0)) s

/-- DROOP_HOLD_EXPIRY: the limit begins to rise (R616). -/
def execDroopHoldExpiry (island : Nat) (s : State) : Host.Outcome State Fault Refusal :=
  whenLive (fun s =>
    s.guard (decide (island < 8) && !s.onF (Reg.PWR_ISL_STAT_DROOP island) && (s.droop island).rising.isNone) (fun s =>
      s.setDroop island { s.droop island with rising := some s.qtz.cycles })) s

/-- DROOP_LONG (R616). -/
def execDroopLong (island : Nat) (s : State) : Host.Outcome State Fault Refusal :=
  whenLive (fun s => s.guard (decide (island < 8) && s.onF (Reg.PWR_ISL_STAT_DROOP island)) (fun s => s.raise FS.PWR_DROOP)) s

/-- HUB_TEMP_SAMPLE: the throttles it brings about act at the period ends (R617–R619). -/
def execHubTempSample (sensor temp : Nat) (s : State) : Host.Outcome State Fault Refusal :=
  whenLive (fun s => s.guard (decide (sensor < 16)) (fun s =>
    let (v, exceed) := s.checkReading (signed 16 temp)
    let s1 := { s with pwr := { s.pwr with hubTemps := Sparse.set (fun _ => 0) s.pwr.hubTemps sensor (toBits 16 v) } }
    let s2 := s1.showHottest
    if exceed then s2.raise FS.PWR_OVERTEMP else s2)) s

/-- OVERTEMP_TIMEOUT: a sensor has been above TJ_MAX for 1 ms (R619). -/
def execOvertempTimeout (s : State) : Host.Outcome State Fault Refusal :=
  whenLive (fun s => s.guard ((List.range 48).any (fun n => decide (s.tjMax < s.sensorTemp n))) (fun s =>
    s.raise FS.PWR_OVERTEMP)) s

/-- MARGIN and WEAR of ageing monitor `u` (R623); spec/ states no WEAR for a G0 fused as 0. -/
def State.ageUnit (s : State) (u margin : Nat) : State :=
  let g := bits (s.fuse (8 + u / 4)) (8 * (u % 4) + 7) (8 * (u % 4))
  let (w, s1) := if g = 0 then s.free 16 else s.quotient (65535 * (g - margin)) g
  (s1.putF (Reg.AGE_UNIT_MARGIN u) (min margin 65535)).putF (Reg.AGE_UNIT_WEAR u) (min w 65535)

/-- The 40 monitors' margins in ps; WEAR_MAX and its unit follow (R623, R625). -/
def State.ageAll (s : State) (margins : List Nat) : State :=
  let s1 := (List.range 40).foldl (fun t u => t.ageUnit u (margins.getD u 0)) s
  let h := (List.range 40).foldl (fun m u => if s1.getF (Reg.AGE_UNIT_WEAR m) < s1.getF (Reg.AGE_UNIT_WEAR u) then u else m) 0
  (s1.putF Reg.AGE_WEAR_MAX_UNIT h).putF Reg.AGE_WEAR_MAX_WEAR (s1.getF (Reg.AGE_UNIT_WEAR h))

/-- AGE_MEASURE. -/
def execAgeMeasure (margins : List Nat) (s : State) : Host.Outcome State Fault Refusal :=
  whenLive (fun s => s.ageAll margins) s

/-- Tile `t` is derated by one code if its margin is below 15 ps (R624). -/
def State.derate (s : State) (t : Nat) : State :=
  let d := s.getF (Reg.TILE_FREQ_FMAX_DERATED t)
  if s.getF (Reg.AGE_UNIT_MARGIN t) < 15 ∧ 44 < d then
    (s.putF (Reg.TILE_FREQ_FMAX_DERATED t) (d - 1)).irq 0x60 1
  else s

/-- REM_H from WEAR_MAX and its rise (R625): hours with a free rounding; a free value where nothing has risen. -/
def State.remaining (s : State) : State :=
  let left := 65535 - s.getF Reg.AGE_WEAR_MAX_WEAR
  let old := s.getF Reg.AGE_LIFE_REM_H
  let (h, s1) := match s.pwr.wearRise with
    | none => s.quotient (left * 100000) 65535
    | some 0 => s.free 24
    | some r => s.quotient (left * 1000) r
  let h := min h (2 ^ 24 - 1)
  let s2 := s1.putF Reg.AGE_LIFE_REM_H h
  let n := s2.getF Reg.AGE_CFG_LIFE_NOTE
  if h < n ∧ n ≤ old then s2.raise FS.AGE_LIFE else s2

/-- The power manager may raise VDD_HUB for the ageing derate, in 5 mV steps and never above 0.90 V; spec/ leaves open when (R648). -/
def State.raiseHub (s : State) : State :=
  let (n, s1) := s.free 6
  { s1 with pwr := { s1.pwr with hubVolt := max s1.pwr.hubVolt (min 900 (s1.pwr.hubVolt + 5 * n)) } }

/-- AGE_HOUR: an operating hour has passed (R624–R626, R648). -/
def execAgeHour (s : State) : Host.Outcome State Fault Refusal :=
  whenLive (fun s =>
    let s1 := s.wrapInc Reg.AGE_HOURS_HOURS
    let s2 := (List.range 32).foldl (fun t u => t.derate u) s1
    let now := s2.getF Reg.AGE_HOURS_HOURS
    let wear := s2.getF Reg.AGE_WEAR_MAX_WEAR
    let s3 :=
      if s2.getF Reg.AGE_HIST_HOURS_THEN + 1000 ≤ now then
        let s4 := { s2 with pwr := { s2.pwr with wearRise := some (wear - s2.getF Reg.AGE_HIST_WEAR_THEN) } }
        (s4.putF Reg.AGE_HIST_HOURS_THEN now).putF Reg.AGE_HIST_WEAR_THEN wear
      else s2
    s3.raiseHub.remaining) s

end Sys2Proof.Machine
end

