-- ==== Sys2Proof/Machine/Descriptor.lean ====
section
/-! DEFINITION. Command descriptors (chapter 06, and the bodies of chapters 07 and 08): the dispatcher's checks of the
common part and the sequencer's checks of the body, in the order of R162, and the regions of a command (R164–R166). -/

namespace Sys2Proof.Machine

/-! ## Opcodes (R161) -/

/-- The opcodes that are not reserved. -/
def opcodes : List Nat :=
  [0x00, 0x01, 0x02, 0x03, 0x04, 0x05, 0x10, 0x11, 0x12, 0x20, 0x21, 0x28, 0x30, 0x31, 0x32, 0x33, 0x34, 0x35, 0x38,
   0x39, 0x3A, 0x3B, 0x3F]

/-- A data-movement opcode. -/
def isMove (op : Nat) : Bool := decide (1 ≤ op ∧ op ≤ 5)

/-- GEMM, CONV or GATHER_GEMM. -/
def isMatrix (op : Nat) : Bool := decide (0x10 ≤ op ∧ op ≤ 0x12)

/-- A vector opcode. -/
def isVector (op : Nat) : Bool := decide (0x30 ≤ op ∧ op ≤ 0x35)

/-- An opcode that uses the matrix unit (R161). -/
def usesMatrix (op : Nat) : Bool := isMatrix op || op == 0x20 || op == 0x28

/-! ## Body fields -/

/-- Bits of the body word at offset `o`. -/
def Cmd.f (c : Cmd) (o hi lo : Nat) : Nat := bits (c.word o) hi lo

/-- A bit of the body word at offset `o`. -/
def Cmd.flag (c : Cmd) (o i : Nat) : Bool := bit (c.word o) i

/-- A tile-local offset field. -/
def Cmd.loc (c : Cmd) (o : Nat) : Nat := c.f o 22 0

/-- MEM of a data-movement body. -/
def Cmd.mem (c : Cmd) : Nat := bits (c.long 0x10) 47 0

/-- OP of KV_APPEND: 0 APPEND, 1 SHARE, 2 RELEASE. -/
def Cmd.kvOp (c : Cmd) : Nat := c.f 0x10 31 30

/-- KSRC of ATTN_BLOCK is SCRATCH. -/
def Cmd.scratchKeys (c : Cmd) : Bool := c.flag 0x1C 31

/-- D of ATTN_BLOCK. -/
def Cmd.headDim (c : Cmd) : Nat := 32 * c.f 0x28 15 12

/-- STREAM of SCAN. -/
def Cmd.stream (c : Cmd) : Nat := c.f 0x10 11 0

/-! ## Reserved bits (R161, R174) -/

/-- The bits that the fields of an opcode's body take in the words at 0x10 to 0x38. -/
def bodyMasks (c : Cmd) : List Nat :=
  match c.op with
  | 0x01 => [0xFFFFFFFF, 0xFFFF, 0x7FFFFF, 0x1FFFFF, 0x7FFFFF, 0xFFFFFFFF, 0x7FFFFF, 0, 0, 0, 0]
  | 0x02 => [0xFFFFFFFF, 0xFFFF, 0x7FFFFF, 0x1FFFFF, 0x7FFFFF, 0xFFFFFFFF, 0x7FFFFF, 0, 0, 0, 0]
  | 0x03 => [0xFFFFFFFF, 0xFFFF, 0x7FFFFF, 0x1FFFFF, 0x7FFFFF, 0xFFFFFFFF, 0x7FFFFF, 0x7FFFFF, 0, 0, 0]
  | 0x04 => [0xFFFFFFFF, 0xFFFF, 0x7FFFFF, 0x1FFFFF, 0x7FFFFF, 0xFFFFFFFF, 0x7FFFFF, 0x7FFFFF, 0, 0, 0]
  | 0x05 => [0xFFFFFFFF, 0xFFFF, 0x807FFFFF, 0x1FFFFF, 0x7FFFFF, 0xFFFFFFFF, 0x7FFFFF, 0xFFFFFFFF, 0, 0, 0]
  | 0x10 => [0x1F7FFFFF, 0x1F7FFFFF, 0x7FFFFF, 0x807FFFFF, 0x1FFFF, 0x1FFF, 0x1FFFFF, 0x7FFFFF, 0x7FFFFF, 0xFFFFFFFF, 0]
  | 0x11 => [0x1F7FFFFF, 0x1F7FFFFF, 0x7FFFFF, 0x807FFFFF, 0x1FFFF, 0x1FFF, 0x1FFFFF, 0x7FFFFF, 0x7FFFFF, 0xFFFFFFFF,
             0x7FFFFF]
  | 0x12 => [0x1F7FFFFF, 0x1F7FFFFF, 0x7FFFFF, 0x807FFFFF, 0x1FFFF, 0x1FFF, 0x1FFFFF, 0x7FFFFF, 0x7FFFFF, 0xFFFFFFFF,
             0x7FFFFF]
  | 0x20 => [0xF7FFFFF, 0x7FFFFF, if c.scratchKeys then 0x7FFFFF else 0xFFFFFFFF,
             if c.scratchKeys then 0x807FFFFF else 0xFFFF, 0x807FFFFF, 0x807FFFFF, 0xFFFFFFF0, 0xEF7FFFFF, 0xFFFFFFFF,
             0xFFFFFFFF, 0xF000000]
  | 0x21 => [0xC3FF0FFF, 0x7FFFFF, 0x7FFFFF, 0xFFFFFF, 0xFFFFFF, 0xFFFF007F, 0xFFFFFFFF, 0xFFFF, 0xFFFFF, 0xE0000000, 0]
  | 0x28 => [0x80000FFF, 0xF7FFFFF, 0x7FFFFF, 0xEF7FFFFF, 0xFF, 0x7FFFFF, 0x807FFFFF, 0, 0, 0xFFFFFFFF, 0]
  | 0x38 => [0xFFFF, 0, 0xFFFFFFFF, 0xFFFFFFFF, 0, 0, 0, 0, 0, 0, 0]
  | 0x39 => [0xFFFF, 0, 0xFFFFFFFF, 0xFFFFFFFF, 0, 0, 0, 0, 0, 0, 0]
  | 0x3A => [0x3F, 0xFFFFFFFF, 0, 0, 0, 0, 0, 0, 0, 0, 0]
  | 0x3B => [1, 0, 0, 0, 0, 0, 0, 0, 0, 0, 0]
  | 0x3F => [0xFFFFFFFF, 0xFFFF, 0, 0, 0, 0, 0, 0, 0, 0, 0]
  | n => if isVector n then [0x1F7FFFFF, 0xDF7FFFFF, 0xFF7FFFFF, 0x1FFFF, 0x1FFFF, 0xFF, 0x7FFFFF, 0x7FFFFF, 0xFFFFFFFF,
                             0xFFFFFFFF, 0]
    else [0, 0, 0, 0, 0, 0, 0, 0, 0, 0, 0]

/-- Every reserved bit of the body is 0. -/
def bodyBitsOk (c : Cmd) : Bool :=
  (List.range 11).all (fun i => c.word (0x10 + 4 * i) &&& (2 ^ 32 - 1 - (bodyMasks c).getD i 0) == 0)

/-- Fields that an opcode's other fields make 0 are 0 (DESC_RESERVED). -/
def bodyZerosOk (c : Cmd) : Bool :=
  let op := c.op
  if op = 0x05 then (if c.flag 0x18 31 then c.mem == 0 else c.loc 0x18 == 0)
  else if isMatrix op then
    (c.flag 0x1C 31 || c.loc 0x1C == 0) && (c.flag 0x10 28 || c.word 0x2C == 0) && (c.flag 0x14 28 || c.word 0x30 == 0)
  else if isVector op then
    (c.flag 0x14 31 || c.word 0x14 == 0) && (c.flag 0x10 28 || c.word 0x28 == 0) && (c.flag 0x18 28 || c.word 0x2C == 0)
  else if op = 0x20 then
    (c.flag 0x20 31 || c.loc 0x20 == 0) && c.f 0x28 7 6 != 3 && (c.f 0x28 11 8 != 0 || c.loc 0x2C == 0) &&
      (c.flag 0x24 31 || c.f 0x2C 27 24 == 0) && (c.scratchKeys || c.f 0x38 27 24 == 0)
  else if op = 0x21 then
    let k := c.kvOp
    k != 3 && (k == 0 || (c.word 0x14 == 0 && c.word 0x18 == 0)) && (k != 2 || c.word 0x20 == 0) &&
      (k == 1 || (c.f 0x24 6 0 == 0 && c.word 0x30 == 0))
  else if op = 0x28 then (c.flag 0x10 31 || c.word 0x24 == 0) && (c.flag 0x28 31 || c.loc 0x28 == 0)
  else true

/-! ## The dispatcher's checks (R162) -/

/-- A 4 KiB-aligned address of a chain block in local DRAM or the scratch partition that partition `p` may read (R155). -/
def State.chainBlockOk (s : State) (p a : Nat) : Bool :=
  a % 4096 == 0 && s.memOk p a 4096 false &&
    match s.space a with | .dram _ => true | .scratch _ => true | _ => false

/-- A wait by partition `p` may name object `i`: not FREE, of its own or a more critical partition (R189). A POISONED object passes,
as the fields' tables name only a FREE one, and the wait then ends as R193 states (the model's choice, log entry 156). -/
def State.mayWait (s : State) (p i : Nat) : Bool := s.syncState i != 0 && decide (s.syncPart i ≤ p)

/-- A signal by partition `p` may name object `i`: not FREE, of its own partition (R189); a POISONED object passes, and the signal is
dropped as R192 states (the model's choice, log entry 156). -/
def State.maySignal (s : State) (p i : Nat) : Bool := s.syncState i != 0 && s.syncPart i == p

/-- The reserved bits of the common part (R161), and what SYNC_WAIT, SYNC_SIGNAL and LINK ask of it. -/
def commonZerosOk (c : Cmd) : Bool :=
  let w := c.half 4
  let g := c.half 6
  !bit (c.byte 1) 6 && !bit (c.half 2) 15 && bits (c.word 0x3C) 30 16 == 0 &&
    (bits w 15 14 != 0 || (bits w 13 0 == 0 && c.word 8 == 0)) &&
    (bits g 15 14 != 0 || (bits g 13 0 == 0 && c.word 0x0C == 0)) &&
    (!(c.op == 0x38 || c.op == 0x39 || c.op == 0x3F) || (bits w 15 14 == 0 && bits g 15 14 == 0)) &&
    (c.op != 0x3F || bits (c.byte 1) 5 0 == 0)

/-- The sync fields of header and body (R161, R162, R189). -/
def State.syncOk (s : State) (p : Nat) (c : Cmd) : Bool :=
  let w := c.half 4
  let g := c.half 6
  let b := c.half 0x10
  (bits w 15 14 == 0 || (bits w 15 14 != 3 && s.mayWait p (bits w 13 0))) &&
    (bits g 15 14 == 0 || (bits g 15 14 == 1 && c.word 0x0C != 0 && s.maySignal p (bits g 13 0))) &&
    (c.op != 0x38 || ((bits b 15 14 == 1 || bits b 15 14 == 2) && s.mayWait p (bits b 13 0))) &&
    (c.op != 0x39 || ((bits b 15 14 == 2 || (bits b 15 14 == 1 && c.long 0x18 != 0)) && s.maySignal p (bits b 13 0)))

/-- The status with which the dispatcher refuses command `cmd` of context `c`, if it does (R162). -/
def State.dispatchCheck (s : State) (c : Nat) (cmd : Cmd) : Option Nat :=
  let p := (s.ctx c).part
  if (cmd.op == 0x3F) != (cmd.slot == 63) then some 0x09
  else if cmd.op = 0x3F ∧ s.chainBlockOk p (bits (cmd.long 0x10) 47 0) = false then some 0x09
  else if !opcodes.contains cmd.op then some 0x01
  else if bits (cmd.half 2) 11 0 ≠ c ∨ bits (cmd.half 2) 14 12 ≠ p then some 0x02
  else if !commonZerosOk cmd then some 0x03
  else if !s.syncOk p cmd then some 0x06
  else if (cmd.op == 0x38 || cmd.op == 0x39 || cmd.op == 0x3F) && !bodyBitsOk cmd then some 0x03
  else none

/-! ## Sizes of operands -/

/-- The bytes of `n` elements of format `f`. -/
def fmtBytes (f n : Nat) : Nat := ceilDiv (n * fmtBits f) 8

/-- `n` rounded up to a multiple of 64. -/
def up64 (n : Nat) : Nat := ceilDiv n 64 * 64

/-- The extent of `rows` rows at a stride (R166). -/
def extent (rows stride rowBytes : Nat) : Nat := (rows - 1) * stride + rowBytes

/-- The bytes of an accumulator for operand format `f` (R108). -/
def accBytes (f : Nat) : Nat := if f = 2 then 8 else 4

/-- The bytes of the carried attention state: DP and the 512 × DP + 1,024 of R199. -/
def attnStateBytes (d : Nat) : Nat := 512 * (128 * ceilDiv d 128) + 1024

/-- CH of a stream (R237). -/
def State.stmCh (s : State) (i : Nat) : Nat := 128 * s.getF (Reg.STM_CTRL_CH128 i)

/-- NST of a stream. -/
def State.stmNst (s : State) (i : Nat) : Nat := s.getF (Reg.STM_CTRL_NSTM1 i) + 1

/-- W of a stream; 0 for a forward one. -/
def State.stmW (s : State) (i : Nat) : Nat := s.getF (Reg.STM_CTRL_LOOKAHEAD i)

/-- The X rows of a SCAN (R239). -/
def State.scanRows (s : State) (c : Cmd) : Nat :=
  if s.stmW c.stream = 0 then c.f 0x20 7 0 else (s.stmW c.stream + 1) * 128

/-- A CONV geometry block (R172). -/
structure Geometry where
  batch : Nat
  h : Nat
  w : Nat
  c : Nat
  kh : Nat
  kw : Nat
  sh : Nat
  sw : Nat
  dh : Nat
  dw : Nat
  pt : Nat
  pb : Nat
  pl : Nat
  pr : Nat
deriving DecidableEq, Repr

/-- The geometry that 32 bytes spell. -/
def geometryOf (l : List Byte) : Geometry :=
  { batch := leField l 0 2, h := leField l 2 2, w := leField l 4 2, c := leField l 6 2, kh := byteAt l 8, kw := byteAt l 9,
    sh := byteAt l 10, sw := byteAt l 11, dh := byteAt l 12, dw := byteAt l 13, pt := byteAt l 14, pb := byteAt l 15,
    pl := byteAt l 16, pr := byteAt l 17 }

/-- Output size along one axis, 0 if it would be below 1 (R172). -/
def convOut (size before after dil k stride : Nat) : Nat :=
  let span := dil * (k - 1) + 1
  if size + before + after < span then 0 else (size + before + after - span) / stride + 1

/-- OH (R172). -/
def Geometry.oh (g : Geometry) : Nat := convOut g.h g.pt g.pb g.dh g.kh g.sh

/-- OW (R172). -/
def Geometry.ow (g : Geometry) : Nat := convOut g.w g.pl g.pr g.dw g.kw g.sw

/-- The ranges of R172, and the M and K it requires. -/
def Geometry.ok (g : Geometry) (m k : Nat) : Bool :=
  g.batch != 0 && g.h != 0 && g.w != 0 && g.c != 0 && inRange 1 31 g.kh && inRange 1 31 g.kw && inRange 1 16 g.sh &&
    inRange 1 16 g.sw && inRange 1 16 g.dh && inRange 1 16 g.dw && decide (g.pt ≤ 31 ∧ g.pb ≤ 31 ∧ g.pl ≤ 31 ∧ g.pr ≤ 31) &&
    g.oh != 0 && g.ow != 0 && m == g.batch * g.oh * g.ow && k == g.kh * g.kw * g.c

/-- `n` bytes of tile `t`'s SRAM window. -/
def State.local (s : State) (t o n : Nat) : List Byte := s.read (sramAddr t o) n

/-- The geometry block of a CONV on tile `t`. -/
def State.geometry (s : State) (t : Nat) (c : Cmd) : Geometry := geometryOf (s.local t (c.loc 0x38) 18)

/-! ## Regions (R164–R166) -/

/-- A tile-local region: first byte, length, the space its field allows (0 any, 1 scratchpad, 2 accumulators), whether it is an
output, and its rows: their number, stride and bytes. -/
structure Region where
  lo : Nat
  len : Nat
  space : Nat
  out : Bool
  rows : Nat
  stride : Nat
  row : Nat
deriving DecidableEq, Repr

/-- A region of consecutive bytes. -/
def flat (lo len space : Nat) (out : Bool) : Region := ⟨lo, len, space, out, 1, 0, len⟩

/-- A region of rows at a stride (R166). -/
def strided (lo rows stride row space : Nat) (out : Bool) : Region := ⟨lo, extent rows stride row, space, out, rows, stride, row⟩

/-- The byte ranges of a region's rows. -/
def Region.pieces (r : Region) : List (Nat × Nat) := (List.range r.rows).map (fun i => (r.lo + i * r.stride, r.row))

/-- The tile-local regions of command `c` on tile `t`. -/
def State.regions (s : State) (t : Nat) (c : Cmd) : List Region :=
  let op := c.op
  let loc := c.loc 0x18
  let rows := c.word 0x1C
  let span (out : Bool) : Region := strided loc rows (c.word 0x28) (c.word 0x20) 0 out
  if op = 0x01 then [span true]
  else if op = 0x02 then [span false]
  else if op = 0x03 then [span true, flat (c.loc 0x2C) (4 * rows) 1 false]
  else if op = 0x04 then [span false, flat (c.loc 0x2C) (4 * rows) 1 false]
  else if op = 0x05 then (if c.flag 0x18 31 then [span true] else [])
  else if isMatrix op then
    let fa := c.f 0x10 27 24
    let fb := c.f 0x14 27 24
    let m := c.word 0x20
    let k := c.word 0x28
    let ns := ceilDiv (c.word 0x24) 128
    let a := c.loc 0x10
    let ab := accBytes fa
    -- the accumulators of the columns past N are part of the region, but no byte of them is read or written (R125)
    let acc (o : Nat) (out : Bool) : Region := ⟨o, m * ns * 128 * ab, 2, out, m, ns * 128 * ab, c.word 0x24 * ab⟩
    let ins := match op with
      | 0x10 => [flat a (fmtBytes fa (m * k)) 1 false]
      | 0x11 =>
        let g := s.geometry t c
        [flat a (fmtBytes fa (g.batch * g.h * g.w * g.c)) 1 false, flat (c.loc 0x38) 32 1 false]
      | _ => [flat a (max 1 (0x600000 - a)) 1 false, flat (c.loc 0x38) (4 * m) 1 false]
    let sa := c.loc 0x2C
    let scales := (if c.flag 0x10 28 then
        [flat sa (if op = 0x12 then max 1 (0x600000 - sa) else m * k / 32) 1 false] else []) ++
      (if c.flag 0x14 28 then [flat (c.loc 0x30) (ns * (k / 32) * 128) 1 false] else [])
    ins ++ [flat (c.loc 0x14) (fmtBytes fb (ns * k * 128)) 1 false, acc loc true] ++
      (if c.flag 0x1C 31 then [acc (c.loc 0x1C) false] else []) ++ scales
  else if isVector op then
    let cols := c.word 0x20
    let opnd (o f n k : Nat) (out : Bool) : Region := strided o n (up64 (fmtBytes f k)) (fmtBytes f k) 0 out
    let zc := if op = 0x31 then 1 else cols
    let y := c.loc 0x14
    let fy := c.f 0x14 27 24
    let yr := if c.flag 0x14 30 then 1 else rows
    [opnd (c.loc 0x10) (c.f 0x10 27 24) rows cols false, opnd loc (c.f 0x18 27 24) rows zc true] ++
      (if c.flag 0x10 28 then [flat (c.loc 0x28) (rows * cols / 32) 0 false] else []) ++
      (if c.flag 0x18 28 then [flat (c.loc 0x2C) (ceilDiv (rows * zc) 32) 0 true] else []) ++
      (if c.flag 0x14 31 then
        opnd y fy yr cols false ::
          (if c.flag 0x14 28 then [flat (y + yr * up64 (fmtBytes fy cols)) (yr * cols / 32) 0 false] else [])
       else [])
  else if op = 0x20 then
    let d := c.headDim
    let row (f : Nat) : Nat := fmtBytes f d
    let fq := c.f 0x10 27 24
    let fk := c.f 0x38 27 24
    let fo := c.f 0x2C 27 24
    let nk := 128 * c.f 0x28 31 16
    [strided (c.loc 0x10) 128 (up64 (row fq)) (row fq) 1 false, flat (c.loc 0x14) 1024 1 false] ++
      (if c.scratchKeys then
        [strided (c.loc 0x18) (2 * nk) (up64 (row fk)) (row fk) 1 false, flat (c.loc 0x1C) (8 * nk) 1 false]
       else []) ++
      (if c.flag 0x20 31 then [flat (c.loc 0x20) (attnStateBytes d) 2 false] else []) ++
      [if c.flag 0x24 31 then strided (c.loc 0x24) 128 (up64 (row fo)) (row fo) 1 true
       else flat (c.loc 0x24) (attnStateBytes d) 2 true] ++
      (if c.f 0x28 11 8 = 0 then [] else [flat (c.loc 0x2C) (64 * c.f 0x28 11 8) 1 false])
  else if op = 0x21 ∧ c.kvOp = 0 then
    let n := c.f 0x10 11 0 * 32 * c.f 0x10 19 16 * 4
    [flat (c.loc 0x14) n 2 false, flat (c.loc 0x18) n 2 false]
  else if op = 0x28 then
    let i := c.stream
    let ch := s.stmCh i
    let ns := s.stmElems i
    let xr := s.scanRows c
    let yr := if s.stmW i = 0 then c.f 0x20 7 0 else 128
    let row (f : Nat) : Nat := fmtBytes f ch
    let fx := c.f 0x14 27 24
    let fy := c.f 0x1C 27 24
    [strided (c.loc 0x14) xr (up64 (row fx)) (row fx) 1 false, flat (c.loc 0x18) (12 * ns + 4 * ch) 1 false,
     strided (c.loc 0x1C) yr (up64 (row fy)) (row fy) 1 true] ++
      (if c.flag 0x10 31 then [flat (c.loc 0x24) (2 * xr) 1 false] else []) ++
      (if c.flag 0x28 31 then [flat (c.loc 0x28) (4 * ns) 1 true] else [])
  else []

/-- A memory region of a command: address, length, and whether it is written (R165). -/
structure MemRegion where
  addr : Nat
  len : Nat
  write : Bool
deriving DecidableEq, Repr

/-- The memory regions of command `c` that are checked at the entry to the commit window (R165, R169). -/
def memRegions (c : Cmd) : List MemRegion :=
  let op := c.op
  let span := extent (c.word 0x1C) (c.word 0x24) (c.word 0x20)
  if op = 0x01 then [⟨c.mem, span, false⟩]
  else if op = 0x02 then [⟨c.mem, span, true⟩]
  else if op = 0x03 then [⟨c.mem, 1, false⟩]
  else if op = 0x04 then [⟨c.mem, 1, true⟩]
  else if op = 0x05 then (if c.flag 0x18 31 then [] else [⟨c.mem, span, true⟩])
  else if op = 0x20 then
    (if c.scratchKeys then [] else [⟨bits (c.long 0x18) 47 0, 32 * c.f 0x28 31 16, false⟩])
  else if op = 0x21 then
    let n := match c.kvOp with | 0 => ceilDiv (c.f 0x10 11 0) 64 | 1 => 1 | _ => c.f 0x10 11 0
    let a := bits (c.long 0x28) 47 0 + 16 * c.f 0x1C 23 0
    [⟨a, 16 * n, false⟩, ⟨a, 16 * n, true⟩]
  else []

/-! ## The sequencer's checks (R162) -/

/-- Whether OP of a vector command is listed, and what it asks of Y: 0 EN = 0, 1 EN = 1, 2 EN = 1 and BCAST = 1 (R174). -/
def vectorOp (op n : Nat) : Option Nat :=
  match op with
  | 0x30 => if n = 0 ∨ n = 6 ∨ (7 ≤ n ∧ n ≤ 0x13) then some 0 else if 1 ≤ n ∧ n ≤ 5 then some 1 else none
  | 0x31 => if n ≤ 4 then some 0 else none
  | 0x33 => if n ≤ 1 then some 2 else none
  | _ => if n = 0 then some 0 else none

/-- Dimensions, alignment and operand presence (DESC_SHAPE). A row of an odd number of 4-bit elements, to which R92 gives no code of
its own, is refused here (log entry 150). -/
def State.plainShapeOk (s : State) (c : Cmd) : Bool :=
  let op := c.op
  if isMove op then
    let rows := c.word 0x1C
    let rb := c.word 0x20
    let gs := op == 3 || op == 4
    let unit := if gs then 4 else 64
    let stride (o : Nat) : Bool := rows == 1 || (decide (rb ≤ c.word o) && c.word o % unit == 0)
    let fillLocal := op == 5 && c.flag 0x18 31
    inRange 1 1048576 rows && rb != 0 && rb % unit == 0 && (!gs || decide (rb ≤ 65536)) &&
      (fillLocal || stride 0x24) && ((op == 5 && !fillLocal) || stride 0x28) &&
      (!(op == 1 || op == 2) || (c.mem % 64 == 0 && c.loc 0x18 % 64 == 0)) && (!gs || c.loc 0x2C % 4 == 0)
  else if isMatrix op then
    let k := c.word 0x28
    let fa := c.f 0x10 27 24
    inRange 1 65536 (c.word 0x20) && inRange 1 4096 (c.word 0x24) && inRange 1 1048576 k && c.loc 0x18 % 256 == 0 &&
      (!c.flag 0x1C 31 || c.loc 0x1C % 256 == 0) && (!(fa == 0 || fa == 4) || k % 2 == 0)
  else if isVector op then
    let cols := c.word 0x20
    let en := c.flag 0x14 31
    let small (f : Nat) : Bool := f == 0 || f == 4
    inRange 1 65536 (c.word 0x1C) && inRange 1 65536 cols &&
      (match vectorOp op (c.f 0x24 7 0) with
        | some 0 => !en
        | some 1 => en
        | some _ => en && c.flag 0x14 30
        | none => false) &&
      c.loc 0x10 % 64 == 0 && c.loc 0x18 % 64 == 0 && (!en || c.loc 0x14 % 64 == 0) &&
      (cols % 2 == 0 || !(small (c.f 0x10 27 24) || small (c.f 0x18 27 24) || (en && small (c.f 0x14 27 24))))
  else if op = 0x20 then
    let d := c.f 0x28 15 12
    let rd := c.f 0x28 11 8
    c.f 0x28 31 16 != 0 && inRange 1 8 d && decide (rd ≤ d) && ((c.f 0x28 7 6 == 0) == (rd == 0)) &&
      c.loc 0x10 % 64 == 0 && c.loc 0x14 % 8 == 0 &&
      (if c.scratchKeys then c.loc 0x18 % 64 == 0 && c.loc 0x1C % 8 == 0 else bits (c.long 0x18) 47 0 % 16 == 0) &&
      (!c.flag 0x20 31 || c.loc 0x20 % 256 == 0) && c.loc 0x24 % (if c.flag 0x24 31 then 64 else 256) == 0 &&
      c.loc 0x2C % 4 == 0
  else if op = 0x21 then
    let n := c.f 0x10 11 0
    let d := c.f 0x10 19 16
    let f := c.f 0x10 23 20
    let frame := 16384 * 2 ^ s.getF ⟨Reg.KVP_FRAME, 2 * bits (c.half 2) 14 12 + 1, 2 * bits (c.half 2) 14 12⟩
    inRange 1 8 d && (if c.kvOp = 1 then n == 1 else inRange 1 2048 n) &&
      decide (128 * up64 (fmtBytes f (32 * d)) + (if f = 0 then 256 * d else 0) ≤ frame) &&
      c.loc 0x14 % 256 == 0 && c.loc 0x18 % 256 == 0 &&
      (c.kvOp != 0 || decide (c.f 0x20 23 0 + n ≤ 2 ^ 24)) &&
      (c.kvOp != 1 || (inRange 1 64 (c.f 0x24 6 0) && decide (c.f 0x20 23 0 + c.f 0x24 6 0 ≤ 2 ^ 24))) &&
      bits (c.long 0x28) 47 0 % 16 == 0
  else if op = 0x28 then
    let n := c.f 0x20 7 0
    let ahead := s.stmW c.stream != 0
    inRange 1 128 n && (!ahead || n == 128) && c.loc 0x14 % 64 == 0 && c.loc 0x18 % 64 == 0 && c.loc 0x1C % 64 == 0 &&
      c.loc 0x24 % 64 == 0 && c.loc 0x28 % 64 == 0 && !(ahead && c.flag 0x28 31)
  else true

/-- Dimensions, alignment, geometry and operand presence (DESC_SHAPE). -/
def State.shapeOk (s : State) (t : Nat) (c : Cmd) : Bool :=
  s.plainShapeOk c &&
    (c.op != 0x11 || decide (0x600000 < c.loc 0x38 + 32) || (s.geometry t c).ok (c.word 0x20) (c.word 0x28))

/-- A format code that exists and may carry the block scale it is given (R90). -/
def fmtOk (f : Nat) (bs : Bool) : Bool := fmtValid f && (!bs || fmtScalable f)

/-- An FP32 word that is finite. -/
def f32Finite (w : Nat) : Bool := (f32 w).isFin

/-- CKABS is finite and not negative (R120); −0 counts as not negative (the model's choice, log entry 154). -/
def ckAbsOk (w : Nat) : Bool := f32Finite w && (!(f32 w).neg || (f32 w).isZero)

/-- The formats of a body (DESC_FORMAT: R90, R99, R107, R120, R174). REDUCE writes one element per row, so a block scale of its
output meets no multiple of 32 (R99). NORM's IMM2, which it does not use, is only asked to be finite (the model's choice, log
entry 157). -/
def formatOk (c : Cmd) : Bool :=
  let op := c.op
  let wide (f : Nat) : Bool := f == 7 || f == 8 || f == 9
  let keys (f : Nat) : Bool := f == 7 || f == 8 || f == 5
  if isMatrix op then
    let fa := c.f 0x10 27 24
    let fb := c.f 0x14 27 24
    let ba := c.flag 0x10 28
    let bb := c.flag 0x14 28
    fmtOk fa ba && fmtOk fb bb && fa != 3 && fa != 9 && fb != 3 && fb != 9 &&
      (fa == fb || (fa == 5 && fb == 6) || (fa == 6 && fb == 5)) && (!(ba || bb) || c.word 0x28 % 32 == 0) &&
      (fmtInt fa || ckAbsOk (c.word 0x34))
  else if isVector op then
    let en := c.flag 0x14 31
    let fz := c.f 0x18 27 24
    let scaled := c.flag 0x10 28 || c.flag 0x18 28 || (en && c.flag 0x14 28)
    fmtOk (c.f 0x10 27 24) (c.flag 0x10 28) && fmtOk fz (c.flag 0x18 28) && !(op == 0x31 && c.flag 0x18 28) &&
      (!en || fmtOk (c.f 0x14 27 24) (c.flag 0x14 28)) && (!scaled || c.word 0x20 % 32 == 0) &&
      (op != 0x34 || decide (fmtBits fz ≤ 16)) && (op != 0x35 || wide fz) &&
      f32Finite (c.word 0x30) && f32Finite (c.word 0x34) &&
      (op != 0x33 || !((f32 (c.word 0x30)).isZero || (f32 (c.word 0x30)).neg))
  else if op = 0x20 then
    let sc := f32 (c.word 0x30)
    keys (c.f 0x10 27 24) && (!c.scratchKeys || keys (c.f 0x38 27 24)) && (!c.flag 0x24 31 || wide (c.f 0x2C 27 24)) &&
      sc.isFin && !sc.isZero && !sc.neg && ckAbsOk (c.word 0x34)
  else if op = 0x21 then
    let f := c.f 0x10 23 20
    f == 0 || f == 1 || f == 5 || f == 7 || f == 8
  else if op = 0x28 then wide (c.f 0x14 27 24) && wide (c.f 0x1C 27 24) && ckAbsOk (c.word 0x34)
  else true

/-- Two byte ranges meet. -/
def meets (a n b m : Nat) : Bool := n != 0 && m != 0 && decide (a < b + m) && decide (b < a + n)

/-- The bytes of a tile-local region that lie in lo … hi − 1 stay within base … base + size − 1. -/
def partInside (r : Region) (lo hi base size : Nat) : Bool :=
  let a := max r.lo lo
  let b := min (r.lo + r.len) hi
  decide (b ≤ a) || (decide (base ≤ a) && decide (b ≤ base + size))

/-- Units of 64 KiB. -/
def units64 (n : Nat) : Nat := n * 65536

/-- SP_BASE, SP_SIZE, ACC_BASE and ACC_SIZE of a FOOT word, in bytes (R286, R300). -/
def footOf (w : Nat) : Nat × Nat × Nat × Nat :=
  (units64 (bits w 22 16), units64 (bits w 30 24), 0x600000 + units64 (bits w 4 0), units64 (bits w 13 8))

/-- The model region of a context in bytes: base and size, empty without a model (R306). -/
def State.modelRegion (s : State) (e : CtxEntry) : Nat × Nat :=
  if e.model = 0 then (0, 0) else (units64 (s.model e.model).mregBase, units64 (s.model e.model).mregSize)

/-- A region lies in its space and in the context's footprint, and an output does not meet the model region (R164,
R300). -/
def State.regionOk (s : State) (e : CtxEntry) (r : Region) : Bool :=
  let (sb, ss, ab, asz) := footOf e.foot
  let (mb, ms) := s.modelRegion e
  let inSpace := match r.space with
    | 1 => decide (r.lo + r.len ≤ 0x600000)
    | 2 => decide (0x600000 ≤ r.lo) && decide (r.lo + r.len ≤ 0x800000)
    | _ => decide (r.lo + r.len ≤ 0x800000)
  inSpace && partInside r 0 0x600000 sb ss && partInside r 0x600000 0x800000 ab asz &&
    !(r.out && meets r.lo r.len mb ms)

/-- `n` bytes at `a` meet tile `t`'s own SRAM window. -/
def inOwnWindow (t a n : Nat) : Bool := meets a n (sramAddr t 0) 0x800000

/-- A memory region may be reached from tile `t` by partition `p` (R165). -/
def State.memRegionOk (s : State) (p t : Nat) (r : MemRegion) : Bool :=
  s.memOk p r.addr r.len r.write && !inOwnWindow t r.addr r.len

/-- The accumulator bytes of copy `k` of stream `i`: pieces of tile-local ranges (R242). -/
def State.stmPieces (s : State) (i k : Nat) : List (Nat × Nat) :=
  let off := s.getF (Reg.STM_HOME_OFFSET i) * 1024
  let total := 8 * s.stmElems i
  let first := min total (131072 - off)
  let bank (j : Nat) : Nat := 0x600000 + (2 * (s.getF (Reg.STM_HOME_PAIR i) + j) + k) * 131072
  (bank 0 + off, first) ::
    (List.range (ceilDiv (total - first) 131072)).map (fun j => (bank (j + 1), min 131072 (total - first - 131072 * j)))

/-- The streams that some register word lists. -/
def State.listedStreams (s : State) : List Nat :=
  s.regs.filterMap (fun e =>
    let p := e.1 / 0x1000
    let o := e.1 % 0x1000
    if 0x340 ≤ p ∧ p < 0x380 ∧ 0x800 ≤ o ∧ o % 32 = 0x14 then some (64 * (p - 0x340) + (o - 0x800) / 32) else none)

/-- Stream `i` is RESIDENT on tile `t`. -/
def State.residentOn (s : State) (i t : Nat) : Bool :=
  s.getF (Reg.STM_STAT_STATUS i) == 2 && s.getF (Reg.STM_HOME_TILE i) == t

/-- A range meets the region of stream `i`, either copy. -/
def State.meetsStream (s : State) (i lo len : Nat) : Bool :=
  (s.stmPieces i 0 ++ s.stmPieces i 1).any (fun p => meets lo len p.1 p.2)

/-- An output region meets another region (R166), or a resident stream of the context on the tile (R244). -/
def State.overlaps (s : State) (c t : Nat) (rs : List Region) : Bool :=
  (List.range rs.length).any (fun i =>
    match rs[i]? with
    | some r => r.out &&
        ((List.range rs.length).any (fun j => i != j &&
            match rs[j]? with | some q => meets r.lo r.len q.lo q.len | none => false) ||
          s.listedStreams.any (fun m => s.residentOn m t && s.getF (Reg.STM_OWNER_CTX m) == c && s.meetsStream m r.lo r.len))
    | none => false)

/-- The geometry block's reserved bytes are 0 (R172). -/
def State.geometryZerosOk (s : State) (t : Nat) (c : Cmd) : Bool :=
  c.op != 0x11 || decide (0x600000 < c.loc 0x38 + 32) || leNat (s.local t (c.loc 0x38 + 18) 14) == 0

/-- The checks of format, regions and overlap, of a command with regions `rs` (R162). -/
def State.placeCheck (s : State) (c t : Nat) (cmd : Cmd) (rs : List Region) : Option Nat :=
  let x := s.ctx c
  if !formatOk cmd then some 0x05
  else if !(rs.all (fun r => s.regionOk x.entry r) && (memRegions cmd).all (fun r => s.memRegionOk x.part t r)) then some 0x07
  else if s.overlaps c t rs then some 0x08
  else none

/-- The status with which the sequencer of tile `t` refuses command `cmd` of context `c`, if it does (R162). -/
def State.bodyCheck (s : State) (c t : Nat) (cmd : Cmd) : Option Nat :=
  if !(bodyBitsOk cmd && bodyZerosOk cmd && s.geometryZerosOk t cmd) then some 0x03
  else if !s.shapeOk t cmd then some 0x04
  else s.placeCheck c t cmd (s.regions t cmd)

/-- The checks of a CONV that do not rest on what its geometry block holds; A's region is taken by its first byte (R162, R172). -/
def State.bodyCheckOpen (s : State) (c t : Nat) (cmd : Cmd) : Option Nat :=
  if !(bodyBitsOk cmd && bodyZerosOk cmd) then some 0x03
  else if !s.plainShapeOk cmd then some 0x04
  else s.placeCheck c t cmd (flat (cmd.loc 0x10) 1 1 false :: (s.regions t cmd).drop 1)

/-! ## Conflicts in the window (R177, R206, R243) -/

/-- Two regions share a byte: rows of theirs meet. -/
def Region.shares (a b : Region) : Bool :=
  meets a.lo a.len b.lo b.len && a.pieces.any (fun p => b.pieces.any (fun q => meets p.1 p.2 q.1 q.2))

/-- Some region of `a` of the given kinds shares a byte with some region of `b`. -/
def regionsMeet (a b : List Region) (p q : Region → Bool) : Bool :=
  a.any (fun x => p x && b.any (fun y => q y && x.shares y))

/-- What a command reads and writes of its tile: its regions, and the two copies of a SCAN's carried state (R177, R242). -/
def State.touched (s : State) (t : Nat) (c : Cmd) : List Region :=
  s.regions t c ++
    (if c.op = 0x28 ∧ s.stmW c.stream = 0 then
      (s.stmPieces c.stream 0 ++ s.stmPieces c.stream 1).map (fun p => flat p.1 p.2 2 true) else [])

/-- A younger command must wait for an older one of its window. -/
def State.conflicts (s : State) (t : Nat) (young old : Cmd) : Bool :=
  let y := s.touched t young
  let o := s.touched t old
  regionsMeet y o (fun _ => true) (fun r => r.out) || regionsMeet y o (fun r => r.out) (fun _ => true) ||
    (young.op == 0x20 && !young.scratchKeys && old.op == 0x21) ||
    (young.op == 0x28 && old.op == 0x28 && young.stream == old.stream)

end Sys2Proof.Machine
end

