-- ==== Sys2Proof/Machine/Remote.lean ====
section
/-! DEFINITION. Requests to neighbour windows over the Odilo link (R540–R545): reads and writes in lines, tags, and what
becomes of a command whose request fails (R553). What a neighbour window's addresses hold in State is what RD_DATA
flits last brought. -/

namespace Sys2Proof.Machine

/-- Route field of position `p`. -/
def routeFld (p : Nat) : Fld := ⟨Reg.ODL_ROUTE 0, 2 * p + 1, 2 * p⟩

/-- The port over which position `p` is reached, if it is (R540). -/
def State.routePort (s : State) (p : Nat) : Option Nat :=
  match s.getF (routeFld p) with
  | 1 => some 0
  | 2 => some 1
  | _ => none

/-- A run of lines in groups of at most four, as WR and RD_DATA flits carry them: first line address and count (R541). -/
def byFour (a lines : Nat) : List (Nat × Nat) :=
  (List.range (ceilDiv lines 4)).map (fun i => (a + 256 * i, min 4 (lines - 4 * i)))

/-- The byte enables of line `l` for a write of the `n` bytes from `a` (R542). -/
def lineMask (a n l : Nat) : Nat :=
  (List.range 64).foldl (fun m i => if a ≤ l + i ∧ l + i < a + n then m + 2 ^ i else m) 0

/-- A tag that no outstanding request of the port uses: the lowest of its 256 (R545). -/
def State.freeTag (s : State) (port : Nat) : Option Nat :=
  (List.range 256).find? (fun g => !s.odl.outs.any (fun o => o.port == port && o.tag == some g))

/-- The flits of a request leave its port (R541, R542). -/
def State.sendRequest (s : State) (o : OdlOut) (tag : Nat) : State :=
  let fields := [s.pins.cascPos, o.pos, o.part, o.lines, tag, o.addr]
  if !o.write then s.emit (.odl o.port "RD_REQ" fields [])
  else if o.mask.all (fun m => m == 2 ^ 64 - 1) then s.emit (.odl o.port "WR" fields o.data)
  else (s.emit (.odl o.port "WR_MASK" fields (o.mask.flatMap (leBytes 8)))).emit (.odl o.port "WR" fields o.data)

/-- The request that port `p` sends next, by its place among the outstanding ones: of those that wait for a tag the one that R195
grants, with its requester's port and its partition (R544). -/
def State.nextOut (s : State) (p : Nat) : Option (Nat × OdlOut) :=
  s.winner (.odlPort p) (fun q => (q.2.part, q.2.req))
    (((List.range s.odl.outs.length).zip s.odl.outs).filter (fun q => q.2.port == p && q.2.tag.isNone))

/-- Port `p` sends one request that waits, if a tag is free for it. -/
def State.takeTag (s : State) (p : Nat) : State :=
  match s.nextOut p, s.freeTag p with
  | some (i, o), some g =>
    (({ s with odl := { s.odl with outs := s.odl.outs.set i { o with tag := some g } } }).sendRequest o g).granted
      (.odlPort p) o.req
  | _, _ => s

/-- Requests that wait take the tags that have become free, in the order of R544 (R545). -/
def State.takeTags (s : State) : State :=
  (List.range s.odl.outs.length).foldl (fun t _ => (t.takeTag 0).takeTag 1) s

/-- A request is made; it gets a tag when one is free. -/
def State.addRequest (s : State) (o : OdlOut) : State := { s with odl := { s.odl with outs := s.odl.outs ++ [o] } }

/-- Requester `req` makes read requests for the `n` bytes from device address `a` of a neighbour window, as R144 sizes and aligns
them (R541). -/
def State.askLines (s : State) (req part a n : Nat) (owner : Option (Nat × Nat)) : State :=
  match s.space a with
  | .neighbour p o =>
    match s.routePort p with
    | some port =>
      ((requestsOf o n).foldl (fun t g => t.addRequest
        { port := port, tag := none, pos := p, write := false, addr := g.1, lines := g.2, part := part, data := [],
          mask := [], got := [], again := false, owner := owner, req := req, wanted := true }) s).takeTags
    | none => s
  | _ => s

/-- Requester `req` makes write requests for bytes at device address `a` of a neighbour window, as R144 sizes and aligns them, four
lines to a flit (R541, R542). -/
def State.sendLines (s : State) (req part a : Nat) (l : List Byte) (owner : Option (Nat × Nat)) : State :=
  match s.space a with
  | .neighbour p o =>
    match s.routePort p with
    | some port =>
      (((requestsOf o l.length).flatMap (fun g => byFour g.1 g.2)).foldl (fun t g =>
        let bytes := (List.range (64 * g.2)).map (fun i => if o ≤ g.1 + i then l.getD (g.1 + i - o) 0 else 0)
        t.addRequest
          { port := port, tag := none, pos := p, write := true, addr := g.1, lines := g.2, part := part, data := bytes,
            mask := (List.range g.2).map (fun j => lineMask o l.length (g.1 + 64 * j)), got := [], again := false,
            owner := owner, req := req, wanted := true }) s).takeTags
    | none => s
  | _ => s

/-- Requester `req` writes bytes at a device address for partition `part`: a neighbour window's go out as WR flits; all others land,
and their requests join the ports they meet. -/
def State.put (s : State) (req part a : Nat) (l : List Byte) (owner : Option (Nat × Nat) := none) : State :=
  if s.isNeighbour a then s.sendLines req part a l owner else (s.store a l).traffic req part true a l.length

/-- An engine's write for partition `part`: one that its regions refuse is not made (R266). -/
def State.putIf (s : State) (req part a : Nat) (l : List Byte) : State :=
  if s.memOk part a l.length true then s.put req part a l else s

/-- `n` bytes that an engine reads for partition `part`: free values where its regions refuse it (R266). -/
def State.readFor (s : State) (req part a n : Nat) : List Byte × State :=
  if s.memOk part a n false then (s.fetch a n, s.traffic req part false a n) else s.freeBytes n

/-- The requests of an access that is made if `ok`. -/
def State.trafficIf (s : State) (ok : Bool) (port part : Nat) (write : Bool) (a n : Nat) : State :=
  if ok then s.traffic port part write a n else s

/-- A request of the command with slot SEQ `seq` on tile `t` is outstanding. -/
def State.remoteBusy (s : State) (t seq : Nat) : Bool := s.odl.outs.any (fun o => o.owner == some (t, seq))

/-- A command of tile `t` fails at run time: a record with `status` is written, the source is raised, and its context is
torn down, which kills the window without re-run (R163, R169, R185, R221). -/
def State.failCommand (s : State) (c : Nat) (cmd : Cmd) (status source : Nat) : State :=
  ((s.record c cmd status 0).raise source [c] status).endContext c status

/-- A command whose request to a neighbour window failed ends with DESC_REGION (R280, R553). -/
def State.failOwner (s : State) (owner : Option (Nat × Nat)) : State :=
  match owner with
  | none => s
  | some (t, seq) =>
    match (s.tile t).ctx, (s.tile t).window.find? (fun e => e.cmd.seq == seq) with
    | some c, some e => s.failCommand c e.cmd 0x07 (FS.TILE_DESC t)
    | _, _ => s

end Sys2Proof.Machine
end

