-- ==== Sys2Proof/Machine/Execute.lean ====
section
/-! DEFINITION. The execution of a command on its unit (chapters 04, 05 and 06): what it reads, ECC errors it meets
(R139, R140), its outputs as the commit window holds them until the commit, the matrix unit with its checksum column
(R108–R111, R118–R121, R170–R173) and the vector unit (R112, R113, R174, R669). -/

namespace Sys2Proof.Machine

/-! ## Results -/

/-- What a command's work found, to be held in its window entry. -/
structure Done where
  verdict : Verdict := .passed
  outs : List (Nat × List Byte) := []
  writes : List (Nat × List Byte) := []
  post : List PostEffect := []
  flags : Nat := 0
  undo : List KvUndo := []
deriving DecidableEq, Repr

/-! ## Packed elements (R92) -/

/-- Element `i` of format `f` in packed bytes. -/
def elemBits (f : Nat) (l : List Byte) (i : Nat) : Nat :=
  if fmtBits f = 4 then bits (byteAt l (i / 2)) (4 * (i % 2) + 3) (4 * (i % 2))
  else leField l (i * (fmtBits f / 8)) (fmtBits f / 8)

/-- Elements packed into bytes; an element alone in its byte leaves the other half open. -/
def packElems (f : Nat) (l : List Nat) : List Byte :=
  if fmtBits f = 4 then
    (List.range (ceilDiv l.length 2)).map (fun i =>
      BitVec.ofNat 8 (l.getD (2 * i) 0 % 16 + 16 * ((l.getD (2 * i + 1) Config.loneNibble) % 16)))
  else l.flatMap (leBytes (fmtBits f / 8))

/-- The value of element `i`, with its block scale byte if it has one (R98). -/
def elemVal (f : Nat) (l : List Byte) (i : Nat) (scale : Option Nat) : Num :=
  match scale with
  | some k => scaledElem f (elemBits f l i) k
  | none => decodeElem f (elemBits f l i)

/-- The integer of an integer format's value. -/
def Num.toInt : Num → Int
  | .fin n m _ => if n then -(m : Int) else m
  | _ => 0

/-! ## What a command reads of its tile (R139, R140) -/

/-- Index `r` of the index list of command `c`, at the body's offset `o`. -/
def State.index (s : State) (t o r : Nat) : Nat := leNat (s.local t (o + 4 * r) 4)

/-- The index that names no row (R169, R173). -/
def noRow : Nat := 0xFFFFFFFF

/-- Tile-local byte ranges that command `c` reads on tile `t`. -/
def State.reads (s : State) (t : Nat) (c : Cmd) : List (Nat × Nat) :=
  let ins := ((s.regions t c).filter (fun r => !r.out)).map (fun r => (r.lo, r.len))
  let rows (n : Nat) : List (Nat × Nat) := (List.range n).map (fun r => (c.loc 0x18 + r * c.word 0x28, c.word 0x20))
  match c.op with
  | 0x02 => rows (c.word 0x1C)
  | 0x04 => (c.loc 0x2C, 4 * c.word 0x1C) :: rows (c.word 0x1C)
  | 0x12 =>
    let m := c.word 0x20
    let k := c.word 0x28
    let idx := ((List.range m).map (fun i => s.index t (c.loc 0x38) i)).filter (fun j => j != noRow)
    let rb := fmtBytes (c.f 0x10 27 24) k
    idx.map (fun j => (c.loc 0x10 + j * rb, rb)) ++
      (if c.flag 0x10 28 then idx.map (fun j => (c.loc 0x2C + j * (k / 32), k / 32)) else []) ++
      ins.filter (fun p => p != (c.loc 0x10, max 1 (0x600000 - c.loc 0x10)) &&
        (!c.flag 0x10 28 || p != (c.loc 0x2C, max 1 (0x600000 - c.loc 0x2C))))
  | 0x28 =>
    if s.stmW c.stream = 0 ∧ s.residentOn c.stream t then
      s.stmPieces c.stream (s.getF (Reg.STM_HOME_BANK_SEL c.stream)) ++ ins
    else ins
  | _ => ins

/-- The device address of an ECC error that a read by tile `t` finds: an error of its own memories lies in its window. -/
def eccAddr (t : Nat) (e : EccError) : Nat := if e.mem then e.offset else sramAddr t e.offset

/-- The source of an ECC error at device address `a`: the tile whose memory holds it, the system cache where that holds the line, else
the memory's controller (R139, R140, R143, R263, R520, R574). -/
def State.memSource (s : State) (a : Nat) (double : Bool) : Option Nat :=
  let i := bits a 13 12
  let cache := if double then FS.SC_UE i else FS.SC_CE i
  match s.space a with
  | .dram o =>
    if !s.inLpd o then
      let h := Config.addressHash 0 (o / 64) % 4
      some (if double then FS.HBM_UE h else FS.HBM_CE h)
    else if (Sparse.get (fun _ => {}) s.tier.cache (o / 64)).valid then some cache
    else some (if double then FS.LPC_UE i else FS.LPC_CE i)
  | .scratch _ => some cache
  | .sram u o =>
    some (if 0x600000 ≤ o then (if double then FS.TILE_ACC_UE u else FS.TILE_ACC_CE u)
      else (if double then FS.TILE_SP_UE u else FS.TILE_SP_CE u))
  | _ => none

/-- An uncorrectable 64-bit word of a tile's memory is known (R140). -/
def State.noteUe (s : State) (a : Nat) : State :=
  let w := a / 8 * 8
  if s.ue.contains w then s else { s with ue := w :: s.ue }

/-- An ECC error in tile `u`'s memories is counted, and an uncorrectable word noted (R139, R140, R143). -/
def State.eccCount (s : State) (u o a : Nat) (double : Bool) : State :=
  let acc := decide (0x600000 ≤ o)
  if double then (s.satInc (if acc then Reg.TILE_ECC_CNT_ACC_UE u else Reg.TILE_ECC_CNT_SP_UE u)).noteUe a
  else s.satInc (if acc then Reg.TILE_ECC_CNT_ACC_CE u else Reg.TILE_ECC_CNT_SP_CE u)

/-- One ECC error that a read by tile `t`, or through the address map, finds: raised by the memory's source, a tile's memory's with
the contexts involved (R139, R140, R143, R520, R574, R589). -/
def State.eccFound (s : State) (t : Nat) (ctxs : List Nat) (e : EccError) : State :=
  let a := eccAddr t e
  match s.space a, s.memSource a e.double with
  | .sram u o, some n => (s.eccCount u o a e.double).raise n ctxs (if e.double then 0x11 else 0x24)
  | _, some n => s.raise n
  | _, none => s

/-- The ECC errors that reads of the device addresses `rs` meet: those reported within them, and the uncorrectable words of tile
memories already there. -/
def State.eccIn (s : State) (t : Nat) (rs : List (Nat × Nat)) (ecc : List EccError) : List EccError :=
  let inside (a : Nat) : Bool := rs.any (fun r => meets r.1 r.2 (a / 8 * 8) 8)
  let old := s.ue.filter inside
  old.map (fun w => (⟨w, true, true⟩ : EccError)) ++ ecc.filter (fun e =>
    inside (eccAddr t e) && (s.memSource (eccAddr t e) e.double).isSome && !old.contains (eccAddr t e / 8 * 8))

/-- The 64-bit words that the `n` bytes from `a` touch. -/
def codeWords (a n : Nat) : List Nat := if n = 0 then [] else (List.range ((a + n - 1) / 8 - a / 8 + 1)).map (fun i => (a / 8 + i) * 8)

/-- The errors that reads of the device addresses `rs` by no command meet, beside the words already known to be uncorrectable: a free
value says of each 64-bit word whether it holds one, and which. -/
def State.freeErrors (s : State) (rs : List (Nat × Nat)) : List EccError × State :=
  let ws := rs.flatMap (fun r => codeWords r.1 r.2)
  let (v, s1) := s.free (2 * ws.length)
  (ws.zipIdx.filterMap (fun x => if bit v (2 * x.2) then some ⟨x.1, bit v (2 * x.2 + 1), true⟩ else none), s1)

/-- Reads by no command, of the device addresses `rs`, find ECC errors: they are raised and carry no context. -/
def State.readsFind (s : State) (rs : List (Nat × Nat)) : State :=
  let (l, s1) := s.freeErrors rs
  (s.eccIn 0 rs l).foldl (fun u e => u.eccFound 0 [] e) s1

/-- The ECC errors that the reads of a command on tile `t` meet, of its tile and, `far`, of the address map. -/
def State.eccMet (s : State) (t : Nat) (cmd : Cmd) (far : List (Nat × Nat)) (ecc : List EccError) : List EccError :=
  s.eccIn t ((s.reads t cmd).map (fun r => (sramAddr t r.1, r.2)) ++ far.map (fun r => (s.canon r.1, r.2))) ecc

/-- A command of context `c` on tile `t` makes its reads: the requests of those that it may make join the memory ports, and the errors
that they meet are counted and raised. -/
def State.reading (s : State) (t c : Nat) (cmd : Cmd) (far : List (Nat × Nat)) (ecc : List EccError) : State :=
  (s.eccMet t cmd far ecc).foldl (fun u x => u.eccFound t [c] x)
    (s.trafficAll t (s.ctx c).part false (far.filter (fun r => s.memOk (s.ctx c).part r.1 r.2 false)))

/-! ## Running an entry -/

/-- Tile `t`'s units work: it is RUNNING, carries out no kill, and is in no test slot. -/
def State.tileWorks (s : State) (t : Nat) : Bool :=
  s.isRunning (tilePage t) && !(s.tile t).killing && !(s.tile t).inSlot && !s.fenced t

/-- No older command of the window conflicts with entry `i` (R177, R206, R243). -/
def State.free? (s : State) (t i : Nat) : Bool :=
  let w := (s.tile t).window
  match w[i]? with
  | some e => (w.take i).all (fun o => !s.conflicts t e.cmd o.cmd)
  | none => false

/-- The memory rows that LOAD and GATHER read. -/
def State.rowReads (s : State) (t : Nat) (c : Cmd) : List (Nat × Nat) :=
  match c.op with
  | 0x01 => (List.range (c.word 0x1C)).map (fun r => (c.mem + r * c.word 0x24, c.word 0x20))
  | 0x03 =>
    ((List.range (c.word 0x1C)).filter (fun r => s.index t (c.loc 0x2C) r != noRow)).map
      (fun r => (c.mem + s.index t (c.loc 0x2C) r * c.word 0x24, c.word 0x20))
  | _ => []

/-- The window entry with a command's results. -/
def WEntry.done (e : WEntry) (d : Done) : WEntry :=
  { e with finished := true, verdict := d.verdict, outs := d.outs, writes := d.writes, post := d.post, flags := d.flags,
           undo := d.undo }

/-- TILE_STATUS names the command on the matrix unit; of the `n` requests that a command's moves make, at most 256 at once, some number
may be a new peak of the access engine (R144). -/
def State.noteWork (s : State) (t c n : Nat) (cmd : Cmd) : State :=
  if usesMatrix cmd.op then
    (s.putF (Reg.TILE_STATUS_CUR_CTX t) c).putF (Reg.TILE_STATUS_CUR_PART t) (s.ctx c).part
  else if isMove cmd.op && n != 0 then
    let (v, s1) := s.free 8
    s1.putF (Reg.TILE_OUTSTANDING_PEAK t) (max (s1.getF (Reg.TILE_OUTSTANDING_PEAK t)) (1 + v % min 256 n))
  else s

/-- The requests that accesses to address ranges make (R144). -/
def requestCount (l : List (Nat × Nat)) : Nat := l.foldl (fun n r => n + (requestsOf r.1 r.2).length) 0

/-- Entry `i` of tile `t`'s window holds a command of context `c` that `ok` admits, not yet finished and free to work. -/
def State.runnable (s : State) (t i : Nat) (ok : Cmd → Bool) : Option (Nat × WEntry) :=
  match (s.tile t).ctx, (s.tile t).window[i]? with
  | some c, some e => if ok e.cmd && !e.finished && s.tileWorks t && s.free? t i then some (c, e) else none
  | _, _ => none

/-- Replace entry `i` of tile `t`'s window. -/
def State.setEntry (s : State) (t i : Nat) (e : WEntry) : State :=
  s.setTile t { s.tile t with window := (s.tile t).window.set i e }

/-- The work of a command whose reads found no uncorrectable error. A failure at run time ends it; else its results wait
in the window, the requests of its writes go out, and any bytes of those writes may land before the commit (R179). -/
def State.finish (s : State) (t i c : Nat) (e : WEntry) (r : Done × State) : State :=
  match r.1.verdict with
  | .region => (r.1.undo.foldl State.kvUndo r.2).failCommand c e.cmd 0x07 (FS.TILE_DESC t)
  | .kv code =>
    (r.1.undo.foldl State.kvUndo r.2).failCommand c e.cmd code
      (if code = 0x13 then FS.KVP_REFSAT else if code = 0x14 then FS.KVP_NOFRAME else FS.KVP_LINK)
  | _ =>
    let ws := r.1.writes.map (fun w => (w.1, w.2.length))
    let s1 := ((r.2.setEntry t i (e.done r.1)).noteWork t c (requestCount (s.rowReads t e.cmd ++ ws)) e.cmd).trafficAll t
      (s.ctx c).part true ws
    let s2 := r.1.writes.foldl State.landSome s1
    (r.1.writes.filter (fun w => s2.isNeighbour w.1)).foldl
      (fun u w => u.sendLines t (s.ctx c).part w.1 w.2 (some (t, e.cmd.seq))) s2

/-- Entry `i` of tile `t`'s window works on its unit (R177): reads of neighbour windows, which `reads` names, go out
first, and what they bring may name more; an uncorrectable error ends the command and its context (R140); else `f` computes its results. -/
def State.executeFar (s : State) (t i : Nat) (ok : Cmd → Bool) (ecc : List EccError)
    (reads : State → Cmd → List (Nat × Nat)) (f : State → Nat → Cmd → Done × State) : State :=
  match s.runnable t i ok with
  | none => s
  | some (c, e) =>
    let rs := reads s e.cmd
    let far := rs.filter (fun r => s.isNeighbour r.1)
    if !far.all (fun r => s.mapped r.1) then s.failCommand c e.cmd 0x07 (FS.TILE_DESC t)
    else if s.remoteBusy t e.cmd.seq then s
    else if !far.all (fun r => e.asked.contains r) then
      (far.filter (fun r => !e.asked.contains r)).foldl
        (fun u r => u.askLines t (s.ctx c).part r.1 r.2 (some (t, e.cmd.seq))) (s.setEntry t i { e with asked := e.asked ++ far })
    else
      if (s.eccMet t e.cmd rs ecc).any (fun x => x.double) then
        ((s.record c e.cmd 0x11 0).reading t c e.cmd rs ecc).endContext c 0x11
      else
        let s1 := s.reading t c e.cmd rs ecc
        s1.finish t i c e (f s1 c e.cmd)

/-- Entry `i` of tile `t`'s window works on its unit, reading the tile's memory only or the memory of R168's rows. -/
def State.execute (s : State) (t i : Nat) (ok : Cmd → Bool) (ecc : List EccError)
    (f : State → Nat → Cmd → Done × State) : State :=
  s.executeFar t i ok ecc (fun u c => u.rowReads t c) f

/-- The command has opcode `op`. -/
def hasOp (op : Nat) (c : Cmd) : Bool := c.op == op

/-! ## Data movement (R168, R169) -/

/-- The bytes of a memory row and of a tile-local row of a command. -/
def Cmd.memRow (c : Cmd) (r : Nat) : Nat := c.mem + r * c.word 0x24

/-- Tile-local offset of row `r`. -/
def Cmd.locRow (c : Cmd) (r : Nat) : Nat := c.loc 0x18 + r * c.word 0x28

/-- LOAD. -/
def runLoad (s : State) (c : Cmd) : Done :=
  { outs := (List.range (c.word 0x1C)).map (fun r => (c.locRow r, s.fetch (c.memRow r) (c.word 0x20))) }

/-- STORE. -/
def runStore (s : State) (t : Nat) (c : Cmd) : Done :=
  { writes := (List.range (c.word 0x1C)).map (fun r => (c.memRow r, s.local t (c.locRow r) (c.word 0x20))) }

/-- An indexed row may be reached at run time (R169). -/
def State.rowOk (s : State) (p t a n : Nat) (write : Bool) : Bool := s.memRegionOk p t ⟨a, n, write⟩

/-- GATHER. -/
def runGather (s : State) (p t : Nat) (c : Cmd) : Done :=
  let rb := c.word 0x20
  let rows := (List.range (c.word 0x1C)).map (fun r => (r, s.index t (c.loc 0x2C) r))
  if rows.all (fun q => q.2 == noRow || s.rowOk p t (c.memRow q.2) rb false) then
    { outs := rows.map (fun q =>
        (c.locRow q.1, if q.2 = noRow then List.replicate rb 0 else s.fetch (c.memRow q.2) rb)) }
  else { verdict := .region }

/-- SCATTER: a later row of one index stands. -/
def runScatter (s : State) (p t : Nat) (c : Cmd) : Done :=
  let rb := c.word 0x20
  let rows := ((List.range (c.word 0x1C)).map (fun r => (r, s.index t (c.loc 0x2C) r))).filter (fun q => q.2 != noRow)
  if rows.all (fun q => s.rowOk p t (c.memRow q.2) rb true) then
    { writes := rows.map (fun q => (c.memRow q.2, s.local t (c.locRow q.1) rb)) }
  else { verdict := .region }

/-- The rows of a SCATTER before the first that may not be reached: their writes were issued and may have landed (R169,
R183). -/
def scatterIssued (s : State) (p t : Nat) (c : Cmd) : List (Nat × List Byte) :=
  let rb := c.word 0x20
  let rows := ((List.range (c.word 0x1C)).map (fun r => (r, s.index t (c.loc 0x2C) r))).filter (fun q => q.2 != noRow)
  (rows.takeWhile (fun q => s.rowOk p t (c.memRow q.2) rb true)).map (fun q => (c.memRow q.2, s.local t (c.locRow q.1) rb))

/-- FILL. -/
def runFill (c : Cmd) : Done :=
  let pat := (List.range (c.word 0x20 / 4)).flatMap (fun _ => leBytes 4 (c.word 0x2C))
  let rows := List.range (c.word 0x1C)
  if c.flag 0x18 31 then { outs := rows.map (fun r => (c.locRow r, pat)) }
  else { writes := rows.map (fun r => (c.memRow r, pat)) }

/-! ## Products and their checksum (R108–R111, R118–R121) -/

/-- A product of the matrix unit: M rows of A by the columns of the weights, over K; each accumulator's start, if the
command adds into accumulators (R171). -/
structure Product where
  int : Bool
  /-- Width of an accumulator in bits (R108). -/
  width : Nat
  m : Nat
  n : Nat
  k : Nat
  /-- Row `i` of A. -/
  a : Nat → List Num
  /-- Weight of reduction index `k` in column `j`. -/
  b : Nat → Nat → Num
  /-- The accumulator word from which row `i`, column `j` starts. -/
  start : Option (Nat → Nat → Nat)
  ckabs : Num

/-- Columns of stripe `st` below N. -/
def Product.cols (p : Product) (st : Nat) : List Nat := (List.range (min 128 (p.n - 128 * st))).map (fun j => 128 * st + j)

/-- The accumulator word from which an output starts, zero without an accumulator input. -/
def Product.from (p : Product) (i j : Nat) : Nat := match p.start with | some f => f i j | none => 0

/-- The weights of column `j` in reduction order. -/
def Product.column (p : Product) (j : Nat) : List Num := (List.range p.k).map (fun k => p.b k j)

/-- One output: the accumulator word and its flags (R109–R111). -/
def Product.output (p : Product) (i j : Nat) : Nat × Nat :=
  if p.int then
    (dotInt p.width (signed p.width (p.from i j)) ((p.a i).map Num.toInt) ((p.column j).map Num.toInt), 0)
  else
    let (r, g) := dotAcc (f32 (p.from i j)) (p.a i) (p.column j)
    (toF32 r, g)

/-- An FP32 sum in increasing column order (R118). -/
def sumCols (l : List Num) : Num := l.foldl (fun a x => (fAdd a x).1) Num.zero

/-- `d > t` as R120 compares them: false if one is NaN. -/
def numAbove (d t : Num) : Bool :=
  match d, t with
  | .nan, _ => false
  | _, .nan => false
  | .inf n, .inf m => !n && m
  | .inf n, _ => !n
  | _, .inf m => m
  | x, y => !x.le y

/-- The verdict of an integer row (R119): everything modulo 2^32. -/
def Product.passInt (p : Product) (i st : Nat) (outs : List Nat) : Bool :=
  let js := p.cols st
  let starts : Int := js.foldl (fun (a : Int) j => a + (p.from i j : Nat)) 0
  let cw (k : Nat) : Int := js.foldl (fun (a : Int) j => a + (p.b k j).toInt) 0
  let ck := ((p.a i).zip (List.range p.k)).foldl (fun v q => v + q.1.toInt * cw q.2) starts
  let rs : Int := outs.foldl (fun (a : Int) (o : Nat) => a + o) 0
  (rs - ck) % (2 ^ 32 : Int) == 0

/-- The verdict of a floating row (R118, R120); the difference and the threshold are compared exactly. -/
def Product.passFloat (p : Product) (i st : Nat) (outs : List Nat) : Bool :=
  let js := p.cols st
  let starts := js.map (fun j => f32 (p.from i j))
  let cw := (List.range p.k).map (fun k => sumCols (js.map (fun j => p.b k j)))
  let mw := (List.range p.k).map (fun k => sumCols (js.map (fun j => (p.b k j).abs)))
  let ck := (dotAcc (sumCols starts) (p.a i) cw).1
  let mag := (dotAcc (sumCols (starts.map Num.abs)) ((p.a i).map Num.abs) mw).1
  let d := ((sumCols (outs.map f32)).add ck.opp).1.abs
  let t := ((mag.scale (-14)).add p.ckabs).1
  !(numAbove d t || (d.isNan && ck.isFin && mag.isFin))

/-- One row of one stripe: its accumulator words, its flags, and whether it passes. -/
def Product.row (p : Product) (upset : Upset) (i st : Nat) : List Nat × Nat × Bool :=
  let rs := (p.cols st).map (fun j =>
    let (w, g) := p.output i j
    match upset with
    | .flip r c b => if r = i ∧ c = j then (w ^^^ 2 ^ (b % p.width), g) else (w, g)
    | .none => (w, g))
  let ws := rs.map (fun q => q.1)
  (ws, rs.foldl (fun f q => f ||| q.2) 0, if p.int then p.passInt i st ws else p.passFloat i st ws)

/-- Every row of every stripe: (row, stripe) and the row's result. -/
def Product.rows (p : Product) (upset : Upset) : List (Nat × Nat × (List Nat × Nat × Bool)) :=
  (List.range p.m).flatMap (fun i => (List.range (ceilDiv p.n 128)).map (fun st => (i, st, p.row upset i st)))

/-! ## Matrix commands (R170–R173) -/

/-- The scale byte of block `k / 32` in scale row `r` of A; none without a block scale. -/
def State.scaleA (s : State) (t : Nat) (c : Cmd) (r k : Nat) : Option Nat :=
  if c.flag 0x10 28 then some (byteAt (s.local t (c.loc 0x2C + r * (c.word 0x28 / 32) + k / 32) 1) 0) else none

/-- Element `e` of A's region, with a scale byte. -/
def State.elemA (s : State) (t : Nat) (c : Cmd) (e : Nat) (scale : Option Nat) : Num :=
  let f := c.f 0x10 27 24
  let o := c.loc 0x10 + e * fmtBits f / 8
  elemVal f (s.local t o (max 1 (fmtBits f / 8))) (if fmtBits f = 4 then e % 2 else 0) scale

/-- A zero of A, under a block scale if there is one: an element of a block with scale 255 is NaN (R98). -/
def zeroA (f : Nat) (scale : Option Nat) : Num := elemVal f (List.replicate 4 0) 0 scale

/-- Row `i` of A in GEMM (R170). -/
def State.rowGemm (s : State) (t : Nat) (c : Cmd) (i : Nat) : List Num :=
  (List.range (c.word 0x28)).map (fun k => s.elemA t c (i * c.word 0x28 + k) (s.scaleA t c i k))

/-- Row `i` of A in CONV: K runs over (kh, kw, c) with c fastest; padding reads zero (R172). -/
def State.rowConv (s : State) (t : Nat) (c : Cmd) (i : Nat) : List Num :=
  let g := s.geometry t c
  let per := max 1 (g.oh * g.ow)
  let b := i / per
  let oy := i % per / max 1 g.ow
  let ox := i % max 1 g.ow
  (List.range (c.word 0x28)).map (fun k =>
    let ch := k % max 1 g.c
    let kx := k / max 1 g.c % max 1 g.kw
    let ky := k / max 1 g.c / max 1 g.kw
    let y : Int := oy * g.sh + ky * g.dh - (g.pt : Int)
    let x : Int := ox * g.sw + kx * g.dw - (g.pl : Int)
    if 0 ≤ y ∧ y < g.h ∧ 0 ≤ x ∧ x < g.w then
      s.elemA t c (((b * g.h + y.toNat) * g.w + x.toNat) * g.c + ch) (s.scaleA t c i k)
    else zeroA (c.f 0x10 27 24) (s.scaleA t c i k))

/-- Row `i` of A in GATHER_GEMM: a row of the row table, its scales with it; a zero row uses none (R173). -/
def State.rowTable (s : State) (t : Nat) (c : Cmd) (i : Nat) : List Num :=
  let j := s.index t (c.loc 0x38) i
  (List.range (c.word 0x28)).map (fun k =>
    if j = noRow then zeroA (c.f 0x10 27 24) none
    else s.elemA t c (j * c.word 0x28 + k) (s.scaleA t c j k))

/-- Weight (k, j): stripes of K rows of 128 elements, with a scale byte per 32 rows and column (R170). -/
def State.weight (s : State) (t : Nat) (c : Cmd) (k j : Nat) : Num :=
  let f := c.f 0x14 27 24
  let kk := c.word 0x28
  let e := (j / 128 * kk + k) * 128 + j % 128
  let scale := if c.flag 0x14 28 then
      some (byteAt (s.local t (c.loc 0x30 + (j / 128 * (kk / 32) + k / 32) * 128 + j % 128) 1) 0) else none
  elemVal f (s.local t (c.loc 0x14 + e * fmtBits f / 8) (max 1 (fmtBits f / 8))) (if fmtBits f = 4 then e % 2 else 0) scale

/-- Tile-local offset of accumulator (i, j) of the region at `o` (R170). -/
def accOffset (c : Cmd) (o i j : Nat) : Nat :=
  o + (i * (ceilDiv (c.word 0x24) 128 * 128) + j) * accBytes (c.f 0x10 27 24)

/-- The product that a matrix command forms. -/
def State.matrixProduct (s : State) (t : Nat) (c : Cmd) (row : Nat → List Num) : Product :=
  let ab := accBytes (c.f 0x10 27 24)
  { int := fmtInt (c.f 0x10 27 24), width := 8 * ab, m := c.word 0x20, n := c.word 0x24, k := c.word 0x28, a := row,
    b := s.weight t c,
    start := if c.flag 0x1C 31 then some (fun i j => leNat (s.local t (accOffset c (c.loc 0x1C) i j) ab)) else none,
    ckabs := f32 (c.word 0x34) }

/-- A matrix command's results: accumulators of the columns below N, flags, and the verdict of its rows (R125–R127). -/
def runMatrix (c : Cmd) (p : Product) (upset : Upset) : Done :=
  let rows := p.rows upset
  { verdict := if rows.all (fun q => q.2.2.2.2) then .passed else .checksum
    outs := rows.map (fun q => (accOffset c (c.loc 0x18) q.1 (128 * q.2.1), q.2.2.1.flatMap (leBytes (p.width / 8))))
    flags := rows.foldl (fun f q => f ||| q.2.2.2.1) 0 }

/-- A row of the table or its scales lies beyond the scratchpad (R173). -/
def State.tableRowsOk (s : State) (t : Nat) (c : Cmd) : Bool :=
  let k := c.word 0x28
  let rb := fmtBytes (c.f 0x10 27 24) k
  (List.range (c.word 0x20)).all (fun i =>
    let j := s.index t (c.loc 0x38) i
    j == noRow || (decide (c.loc 0x10 + (j + 1) * rb ≤ 0x600000) &&
      (!c.flag 0x10 28 || decide (c.loc 0x2C + (j + 1) * (k / 32) ≤ 0x600000))))

/-! ## Vector commands (R174, R669) -/

/-- The value of an input element as it enters FP32 (R112). A block-scaled value beyond FP32 rounds to infinity and sets INFINITE
(DESIGN CHOICE, log entry 153): R102 calls the entry exact. -/
def entered (x : Num) : Num × Nat := x.round

/-- Element (r, j) of a vector operand at offset `o` in format `f`, with scales at `sc` if it is block-scaled. -/
def State.vecElem (s : State) (t o f cols : Nat) (sc : Option Nat) (r j : Nat) : Num × Nat :=
  let stride := up64 (fmtBytes f cols)
  let scale := sc.map (fun b => byteAt (s.local t (b + (r * cols + j) / 32) 1) 0)
  entered (elemVal f (s.local t (o + r * stride + j * fmtBits f / 8) (max 1 (fmtBits f / 8)))
    (if fmtBits f = 4 then j % 2 else 0) scale)

/-- A result that converts into format `f`: its bits and the flags of its last operation and of the conversion, by what is
delivered (R101, R103, R112). -/
def deliver (f mode : Nat) (sat : Bool) (r : Num × Nat) : Nat × Nat :=
  let (w, g) := encodeElem f mode sat r.1
  if r.1.isInf then (w, deliveredFlags r.2 g (!fmtInt f && (floatFmt f).hasInf && w == (floatFmt f).infBits r.1.neg))
  else (w, r.2 ||| g)

/-- One element of ELTWISE (R174). -/
def eltwiseOp (n : Nat) (imm imm2 x y : Num) : Num × Nat :=
  if n = 0x01 then fAdd x y
  else if n = 0x02 then fSub x y
  else if n = 0x03 then fMul x y
  else if n = 0x04 then (fMax x y, 0)
  else if n = 0x05 then (fMin x y, 0)
  else if n = 0x06 then fFma x imm imm2
  else if n = 0x07 then (fMax x Num.zero, 0)
  else if n = 0x08 then fRecip x
  else if n = 0x09 then fSqrt x
  else if n = 0x0A then fRsqrt x
  else if n = 0x0B ∨ n = 0x0C then fExp n x
  else if n = 0x0D ∨ n = 0x0E then fLog n x
  else if n = 0x0F ∨ n = 0x10 ∨ n = 0x11 then fLimit n x
  else if n = 0x12 ∨ n = 0x13 then fTrig n x
  else (x, 0)

/-- The row length as FP32 value. -/
def rowLength (l : List Num) : Num := Num.ofInt l.length

/-- A reduction's result; +0 stands for an empty row, which no command has. -/
def reducedRes (r : Option Res) : Res := r.getD { val := Num.zero }

/-- A reduction's value and its flags. -/
def reduced (r : Option Res) : Num × Nat := ((reducedRes r).val, (reducedRes r).flags)

/-- A value with the flags that came before added. -/
def withFlags (g : Nat) (r : Num × Nat) : Num × Nat := (r.1, g ||| r.2)

/-- One row of REDUCE (R669). -/
def reduceRow (n : Nat) (x : List Num) : Res :=
  let l := x.map some
  match n with
  | 0 => reducedRes (reduceSum l)
  | 1 => reducedRes (reduceMax l)
  | 2 => reducedRes (reduceMin l)
  | 3 => reducedRes (reduceSumSq l)
  | _ =>
    let (v, g) := reduced (reduceSum l)
    Res.after g (fDiv v (rowLength x))

/-- One row of SOFTMAX (R669). -/
def softmaxRow (imm : Num) (x : List Num) : List Res :=
  let t := x.map (fun v => fMul v imm)
  let m := (reducedRes (reduceMax (t.map (fun p => some p.1)))).val
  let e := t.map (fun p =>
    let (d, g) := fSub p.1 m
    withFlags (p.2 ||| g) (fExp 0x0B d))
  let (sum, gs) := reduced (reduceSum (e.map (fun p => some p.1)))
  let before := e.foldl (fun g p => g ||| p.2) gs
  e.map (fun p => Res.after before (fDiv p.1 sum))

/-- The scale of a normalised row: 1 / sqrt(mean square + epsilon), with flags. -/
def normScale (imm : Num) (d : List Num) : Num × Nat :=
  let (q, g0) := reduced (reduceSumSq (d.map some))
  let (ms, g1) := fDiv q (rowLength d)
  let (v, g2) := fAdd ms imm
  withFlags (g0 ||| g1 ||| g2) (fRsqrt v)

/-- One row of NORM: RMS 0, LAYER 1 (R669). -/
def normRow (n : Nat) (imm : Num) (x y : List Num) : List Res :=
  let (d, g0) :=
    if n = 0 then (x, 0)
    else
      let (sum, gs) := reduced (reduceSum (x.map some))
      let (mu, gm) := fDiv sum (rowLength x)
      let ds := x.map (fun v => fSub v mu)
      (ds.map (fun p => p.1), ds.foldl (fun g p => g ||| p.2) (gs ||| gm))
  let (r, g1) := normScale imm d
  (d.zip y).map (fun p =>
    let (a, g) := fMul p.1 r
    Res.after (g0 ||| g1 ||| g) (fMul a p.2))

/-- The FP32 results of one row of a vector command. -/
def vectorRow (op n : Nat) (imm imm2 : Num) (x y : List Num) : List Res :=
  match op with
  | 0x30 => (List.range x.length).map (fun j => Res.after 0 (eltwiseOp n imm imm2 (x.getD j Num.zero) (y.getD j Num.zero)))
  | 0x31 => [reduceRow n x]
  | 0x32 => softmaxRow imm x
  | 0x33 => normRow n imm x y
  | _ => x.map (fun v => Res.after 0 (fMul v imm))

/-- The bits of results in output format `f`, with their flags. -/
def deliverAll (f mode : Nat) (sat : Bool) (l : List Res) : List Nat × Nat :=
  let rs := l.map (fun p => deliver f mode sat (p.val, p.last))
  (rs.map (fun p => p.1), rs.foldl (fun g p => g ||| p.2) (l.foldl (fun g p => g ||| p.before) 0))

/-- The results of a block-scaled output, 32 at a time in row order (R105, R106): scale bytes, element bits, flags. An overflow of a
result's last operation is delivered as ±F or in a NaN block, so it sets no INFINITE (R101). -/
def deliverBlocks (f mode : Nat) (l : List Res) : List Nat × List Nat × Nat :=
  let blocks := (groupsOf 32 l.length l).map (fun b => quantBlock f mode (b.map (fun p => p.val)))
  (blocks.map (fun b => b.1), blocks.flatMap (fun b => b.2.1),
    blocks.foldl (fun g b => g ||| b.2.2) (l.foldl (fun g p => g ||| p.before ||| dropFlags p.last fInfinite) 0))

/-- A vector command's results. -/
def runVector (s : State) (t : Nat) (c : Cmd) : Done :=
  let rows := c.word 0x1C
  let cols := c.word 0x20
  let fz := c.f 0x18 27 24
  let mode := c.f 0x18 30 29
  let sat := c.flag 0x18 31
  let imm := f32 (c.word 0x30)
  let imm2 := f32 (c.word 0x34)
  let fy := c.f 0x14 27 24
  let yrows := if c.flag 0x14 30 then 1 else rows
  let ysc := if c.flag 0x14 28 then some (c.loc 0x14 + yrows * up64 (fmtBytes fy cols)) else none
  let xr (r : Nat) := (List.range cols).map
    (s.vecElem t (c.loc 0x10) (c.f 0x10 27 24) cols (if c.flag 0x10 28 then some (c.loc 0x28) else none) r)
  let yr (r : Nat) := if c.flag 0x14 31 then
      (List.range cols).map (s.vecElem t (c.loc 0x14) fy cols ysc (if c.flag 0x14 30 then 0 else r)) else []
  let fl (l : List (Num × Nat)) : Nat := l.foldl (fun g p => g ||| p.2) 0
  let results := (List.range rows).map (fun r =>
    vectorRow c.op (c.f 0x24 7 0) imm imm2 ((xr r).map (fun p => p.1)) ((yr r).map (fun p => p.1)))
  let inFlags := (List.range rows).foldl (fun g r => g ||| fl (xr r) ||| fl (yr r)) 0
  let zc := if c.op = 0x31 then 1 else cols
  let zstride := up64 (fmtBytes fz zc)
  if c.flag 0x18 28 then
    let (scales, codes, g) := deliverBlocks fz mode results.flatten
    { outs := (c.loc 0x2C, scales.map (BitVec.ofNat 8)) ::
        (List.range rows).map (fun r => (c.loc 0x18 + r * zstride, packElems fz ((codes.drop (r * zc)).take zc)))
      flags := inFlags ||| g }
  else
    let rs := results.map (deliverAll fz mode sat)
    { outs := (rs.zip (List.range rows)).map (fun q => (c.loc 0x18 + q.2 * zstride, packElems fz q.1.1))
      flags := rs.foldl (fun g q => g ||| q.2) inFlags }

/-! ## Commands -/

/-- NOP: no effect beyond its wait and signal (R175). -/
def execNop (tile entry : Nat) (s : State) : Host.Outcome State Fault Refusal :=
  whenLive (fun s => s.execute tile entry (hasOp 0x00) [] (fun u _ _ => ({}, u))) s

/-- LOAD (R168). -/
def execLoad (tile entry : Nat) (ecc : List EccError) (s : State) : Host.Outcome State Fault Refusal :=
  whenLive (fun s => s.execute tile entry (hasOp 0x01) ecc (fun u _ c => (runLoad u c, u))) s

/-- STORE (R168). -/
def execStore (tile entry : Nat) (ecc : List EccError) (s : State) : Host.Outcome State Fault Refusal :=
  whenLive (fun s => s.execute tile entry (hasOp 0x02) ecc (fun u _ c => (runStore u tile c, u))) s

/-- GATHER (R168, R169). -/
def execGather (tile entry : Nat) (ecc : List EccError) (s : State) : Host.Outcome State Fault Refusal :=
  whenLive (fun s => s.execute tile entry (hasOp 0x03) ecc (fun u x c => (runGather u (u.ctx x).part tile c, u))) s

/-- SCATTER (R168, R169): rows before a failing one may have landed. -/
def execScatter (tile entry : Nat) (ecc : List EccError) (s : State) : Host.Outcome State Fault Refusal :=
  whenLive (fun s =>
    let s1 := match s.runnable tile entry (hasOp 0x04) with
      | some (x, e) =>
        if (runScatter s (s.ctx x).part tile e.cmd).verdict == Verdict.region &&
            !(s.eccMet tile e.cmd (s.rowReads tile e.cmd) ecc).any (fun m => m.double) then
          (scatterIssued s (s.ctx x).part tile e.cmd).foldl State.landSome s
        else s
      | none => s
    s1.execute tile entry (hasOp 0x04) ecc (fun u x c => (runScatter u (u.ctx x).part tile c, u))) s

/-- FILL (R168). -/
def execFill (tile entry : Nat) (ecc : List EccError) (s : State) : Host.Outcome State Fault Refusal :=
  whenLive (fun s => s.execute tile entry (hasOp 0x05) ecc (fun u _ c => (runFill c, u))) s

/-- GEMM (R171). -/
def execGemm (tile entry : Nat) (upset : Upset) (ecc : List EccError) (s : State) : Host.Outcome State Fault Refusal :=
  whenLive (fun s => s.execute tile entry (hasOp 0x10) ecc
    (fun u _ c => (runMatrix c (u.matrixProduct tile c (u.rowGemm tile c)) upset, u))) s

/-- CONV (R172): the geometry block was written by a command that has committed by now, so it is checked here. -/
def execConv (tile entry : Nat) (upset : Upset) (ecc : List EccError) (s : State) : Host.Outcome State Fault Refusal :=
  whenLive (fun s =>
    match s.runnable tile entry (hasOp 0x11) with
    | some (x, e) =>
      match s.bodyCheck x tile e.cmd with
      | some status => s.failCommand x e.cmd status (FS.TILE_DESC tile)
      | none => s.execute tile entry (hasOp 0x11) ecc
          (fun u _ c => (runMatrix c (u.matrixProduct tile c (u.rowConv tile c)) upset, u))
    | none => s) s

/-- GATHER_GEMM (R173). -/
def execGatherGemm (tile entry : Nat) (upset : Upset) (ecc : List EccError) (s : State) : Host.Outcome State Fault Refusal :=
  whenLive (fun s => s.execute tile entry (hasOp 0x12) ecc
    (fun u _ c =>
      (if u.tableRowsOk tile c then runMatrix c (u.matrixProduct tile c (u.rowTable tile c)) upset
       else { verdict := .region }, u))) s

/-- ELTWISE (R174). -/
def execEltwise (tile entry : Nat) (ecc : List EccError) (s : State) : Host.Outcome State Fault Refusal :=
  whenLive (fun s => s.execute tile entry (hasOp 0x30) ecc (fun u _ c => (runVector u tile c, u))) s

/-- REDUCE (R669). -/
def execReduce (tile entry : Nat) (ecc : List EccError) (s : State) : Host.Outcome State Fault Refusal :=
  whenLive (fun s => s.execute tile entry (hasOp 0x31) ecc (fun u _ c => (runVector u tile c, u))) s

/-- SOFTMAX (R669). -/
def execSoftmax (tile entry : Nat) (ecc : List EccError) (s : State) : Host.Outcome State Fault Refusal :=
  whenLive (fun s => s.execute tile entry (hasOp 0x32) ecc (fun u _ c => (runVector u tile c, u))) s

/-- NORM (R669). -/
def execNorm (tile entry : Nat) (ecc : List EccError) (s : State) : Host.Outcome State Fault Refusal :=
  whenLive (fun s => s.execute tile entry (hasOp 0x33) ecc (fun u _ c => (runVector u tile c, u))) s

/-- QUANT (R174). -/
def execQuant (tile entry : Nat) (ecc : List EccError) (s : State) : Host.Outcome State Fault Refusal :=
  whenLive (fun s => s.execute tile entry (hasOp 0x34) ecc (fun u _ c => (runVector u tile c, u))) s

/-- DEQUANT (R174). -/
def execDequant (tile entry : Nat) (ecc : List EccError) (s : State) : Host.Outcome State Fault Refusal :=
  whenLive (fun s => s.execute tile entry (hasOp 0x35) ecc (fun u _ c => (runVector u tile c, u))) s

/-- PHASE: its commit requests the pre-grant (R609). -/
def execPhase (tile entry : Nat) (s : State) : Host.Outcome State Fault Refusal :=
  whenLive (fun s => s.execute tile entry (hasOp 0x3A) []
    (fun u _ c => ({ post := [.phase (c.f 0x10 5 0) (c.word 0x14)] }, u))) s

/-- FENCE: it finishes once it is the oldest of its window, whose older commands' writes are complete then (R175). -/
def execFence (tile entry : Nat) (s : State) : Host.Outcome State Fault Refusal :=
  whenLive (fun s => s.guard (entry == 0) (fun s => s.execute tile 0 (hasOp 0x3B) [] (fun u _ _ => ({}, u)))) s

end Sys2Proof.Machine
end

