-- ==== Sys2Proof/Machine/Attention.lean ====
section
/-! DEFINITION. Attention and the KV page store (chapter 07): ATTN_BLOCK, and APPEND, SHARE and RELEASE of KV_APPEND. -/

namespace Sys2Proof.Machine

/-! ## Links and pages (R213, R215) -/

/-- The committed copy of a link entry with its shared fields (R215, R216). -/
structure Link where
  addr : Nat
  sel : Bool
  v : Bool
  fill : Nat
  page : Nat
  base : Nat
  seg : Nat
deriving DecidableEq, Repr

/-- The link entry at an address. -/
def State.linkAt (s : State) (a : Nat) : Link :=
  let l := s.fetch a 16
  let sel := bit (leField l 12 4) 31
  let w := if sel then leField l 4 4 else leField l 0 4
  { addr := a, sel := sel, v := bit w 31, fill := bits w 26 20, page := bits w 19 0, base := bits (leField l 8 4) 23 0,
    seg := leField l 12 2 }

/-- Address of the copy that SEL does not name. -/
def Link.workAddr (l : Link) : Nat := if l.sel then l.addr else l.addr + 4

/-- The word that the commit writes: SEL flipped (R216). -/
def Link.flip (l : Link) (seg : Nat) : PostEffect := .link (l.addr + 12) (b2n (!l.sel) * 2 ^ 31 + seg)

/-- A link copy's word. -/
def linkWord (v : Bool) (fill page : Nat) : Nat := b2n v * 2 ^ 31 + fill * 2 ^ 20 + page

/-- The frame address of a page. -/
def State.pageFrame (s : State) (n : Nat) : Nat := bits (s.readNat (s.ptEntry n) 8) 47 0



/-- The HWM byte of a page: bit 7 SCALE_SET, bits 6:0 rows. -/
def State.pageHwm (s : State) (n : Nat) : Nat := (s.byte (s.ptEntry n + 10)).toNat

/-- The LAYOUT byte of a page: PFMT and D32. -/
def State.pageLayout (s : State) (n : Nat) : Nat := (s.byte (s.ptEntry n + 11)).toNat

/-- KSCALE (0) or VSCALE (1) of a page. -/
def State.pageScale (s : State) (n k : Nat) : Nat := s.readNat (s.ptEntry n + 12 + 2 * k) 2

/-- A page is IN_USE and of partition `p`. -/
def State.pageUsable (s : State) (p n : Nat) : Bool := s.pageState n == 3 && s.pagePart n == p

/-- Row bytes RB of a page of format `f` and head dimension `d` (R211). -/
def pageRow (f d : Nat) : Nat := up64 (fmtBytes f d)

/-- Offset in a frame of row `r` of keys (0) or values (1). -/
def frameRow (f d k r : Nat) : Nat := (64 * k + r) * pageRow f d

/-- Offset in a frame of the INT4 scale of block `b` of row `r` of keys or values. -/
def frameScale (f d k r b : Nat) : Nat := 128 * pageRow f d + ((64 * k + r) * (d / 32) + b) * 2

/-- Bytes of a page frame (R211). -/
def frameBytes (f d : Nat) : Nat := 128 * pageRow f d + (if f = 0 then 8 * d else 0)

/-- Element (r, j) of the keys or values of page `n`, dequantised exactly (R210, R224). -/
def State.pageElem (s : State) (n k r j : Nat) : Num :=
  let f := s.pageLayout n / 16
  let d := 32 * (s.pageLayout n % 16)
  let frame := s.pageFrame n
  let x := elemVal f (s.fetch (frame + frameRow f d k r + j * fmtBits f / 8) (max 1 (fmtBits f / 8)))
    (if fmtBits f = 4 then j % 2 else 0) none
  let scale : Option Nat :=
    if f = 0 then some (leNat (s.fetch (frame + frameScale f d k r (j / 32)) 2))
    else if f = 1 ∨ f = 5 then some (s.pageScale n k)
    else none
  match scale with
  | some w => (x.mul (fp16.decode w)).1
  | none => x

/-! ## ATTN_BLOCK (R197–R210) -/

/-- One key as ATTN_BLOCK sees it: whether it is present, its segment and position, and where its elements are. -/
structure Key where
  present : Bool
  seg : Nat
  pos : Nat
  /-- Page and row of a PAGES key; row of a SCRATCH key. -/
  page : Nat
  row : Nat
deriving DecidableEq, Repr

/-- Metadata entry `i` at tile-local offset `o`: SEG and POS. -/
def State.metaAt (s : State) (t o i : Nat) : Nat × Nat :=
  let w := leNat (s.local t (o + 8 * i) 8)
  (bits w 47 32, bits w 23 0)

/-- The SEG mark of padding. -/
def padMark : Nat := 0xFFFF

/-- The links of key block `b` (R198). -/
def State.blockLinks (s : State) (c : Cmd) (b : Nat) : List Link :=
  [s.linkAt (bits (c.long 0x18) 47 0 + 32 * b), s.linkAt (bits (c.long 0x18) 47 0 + 32 * b + 16)]

/-- Every link that the command uses. -/
def State.usedLinks (s : State) (c : Cmd) : List Link :=
  if c.scratchKeys then [] else (List.range (c.f 0x28 31 16)).flatMap (s.blockLinks c)

/-- Key `j` of block `b` (R198, R202). -/
def State.keyAt (s : State) (t : Nat) (c : Cmd) (b j : Nat) : Key :=
  if c.scratchKeys then
    let m := s.metaAt t (c.loc 0x1C) (128 * b + j)
    { present := true, seg := m.1, pos := m.2, page := 0, row := 128 * b + j }
  else
    let l := s.linkAt (bits (c.long 0x18) 47 0 + 32 * b + 16 * (j / 64))
    { present := l.v && decide (j % 64 < l.fill), seg := l.seg, pos := l.base + j % 64, page := l.page, row := j % 64 }

/-- Key `k` is allowed for a query (R202). -/
def allowed (c : Cmd) (q : Nat × Nat) (k : Key) : Bool :=
  k.present && q.1 != padMark && k.seg != padMark && (!c.flag 0x28 4 || k.seg == 0 || k.seg == q.1) &&
    (!c.flag 0x28 5 || decide (k.pos ≤ q.2))

/-- The least and greatest of a list that is not empty. -/
def rangeOf (l : List Nat) : Option (Nat × Nat) :=
  match l with
  | [] => none
  | x :: r => some (r.foldl min x, r.foldl max x)

/-- The block is skipped (R203). -/
def skipped (c : Cmd) (qs : List (Nat × Nat)) (ks : List Key) : Bool :=
  let keys := ks.filter (fun k => k.present && k.seg != padMark)
  let live := qs.filter (fun q => q.1 != padMark)
  match rangeOf (keys.map (fun k => k.seg)), rangeOf (live.map (fun q => q.1)) with
  | some (ka, kb), some (qa, qb) =>
    (c.flag 0x28 5 &&
        match rangeOf ((ks.filter (fun k => k.present)).map (fun k => k.pos)), rangeOf (live.map (fun q => q.2)) with
        | some (lo, _), some (_, hi) => decide (hi < lo)
        | _, _ => false) ||
      (c.flag 0x28 4 && !keys.any (fun k => k.seg == 0) && (decide (kb < qa) || decide (qb < ka)))
  | _, _ => true

/-- Element `j` of a key row (0) or value row (1), dequantised. -/
def State.keyElem (s : State) (t : Nat) (c : Cmd) (k : Key) (which j : Nat) : Num :=
  if c.scratchKeys then
    let f := c.f 0x38 27 24
    let o := c.loc 0x18 + (which * 128 * c.f 0x28 31 16 + k.row) * up64 (fmtBytes f c.headDim)
    decodeElem f (leNat (s.local t (o + j * (fmtBits f / 8)) (fmtBits f / 8)))
  else s.pageElem k.page which k.row j

/-- Round into FMT_Q, to nearest with ties to even (R200, R210). -/
def roundQ (c : Cmd) (x : Num) : Num × Nat :=
  let f := c.f 0x10 27 24
  let (w, g) := encodeElem f 0 (c.flag 0x2C 31) x
  (decodeElem f w, g)

/-- Frequency entry `j`. -/
def State.freq (s : State) (t : Nat) (c : Cmd) (j : Nat) : Nat := leNat (s.local t (c.loc 0x2C + 4 * j) 4)

/-- A frequency entry that spoils its pair (R209). -/
def badFreq (w : Nat) : Bool := !(f32 w).isFin || ((f32 w).neg && !(f32 w).isZero)

/-- The exact cosine (0) or sine (1) of position `pos` times a frequency. -/
def exactRotor (which pos : Nat) (f : Num) : Num :=
  match f with
  | .fin _ m e => ofMant (if which = 0 then fxCos (pos * m) e else fxSin (pos * m) e) (-224)
  | _ => Num.zero

/-- The cosine (0) or sine (1) that the tile evaluates for a position and a frequency entry: a value within 2^−22 of the exact one,
which spec/ does not fix further (R208). -/
def rotor (which pos w : Nat) : Num :=
  let r := exactRotor which pos (f32 w)
  let v := f32 (Config.rotation which pos w % 2 ^ 32)
  if v.isFin && within v r (-22) then v else (r.round).1

/-- The pair and place of dimension `j` under ROPE: index of the frequency, the two dimensions, whether it is the second
(R207). -/
def ropePair (mode rdim j : Nat) : Nat × Nat × Nat × Bool :=
  if mode = 1 then (j / 2, j / 2 * 2, j / 2 * 2 + 1, decide (j % 2 = 1))
  else (j % (rdim / 2), j % (rdim / 2), j % (rdim / 2) + rdim / 2, decide (rdim / 2 ≤ j))

/-- Dimension `j` of a query or key row at position `pos`, rotated and rounded into FMT_Q (R207–R210). -/
def State.rotated (s : State) (t : Nat) (c : Cmd) (pos : Nat) (x : Nat → Num) (j : Nat) : Num × Nat :=
  let rdim := 32 * c.f 0x28 11 8
  if rdim ≤ j then roundQ c (x j)
  else
    let (k, a, b, second) := ropePair (c.f 0x28 7 6) rdim j
    let w := s.freq t c k
    if badFreq w then let r := roundQ c .nan; (r.1, r.2 ||| fInvalid)
    else
      let cs := rotor 0 pos w
      let sn := rotor 1 pos w
      let (u, g1) := if second then (x a).mul sn else (x a).mul cs
      let (v, g2) := if second then (x b).mul cs else (x b).mul sn.opp
      let (r, g3) := u.add v
      let (y, g4) := roundQ c r
      (y, g1 ||| g2 ||| g3 ||| g4)

/-- Query row `i` in FMT_Q, rotated. -/
def State.queryRow (s : State) (t : Nat) (c : Cmd) (i pos : Nat) : List (Num × Nat) :=
  let f := c.f 0x10 27 24
  let o := c.loc 0x10 + i * up64 (fmtBytes f c.headDim)
  let x (j : Nat) : Num := decodeElem f (leNat (s.local t (o + j * (fmtBits f / 8)) (fmtBits f / 8)))
  (List.range c.headDim).map (s.rotated t c pos x)

/-- The carried state of one query row (R199). -/
structure AttnRow where
  o : List Num
  m : Num
  l : Num
deriving DecidableEq, Repr

/-- DP (R199). -/
def Cmd.dp (c : Cmd) : Nat := 128 * ceilDiv c.headDim 128

/-- The state from which a command starts (R199). -/
def State.attnStart (s : State) (t : Nat) (c : Cmd) (i : Nat) : AttnRow :=
  if c.flag 0x20 31 then
    let a := c.loc 0x20
    let w (o : Nat) : Num := f32 (leNat (s.local t (a + o) 4))
    { o := (List.range c.dp).map (fun j => w ((i * c.dp + j) * 4)), m := w (512 * c.dp + 4 * i),
      l := w (512 * c.dp + 512 + 4 * i) }
  else { o := List.replicate c.dp Num.zero, m := .inf true, l := Num.zero }

/-- A matrix product in FMT_Q of 128 rows, without accumulator input (R118, R205). -/
def attnProduct (c : Cmd) (n k : Nat) (a : Nat → List Num) (b : Nat → Nat → Num) : Product :=
  { int := false, width := 32, m := 128, n := n, k := k, a := a, b := b, start := none, ckabs := f32 (c.word 0x34) }

/-- One query row over one block: scores `t` (none where not allowed), values by key; the row's probabilities in FMT_Q,
its new m, l and the factor of o, with flags; none where no key is allowed (R200). -/
def softmaxStep (c : Cmd) (row : AttnRow) (t : List (Option Num)) : Option (List Num × Num × Num × Num × Nat) :=
  match reduceMax t with
  | none => none
  | some mb =>
    let mn := fMax row.m mb.val
    let (d, g0) := fSub row.m mn
    let (a, g1) := fExp 0x0B d
    let ps := t.map (fun x => match x with
      | none => (none, 0)
      | some y =>
        let (d, h0) := fSub y mn
        let (e, h1) := fExp 0x0B d
        let (q, h2) := roundQ c e
        ((some q : Option Num), h0 ||| h1 ||| h2))
    let (sum, g2) := reduced (reduceSum (ps.map (fun p => p.1)))
    let (l, g3) := fFma row.l a sum
    some (ps.map (fun p => p.1.getD Num.zero), mn, l, a, ps.foldl (fun g p => g ||| p.2) (g0 ||| g1 ||| g2 ||| g3))

/-- The part of an upset that hits a product: the scores take bits below 32, the value product the next 32. -/
def upsetFor (values : Bool) (u : Upset) : Upset :=
  match u with
  | .flip r c b => if values then (if 32 ≤ b then .flip r c (b - 32) else .none) else (if b < 32 then .flip r c b else .none)
  | .none => .none

/-- One key block over the 128 rows (R200): rows, flags, verdict. -/
def State.attnBlock (s : State) (t : Nat) (c : Cmd) (qs : List (Nat × Nat)) (q : Nat → List Num) (upset : Upset)
    (ks : List Key) (rows : List AttnRow) : List AttnRow × Nat × Bool :=
  let d := c.headDim
  let key (j : Nat) : Key := ks.getD j ⟨false, 0, 0, 0, 0⟩
  let kRows := (List.range 128).map (fun j =>
    if (key j).present then (List.range d).map (s.rotated t c (key j).pos (s.keyElem t c (key j) 0)) else [])
  let vRows := (List.range 128).map (fun j =>
    if (key j).present then (List.range d).map (fun e => roundQ c (s.keyElem t c (key j) 1 e)) else [])
  let at' (l : List (List (Num × Nat))) (j e : Nat) : Num := ((l.getD j []).getD e (Num.zero, 0)).1
  let scores := attnProduct c 128 d q (fun k j => at' kRows j k)
  let srows := (List.range 128).map (fun i => scores.row (upsetFor false upset) i 0)
  let ts (i : Nat) : List (Option (Num × Nat)) := (List.range 128).map (fun j =>
    if allowed c (qs.getD i (padMark, 0)) (key j) then
      let (v, g) := fMul (f32 ((srows.getD i ([], 0, true)).1.getD j 0)) (f32 (c.word 0x30))
      some (v, g ||| (scores.output i j).2)
    else none)
  let steps := (List.range 128).map (fun i => softmaxStep c (rows.getD i ⟨[], .inf true, Num.zero⟩) ((ts i).map (fun x => x.map (fun p => p.1))))
  let ps (i : Nat) : List Num := match steps.getD i none with | some (p, _) => p | none => List.replicate 128 Num.zero
  let vals := attnProduct c d 128 ps (fun j e => at' vRows j e)
  let vrows := (List.range 128).flatMap (fun i => (List.range (ceilDiv d 128)).map (fun st => vals.row (upsetFor true upset) i st))
  let out := (List.range 128).map (fun i =>
    let row := rows.getD i ⟨[], .inf true, Num.zero⟩
    match steps.getD i none with
    | none => (row, 0)
    | some (p, mn, l, a, g) =>
      let o := (List.range c.dp).map (fun e =>
        let (x, g1) := fMul (row.o.getD e Num.zero) a
        let (y, g2) := dotAcc x p ((List.range 128).map (fun j => at' vRows j e))
        let hit : Nat := match upsetFor true upset with
          | .flip r cc b => if r = i ∧ cc = e then 2 ^ (b % 32) else 0
          | .none => 0
        (f32 (toF32 y ^^^ hit), g1 ||| g2))
      (⟨o.map Prod.fst, mn, l⟩, (o.map Prod.snd).foldl (fun f x => f ||| x) g))
  let rowFlags := out.foldl (fun f x => f ||| x.2) 0
  let tFlags := (List.range 128).foldl (fun f i => (ts i).foldl (fun h x => h ||| (x.map (fun p => p.2)).getD 0) f) 0
  let kvFlags := (kRows ++ vRows).foldl (fun f l => l.foldl (fun h x => h ||| x.2) f) 0
  (out.map (fun x => x.1), rowFlags ||| tFlags ||| kvFlags,
    srows.all (fun x => x.2.2) && vrows.all (fun x => x.2.2))

/-- An output row with FINAL = 1: o / l rounded once into FMT_O, +0 where l is 0 (R201). -/
def finalRow (c : Cmd) (r : AttnRow) : List Nat × Nat :=
  let f := c.f 0x2C 27 24
  let l := (List.range c.headDim).map (fun e =>
    if r.l.isZero then (0, 0)
    else
      let (q, g) := divWide (r.o.getD e Num.zero) r.l
      let (w, h) := encodeElem f (c.f 0x2C 30 29) (c.flag 0x2C 31) q
      (w, g ||| h))
  (l.map (fun p => p.1), l.foldl (fun g p => g ||| p.2) 0)

/-- The key blocks that are not skipped (R203). -/
def State.liveBlocks (s : State) (t : Nat) (c : Cmd) : List Nat :=
  let qs := (List.range 128).map (s.metaAt t (c.loc 0x14))
  (List.range (c.f 0x28 31 16)).filter (fun b => !skipped c qs ((List.range 128).map (s.keyAt t c b)))

/-- The frames of the pages whose rows the command reads: a skipped block's are not (R204). -/
def State.readFrames (s : State) (t : Nat) (c : Cmd) : List (Nat × Nat) :=
  if c.scratchKeys then [] else
  (((s.liveBlocks t c).flatMap (s.blockLinks c)).filter (fun l => l.v)).map (fun l =>
    (s.pageFrame l.page, frameBytes (s.pageLayout l.page / 16) (32 * (s.pageLayout l.page % 16))))

/-- ATTN_BLOCK's results. -/
def State.runAttn (s : State) (p t : Nat) (c : Cmd) (upset : Upset) : Done :=
  let links := (s.usedLinks c).filter (fun l => l.v)
  if !links.all (fun l => s.pageUsable p l.page) then { verdict := .kv 0x15 }
  else if !(s.readFrames t c).all (fun r => s.rowOk p t r.1 r.2 false) then { verdict := .region }
  else
    let qs := (List.range 128).map (s.metaAt t (c.loc 0x14))
    let q' := (List.range 128).map (fun i => s.queryRow t c i (qs.getD i (0, 0)).2)
    let q (i : Nat) : List Num := (q'.getD i []).map (fun x => x.1)
    let start := (List.range 128).map (s.attnStart t c)
    let blocks := (s.liveBlocks t c).map (fun b => (List.range 128).map (s.keyAt t c b))
    let r := blocks.foldl
      (fun (a : List AttnRow × Nat × Bool × Upset) ks =>
        let (rows, g, ok) := s.attnBlock t c qs q a.2.2.2 ks a.1
        (rows, a.2.1 ||| g, a.2.2.1 && ok, Upset.none))
      (start, 0, true, upset)
    let qFlags := if blocks.isEmpty then 0 else q'.foldl (fun f l => l.foldl (fun h x => h ||| x.2) f) 0
    let verdict : Verdict := if r.2.2.1 then .passed else .checksum
    if c.flag 0x24 31 then
      let f := c.f 0x2C 27 24
      let outs := r.1.map (finalRow c)
      { verdict := verdict
        outs := (outs.zip (List.range 128)).map (fun x =>
          (c.loc 0x24 + x.2 * up64 (fmtBytes f c.headDim), packElems f x.1.1))
        flags := outs.foldl (fun g x => g ||| x.2) (r.2.1 ||| qFlags) }
    else
      let words (l : List Num) : List Byte := l.flatMap (fun x => leBytes 4 (toF32 x))
      { verdict := verdict
        outs := [(c.loc 0x24, r.1.flatMap (fun x => words x.o) ++ words (r.1.map (fun x => x.m)) ++ words (r.1.map (fun x => x.l)))]
        flags := r.2.1 ||| qFlags }

/-- What ATTN_BLOCK reads outside its tile: the link entries of every block, and the page frames of those not skipped (R198, R204). -/
def State.attnReads (s : State) (t : Nat) (c : Cmd) : List (Nat × Nat) :=
  (if c.scratchKeys then [] else [(bits (c.long 0x18) 47 0, 32 * c.f 0x28 31 16)]) ++ s.readFrames t c

/-! ## Free lists (R230–R234) -/

/-- List `l` of partition `p` has entries. -/
def State.listFull (s : State) (p l : Nat) : Bool := s.onF (Reg.KVP_FL_COUNT_COUNT p l)

/-- Pop the top page of list `l` for request port `port`: it becomes RESERVED; a pop from T3 or T4 is a spill; a count that falls
below LOW raises FS_KVP_LOW (R230, R231, R233, R234). -/
def State.popFrom (s : State) (p l port : Nat) : Nat × State :=
  let n := s.getF (Reg.KVP_FL_COUNT_COUNT p l) - 1
  let page := bits (s.readNat (s.canon (s.getF (Reg.KVP_FL_BASE_BASE p l) * 4 + 4 * n)) 4) 19 0
  let s1 := ((s.putF (Reg.KVP_FL_COUNT_COUNT p l) n).setPageState page 2).granted (.kvList p l) port
  let s2 := if l = 0 then s1 else s1.satInc (Reg.KVP_CNT_SPILLS p)
  let low := s.getF (Reg.KVP_FL_LOW_LOW p l)
  (page, if n < low ∧ low ≤ n + 1 then s2.raise FS.KVP_LOW else s2)

/-- Pop a page of partition `p` for request port `port`: T2, then T3, then T4 (R231). -/
def State.kvPop (s : State) (p port : Nat) : Option ((Nat × Nat) × State) :=
  match [0, 1, 2].find? (s.listFull p) with
  | some l => let (page, s1) := s.popFrom p l port; some ((l, page), s1)
  | none => none

/-! ## KV_APPEND (R217–R229) -/

/-- Address of link entry `i` of a command's list. -/
def Cmd.linkAddr (c : Cmd) (i : Nat) : Nat := bits (c.long 0x28) 47 0 + 16 * (c.f 0x1C 23 0 + i)

/-- D of KV_APPEND. -/
def Cmd.kvDim (c : Cmd) : Nat := 32 * c.f 0x10 19 16

/-- The LAYOUT byte that the descriptor's PFMT and D32 make. -/
def Cmd.kvLayout (c : Cmd) : Nat := 16 * c.f 0x10 23 20 + c.f 0x10 19 16

/-- FP32 element `j` of token `k`'s key (0) or value (1) row. -/
def State.token (s : State) (t : Nat) (c : Cmd) (which k j : Nat) : Num :=
  f32 (leNat (s.local t (c.loc (if which = 0 then 0x14 else 0x18) + (k * c.kvDim + j) * 4) 4))

/-- A of R222: the largest finite magnitude, 1 where there is none or it is 0. -/
def scaleMax (l : List Num) : Num := if (blockMax l).isZero then Num.ofInt 1 else blockMax l

/-- A scale a × 2^h / q rounded toward +∞ to FP16 and clamped (R222). -/
def scaleWord (a : Num) (h q : Nat) : Nat :=
  (fp16.encode 3 true (divWide (a.scale h) (.ofInt q)).1).1

/-- x / s rounded to the nearest integer, ties to even, and clamped: the element's bits and flags (R222). -/
def quantInt (w : Nat) (lo hi : Int) (x sc : Num) : Nat × Nat :=
  match (divWide x sc).1 with
  | .nan => (0, fNanDropped)
  | .inf n => (toBits w (if n then lo else hi), fSaturated)
  | .fin n m e =>
    let v := roundInt 0 n m e
    if v < lo then (toBits w lo, fSaturated) else if hi < v then (toBits w hi, fSaturated) else (toBits w v, 0)

/-- One row of elements quantised in page format `f` with the page's scale word, or a scale per 32 elements for INT4:
element bits, INT4 scale words, flags (R222). -/
def quantRow (f mode : Nat) (sat : Bool) (sc : Nat) (x : List Num) : List Nat × List Nat × Nat :=
  let collect (l : List (Nat × Nat)) : List Nat × Nat := (l.map (fun p => p.1), l.foldl (fun g p => g ||| p.2) 0)
  if f = 0 then
    let bs := (groupsOf 32 x.length x).map (fun b =>
      let w := scaleWord (scaleMax b) 0 7
      (w, collect (b.map (fun v => quantInt 4 (-8) 7 v (fp16.decode w)))))
    (bs.flatMap (fun b => b.2.1), bs.map (fun b => b.1), bs.foldl (fun g b => g ||| b.2.2) 0)
  else
    let (l, g) := collect (x.map (fun v =>
      if f = 1 then quantInt 8 (-127) 127 v (fp16.decode sc)
      else if f = 5 then e4m3.encode 0 true (divWide v (fp16.decode sc)).1
      else encodeElem f mode sat v))
    (l, [], g)

/-- The part of an APPEND that goes into one page: link index, first row, first token, tokens. -/
structure Piece where
  link : Nat
  row : Nat
  token : Nat
  count : Nat
deriving DecidableEq, Repr

/-- The pieces of an APPEND of `n` tokens whose first goes to row `row` of its first link (R218). -/
def pieces (row n : Nat) : List Piece :=
  (List.range (ceilDiv (row + n) 64)).map (fun i =>
    let a := if i = 0 then row else 0
    let t := if i = 0 then 0 else 64 * i - row
    { link := i, row := a, token := t, count := min (64 - a) (n - t) })

/-- The page scale of a piece that writes row 0: key (0) or value (1) (R222). -/
def State.freshScale (s : State) (t : Nat) (c : Cmd) (which : Nat) (p : Piece) : Nat :=
  let f := c.f 0x10 23 20
  if f = 1 ∨ f = 5 then
    let xs := (List.range p.count).flatMap (fun k => (List.range c.kvDim).map (s.token t c which (p.token + k)))
    scaleWord (scaleMax xs) (c.f 0x10 25 24) (if f = 1 then 127 else 448)
  else 0

/-- The writes of a piece's rows of keys or values into the frame of page `page`, with flags. -/
def State.pieceWrites (s : State) (t : Nat) (c : Cmd) (which sc page : Nat) (p : Piece) : List (Nat × List Byte) × Nat :=
  let f := c.f 0x10 23 20
  let d := c.kvDim
  let frame := s.pageFrame page
  let rows := (List.range p.count).map (fun k =>
    (p.row + k, quantRow f (c.f 0x34 30 29) (c.flag 0x34 31) sc ((List.range d).map (s.token t c which (p.token + k)))))
  (rows.flatMap (fun r =>
      (frame + frameRow f d which r.1, packElems f r.2.1) ::
        (if f = 0 then [(frame + frameScale f d which r.1 0, r.2.2.1.flatMap (leBytes 2))] else [])),
    rows.foldl (fun g r => g ||| r.2.2.2) 0)

/-- The rows 0 to `n` − 1 of page `old` as writes into the frame of page `new` (R227 step 2). -/
def State.copyWrites (s : State) (c : Cmd) (old new n : Nat) : List (Nat × List Byte) :=
  let f := c.f 0x10 23 20
  let d := c.kvDim
  let piece (o len : Nat) : Nat × List Byte := (s.pageFrame new + o, s.fetch (s.pageFrame old + o) len)
  [0, 1].flatMap (fun which =>
    piece (frameRow f d which 0) (n * pageRow f d) ::
      (if f = 0 then [piece (frameScale f d which 0 0) (n * (d / 32) * 2)] else []))

/-- What an APPEND has decided so far: its results and the state with its pops. -/
structure AppendState where
  done : Done
  state : State

/-- One piece of an APPEND (R218, R227): in place, into a copy, or into a new page. -/
def appendPiece (p t : Nat) (c : Cmd) (pc : Piece) (a : AppendState) : AppendState :=
  if a.done.verdict != Verdict.passed then a else
  let s := a.state
  let l := s.linkAt (c.linkAddr pc.link)
  let fill := pc.row + pc.count
  let failed (v : Verdict) : AppendState := { a with done := { a.done with verdict := v } }
  if !s.rowOk p t l.addr 16 true then failed .region
  else if pc.link ≠ 0 ∧ l.v then failed (.kv 0x15)
  else if l.v then
    let n := l.page
    let h := s.pageHwm n
    if s.refCount n = 1 ∧ l.fill = h % 128 then
      let (w0, g0) := s.pieceWrites t c 0 (s.pageScale n 0) n pc
      let (w1, g1) := s.pieceWrites t c 1 (s.pageScale n 1) n pc
      if !(w0 ++ w1).all (fun w => s.rowOk p t w.1 w.2.length true) then failed .region
      else { a with done := { a.done with
        writes := a.done.writes ++ w0 ++ w1 ++ [(l.workAddr, leBytes 4 (linkWord true fill n))]
        post := a.done.post ++ [.pageHwm n (h / 128 * 128 + fill), l.flip l.seg]
        flags := a.done.flags ||| g0 ||| g1 } }
    else
      match s.kvPop p t with
      | none => failed (.kv 0x14)
      | some ((list, new), s1) =>
        let (w0, g0) := s1.pieceWrites t c 0 (s.pageScale n 0) new pc
        let (w1, g1) := s1.pieceWrites t c 1 (s.pageScale n 1) new pc
        let ws := s1.copyWrites c n new l.fill ++ w0 ++ w1
        let d := { a.done with undo := a.done.undo ++ [KvUndo.page p list new] }
        if !ws.all (fun w => s1.rowOk p t w.1 w.2.length true) then ⟨{ d with verdict := .region }, s1⟩
        else ⟨{ d with
          writes := d.writes ++ ws ++ [(l.workAddr, leBytes 4 (linkWord true fill new))]
          post := [PostEffect.pageDrop p n] ++ d.post ++
            [PostEffect.pageNew new (h / 128 * 128 + fill) (c.kvLayout) (s.pageScale n 0) (s.pageScale n 1), l.flip l.seg, .kvCopy p]
          flags := d.flags ||| g0 ||| g1 }, s1⟩
  else
    match s.kvPop p t with
    | none => failed (.kv 0x14)
    | some ((list, new), s1) =>
      let ks := s1.freshScale t c 0 pc
      let vs := s1.freshScale t c 1 pc
      let (w0, g0) := s1.pieceWrites t c 0 ks new pc
      let (w1, g1) := s1.pieceWrites t c 1 vs new pc
      let d := { a.done with undo := a.done.undo ++ [KvUndo.page p list new] }
      let f := c.f 0x10 23 20
      if !(w0 ++ w1).all (fun w => s1.rowOk p t w.1 w.2.length true) then ⟨{ d with verdict := .region }, s1⟩
      else ⟨{ d with
        writes := d.writes ++ w0 ++ w1 ++
          [(l.workAddr, leBytes 4 (linkWord true fill new)), (l.addr + 8, leBytes 4 (c.f 0x20 23 0 + pc.token))]
        post := d.post ++
          [PostEffect.pageNew new ((if f = 1 ∨ f = 5 then 128 else 0) + fill) c.kvLayout ks vs, l.flip (c.f 0x24 31 16)]
        flags := d.flags ||| g0 ||| g1 }, s1⟩

/-- APPEND (R218, R222–R228). -/
def State.runAppend (s : State) (p t : Nat) (c : Cmd) : Done × State :=
  let l := s.linkAt (c.linkAddr 0)
  if l.v && !(decide (l.fill < 64) && c.f 0x20 23 0 == l.base + l.fill && s.pageUsable p l.page &&
      s.pageLayout l.page == c.kvLayout) then ({ verdict := .kv 0x15 }, s)
  else
    let r := (pieces (if l.v then l.fill else 0) (c.f 0x10 11 0)).foldl (fun a pc => appendPiece p t c pc a) ⟨{}, s⟩
    (r.done, r.state)

/-- SHARE (R219, R225, R226). -/
def State.runShare (s : State) (p t : Nat) (c : Cmd) : Done × State :=
  let l := s.linkAt (c.linkAddr 0)
  let n := c.f 0x30 19 0
  let fill := c.f 0x24 6 0
  if !s.rowOk p t l.addr 16 true then ({ verdict := .region }, s)
  else if l.v || !s.pageUsable p n || decide (s.pageHwm n % 128 < fill) || s.pageLayout n != c.kvLayout then
    ({ verdict := .kv 0x15 }, s)
  else if s.refCount n + 1 = 65535 then ({ verdict := .kv 0x13 }, s)
  else
    ({ writes := [(l.workAddr, leBytes 4 (linkWord true fill n)), (l.addr + 8, leBytes 4 (c.f 0x20 23 0))]
       post := [l.flip (c.f 0x24 31 16)]
       undo := [.ref n] }, (s.setRefCount n (s.refCount n + 1)).ptGranted n t)

/-- RELEASE (R220, R225). -/
def State.runRelease (s : State) (p t : Nat) (c : Cmd) : Done × State :=
  let ls := (List.range (c.f 0x10 11 0)).map (fun i => s.linkAt (c.linkAddr i))
  if !ls.all (fun l => s.rowOk p t l.addr 16 true) then ({ verdict := .region }, s)
  else
    let used := ls.filter (fun l => l.v)
    ({ writes := used.map (fun l => (l.workAddr, leBytes 4 0))
       post := used.map (fun l => .pageDrop p l.page) ++ used.map (fun l => l.flip l.seg) }, s)

/-- A KV_APPEND with operation `n`. -/
def hasKvOp (n : Nat) (c : Cmd) : Bool := c.op == 0x21 && c.kvOp == n

/-- The link entries that a KV command acts on, `n` of them. -/
def Cmd.linkReads (c : Cmd) (n : Nat) : List (Nat × Nat) := [(c.linkAddr 0, 16 * n)]

/-- What an APPEND reads of memory: its link entries, and the frame that it may copy from (R218, R227). -/
def State.appendReads (s : State) (c : Cmd) : List (Nat × Nat) :=
  let l := s.linkAt (c.linkAddr 0)
  c.linkReads (pieces (if l.v then l.fill else 0) (c.f 0x10 11 0)).length ++
    (if l.v then [(s.pageFrame l.page, frameBytes (c.f 0x10 23 20) c.kvDim)] else [])

/-- KVP_FL_PUSH through request port `port`: an UNUSED page joins a list below its capacity; any other push is dropped (R232). -/
def State.kvPush (s : State) (port p l frame page : Nat) : State :=
  if s.pageState page = 0 ∧ s.getF (Reg.KVP_FL_POP_POP p l) < s.getF (Reg.KVP_FL_CAP_CAP p l) then
    let entry := 2 ^ 62 + p * 2 ^ 58 + l * 2 ^ 56 + frame * 2 ^ 14
    ((s.writeNat (s.ptEntry page) 8 entry).kvStackPush p l page port).putF (Reg.KVP_FL_POP_POP p l)
      (s.getF (Reg.KVP_FL_POP_POP p l) + 1)
  else s.satInc (Reg.KVP_CNT_DROPS p)

/-- A write of KVP_FL_PUSH of list `l` of partition `p` by `req`. -/
def State.wrFlPush (s : State) (req : Requester) (p l v : Nat) : State := s.kvPush (kvPortOf req) p l (bits v 53 20) (bits v 19 0)

/-! ## Commands -/

/-- ATTN_BLOCK (R200). -/
def execAttnBlock (tile entry : Nat) (upset : Upset) (ecc : List EccError) (s : State) : Host.Outcome State Fault Refusal :=
  whenLive (fun s => s.executeFar tile entry (hasOp 0x20) ecc (fun u c => u.attnReads tile c)
    (fun u x c => (u.runAttn (u.ctx x).part tile c upset, u))) s

/-- KV_APPEND with OP APPEND (R218). -/
def execKvAppend (tile entry : Nat) (ecc : List EccError) (s : State) : Host.Outcome State Fault Refusal :=
  whenLive (fun s => s.executeFar tile entry (hasKvOp 0) ecc (fun u c => u.appendReads c)
    (fun u x c => u.runAppend (u.ctx x).part tile c)) s

/-- KV_APPEND with OP SHARE (R219). -/
def execKvShare (tile entry : Nat) (ecc : List EccError) (s : State) : Host.Outcome State Fault Refusal :=
  whenLive (fun s => s.executeFar tile entry (hasKvOp 1) ecc (fun _ c => c.linkReads 1)
    (fun u x c => u.runShare (u.ctx x).part tile c)) s

/-- KV_APPEND with OP RELEASE (R220). -/
def execKvRelease (tile entry : Nat) (ecc : List EccError) (s : State) : Host.Outcome State Fault Refusal :=
  whenLive (fun s => s.executeFar tile entry (hasKvOp 2) ecc (fun _ c => c.linkReads (c.f 0x10 11 0))
    (fun u x c => u.runRelease (u.ctx x).part tile c)) s

/-- KVP_FL_PUSH: one 8-byte write (R232, R235). -/
def execKvpFlPush (req : Requester) (part tier frame page : Nat) (s : State) : Host.Outcome State Fault Refusal :=
  let v := frame % 2 ^ 34 * 2 ^ 20 + page % 2 ^ 20
  whenLive (fun s => s.guard (decide (part < 8) && decide (tier < 3)) (fun s =>
    s.accessWide req (Reg.KVP_FL_PUSH part tier) v (fun t => t.wrFlPush req part tier v))) s

end Sys2Proof.Machine
end

