-- ==== Sys2Proof/Machine/Streams.lean ====
section
/-! DEFINITION. Recurrent streams (chapter 08): SCAN, the stream table, resets, swap-out and restore. -/

namespace Sys2Proof.Machine

/-! ## The stream table -/

/-- Stream `i` beyond its registers. -/
def State.stream (s : State) (i : Nat) : Stream := Sparse.get (fun _ => {}) s.stm i

/-- The state with stream `i` replaced. -/
def State.setStream (s : State) (i : Nat) (x : Stream) : State :=
  { s with stm := Sparse.set (fun _ => {}) s.stm i x }

/-- STATUS of stream `i`: 0 UNUSED, 1 IDLE, 2 RESIDENT, 3 SWAPPING_OUT, 4 SWAPPED, 5 RESTORING, 6 PARKED, 7 ERROR. -/
def State.stmStatus (s : State) (i : Nat) : Nat := s.getF (Reg.STM_STAT_STATUS i)

/-- The state with STATUS of stream `i` replaced. -/
def State.setStatus (s : State) (i v : Nat) : State := s.putF (Reg.STM_STAT_STATUS i) v

/-- The partition of stream `i`: the owner of its page (R246). -/
def State.stmPart (s : State) (i : Nat) : Nat := s.owner (0x340 + i / 64)

/-- The committed copy of stream `i`, by BANK_SEL. -/
def State.bankSel (s : State) (i : Nat) : Nat := s.getF (Reg.STM_HOME_BANK_SEL i)

/-- The bytes of copy `k` of stream `i` on tile `t`, in element order (R242). -/
def State.stmCopy (s : State) (t i k : Nat) : List Byte := (s.stmPieces i k).flatMap (fun p => s.local t p.1 p.2)

/-- Bytes laid into pieces. -/
def layInto : List (Nat × Nat) → List Byte → List (Nat × List Byte)
  | [], _ => []
  | (a, n) :: r, l => (a, l.take n) :: layInto r (l.drop n)

/-- The state with copy `k` of stream `i` on tile `t` written. -/
def State.setStmCopy (s : State) (t i k : Nat) (l : List Byte) : State :=
  (layInto (s.stmPieces i k) l).foldl (fun u w => u.store (sramAddr t w.1) w.2) s

/-- The pair (h, c) of element `e` in a copy's bytes. -/
def pairAt (l : List Byte) (e : Nat) : Num × Num := (f32 (leField l (8 * e) 4), f32 (leField l (8 * e + 4) 4))

/-- A pair's eight bytes. -/
def pairBytes (p : Num × Num) : List Byte := leBytes 4 (toF32 p.1) ++ leBytes 4 (toF32 p.2)

/-- h + c rounded once to FP32. -/
def pairWord (p : Num × Num) : Nat := toF32 ((p.1.add p.2).1.round).1

/-! ## SCAN (R237–R241, R249, R257) -/

/-- The stream's shape and a chunk's operands as SCAN uses them. -/
structure Chunk where
  ch : Nat
  nst : Nat
  rows : Nat
  /-- Rows of Y. -/
  steps : Nat
  ahead : Bool
  x : Nat → Nat → Num
  mark : Nat → Nat
  segments : Bool
  lastSeg : Nat
  a : Nat → Num
  b : Nat → Num
  g : Nat → Num
  d : Nat → Num

/-- The operands of a SCAN on tile `t` (R239). -/
def State.chunk (s : State) (t : Nat) (c : Cmd) : Chunk :=
  let i := c.stream
  let ch := s.stmCh i
  let ns := s.stmElems i
  let fx := c.f 0x14 27 24
  let coef (o e : Nat) : Num := f32 (leNat (s.local t (c.loc 0x18 + 4 * (o + e)) 4))
  { ch := ch, nst := s.stmNst i, rows := s.scanRows c, steps := if s.stmW i = 0 then c.f 0x20 7 0 else 128,
    ahead := s.stmW i != 0
    x := fun k j => decodeElem fx
      (leNat (s.local t (c.loc 0x14 + k * up64 (fmtBytes fx ch) + j * (fmtBits fx / 8)) (fmtBits fx / 8)))
    mark := fun k => leNat (s.local t (c.loc 0x24 + 2 * k) 2)
    segments := c.flag 0x10 31, lastSeg := s.getF (Reg.STM_STAT_LAST_SEG i)
    a := coef 0, b := coef ns, g := coef (2 * ns), d := coef (3 * ns) }

/-- The chunk's rows in the order of the recurrence: backward on a look-ahead stream. -/
def Chunk.order (k : Chunk) : List Nat := if k.ahead then (List.range k.rows).reverse else List.range k.rows

/-- One step: new state, the row of FP32 outputs if the row is not padding, flags (R237). -/
def Chunk.step (k : Chunk) (r : Nat) (st : List (Num × Num)) : List (Num × Num) × List (Num × Nat) × Nat :=
  let new := (List.range (k.ch * k.nst)).map (fun e =>
    pairStep (k.a e) (k.b e) (k.x r (e / k.nst)) (st.getD e (Num.zero, Num.zero)))
  let hc := new.map (fun p => p.1)
  let ys := (List.range k.ch).map (fun j =>
    let terms := (List.range k.nst).flatMap (fun n =>
      let p := hc.getD (j * k.nst + n) (Num.zero, Num.zero)
      [(k.g (j * k.nst + n)).mul p.1, (k.g (j * k.nst + n)).mul p.2]) ++ [(k.d j).mul (k.x r j)]
    let (v, g) := sumExact (terms.map (fun p => p.1))
    withFlags (terms.foldl (fun f p => f ||| p.2) 0) (rounded (v, g)))
  (hc, ys, new.foldl (fun f p => f ||| p.2) 0)

/-- The recurrence over a list of rows: from state and last mark; the rows' outputs, flags and the last mark that is no
padding (R237, R249). A padding row gives none. -/
def Chunk.run (k : Chunk) : List Nat → List (Num × Num) → Option Nat →
    List (Num × Num) × List (Nat × Option (List (Num × Nat))) × Nat × Option Nat
  | [], st, last => (st, [], 0, last)
  | r :: rs, st, last =>
    let m := if k.segments then some (k.mark r) else none
    if m = some padMark then
      let (st1, ys, g, l1) := k.run rs st last
      (st1, (r, none) :: ys, g, l1)
    else
      let starts := match m, last with | some v, some w => v != w | _, _ => false
      let st0 := if starts then st.map (fun _ => (Num.zero, Num.zero)) else st
      let (st1, y, g) := k.step r st0
      let (st2, ys, h, l2) := k.run rs st1 (if m.isSome then m else last)
      (st2, (r, some y) :: ys, g ||| h, l2)

/-- The steps of a chunk that are no padding, in the order of the recurrence: row, and the number of the segment it lies in (R249,
R257). -/
def Chunk.liveRows (k : Chunk) : List Nat → Option Nat → Nat → List (Nat × Nat)
  | [], _, _ => []
  | r :: rs, last, g =>
    let m := if k.segments then some (k.mark r) else none
    if m = some padMark then k.liveRows rs last g
    else
      let starts := match m, last with | some v, some w => v != w | _, _ => false
      (r, g + b2n starts) :: k.liveRows rs (if m.isSome then m else last) (g + b2n starts)

/-- Element `e` of the transfer matrix for a lag: b × a^lag, each step rounded to FP32. -/
def Chunk.transfer (k : Chunk) (e : Nat) : Nat → Num
  | 0 => k.b e
  | lag + 1 => (fMul (k.a e) (k.transfer e lag)).1

/-- The Toeplitz product of stripe `st` of 128 elements: the lower-triangular Toeplitz matrix of the chunk's inputs, channel by channel,
with the transfer matrix in the place of the weights (R241). spec/ does not lay the matrices out: this is the model's reading (log
entry 165). -/
def Chunk.product (k : Chunk) (rows : List (Nat × Nat)) (ckabs : Num) (st : Nat) : Product :=
  let n := min 128 (k.ch * k.nst - 128 * st)
  let first := 128 * st / k.nst
  let len := max 1 rows.length
  { int := false, width := 32, m := rows.length, n := n, k := ((128 * st + n - 1) / k.nst + 1 - first) * len
    a := fun i => (List.range (((128 * st + n - 1) / k.nst + 1 - first) * len)).map (fun j =>
      match rows[i]?, (if j % len ≤ i then rows[i - j % len]? else none) with
      | some r, some q => if r.2 = q.2 then k.x q.1 (first + j / len) else Num.zero
      | _, _ => Num.zero)
    b := fun j e => if first + j / len = (128 * st + e) / k.nst then k.transfer (128 * st + e) (j % len) else Num.zero
    start := none, ckabs := ckabs }

/-- The part of an upset that hits stripe `st`. -/
def upsetIn (st : Nat) : Upset → Upset
  | .flip r e b => if e / 128 = st then .flip r (e % 128) b else .none
  | .none => .none

/-- The checksum column passes every row of the chunk's Toeplitz products (R118, R120, R241). -/
def Chunk.checked (k : Chunk) (rows : List (Nat × Nat)) (ckabs : Num) (upset : Upset) : Bool :=
  (List.range (ceilDiv (k.ch * k.nst) 128)).all (fun st =>
    let p := k.product rows ckabs st
    (List.range p.m).all (fun i => (p.row (upsetIn st upset) i 0).2.2))

/-- SCAN's results. A disturbance that the check does not see stays in the results: the outputs of its channel from its step on, and
the element's carried pair, are free values then (R120; log entry 165). -/
def State.runScan (s : State) (t : Nat) (c : Cmd) (fresh : Bool) (upset : Upset) : Done × State :=
  let i := c.stream
  let k := s.chunk t c
  let ns := k.ch * k.nst
  let zero := List.replicate ns (Num.zero, Num.zero)
  let old := s.stmCopy t i (s.bankSel i)
  let start := if k.ahead || fresh then zero else (List.range ns).map (pairAt old)
  let (st, ys, g, last) := k.run k.order start (if k.ahead then none else some k.lastSeg)
  let fy := c.f 0x1C 27 24
  let live := k.liveRows k.order (if k.ahead then none else some k.lastSeg) 0
  let passes := k.checked live (f32 (c.word 0x34)) upset
  let hit : Option (List Nat × Nat) := match upset with
    | .flip q e _ => if passes && decide (q < live.length) && decide (e < ns) then some ((live.drop q).map (fun r => r.1), e) else none
    | .none => none
  let (fb, s1) := match hit with | some _ => s.freeBytes (4 * k.rows + 8) | none => ([], s)
  let st := match hit with | some (_, e) => setAt st e (pairAt (fb.drop (4 * k.rows)) 0) | none => st
  let row (r : Nat) (y : Option (List (Num × Nat))) : List Nat × Nat :=
    let (l, h) := match y with
      | some v => deliverAll fy (c.f 0x1C 30 29) (c.flag 0x1C 31) (v.map (Res.after 0))
      | none => (List.replicate k.ch 0, 0)
    match hit with
    | some (rs, e) => if rs.contains r then (setAt l (e / k.nst) (leField fb (4 * r) (fmtBits fy / 8)), h) else (l, h)
    | none => (l, h)
  let rows := (ys.filter (fun y => decide (y.1 < k.steps))).map (fun y => (y.1, row y.1 y.2))
  let nan := (List.range ns).any (fun e => (k.a e).isNan || (k.b e).isNan || (k.g e).isNan) ||
    (List.range k.ch).any (fun j => (k.d j).isNan)
  let carried := if k.ahead then [] else layInto (s.stmPieces i (1 - s.bankSel i)) (st.flatMap pairBytes)
  ({ verdict := if passes then .passed else .checksum
     outs := carried ++
       rows.map (fun y => (c.loc 0x1C + y.1 * up64 (fmtBytes fy k.ch), packElems fy y.2.1)) ++
       (if c.flag 0x28 31 then [(c.loc 0x28, st.flatMap (fun p => leBytes 4 (pairWord p)))] else [])
     post := [.stream i t (if k.segments && !k.ahead then last else none) fresh]
     flags := rows.foldl (fun f y => f ||| y.2.2) (g ||| (if nan then fInvalid else 0)) }, s1)

/-! ## Swap-out and restore (R245, R251–R256) -/

/-- The image of a state: header and elements (R252). -/
def State.stmImage (s : State) (i : Nat) (st : List Byte) : List Byte :=
  let n := s.stmElems i
  let sf := s.getF (Reg.STM_CTRL_SFMT i)
  let head := leBytes 4 i ++ leBytes 4 (s.getF (Reg.STM_GEN_GEN i)) ++
    leBytes 4 ((s.stmNst i - 1) * 65536 + s.getF (Reg.STM_CTRL_CH128 i) * 256 + sf) ++ List.replicate 48 0
  let elems := if sf = 0 then st.take (8 * n) else (List.range n).flatMap (fun e => leBytes 4 (pairWord (pairAt st e)))
  head ++ leBytes 4 (crc32 (head ++ elems)) ++ elems

/-- PTR of a stream. -/
def State.stmPtr (s : State) (i : Nat) : Nat := 64 * s.getF (Reg.STM_PTR_PTR i)

/-- A swap-out that is wanted begins once no chunk of the stream is in a commit window (R251). -/
def State.trySwap (s : State) (i : Nat) : State :=
  if (s.stream i).swapWanted && s.stmStatus i == 2 && !s.scanInWindow i then
    (s.setStream i { s.stream i with swapWanted := false }).setStatus i 3
  else s

/-- Every swap-out that waited for a chunk on tile `t`. -/
def State.trySwaps (s : State) (t : Nat) : State :=
  s.listedStreams.foldl (fun u i => if u.residentOn i t then u.trySwap i else u) s

/-- Stream `i` is to be swapped out; `park`: it becomes PARKED then (R251, R256). -/
def State.wantSwap (s : State) (i : Nat) (park : Bool) : State :=
  let x := s.stream i
  if s.stmStatus i = 2 then (s.setStream i { x with swapWanted := true, park := x.park || park }).trySwap i
  else if s.stmStatus i = 3 then s.setStream i { x with park := x.park || park }
  else s

/-- The streams of context `c` that are resident on tile `t` are swapped out (R245). -/
def State.swapOutOf (s : State) (c t : Nat) : State :=
  s.listedStreams.foldl (fun u i => if u.residentOn i t && u.getF (Reg.STM_OWNER_CTX i) == c then u.wantSwap i false else u) s

/-- Teardown of context `c`: resident streams are swapped out and parked, idle and swapped ones parked at once (R256). -/
def State.parkStreams (s : State) (c : Nat) : State :=
  s.listedStreams.foldl (fun u i =>
    if u.getF (Reg.STM_OWNER_CTX i) != c then u
    else
      let u := u.putF (Reg.STM_STAT_WAITING i) 0
      match u.stmStatus i with
      | 1 => u.setStatus i 6
      | 4 => u.setStatus i 6
      | 5 => u.setStream i { u.stream i with park := true }
      | _ => u.wantSwap i true) s

/-- Stream `j`'s region meets stream `i`'s. -/
def State.streamsMeet (s : State) (i j : Nat) : Bool :=
  (s.stmPieces i 0 ++ s.stmPieces i 1).any (fun p => s.meetsStream j p.1 p.2)

/-- The other resident streams on tile `t` whose regions meet stream `i`'s (R245). -/
def State.inTheWay (s : State) (i t : Nat) : List Nat :=
  s.listedStreams.filter (fun j => j != i && s.getF (Reg.STM_HOME_TILE j) == t &&
    (s.stmStatus j == 2 || s.stmStatus j == 3) && s.streamsMeet i j)

/-- A SCAN of context `c` is refused at dispatch (R240). -/
def State.scanRefused (s : State) (c i : Nat) : Bool :=
  s.stmStatus i == 0 || s.stmStatus i == 6 || s.stmStatus i == 7 || s.getF (Reg.STM_OWNER_CTX i) != c ||
    s.stmPart i != (s.ctx c).part

/-- What a SCAN of stream `i` that is to run on tile `t` needs next: true when it may be dispatched; else the state in
which the STM is at work for it (R245, R253). -/
def State.scanReady (s : State) (i t : Nat) : Bool × State :=
  let wait (u : State) : Bool × State := (false, u.putF (Reg.STM_STAT_WAITING i) 1)
  let clearWay (u : State) : State := (u.inTheWay i t).foldl (fun v j => v.wantSwap j false) u
  if s.stmW i != 0 then (true, s)
  else match s.stmStatus i with
    | 1 =>
      if !(s.inTheWay i t).isEmpty then wait (clearWay s)
      else (true, ((s.setStmCopy t i (s.bankSel i) (List.replicate (8 * s.stmElems i) 0)).putF (Reg.STM_HOME_TILE i) t).putF
        (Reg.STM_STAT_WAITING i) 0 |>.setStatus i 2)
    | 2 =>
      if (s.stream i).swapWanted then wait s
      else if s.getF (Reg.STM_HOME_TILE i) = t then (true, s.putF (Reg.STM_STAT_WAITING i) 0)
      else wait (s.wantSwap i false)
    | 4 =>
      if !(s.inTheWay i t).isEmpty then wait (clearWay s)
      else wait (((s.setStream i { s.stream i with dest := t }).setStatus i 5).putF (Reg.STM_HOME_TILE i) t)
    | _ => wait s

/-- The image at PTR matches the entry and its CRC (R254). -/
def State.imageGood (s : State) (i : Nat) (l : List Byte) : Bool :=
  let head := l.take 60
  leField l 0 4 == i && leField l 4 4 == s.getF (Reg.STM_GEN_GEN i) &&
    leField l 8 4 == (s.stmNst i - 1) * 65536 + s.getF (Reg.STM_CTRL_CH128 i) * 256 + s.getF (Reg.STM_CTRL_SFMT i) &&
    leField l 60 4 == crc32 (head ++ l.drop 64)

/-- Bytes of an image. -/
def State.imageBytes (s : State) (i : Nat) : Nat :=
  64 + (if s.getF (Reg.STM_CTRL_SFMT i) = 0 then 8 else 4) * s.stmElems i

/-- The state's bytes in an image; an FP32 image restores with c = 0 (R254). -/
def State.imageState (s : State) (i : Nat) (l : List Byte) : List Byte :=
  let e := l.drop 64
  if s.getF (Reg.STM_CTRL_SFMT i) = 0 then e
  else (List.range (s.stmElems i)).flatMap (fun k => (e.drop (4 * k)).take 4 ++ List.replicate 4 0)

/-! ## Register writes -/

/-- RESET of stream `i` has been written 1: chunks in a window that have sampled it take note (R248). -/
def State.noteReset (s : State) (i : Nat) : State :=
  s.sch.tiles.foldl (fun u e =>
    u.setTile e.1 { u.tile e.1 with window := (u.tile e.1).window.map (fun w =>
      if w.cmd.op == 0x28 && w.cmd.stream == i then { w with rewritten := true } else w) }) s

/-- STM_CTRL: EN = 1 takes an UNUSED stream to IDLE; EN = 0 takes it to UNUSED and discards the state (R247). -/
def State.wrStmCtrl (s : State) (i v : Nat) : State :=
  let st := s.stmStatus i
  let s1 := s.applyWord (Reg.STM_CTRL i) v
  let s2 := if bit v 0 then s1.noteReset i else s1
  if bit v 31 then
    if st = 0 then
      (((s2.setStream i {}).putF (Reg.STM_GEN_GEN i) 0).putF (Reg.STM_STAT_LAST_SEG i) 0xFFFF).setStatus i 1
    else s2
  else if st = 0 then s2
  else ((s2.setStream i {}).putF (Reg.STM_STAT_WAITING i) 0).setStatus i 0

/-- STM_OP: 1 SWAP_OUT, 2 UNPARK. -/
def State.wrStmOp (s : State) (i v : Nat) : State :=
  match bits v 1 0 with
  | 1 => if s.stmW i = 0 then s.wantSwap i false else s
  | 2 => if s.stmStatus i = 6 then s.setStatus i (if (s.stream i).imageWritten then 4 else 1) else s
  | _ => s

/-! ## Commands -/

/-- SCAN (R237). -/
def execScan (tile entry : Nat) (upset : Upset) (ecc : List EccError) (s : State) : Host.Outcome State Fault Refusal :=
  whenLive (fun s =>
    let fresh := match (s.tile tile).window[entry]? with | some e => e.fresh | none => false
    s.execute tile entry (hasOp 0x28) ecc (fun u _ c => u.runScan tile c fresh upset)) s

/-- STM_ENABLE: the control word is written with EN = 1. -/
def execStmEnable (req : Requester) (stream ctrl : Nat) (s : State) : Host.Outcome State Fault Refusal :=
  let v := setBits (ctrl % 2 ^ 32) 31 31 1
  whenLive (fun s => s.guard (decide (stream < 4096)) (fun s =>
    s.access req (Reg.STM_CTRL stream) v (fun t => t.wrStmCtrl stream v))) s

/-- STM_DISABLE: the control word is written with EN = 0. -/
def execStmDisable (req : Requester) (stream ctrl : Nat) (s : State) : Host.Outcome State Fault Refusal :=
  let v := setBits (ctrl % 2 ^ 32) 31 31 0
  whenLive (fun s => s.guard (decide (stream < 4096)) (fun s =>
    s.access req (Reg.STM_CTRL stream) v (fun t => t.wrStmCtrl stream v))) s

/-- STM_RESET_WRITE: the control word is written with RESET = 1 and EN as it stands. -/
def execStmResetWrite (req : Requester) (stream ctrl : Nat) (s : State) : Host.Outcome State Fault Refusal :=
  whenLive (fun s => s.guard (decide (stream < 4096)) (fun s =>
    let v := setBits (setBits (ctrl % 2 ^ 32) 31 31 (s.getF (Reg.STM_CTRL_EN stream))) 0 0 1
    s.access req (Reg.STM_CTRL stream) v (fun t => t.wrStmCtrl stream v))) s

/-- SWAP_OUT. -/
def execSwapOut (req : Requester) (stream : Nat) (s : State) : Host.Outcome State Fault Refusal :=
  whenLive (fun s => s.guard (decide (stream < 4096)) (fun s =>
    s.access req (Reg.STM_OP stream) 1 (fun t => t.wrStmOp stream 1))) s

/-- UNPARK. -/
def execUnpark (req : Requester) (stream : Nat) (s : State) : Host.Outcome State Fault Refusal :=
  whenLive (fun s => s.guard (decide (stream < 4096)) (fun s =>
    s.access req (Reg.STM_OP stream) 2 (fun t => t.wrStmOp stream 2))) s

/-- SWAP_OUT_DONE: the image is complete at PTR; a place that the stream's partition may not write takes no byte (R251). The read
of the home tile's memories meets what ECC errors there are (R143). -/
def execSwapOutDone (stream : Nat) (s : State) : Host.Outcome State Fault Refusal :=
  whenLive (fun s => s.guard (decide (stream < 4096) && s.stmStatus stream == 3) (fun s =>
    let home := s.getF (Reg.STM_HOME_TILE stream)
    let l := s.stmImage stream (s.stmCopy home stream (s.bankSel stream))
    let x := s.stream stream
    let s0 := s.readsFind ((s.stmPieces stream (s.bankSel stream)).map (fun p => (sramAddr home p.1, p.2)))
    let s1 := if s.memOk (s.stmPart stream) (s.stmPtr stream) l.length true then s0.put swapPort (s.stmPart stream) (s.stmPtr stream) l
      else s0
    ((s1.setStream stream { x with imageWritten := true, park := false }).setStatus stream (if x.park then 6 else 4)).satInc
      Reg.STM_CNT_SWAPS)) s

/-- RESTORE_DONE (R253, R254); while the STM stops, the stream is swapped out again at once (R259). -/
def execRestoreDone (stream : Nat) (s : State) : Host.Outcome State Fault Refusal :=
  whenLive (fun s => s.guard (decide (stream < 4096) && s.stmStatus stream == 5) (fun s =>
    let l := s.fetch (s.stmPtr stream) (s.imageBytes stream)
    let x := s.stream stream
    if s.memOk (s.stmPart stream) (s.stmPtr stream) l.length false && s.imageGood stream l then
      let s1 := (((s.setStmCopy x.dest stream (s.bankSel stream) (s.imageState stream l)).setStatus stream 2).satInc
        Reg.STM_CNT_RESTORES).traffic swapPort (s.stmPart stream) false (s.stmPtr stream) l.length
      if x.park then s1.wantSwap stream true
      else if s.blockState 0x340 == .stopping then s1.wantSwap stream false else s1
    else
      let c := s.getF (Reg.STM_OWNER_CTX stream)
      let s1 := (s.setStatus stream 7).putF (Reg.STM_STAT_WAITING stream) 0
      let s2 := match (s.ctx c).queue with
        | cmd :: _ =>
          if cmd.op == 0x28 && cmd.stream == stream && s.onF (Reg.STM_STAT_WAITING stream) then (s1.record c cmd 0x19 0).endContext c 0x19
          else s1
        | [] => s1
      s2.raise FS.STM_IMAGE [c] 0x19)) s

end Sys2Proof.Machine
end

