-- ==== Sys2Proof/Machine/Chain.lean ====
section
/-! DEFINITION. Command chains (chapter 06): the dispatcher's reading of slots (R155–R160), entry to the commit window
(R176), the commands that end in the dispatcher, commit (R180), the completion of a kill (R183), and writes to sync
objects (R191–R194). -/

namespace Sys2Proof.Machine

/-! ## The dispatcher -/

/-- The dispatcher acts on context `c`: ACTIVE, and dispatch is not closed. -/
def State.dispatching (s : State) (c : Nat) : Bool := (s.ctx c).state == .active && !(s.ctx c).closing

/-- A command that completes in the dispatcher (R162, R175). -/
def inDispatcher (op : Nat) : Bool := op == 0x38 || op == 0x39 || op == 0x3F

/-- The dispatcher looks at the front command of context `c`: a command it has not checked is checked, and refused or its
wait evaluated (R162, R163, R190); a wait that has ended without satisfaction holds the context (R193). -/
def State.advance (s : State) (c : Nat) : State :=
  let x := s.ctx c
  match x.queue with
  | [] => s
  | d :: r =>
    if !s.dispatching c then s
    else if d.checked then s.endBrokenWait c
    else match s.dispatchCheck c d with
      | some status => s.failCommand c d status FS.SCH_DESC
      | none => (s.setCtx c { x with queue := s.evalWait { d with checked := true } :: r }).endBrokenWait c

/-- The front command leaves the queue. -/
def State.popFront (s : State) (c : Nat) : State := (s.setCtx c { s.ctx c with queue := (s.ctx c).queue.drop 1 }).advance c

/-- The front command of a dispatching context, if its wait has held. -/
def State.frontReady (s : State) (c : Nat) : Option Cmd :=
  match (s.ctx c).queue with
  | d :: _ => if s.dispatching c && d.checked && d.waitOk then some d else none
  | [] => none

/-- What the dispatcher holds of a context's chain from its next slot on: what its last read brought beyond the slots taken, or, where
that is used up, a new 512-byte read (R160). -/
def State.chainBytes (s : State) (c : Nat) : List Byte :=
  let x := s.ctx c
  if x.buffer.isEmpty then s.fetch x.next (512 - x.next % 512) else x.buffer

/-- A fetched slot may be taken: it lies in a block that the partition may read (R155), V = 1, and SEQ is the expected
number (R157). -/
def State.slotReady (s : State) (c : Nat) : Option Cmd :=
  let x := s.ctx c
  let block := x.next / 4096 * 4096
  let l := (s.chainBytes c).take 64
  let v := leField l 60 4
  if s.chainBlockOk x.part block && bit v 31 && bits v 15 0 == x.seq then
    some { desc := l, slot := x.next % 4096 / 64, seq := x.seq, reruns := 0, checked := false, waitOk := false,
           waitBroken := false }
  else none

/-- The commands of context `c` that have been fetched and not committed: in the dispatcher, in its window, and killed ones on their way
back. At most 8 are fetched at a time, so that the dispatcher never holds more (R160, R183; log entry 158). -/
def State.fetched (s : State) (c : Nat) : Nat :=
  let x := s.ctx c
  x.queue.length + match x.onTile with
    | some t => (s.tile t).window.length + (s.tile t).victims.length
    | none => 0

/-- The dispatcher reads the next slot of context `c`: it takes a ready one; else the slot is read again at the poll
interval, and a context with nothing to run leaves its tile (R160, R296). At most 8 commands are held, and none past a
LINK that has not been executed. -/
def State.readSlot (s : State) (c : Nat) : State :=
  let x := s.ctx c
  if s.dispatching c && decide (s.fetched c < 8) && !x.queue.any (fun d => d.slot == 63) then
    match s.slotReady c with
    | some d =>
      (s.setCtx c { x with queue := x.queue ++ [d], seq := (x.seq + 1) % 65536, polling := false,
                           next := if d.slot = 63 then x.next else x.next + 64,
                           buffer := (s.chainBytes c).drop 64 }).advance c
    | none =>
      let s1 := s.setCtx c { x with polling := true, buffer := [] }
      if x.queue.isEmpty && s1.windowEmpty c then s1.leaveTile c else s1
  else s

/-! ## Tiles that a context may have (R48, R292) -/

/-- The 32 tiles. -/
def tiles : List Nat := List.range 32

/-- The contexts that are listed (not FREE with an empty entry). -/
def State.contexts (s : State) : List Nat := s.sch.ctxs.map (fun e => e.1)

/-- A context waits for a tile: ACTIVE, dispatch open, off every tile, not in the middle of a save, and its front command
may enter a window. -/
def State.wantsTile (s : State) (c : Nat) : Bool :=
  let x := s.ctx c
  x.onTile.isNone && !x.saving &&
    match s.frontReady c with
    | some d => !inDispatcher d.op
    | none => false

/-- Tile `t` may be given to context `c` if no window holds it and no kill is under way there (R292). -/
def State.tileFits (s : State) (c t : Nat) : Bool :=
  let x := s.tile t
  bit (s.ctx c).entry.tiles t && s.isRunning (tilePage t) && !s.fenced t && !x.closed && !x.inSlot

/-- Tile `t` may be given to context `c` if no window holds it (R292). -/
def State.tileOpen (s : State) (c t : Nat) : Bool := s.tileFits c t && !(s.tile t).killing

/-- Tile `t` is eligible for context `c` and holds no window. -/
def State.eligible (s : State) (c t : Nat) : Bool := s.tileOpen c t && (s.tile t).ctx.isNone

/-- A context of the partition that owns tile `t`'s window waits for the tile, which another partition's context holds and no other
tile can take its place: that context is dispatched no further command (R48). -/
def State.ownerWaits (s : State) (t : Nat) : Bool :=
  match (s.tile t).ctx with
  | none => false
  | some d => (s.ctx d).part != (s.tile t).owner && s.contexts.any (fun c =>
      (s.ctx c).part == (s.tile t).owner && s.wantsTile c && s.tileFits c t && !tiles.any (s.eligible c))

/-! ## The end of a window -/

/-- After a change of tile `t`'s window: swap-outs that waited begin (R251); an empty window ends a hold (R290), a drain
(R298), a context that keeps the window's owner waiting (R48), or one with no ready slot (R296). -/
def State.settle (s : State) (t : Nat) : State :=
  let s1 := s.trySwaps t
  match (s1.tile t).ctx with
  | none => s1
  | some c =>
    if !s1.windowEmpty c then s1
    else if (s1.ctx c).closing then s1.holdIfDrained c
    else if (s1.tile t).draining || s1.ownerWaits t || ((s1.ctx c).queue.isEmpty && (s1.ctx c).polling) then s1.leaveTile c
    else s1

/-- A unit's work is charged, at commit step 8 or at the last step of a kill: times that spec/ does not fix (R310). -/
def State.chargeUnits (s : State) (t c : Nat) : State :=
  let (m, s1) := s.free 64
  let (v, s2) := s1.free 64
  let (a, s3) := s2.free 64
  let x := s3.ctx c
  let s4 := s3.setCtx c { x with mat := (x.mat + m) % 2 ^ 64, vec := (x.vec + v) % 2 ^ 64, xfer := (x.xfer + a) % 2 ^ 64 }
  let (p, s5) := s4.free 64
  let (q, s6) := s5.free 64
  let (r, s7) := s6.free 64
  (((s7.wrapInc (Reg.TILE_CYC_MAT_CYC t) p).wrapInc (Reg.TILE_CYC_VEC_CYC t) q).wrapInc (Reg.TILE_CYC_AE_CYC t) r).wrapInc
    (Reg.TILE_CYC_ALL_CYC t) (p + q + r)

/-- A commit with REPORT = 1 kicks the context's stage watchdog; 0–7 bind none (R576). -/
def State.reportKick (s : State) (c : Nat) (cmd : Cmd) : State :=
  let w := (s.ctx c).entry.wdg
  if cmd.report && decide (8 ≤ w ∧ w < 256) then s.kick w else s

/-- The completion record of a commit: with REPORT, a flag, a kill before, or a status that is not OK (R180). -/
def State.commitRecord (s : State) (c : Nat) (cmd : Cmd) (status flags : Nat) : State :=
  if cmd.report || flags != 0 || cmd.reruns != 0 || status != 0 then s.record c cmd status flags else s

/-- The signalling command's ADD would overflow: FS_SYN_OVF is raised and its context torn down (R191). -/
def State.overflowEnds (s : State) (c : Nat) : State := (s.raise FS.SYN_OVF [c] 0x12).endContext c 0x12

/-! ## Commit (R180) -/

/-- Bytes written to tile `t`'s memories; an uncorrectable word is good again once written (R140). -/
def State.writeLocal (s : State) (t o : Nat) (l : List Byte) : State := (s.write (sramAddr t o) l).heal (sramAddr t o) l.length

/-- REFCNT of a page falls by one; at 0 the page returns to the list it names (R225). -/
def State.dropPage (s : State) (page : Nat) : State :=
  let n := s.refCount page - 1
  let s1 := s.setRefCount page n
  if n = 0 then s1.freePage (s1.pagePart page) (s1.pageList page) page else s1

/-- A page-table entry becomes IN_USE with REFCNT 1 (R218, R227). -/
def State.newPage (s : State) (page hwm layout ks vs : Nat) : State :=
  (((((s.setPageState page 3).setRefCount page 1).setByte (s.ptEntry page + 10) (BitVec.ofNat 8 hwm)).setByte
    (s.ptEntry page + 11) (BitVec.ofNat 8 layout)).writeNat (s.ptEntry page + 12) 2 ks).writeNat (s.ptEntry page + 14) 2 vs

/-- A SCAN's chunk commits: BANK_SEL flips, GEN counts, the last mark and a sampled RESET take effect (R242, R248–R250). -/
def State.commitChunk (s : State) (i : Nat) (seg : Option Nat) (fresh rewritten : Bool) : State :=
  let s1 := if s.stmW i = 0 then s.putF (Reg.STM_HOME_BANK_SEL i) (1 - s.bankSel i) else s
  let s2 := s1.wrapInc (Reg.STM_GEN_GEN i)
  let s3 := match seg with | some m => s2.putF (Reg.STM_STAT_LAST_SEG i) m | none => s2
  if fresh then (if rewritten then s3 else s3.putF (Reg.STM_CTRL_RESET i) 0).satInc Reg.STM_CNT_RESETS else s3

/-- An effect of the commit point of a command of partition `p` on tile `t` (R180 step 5): the KVP writes a link's SEL, over the Odilo
link in a neighbour window (R216), and the lists grant the page-table updates to the tile's port (R233). -/
def State.postEffect (s : State) (t p : Nat) (rewritten : Bool) (e : PostEffect) : State :=
  match e with
  | .link a w => s.put kvpPort p a (leBytes 4 w)
  | .pageNew n h l k v => (s.newPage n h l k v).ptGranted n t
  | .pageHwm n h => (s.setByte (s.ptEntry n + 10) (BitVec.ofNat 8 h)).ptGranted n t
  | .pageDrop _ n => (s.ptGranted n t).dropPage n
  | .kvCopy p => s.satInc (Reg.KVP_CNT_COPIES p)
  | .stream i _ seg fresh => s.commitChunk i seg fresh rewritten
  | .phase p w => s.preGrant t p w

/-- The matrix unit's attempt has passed: CK_ARMED clears, and a re-run that passed masks the first failure (R128). -/
def State.checkedPass (s : State) (t : Nat) : State :=
  let x := s.tile t
  let s1 := s.putF (Reg.TILE_FENCE_CK_ARMED t) 0
  if x.rerunFirst then (s1.satInc (Reg.TILE_CKCNT_MASKED t)).setTile t { x with rerunFirst := false } else s1

/-- The commit point and the steps after it, of the oldest entry of tile `t` (R180). -/
def State.commitEntry (s : State) (t c : Nat) (e : WEntry) : State :=
  let cmd := e.cmd
  let s1 := e.outs.foldl (fun u o => u.writeLocal t o.1 o.2) s
  let s2 := e.writes.foldl (fun u w => if u.isNeighbour w.1 then u else u.store w.1 w.2) s1
  let s3 := e.post.foldl (fun u p => u.postEffect t (s.ctx c).part e.rewritten p) s2
  let s4 := s3.setTile t { s3.tile t with window := (s3.tile t).window.drop 1 }
  let s5 := if usesMatrix cmd.op then s4.checkedPass t else s4
  let add := bits (cmd.half 6) 15 14 == 1
  let obj := bits (cmd.half 6) 13 0
  let exceed := add && s5.addOverflows obj (cmd.word 0x0C)
  let s6 := (s5.commitRecord c cmd (if exceed then 0x12 else 0) e.flags).reportKick c cmd
  let s7 := if add then (s6.granted (.sync obj) t).syncAdd obj (cmd.word 0x0C) else s6
  let s8 := s7.chargeUnits t c
  (if exceed then s8.overflowEnds c else s8).settle t

/-- A save of context `c`'s resident state on tile `t` begins; its resident streams there are swapped out instead to
their own pointers (R245, R302). -/
def State.beginSave (s : State) (c t : Nat) : State :=
  if (s.ctx c).resident == some t then (s.setCtx c { s.ctx c with saving := true }).swapOutOf c t else s

/-- Every context resident on tile `t` is saved (R304, R305). -/
def State.saveResidents (s : State) (t : Nat) : State := s.sch.ctxs.foldl (fun u e => u.beginSave e.1 t) s

/-- Tile `t` is fenced for `cause` 1 or 3 (R128, R130–R133): its bit of DEV_TILE_PRESENT clears, its block faults,
FS_TILE_FENCED stands, the contexts resident on it are to be saved over the mesh (R304), and its clock goes to 0.40 GHz, which asks
no voltage of its island (R25, R38). -/
def State.fence (s : State) (t cause : Nat) : State :=
  let s1 := ((s.putF (Reg.TILE_FENCE_FENCED t) 1).putF (Reg.TILE_FENCE_CAUSE t) cause).putF (Reg.TILE_FENCE_VERDICT t)
    (if cause = 1 then 1 else 2)
  let s2 := s1.putF ⟨Reg.DEV_TILE_PRESENT, t, t⟩ 0
  (((s2.faultBlock (tilePage t)).raiseLevel (FS.TILE_FENCED t)).saveResidents t).setGoal t 16

/-- A checked attempt of a command of context `c` failed: the first arms CK_ARMED and the command runs again, first on the same tile,
unless the raise's class tears the context down; a second in a row fences the tile (R127, R128, R589). -/
def State.checkedFail (s : State) (t c : Nat) : State :=
  let s1 := s.satInc (Reg.TILE_CKCNT_FAILS t)
  if s.onF (Reg.TILE_FENCE_CK_ARMED t) then (s1.fence t 1).raise (FS.TILE_CKFENCE t) [c]
  else
    let s2 := ((s1.putF (Reg.TILE_FENCE_CK_ARMED t) 1).raise (FS.TILE_CKFAIL t) [c]).kill t 0 true false
    s2.setTile t { s2.tile t with rerunFirst := !(s2.tile t).leaving }

/-! ## Entry to the window (R176) -/

/-- Tile `t` takes commands: it works, is neither draining nor about to be left, and keeps no owner of its window waiting. -/
def State.tileTakes (s : State) (t : Nat) : Bool :=
  s.tileWorks t && !(s.tile t).draining && !(s.tile t).leaving && decide ((s.tile t).window.length < 8) && !s.ownerWaits t

/-- The block that a command needs RUNNING: KVP for pages (R236), STM for SCAN (R259). -/
def State.blocksRun (s : State) (cmd : Cmd) : Bool :=
  if cmd.op = 0x21 ∨ (cmd.op = 0x20 ∧ cmd.scratchKeys = false) then s.isRunning 0x338
  else if cmd.op = 0x28 then s.isRunning 0x340
  else true

/-- Some older entry of the window conflicts with the command, so what its geometry block holds is not known yet. -/
def State.geometryOpen (s : State) (t : Nat) (cmd : Cmd) : Bool :=
  cmd.op == 0x11 && (s.tile t).window.any (fun e =>
    regionsMeet [flat (cmd.loc 0x38) 32 1 false] (s.regions t e.cmd) (fun _ => true) (fun r => r.out))

/-- The front command of context `c` enters tile `t`'s window, or is refused by the sequencer (R162, R163). A CONV whose geometry block is
still to be written is checked for what does not rest on it; EXECUTE makes the other checks (log entry 159). -/
def State.enter (s : State) (c t : Nat) (cmd : Cmd) : State :=
  match if s.geometryOpen t cmd then s.bodyCheckOpen c t cmd else s.bodyCheck c t cmd with
  | some status => s.failCommand c cmd status (FS.TILE_DESC t)
  | none =>
    let fresh := cmd.op == 0x28 && s.stmW cmd.stream == 0 && s.onF (Reg.STM_CTRL_RESET cmd.stream)
    let x := s.tile t
    (s.setTile t { x with window := x.window ++ [{ cmd := cmd, fresh := fresh }] }).popFront c

/-- The front command of context `c` goes to tile `t`'s window; a SCAN is refused or waits for its stream first (R240, R253). -/
def State.toWindow (s : State) (c t : Nat) (cmd : Cmd) : State :=
  if cmd.op = 0x28 then
    if s.scanRefused c cmd.stream then s.failCommand c cmd 0x18 FS.STM_REFUSED
    else
      let (ok, s1) := s.scanReady cmd.stream t
      if ok then s1.enter c t cmd else s1
  else s.enter c t cmd

/-- A kill on tile `t` of context `c` is complete: the victims stand in the dispatcher again, and the command whose check failed enters
the window at once, ahead of every other, unless the tile does not work or the context leaves it (R127, R129, R183). -/
def State.victimsBack (s : State) (t c : Nat) : State :=
  let x := s.tile t
  let y := s.ctx c
  let s1 := s.setTile t { x with killing := false, victims := [], killFor := none }
  if y.state == .active || y.state == .held then
    let s2 := s1.setCtx c { y with queue := x.victims ++ y.queue }
    match x.victims with
    | cmd :: _ => if x.rerunFirst && !x.leaving && s2.tileWorks t && s2.blocksRun cmd then s2.toWindow c t cmd else s2
    | [] => s2
  else s1

/-! ## Sync object writes (R191–R194) -/

/-- SYN_STATE: 1 makes a FREE or POISONED object LIVE with value 0, 0 frees it; OWNER_CTX changes only with STATE. -/
def State.wrSynState (s : State) (i v : Nat) : State :=
  let old := s.syncState i
  let new := bits v 31 30
  let own (u : State) : State := u.putF (Reg.SYN_STATE_OWNER_CTX i) (bits v 27 16)
  if new = 1 ∧ old ≠ 1 then (((own (s.putF (Reg.SYN_STATE_STATE i) 1)).putF (Reg.SYN_VALUE_VALUE i) 0).syncUpdated i).raiseChans
  else if new = 0 ∧ old ≠ 0 then ((own (s.putF (Reg.SYN_STATE_STATE i) 0)).syncUpdated i).raiseChans
  else s

/-- SYN_ADD on page `p` by `req`: an amount of 0 has no effect. -/
def State.wrSynAdd (s : State) (req : Requester) (p v : Nat) : State :=
  if v / 2 ^ 32 = 0 then s else s.signal (syncPortOf req) (256 * p + bits v 7 0) (v / 2 ^ 32 % 2 ^ 32)

/-! ## Commands -/

/-- DESCRIPTOR_FETCH: a slot read returns (R160). -/
def execDescriptorFetch (ctx : Nat) (s : State) : Host.Outcome State Fault Refusal :=
  whenLive (fun s => s.guard (s.isRunning 0x80 && !(s.ctx ctx).polling) (fun s => s.readSlot ctx)) s

/-- CHAIN_POLL: a slot that was not ready is read again (R160). -/
def execChainPoll (ctx : Nat) (s : State) : Host.Outcome State Fault Refusal :=
  whenLive (fun s => s.guard (s.isRunning 0x80 && (s.ctx ctx).polling) (fun s =>
    (s.setCtx ctx { s.ctx ctx with polling := false }).readSlot ctx)) s

/-- COMMIT_WINDOW_ENTRY. -/
def execCommitWindowEntry (ctx : Nat) (s : State) : Host.Outcome State Fault Refusal :=
  whenLive (fun s =>
    match s.frontReady ctx, (s.ctx ctx).onTile with
    | some cmd, some t =>
      if inDispatcher cmd.op || !s.tileTakes t || !(s.ctx ctx).prep.isEmpty || !s.blocksRun cmd || !s.isRunning 0x80 then s
      else s.toWindow ctx t cmd
    | _, _ => s) s

/-- SYNC_WAIT completes in the dispatcher once its condition has held (R175). -/
def execSyncWait (ctx : Nat) (s : State) : Host.Outcome State Fault Refusal :=
  whenLive (fun s =>
    match s.frontReady ctx with
    | some cmd =>
      if cmd.op = 0x38 ∧ s.isRunning 0x80 = true then ((s.commitRecord ctx cmd 0 0).reportKick ctx cmd).popFront ctx else s
    | none => s) s

/-- SYNC_SIGNAL applies its operation at its commit, after every earlier command's (R175, R191), through the port of its context's
tile (the model's choice, log entry 166). -/
def execSyncSignal (ctx : Nat) (s : State) : Host.Outcome State Fault Refusal :=
  whenLive (fun s =>
    match s.frontReady ctx with
    | some cmd =>
      if cmd.op = 0x39 ∧ s.windowEmpty ctx = true ∧ s.isRunning 0x80 = true then
        let obj := bits (cmd.half 0x10) 13 0
        let v := cmd.long 0x18
        let add := bits (cmd.half 0x10) 15 14 == 1
        let exceed := add && s.addOverflows obj v
        let s1 := (s.commitRecord ctx cmd (if exceed then 0x12 else 0) 0).reportKick ctx cmd
        let u := s1.granted (.sync obj) ((s.ctx ctx).onTile.getD 0)
        let s2 := if add then u.syncAdd obj v else u.syncSet obj v
        if exceed then s2.overflowEnds ctx else s2.popFront ctx
      else s
    | none => s) s

/-- LINK moves the chain to the next block (R157). -/
def execLink (ctx : Nat) (s : State) : Host.Outcome State Fault Refusal :=
  whenLive (fun s =>
    match s.frontReady ctx with
    | some cmd =>
      if cmd.op = 0x3F ∧ s.isRunning 0x80 = true then
        let s1 := (s.commitRecord ctx cmd 0 0).reportKick ctx cmd
        (s1.setCtx ctx { s1.ctx ctx with next := bits (cmd.long 0x10) 47 0, buffer := [] }).popFront ctx
      else s
    | none => s) s

/-- COMMIT of the oldest command of a tile's window, once it is finished and its writes are complete (R180); a checksum
failure ends the attempt (R127). -/
def execCommit (tile : Nat) (s : State) : Host.Outcome State Fault Refusal :=
  whenLive (fun s =>
    match (s.tile tile).ctx, (s.tile tile).window with
    | some c, e :: _ =>
      if e.finished && s.tileWorks tile && !s.remoteBusy tile e.cmd.seq then
        if e.verdict == .checksum then s.checkedFail tile c else s.commitEntry tile c e
      else s
    | _, _ => s) s

/-- KILL_COMPLETE: the victims are at the front of the dispatcher's queue again; a command whose check failed runs again at once; a
context that leaves, leaves (R127, R183). -/
def execKillComplete (tile : Nat) (s : State) : Host.Outcome State Fault Refusal :=
  whenLive (fun s =>
    let x := s.tile tile
    s.guard x.killing (fun s =>
      match x.ctx with
      | none => s.setTile tile { x with killing := false, victims := [], killFor := none }
      | some c =>
        let s3 := ((s.victimsBack tile c).chargeUnits tile c).settle tile
        if x.leaving then s3.leaveTile c else s3)) s

/-- SYN_ADD: one 8-byte write (R191, R194). -/
def execSynAdd (req : Requester) (page idx amount : Nat) (s : State) : Host.Outcome State Fault Refusal :=
  let v := idx % 256 + amount % 2 ^ 32 * 2 ^ 32
  whenLive (fun s => s.guard (decide (page < 64)) (fun s =>
    s.accessWide req (Reg.SYN_ADD page) v (fun t => t.wrSynAdd req page v))) s

/-- SYN_STATE_WRITE (R192). -/
def execSynStateWrite (req : Requester) (obj state owner : Nat) (s : State) : Host.Outcome State Fault Refusal :=
  let v := state % 4 * 2 ^ 30 + owner % 4096 * 2 ^ 16
  whenLive (fun s => s.guard (decide (obj < 16384)) (fun s =>
    s.access req (Reg.SYN_STATE obj) v (fun t => t.wrSynState obj v))) s

/-- SYN_VALUE_WRITE: a SET signal; one to an object that is not LIVE is dropped and counted (R194). -/
def execSynValueWrite (req : Requester) (obj value : Nat) (s : State) : Host.Outcome State Fault Refusal :=
  let v := value % 2 ^ 64
  whenLive (fun s => s.guard (decide (obj < 16384)) (fun s =>
    s.accessWide req (Reg.SYN_VALUE obj) v (fun t => t.setSignal (syncPortOf req) obj v))) s

/-- SCRUB_READ: the scrubber reads and corrects 64-byte line `line` of a tile's memories (R141). -/
def execScrubRead (tile line : Nat) (ecc : List EccError) (passDone : Bool) (s : State) :
    Host.Outcome State Fault Refusal :=
  whenLive (fun s => s.guard (decide (tile < 32)) (fun s =>
    let found := ecc.filter (fun e => !e.mem && e.offset / 64 == line)
    let s1 := found.foldl (fun u e => u.eccFound tile [] e) s
    if passDone then s1.wrapInc (Reg.TILE_SCRUB_PASSES tile) else s1)) s

end Sys2Proof.Machine
end

