-- ==== Sys2Proof/Machine/Scheduler.lean ====
section
/-! DEFINITION. The scheduler (chapter 10): operations on contexts (R286–R290), placement (R292–R296, R299), virtual time
and quanta (R297, R298), footprints, save and restore (R300–R305), the model hot set (R306–R309), accounting (R310,
R311) and teardown (R312). -/

namespace Sys2Proof.Machine

/-! ## The context table (R286, R287) -/

/-- A field of a table entry's word. -/
def entryBits (l : List Byte) (o n hi lo : Nat) : Nat := bits (leField l o n) hi lo

/-- Address of context `c`'s table entry. -/
def State.ctxAddr (s : State) (c : Nat) : Nat := s.getF Reg.SCH_CTX_BASE_BASE * 2 ^ 18 + 64 * c

/-- The 64 bytes of context `c`'s table entry. -/
def State.ctxRow (s : State) (c : Nat) : List Byte := s.fetch (s.ctxAddr c) 64

/-- The scheduler may make an access: the regions let the partition of its page make it (R266). -/
def State.schReach (s : State) (a n : Nat) (write : Bool) : Bool := s.memOk (s.owner 0x80) a n write

/-- The entry that 64 bytes spell. -/
def entryOf (l : List Byte) : CtxEntry where
  weight := leField l 0x0C 2
  ring := entryBits l 0x10 8 47 0
  ringN := entryBits l 0x18 4 16 0
  tiles := leField l 0x1C 4
  foot := leField l 0x20 4
  model := entryBits l 0x24 4 23 16
  wdg := entryBits l 0x24 4 7 0
  save := entryBits l 0x28 8 47 0
  kvList := entryBits l 0x30 8 47 0
  kvN := entryBits l 0x38 4 20 0

/-- PART of a table entry. -/
def rowPart (l : List Byte) : Nat := entryBits l 0x08 4 30 28

/-- Every reserved bit of a table entry is 0. -/
def rowReservedOk (l : List Byte) : Bool :=
  entryBits l 0 8 63 48 == 0 && entryBits l 0 8 5 0 == 0 && entryBits l 0x08 4 27 16 == 0 &&
  entryBits l 0x0C 4 31 16 == 0 && entryBits l 0x10 8 63 48 == 0 && entryBits l 0x10 8 3 0 == 0 &&
  entryBits l 0x18 4 31 17 == 0 && entryBits l 0x20 4 31 31 == 0 && entryBits l 0x20 4 23 23 == 0 &&
  entryBits l 0x20 4 15 14 == 0 && entryBits l 0x20 4 7 5 == 0 && entryBits l 0x24 4 31 24 == 0 &&
  entryBits l 0x24 4 15 8 == 0 && entryBits l 0x28 8 63 48 == 0 && entryBits l 0x28 8 11 0 == 0 &&
  entryBits l 0x30 8 63 48 == 0 && entryBits l 0x30 8 3 0 == 0 && entryBits l 0x38 4 31 21 == 0 && leField l 0x3C 4 == 0

/-- The entry's model may be used by partition `p` (R287). -/
def State.entryModelOk (s : State) (e : CtxEntry) (p : Nat) : Bool :=
  let m := s.model e.model
  e.model == 0 || (m.applied && m.part == p && decide (bits e.foot 22 16 ≤ m.mregBase) &&
    decide (m.mregBase + m.mregSize ≤ bits e.foot 22 16 + bits e.foot 30 24))

/-- ACTIVATE accepts the entry (R287). -/
def State.ctxRowOk (s : State) (l : List Byte) (p : Nat) : Bool :=
  let e := entryOf l
  bit (leField l 8 4) 31 && rowReservedOk l && e.weight != 0 && e.tiles != 0 &&
  decide (1 ≤ e.ringN ∧ e.ringN ≤ 65536) && decide (bits e.foot 22 16 + bits e.foot 30 24 ≤ 96) &&
  decide (bits e.foot 4 0 + bits e.foot 13 8 ≤ 32) && s.entryModelOk e p

/-! ## Operations (R288–R290) -/

/-- The result of an operation is shown in SCH_RES of Pp: 0 OK, 1 STATE, 2 RIGHTS, 3 FORMAT, 4 NO_ROOM. -/
def State.schResult (s : State) (p op result arg : Nat) : State :=
  ((s.putF (Reg.SCH_RES_OP p) op).putF (Reg.SCH_RES_RESULT p) result).putF (Reg.SCH_RES_ARG p) arg

/-- The least of a list of numbers. -/
def least (l : List Nat) : Option Nat :=
  l.foldl (fun m x => match m with | none => some x | some y => some (min x y)) none

/-- VT of context `c` is raised to the least VT among the other ACTIVE contexts of its partition that wait for a tile
(R297). -/
def State.raiseVt (s : State) (c : Nat) : State :=
  let x := s.ctx c
  match least ((s.contexts.filter (fun d => d != c && (s.ctx d).part == x.part && s.wantsTile d)).map
      (fun d => (s.ctx d).vt)) with
  | some v => s.setCtx c { x with vt := max x.vt v }
  | none => s

/-- ACTIVATE of context `c` by Pp: the result and the state (R287, R289). An entry that the scheduler may not read carries no PART:
RIGHTS (log entry 186). -/
def State.activate (s : State) (p c : Nat) : Nat × State :=
  let x := s.ctx c
  let l := s.ctxRow c
  if !s.schReach (s.ctxAddr c) 64 false ∨ rowPart l ≠ p ∨ (x.state ≠ .free ∧ x.part ≠ p) then (2, s)
  else if x.state ≠ .free then (1, s)
  else if !s.ctxRowOk l p then (3, s)
  else
    (0, (s.setCtx c { state := .active, part := p, entry := entryOf l, next := entryBits l 0 8 47 0,
                      seq := leField l 8 2 }).raiseVt c)

/-- UPDATE: SHARE, TILES and the stage watchdog are read again (R289); a SHARE or TILES of 0, which no entry may hold, leaves the field
as it was (log entry 63). -/
def State.updateCtx (s : State) (p c : Nat) : Nat × State :=
  let x := s.ctx c
  let l := s.ctxRow c
  let e := entryOf l
  if !s.schReach (s.ctxAddr c) 64 false ∨ rowPart l ≠ p ∨ (x.state ≠ .free ∧ x.part ≠ p) then (2, s)
  else if x.state ≠ .active ∧ x.state ≠ .held then (1, s)
  else (0, s.setCtx c { x with entry := { x.entry with
      weight := if e.weight = 0 then x.entry.weight else e.weight, tiles := if e.tiles = 0 then x.entry.tiles else e.tiles,
      wdg := e.wdg } })

/-- An operation that only a context of Pp's in a state that allows it takes. -/
def State.ctxOp (s : State) (p c : Nat) (ok : CtxState → Bool) (f : State → State) : Nat × State :=
  let x := s.ctx c
  if x.state ≠ .free ∧ x.part ≠ p then (2, s) else if ok x.state then (0, f s) else (1, s)

/-- HOLD (R289, R290): HELD stays as it is. -/
def State.holdOp (s : State) (p c : Nat) : Nat × State :=
  s.ctxOp p c (fun t => t == .active || t == .held) (fun s => s.holdCtx c 0x20)

/-- The front command's wait is evaluated afresh (R290). -/
def State.freshWait (s : State) (c : Nat) : State :=
  let x := s.ctx c
  match x.queue with
  | d :: r =>
    if d.checked && !d.waitOk then
      (s.setCtx c { x with queue := s.evalWait { d with waitBroken := false } :: r }).endBrokenWait c
    else s.advance c
  | [] => s

/-- RELEASE: dispatch resumes (R290, R297). -/
def State.releaseOp (s : State) (p c : Nat) : Nat × State :=
  s.ctxOp p c (fun t => t == .held) (fun s =>
    ((s.setCtx c { s.ctx c with state := .active, closing := false, polling := false }).raiseVt c).freshWait c)

/-- TEARDOWN (R312): TEARING and TORN stay as they are. -/
def State.teardownOp (s : State) (p c : Nat) : Nat × State :=
  s.ctxOp p c (fun t => t != .free) (fun s => s.endContext c 0x20)

/-- RETIRE: a TORN context is FREE. -/
def State.retireOp (s : State) (p c : Nat) : Nat × State :=
  s.ctxOp p c (fun t => t == .torn) (fun s => s.setCtx c {})

/-! ## Footprints and images (R300–R303) -/

/-- Tile-local ranges of a footprint: offset and bytes. -/
def footRanges (e : CtxEntry) : List (Nat × Nat) :=
  let (sb, ss, ab, asz) := footOf e.foot
  [(sb, ss), (ab, asz)]

/-- `r` without the bytes of `lo` to `lo + n − 1`. -/
def cutRange (r : Nat × Nat) (lo n : Nat) : List (Nat × Nat) :=
  if !meets r.1 r.2 lo n then [r]
  else (if r.1 < lo then [(r.1, lo - r.1)] else []) ++
    (if lo + n < r.1 + r.2 then [(lo + n, r.1 + r.2 - (lo + n))] else [])

/-- The footprint of context `c` with its model region left out, in image order. -/
def State.ownRanges (s : State) (c : Nat) : List (Nat × Nat) :=
  let e := (s.ctx c).entry
  let (mb, ms) := s.modelRegion e
  ((footRanges e).flatMap (fun r => cutRange r mb ms)).filter (fun r => r.2 != 0)

/-- Two lists of ranges share a byte. -/
def rangesMeet (a b : List (Nat × Nat)) : Bool := a.any (fun x => b.any (fun y => meets x.1 x.2 y.1 y.2))

/-- The footprints of two contexts intersect (R293). -/
def State.feetMeet (s : State) (c d : Nat) : Bool := rangesMeet (footRanges (s.ctx c).entry) (footRanges (s.ctx d).entry)

/-- The footprints intersect, model regions that hold the same model left out (R301). -/
def State.feetClash (s : State) (c d : Nat) : Bool :=
  let m := (s.ctx c).entry.model
  if m != 0 && m == (s.ctx d).entry.model then rangesMeet (s.ownRanges c) (s.ownRanges d) else s.feetMeet c d

/-- The other contexts resident on tile `t`. -/
def State.residents (s : State) (t c : Nat) : List Nat :=
  s.contexts.filter (fun d => d != c && (s.ctx d).resident == some t)

/-- The first 60 header bytes of context `c`'s image (R302). -/
def State.imageHead (s : State) (c : Nat) : List Byte :=
  let x := s.ctx c
  leBytes 4 (x.part * 4096 + c) ++ leBytes 4 x.entry.foot ++ leBytes 4 x.entry.model ++ List.replicate 48 0

/-- Bytes of context `c`'s image beyond the header. -/
def State.bodyBytes (s : State) (c : Nat) : Nat := (s.ownRanges c).foldl (fun n r => n + r.2) 0

/-- The image of context `c` from tile `t` (R302). -/
def State.saveImage (s : State) (c t : Nat) : List Byte :=
  let body := (s.ownRanges c).flatMap (fun r => s.local t r.1 r.2)
  s.imageHead c ++ leBytes 4 (crc32 (s.imageHead c ++ body)) ++ body

/-- An image matches context `c`'s entry and its CRC (R303). -/
def State.saveGood (s : State) (c : Nat) (l : List Byte) : Bool :=
  l.take 60 == s.imageHead c && leField l 60 4 == crc32 (l.take 60 ++ l.drop 64)

/-- The record of the model in tile `t`'s model region is cleared when one of the ranges meets that region (R309). -/
def State.clearModel (s : State) (t : Nat) (rs : List (Nat × Nat)) : State :=
  let x := s.tile t
  if x.model != 0 && rs.any (fun r => meets r.1 r.2 x.modelAt.1 x.modelAt.2) then s.setTile t { x with model := 0 } else s

/-- The model region of model `m`: its first byte and its length. -/
def State.regionOf (s : State) (m : Nat) : Nat × Nat := (units64 (s.model m).mregBase, units64 (s.model m).mregSize)

/-- Tile `t`'s model region holds model `m`. -/
def State.modelIn (s : State) (t m : Nat) : Bool := (s.tile t).model == m && (s.tile t).modelAt == s.regionOf m

/-- Bytes are laid into ranges of tile `t`, in order. -/
def State.layRanges (s : State) (t : Nat) (rs : List (Nat × Nat)) (l : List Byte) : State :=
  (layInto rs l).foldl (fun u o => u.writeLocal t o.1 o.2) (s.clearModel t rs)

/-! ## Placement (R292–R296, R301) -/

/-- The tile on which context `c` would be placed now (R293). -/
def State.choose (s : State) (c : Nat) : Option Nat :=
  let x := s.ctx c
  let ts := tiles.filter (s.eligible c)
  (ts.find? (fun t => x.resident == some t)).or
    ((ts.find? (fun t => x.entry.model != 0 && s.modelIn t x.entry.model)).or
      ((ts.find? (fun t => (s.residents t c).all (fun d => !s.feetMeet c d))).or ts.head?))

/-- The rank of context `c` for tile `t`, the smaller the sooner: the window owner first (R48), then criticality, virtual
time and number (R294). -/
def State.rank (s : State) (t c : Nat) : List Nat :=
  let x := s.ctx c
  [b2n (x.part != (s.tile t).owner), x.part, x.vt, c]

/-- A list of numbers precedes another in dictionary order. -/
def sooner : List Nat → List Nat → Bool
  | a :: x, b :: y => decide (a < b) || (a == b && sooner x y)
  | _, _ => false

/-- Context `c` yields tile `t` to another context that wants it (R48, R294). -/
def State.yields (s : State) (c t : Nat) : Bool :=
  s.contexts.any (fun d => d != c && s.wantsTile d && s.choose d == some t && sooner (s.rank t d) (s.rank t c))

/-- A context's front preparations that need no time are dropped, and the save that comes first begins (R301, R302). -/
def State.startPrep (s : State) (c : Nat) : Nat → State
  | 0 => s
  | k + 1 =>
    let x := s.ctx c
    let skip (_ : Unit) := (s.setCtx c { x with prep := x.prep.drop 1 }).startPrep c k
    match x.prep, x.onTile with
    | .saveOther d :: _, some t =>
      if (s.ctx d).resident == some t then (if (s.ctx d).saving then s else s.beginSave d t) else skip ()
    | .saveSelf t0 :: _, some _ =>
      if x.resident == some t0 then (if x.saving then s else s.beginSave c t0) else skip ()
    | .modelLoad :: _, some t => if s.modelIn t x.entry.model then skip () else s
    | _, _ => s

/-- Preparations of every placed context go on. -/
def State.startPreps (s : State) : State :=
  s.contexts.foldl (fun u d => u.startPrep d ((u.ctx d).prep.length + 1)) s

/-- What must be done before context `c`'s first command on tile `t` (R301). -/
def State.preparations (s : State) (c t : Nat) : List Preparation :=
  let x := s.ctx c
  ((s.residents t c).filter (fun d => s.feetClash c d)).map .saveOther ++
  (match x.resident with
    | some t0 => if t0 = t then [] else [.saveSelf t0, .restore]
    | none => if x.saved then [.restore] else [.zeroFill]) ++
  (if x.entry.model = 0 then [] else [.modelLoad])

/-- Context `c` is placed on tile `t`. -/
def State.placeOn (s : State) (c t : Nat) : State :=
  let s1 := s.setTile t { s.tile t with ctx := some c, draining := false, leaving := false }
  let s2 := s1.setCtx c { s1.ctx c with onTile := some t, chargedTo := s1.qtz.cycles, prep := s1.preparations c t }
  s2.startPrep c ((s2.ctx c).prep.length + 1)

/-- Context `c` may take tile `t` from the context whose window runs there: it owns the tile's window, and that context's
partition is less critical (R48, R295; log entry 167). A kill after a failed check does not stand in the way (R129). -/
def State.mayPreempt (s : State) (c t : Nat) : Bool :=
  let x := s.tile t
  s.tileFits c t && (!x.killing || (x.rerunFirst && !x.leaving)) && x.owner == (s.ctx c).part &&
    match x.ctx with
    | some d => decide ((s.ctx c).part < (s.ctx d).part)
    | none => false

/-- The partition whose window runs on tile `t`. -/
def State.runningPart (s : State) (t : Nat) : Nat := match (s.tile t).ctx with | some d => (s.ctx d).part | none => 0

/-- A window is being killed for context `c`. -/
def State.killFor (s : State) (c : Nat) : Bool := tiles.any (fun t => (s.tile t).killing && (s.tile t).killFor == some c)

/-- The tile with the least critical running partition among those that context `c` may pre-empt; none while a window is being killed
for it (R295). -/
def State.victimTile (s : State) (c : Nat) : Option Nat :=
  if s.killFor c then none else
  (tiles.filter (s.mayPreempt c)).foldl (fun m t =>
    match m with
    | none => some t
    | some u => if s.runningPart u < s.runningPart t then some t else some u) none

/-- The window on tile `t` is killed for context `c`. -/
def State.preempt (s : State) (c t : Nat) : State :=
  let s1 := s.kill t 0 true true
  s1.setTile t { s1.tile t with killFor := some c }

/-- A ready context takes its tile, waits for a more critical one, or pre-empts (R293–R295); one that owns windows makes the contexts
that hold them, with no command in work, leave (R48). -/
def State.place (s : State) (c : Nat) : State :=
  if !s.wantsTile c then s
  else match s.choose c with
    | some t => if s.yields c t then s else s.placeOn c t
    | none =>
      match s.victimTile c with
      | some t => s.preempt c t
      | none => tiles.foldl (fun u t => if u.ownerWaits t then u.settle t else u) s

/-! ## Windows and quanta (R298, R299) -/

/-- The owner of tile `t` at phase `phase` µs; 8 for none (R299). Entries with the same START: the lower one. -/
def State.windowOwner (s : State) (t phase : Nat) : Nat :=
  (s.sch.windows.foldl (fun (m : Option (Nat × Nat)) w =>
    if bit w.1 31 && bit w.2 t && decide (bits w.1 9 0 ≤ phase) then
      match m with
      | some (st, o) => if st < bits w.1 9 0 then some (bits w.1 9 0, bits w.1 26 24) else some (st, o)
      | none => some (bits w.1 9 0, bits w.1 26 24)
    else m) none).elim 8 (fun m => m.2)

/-- The window table takes effect at a frame tick (R299). -/
def State.loadWindows (s : State) : State :=
  { s with sch := { s.sch with windows := (List.range 16).map (fun w =>
      ((s.reg (Reg.SCH_WIN w)).toNat, (s.reg (Reg.SCH_WIN w + 4)).toNat)) } }

/-- The owning partition of tile `t` changes; an owner's ready context, the first by R294, pre-empts what runs there (R48, R295). -/
def State.windowStart (s : State) (t phase : Nat) : State :=
  let s1 := s.setTile t { s.tile t with owner := s.windowOwner t phase }
  let claims := s1.contexts.filter (fun c => s1.wantsTile c && s1.choose c == none && s1.victimTile c == some t)
  match claims.find? (fun c => !claims.any (fun d => sooner (s1.rank t d) (s1.rank t c))) with
  | some c => s1.preempt c t
  | none => if s1.ownerWaits t then s1.settle t else s1

/-- QUANTUM in ns. -/
def State.quantumNs (s : State) : Nat := s.getF Reg.SCH_CFG_QUANTUM * 10000

/-- A quantum ends on tile `t`: OCCUPY is charged, and the tile drains if a context of the same partition with a lower
virtual time wants one (R298, R310). -/
def State.quantumEnd (s : State) (t : Nat) : State :=
  match (s.tile t).ctx with
  | none => s
  | some c =>
    let s1 := s.chargeOccupy c s.quantumNs
    let x := s1.ctx c
    if s1.contexts.any (fun d => d != c && (s1.ctx d).part == x.part && s1.wantsTile d && decide ((s1.ctx d).vt < x.vt)) then
      (s1.setTile t { s1.tile t with draining := true }).settle t
    else s1

/-! ## The model hot set (R306–R309) -/

/-- A placed context's entry names model `m`. -/
def State.modelUsers (s : State) (m : Nat) : Nat :=
  (s.contexts.filter (fun c => (s.ctx c).onTile.isSome && (s.ctx c).entry.model == m)).length

/-- AGE of model `m`: frames since its last load into a tile (R308). -/
def State.modelAge (s : State) (m : Nat) : Nat :=
  min 65535 ((s.getF Reg.QTZ_FRAME_FRAME + 2 ^ 32 - (s.model m).age % 2 ^ 32) % 2 ^ 32)

/-- Bytes of the hot set. -/
def State.hotBytes (s : State) : Nat := if s.onF Reg.SCH_HS_CFG_EN then units64 (s.getF Reg.SCH_HS_CFG_SIZE) else 0

/-- The device address of offset `o` in the hot-set area (R264). -/
def State.hotAddr (s : State) (o : Nat) : Nat := 0x31000000000 + units64 (s.getF Reg.SCH_HS_CFG_BASE) + o

/-- The parts of the hot-set area that hold no model, by offset and length. -/
def State.hotFree (s : State) : List (Nat × Nat) :=
  ((s.sch.models.flatMap (fun e => e.2.hot.getD [])).foldl (fun g p => g.flatMap (fun r => cutRange r p.1 p.2))
    [(0, s.hotBytes)]).filter (fun r => r.2 != 0)

/-- Free bytes of the hot set. -/
def State.hotRoom (s : State) : Nat := s.hotFree.foldl (fun n r => n + r.2) 0

/-- The first `n` bytes of a list of ranges. -/
def firstBytes : Nat → List (Nat × Nat) → List (Nat × Nat)
  | _, [] => []
  | n, (a, k) :: r => if n = 0 then [] else (a, min k n) :: firstBytes (n - min k n) r

/-- Where model `m`'s copy lies, by device address, if the hot set is used and holds it (R307). -/
def State.hotCopy (s : State) (m : Nat) : Option (List (Nat × Nat)) :=
  match (s.model m).hot with
  | some l => if l.all (fun r => decide (r.1 + r.2 ≤ s.hotBytes)) then some (l.map (fun r => (s.hotAddr r.1, r.2))) else none
  | none => none

/-- Model `m` is being read by a tile. -/
def State.modelRead (s : State) (m : Nat) : Bool :=
  s.contexts.any (fun c => (s.ctx c).entry.model == m && (s.ctx c).prep.head? == some .modelLoad)

/-- The next model to be evicted: the lowest score COST − AGE among those neither pinned nor being read (R308). -/
def State.victimModel (s : State) : Option Nat :=
  ((s.sch.models.filter (fun e => e.2.hot.isSome && !e.2.pin && !s.modelRead e.1)).foldl
    (fun (m : Option (Int × Nat)) e =>
      let score : Int := (e.2.cost : Int) - s.modelAge e.1
      match m with
      | some (b, i) => if score < b then some (score, e.1) else some (b, i)
      | none => some (score, e.1)) none).map (fun m => m.2)

/-- Models are evicted until `n` bytes are free, or none is left to evict (R308). -/
def State.makeRoom (s : State) (n : Nat) : Nat → State
  | 0 => s
  | k + 1 =>
    if n ≤ s.hotRoom then s
    else match s.victimModel with
      | some m => ((s.setModel m { s.model m with hot := none }).satInc Reg.SCH_HS_CNT_EVICTS).makeRoom n k
      | none => s

/-- The loader copies model `m`, whose bytes are `l`, from its home into the hot set if it fits after eviction, in the first free places
of the area (the model's choice, log entry 168); one that does not fit stays out (R307, R308). -/
def State.fillHot (s : State) (m : Nat) (l : List Byte) : State :=
  if (s.model m).out || s.hotBytes == 0 then s else
  let x := s.model m
  let s1 := s.makeRoom x.bytes 256
  if x.bytes ≤ s1.hotRoom then
    let ps : List (Nat × Nat) := firstBytes x.bytes s1.hotFree
    let s2 := (layInto (ps.map (fun (p : Nat × Nat) => (s1.hotAddr p.1, p.2))) l).foldl (fun u w => u.put weightPort x.part w.1 w.2)
      (s1.traffic weightPort x.part false x.home x.bytes)
    s2.setModel m { x with hot := some ps }
  else s1.setModel m { x with out := true }

/-- The model's bytes at its home, read through request port `port`; a home that its partition may not read gives open bytes. -/
def State.homeBytes (s : State) (port m : Nat) : List Byte × State :=
  let x := s.model m
  if s.memOk x.part x.home x.bytes false then (s.fetch x.home x.bytes, s.traffic port x.part false x.home x.bytes)
  else s.freeBytes x.bytes

/-- Model `m` is loaded into tile `t`'s model region by the tile's access engine, from the hot set or from its home (R307). -/
def State.loadModel (s : State) (m t : Nat) : State :=
  let x := s.model m
  let (l, s1) := match s.hotCopy m with
    | some ps => (ps.flatMap (fun (p : Nat × Nat) => s.fetch p.1 p.2), s.trafficAll t x.part false ps)
    | none =>
      let (l, u) := s.homeBytes t m
      (l, (u.satInc Reg.SCH_HS_CNT_MISSES).fillHot m l)
  let s2 := s1.layRanges t [(units64 x.mregBase, l.length)] l
  let s3 := s2.setTile t { s2.tile t with model := m, modelAt := s.regionOf m }
  (s3.setModel m { s3.model m with age := s3.getF Reg.QTZ_FRAME_FRAME }).satInc Reg.SCH_HS_CNT_LOADS

/-- The model that a table entry of 32 bytes spells. -/
def modelOf (l : List Byte) : Model where
  applied := true
  part := entryBits l 0 8 62 60
  pin := bit (leField l 0 8) 59
  home := entryBits l 0 8 47 0
  bytes := entryBits l 8 4 22 0
  mregBase := entryBits l 0x0C 4 22 16
  mregSize := entryBits l 0x0C 4 6 0
  cost := leField l 0x10 2

/-- A model entry's fields are in range (R306). -/
def modelRowOk (l : List Byte) : Bool :=
  let m := modelOf l
  entryBits l 0 8 58 48 == 0 && m.home % 64 == 0 && entryBits l 8 4 31 23 == 0 && m.bytes % 64 == 0 &&
  decide (64 ≤ m.bytes ∧ m.bytes ≤ 6291456) && entryBits l 0x0C 4 31 23 == 0 && entryBits l 0x0C 4 15 7 == 0 &&
  decide (ceilDiv m.bytes 65536 ≤ m.mregSize) && decide (m.mregBase + m.mregSize ≤ 96) &&
  entryBits l 0x10 4 31 16 == 0 && leNat ((l.drop 0x14).take 12) == 0 && !(m.pin && m.part != 0)

/-- A pinned model fits once every model that may be evicted has gone. -/
def State.pinFits (s : State) (m n : Nat) : Bool :=
  decide ((s.sch.models.foldl (fun a e => a + (if e.2.hot.isSome && e.1 != m && (e.2.pin || s.modelRead e.1) then e.2.bytes else 0)) 0)
    + n ≤ s.hotBytes)

/-- MODEL_APPLY of entry `m` by Pp (R306, R307). -/
def State.applyModel (s : State) (p m : Nat) : Nat × State :=
  let a := s.getF Reg.SCH_MODEL_BASE_BASE * 2 ^ 13 + 32 * m
  let l := s.fetch a 32
  let v := bit (leField l 0 8) 63
  let x := modelOf l
  if !s.schReach a 32 false ∨ x.part ≠ p then (2, s)
  else if m = 0 ∨ (v && !modelRowOk l) then (3, s)
  else if s.modelUsers m ≠ 0 then (1, s)
  else if !v then (0, s.setModel m {})
  else if x.pin && !s.pinFits m x.bytes then (4, s)
  else
    let s1 := s.setModel m x
    if x.pin then
      let (b, s2) := s1.homeBytes weightPort m
      (0, s2.fillHot m b)
    else (0, s1)

/-! ## SCH_CMD -/

/-- A word of SCH_CMD. -/
def schWord (op arg : Nat) : Nat := op % 16 * 2 ^ 28 + arg % 4096

/-- SCH_CMD of Pp: the operation, with its result in SCH_RES. -/
def State.wrSchCmd (s : State) (p v : Nat) : State :=
  let op := bits v 31 28
  let c := bits v 11 0
  let out (r : Nat × State) : State := r.2.schResult p op r.1 c
  match op with
  | 1 => out (s.activate p c)
  | 2 => out (s.updateCtx p c)
  | 3 => out (s.holdOp p c)
  | 4 => out (s.releaseOp p c)
  | 5 => out (s.teardownOp p c)
  | 6 => out (s.retireOp p c)
  | 7 => out (s.applyModel p (c % 256))
  | _ => s

/-- A command that writes SCH_CMD of Pp. -/
def State.schOp (s : State) (req : Requester) (p op arg : Nat) : State :=
  s.guard (decide (p < 8)) (fun s => s.access req (Reg.SCH_CMD p) (schWord op arg) (fun t => t.wrSchCmd p (schWord op arg)))

/-! ## Evacuation and accounting (R305, R311) -/

/-- EVACUATE of tile `t` (R305). -/
def State.evacuateTile (s : State) (t : Nat) : State :=
  ((s.setTile t { s.tile t with closed := true }).kill t 0 true true).saveResidents t

/-- ADMIT of tile `t`. -/
def State.admitTile (s : State) (t : Nat) : State := s.setTile t { s.tile t with closed := false }

/-- SCH_TILE_CMD. -/
def State.wrTileCmd (s : State) (v : Nat) : State :=
  match bits v 31 30 with
  | 1 => s.evacuateTile (bits v 4 0)
  | 2 => s.admitTile (bits v 4 0)
  | _ => s

/-- EVACUATED of tile `t`: closed, no window, nothing resident. -/
def State.evacuated (s : State) (t : Nat) : Bool :=
  (s.tile t).closed && (s.tile t).ctx.isNone && s.contexts.all (fun c => (s.ctx c).resident != some t)

/-- SCH_ACCT_DUMP: the counters of every context are captured at once, and BUSY sets (R311). -/
def State.wrAcctDump (s : State) (v : Nat) : State :=
  if bit v 0 then
    let s1 := s.setBlock 0x80 { s.block 0x80 with busy := true }
    { s1 with sch := { s1.sch with dump := some ((List.range 4096).map (fun c =>
        ((s.ctx c).occupy, (s.ctx c).mat, (s.ctx c).vec, (s.ctx c).xfer))) } }
  else s

/-! ## Teardown (R312) -/

/-- A stream of context `c` is still being swapped out or restored. -/
def State.streamsBusy (s : State) (c : Nat) : Bool :=
  s.listedStreams.any (fun i => s.getF (Reg.STM_OWNER_CTX i) == c &&
    (s.stmStatus i == 2 || s.stmStatus i == 3 || s.stmStatus i == 5))

/-- A link entry is released as by RELEASE (R220). -/
def State.dropLink (s : State) (p a : Nat) : State :=
  let l := s.linkAt a
  if l.v && s.memOk p a 16 true then
    (((s.put kvpPort p l.workAddr (leBytes 4 0)).ptGranted l.page 35).dropPage l.page).put kvpPort p (a + 12)
      (leBytes 4 (b2n (!l.sel) * 2 ^ 31 + l.seg))
  else s

/-- Steps 4 to 6 of a teardown. -/
def State.finishTeardown (s : State) (c : Nat) : State :=
  let x := s.ctx c
  let s1 := (List.range x.entry.kvN).foldl (fun u i => u.dropLink x.part (x.entry.kvList + 16 * i)) s
  let s2 := s1.setCtx c { s1.ctx c with state := .torn, resident := none, saved := false, saving := false, prep := [] }
  (s2.startPreps).irq (schPage x.part) 2

/-- The remaining steps of a teardown: streams first; the rest follows once they are out (R312). -/
def State.teardownStep (s : State) (c : Nat) : State :=
  let x := s.ctx c
  if x.state == .tearing && x.onTile.isNone && !x.saving then
    let s1 := s.parkStreams c
    if s1.streamsBusy c then s1 else s1.finishTeardown c
  else s

/-! ## Saves and restores -/

/-- Streams of context `c` still resident, or being swapped out, on tile `t`. -/
def State.streamsOn (s : State) (c t : Nat) : Bool :=
  s.listedStreams.any (fun i => s.getF (Reg.STM_OWNER_CTX i) == c && s.getF (Reg.STM_HOME_TILE i) == t &&
    (s.stmStatus i == 2 || s.stmStatus i == 3))

/-- XFER of context `c` is charged with a time that spec/ does not fix (R310). -/
def State.chargeXfer (s : State) (c : Nat) : State :=
  let (n, s1) := s.free 64
  s1.setCtx c { s1.ctx c with xfer := ((s1.ctx c).xfer + n) % 2 ^ 64 }

/-- The request port of the save or restore of a context on tile `t`: the tile's access engine, or, of a fenced tile, the STM's swap
engine (R302, R304). -/
def State.imagePort (s : State) (t : Nat) : Nat := if s.fenced t then swapPort else t

/-- Context `c`'s image is complete, its reads having met what ECC errors there are: it is saved and resident nowhere (R139, R301,
R302). -/
def State.saveDone (s : State) (c : Nat) : State :=
  let x := s.ctx c
  match x.resident with
  | none => s
  | some t =>
    if !x.saving || x.onTile == some t || s.streamsOn c t then s
    else
      let l := s.saveImage c t
      let s0 := s.readsFind ((s.ownRanges c).map (fun r => (sramAddr t r.1, r.2)))
      let s1 := if s.memOk x.part x.entry.save l.length true then s0.put (s.imagePort t) x.part x.entry.save l else s0
      let s2 := s1.setCtx c { s1.ctx c with saved := true, saving := false, resident := none }
      (s2.chargeXfer c).startPreps

/-- The restore of context `c` completes, or fails and tears it down (R301, R303). -/
def State.restoreCtx (s : State) (c : Nat) : State :=
  let x := s.ctx c
  match x.onTile, x.prep with
  | some t, .restore :: r =>
    let n := 64 + s.bodyBytes c
    let l := s.fetch x.entry.save n
    if s.memOk x.part x.entry.save n false && s.saveGood c l then
      let s1 := (s.layRanges t (s.ownRanges c) (l.drop 64)).traffic t x.part false x.entry.save n
      ((s1.setCtx c { s1.ctx c with resident := some t, prep := r }).chargeXfer c).startPrep c (r.length + 1)
    else (s.raise FS.SCH_SAVE [c] 0x22).endContext c 0x22
  | _, _ => s

/-- The footprint of a context that has never been saved reads 0 (R301). -/
def State.zeroFilled (s : State) (c : Nat) : State :=
  let x := s.ctx c
  match x.onTile, x.prep with
  | some t, .zeroFill :: r =>
    let rs := s.ownRanges c
    let s1 := s.layRanges t rs (List.replicate (s.bodyBytes c) 0)
    (s1.setCtx c { s1.ctx c with resident := some t, prep := r }).startPrep c (r.length + 1)
  | _, _ => s

/-- Context `c`'s model is in its tile's model region (R301, R307). -/
def State.modelLoaded (s : State) (c : Nat) : State :=
  let x := s.ctx c
  match x.onTile, x.prep with
  | some t, .modelLoad :: r =>
    let s1 := s.loadModel x.entry.model t
    s1.setCtx c { s1.ctx c with prep := r }
  | _, _ => s

/-! ## Start and stop (R315) -/

/-- The SCH start finds its bases in order: the table base is not 0 and lies in local DRAM, and the hot set lies within
the scratch partition. -/
def State.schStartOk (s : State) : Bool :=
  let a := s.getF Reg.SCH_CTX_BASE_BASE * 2 ^ 18
  a != 0 && (match s.space a with | .dram _ => s.rangeMapped a (4096 * 64) | _ => false) &&
    decide (units64 (s.getF Reg.SCH_HS_CFG_BASE + s.getF Reg.SCH_HS_CFG_SIZE) ≤
      s.getF Reg.TIER_SC_WAYS_SCRATCH_WAYS * 0x600000)

/-- The SCH stop kills every window (R315). -/
def State.schStop (s : State) : State := tiles.foldl (fun u t => u.kill t 0 true true) s

/-! ## Commands -/

/-- ACTIVATE. -/
def execActivate (req : Requester) (part ctx : Nat) (s : State) : Host.Outcome State Fault Refusal :=
  whenLive (fun s => s.schOp req part 1 ctx) s

/-- UPDATE. -/
def execUpdate (req : Requester) (part ctx : Nat) (s : State) : Host.Outcome State Fault Refusal :=
  whenLive (fun s => s.schOp req part 2 ctx) s

/-- HOLD. -/
def execHold (req : Requester) (part ctx : Nat) (s : State) : Host.Outcome State Fault Refusal :=
  whenLive (fun s => s.schOp req part 3 ctx) s

/-- HOLD_DRAINED (R290). -/
def execHoldDrained (ctx : Nat) (s : State) : Host.Outcome State Fault Refusal :=
  whenLive (fun s => s.holdIfDrained ctx) s

/-- RELEASE. -/
def execRelease (req : Requester) (part ctx : Nat) (s : State) : Host.Outcome State Fault Refusal :=
  whenLive (fun s => s.schOp req part 4 ctx) s

/-- TEARDOWN. -/
def execTeardown (req : Requester) (part ctx : Nat) (s : State) : Host.Outcome State Fault Refusal :=
  whenLive (fun s => s.schOp req part 5 ctx) s

/-- RETIRE. -/
def execRetire (req : Requester) (part ctx : Nat) (s : State) : Host.Outcome State Fault Refusal :=
  whenLive (fun s => s.schOp req part 6 ctx) s

/-- MODEL_APPLY. -/
def execModelApply (req : Requester) (part model : Nat) (s : State) : Host.Outcome State Fault Refusal :=
  whenLive (fun s => s.schOp req part 7 (model % 256)) s

/-- TEARDOWN_DONE (R312). -/
def execTeardownDone (ctx : Nat) (s : State) : Host.Outcome State Fault Refusal := whenLive (fun s => s.teardownStep ctx) s

/-- EVACUATE. -/
def execEvacuate (req : Requester) (tile : Nat) (s : State) : Host.Outcome State Fault Refusal :=
  let v := 2 ^ 30 + tile % 32
  whenLive (fun s => s.guard (decide (tile < 32)) (fun s => s.access req Reg.SCH_TILE_CMD v (fun t => t.wrTileCmd v))) s

/-- ADMIT. -/
def execAdmitTile (req : Requester) (tile : Nat) (s : State) : Host.Outcome State Fault Refusal :=
  let v := 2 ^ 31 + tile % 32
  whenLive (fun s => s.guard (decide (tile < 32)) (fun s => s.access req Reg.SCH_TILE_CMD v (fun t => t.wrTileCmd v))) s

/-- ACCT_DUMP. -/
def execAcctDump (req : Requester) (s : State) : Host.Outcome State Fault Refusal :=
  whenLive (fun s => s.access req Reg.SCH_ACCT_DUMP 1 (fun t => t.wrAcctDump 1)) s

/-- ACCT_DUMP_DONE: the records stand at SCH_ACCT_BASE (R311). -/
def execAcctDumpDone (s : State) : Host.Outcome State Fault Refusal :=
  whenLive (fun s =>
    match s.sch.dump with
    | none => s
    | some l =>
      let a := s.getF Reg.SCH_ACCT_BASE_BASE * 2 ^ 17
      let bytes := l.flatMap (fun r => leBytes 8 r.1 ++ leBytes 8 r.2.1 ++ leBytes 8 r.2.2.1 ++ leBytes 8 r.2.2.2)
      let s1 := if s.schReach a bytes.length true then s.store a bytes else s
      let s2 := s1.setBlock 0x80 { s1.block 0x80 with busy := false }
      ({ s2 with sch := { s2.sch with dump := none } }).irq 0x80 1) s

/-- TILE_WINDOW_START (R299). -/
def execTileWindowStart (tile phase : Nat) (s : State) : Host.Outcome State Fault Refusal :=
  whenLive (fun s => s.guard (decide (tile < 32) && s.isRunning 0x80) (fun s => s.windowStart tile phase)) s

/-- CONTEXT_PLACE (R293–R295). -/
def execContextPlace (ctx : Nat) (s : State) : Host.Outcome State Fault Refusal :=
  whenLive (fun s => s.guard (s.isRunning 0x80) (fun s => s.place ctx)) s

/-- CONTEXT_SAVE_DONE (R302). -/
def execContextSaveDone (ctx : Nat) (s : State) : Host.Outcome State Fault Refusal :=
  whenLive (fun s => s.saveDone ctx) s

/-- CONTEXT_RESTORE_DONE (R303). -/
def execContextRestoreDone (ctx : Nat) (s : State) : Host.Outcome State Fault Refusal :=
  whenLive (fun s => s.restoreCtx ctx) s

/-- ZERO_FILL_DONE (R301). -/
def execZeroFillDone (ctx : Nat) (s : State) : Host.Outcome State Fault Refusal := whenLive (fun s => s.zeroFilled ctx) s

/-- MODEL_LOAD_DONE (R307). -/
def execModelLoadDone (ctx : Nat) (s : State) : Host.Outcome State Fault Refusal := whenLive (fun s => s.modelLoaded ctx) s

/-- QUANTUM_EXPIRY (R298). -/
def execQuantumExpiry (tile : Nat) (s : State) : Host.Outcome State Fault Refusal :=
  whenLive (fun s => s.guard (s.isRunning 0x80) (fun s => s.quantumEnd tile)) s

/-- DRAIN_EXPIRY: the commands that remain are killed and run later (R298). -/
def execDrainExpiry (tile : Nat) (s : State) : Host.Outcome State Fault Refusal :=
  whenLive (fun s => s.guard ((s.tile tile).draining) (fun s => s.kill tile 0 true true)) s

end Sys2Proof.Machine
end

