-- ==== Sys2Proof/Machine/Slots.lean ====
section
/-! DEFINITION. The periodic tile tests and the known-answer checks (R152, R530, R565–R571). -/

namespace Sys2Proof.Machine

/-- The two tiles of test pair `k` (R565). -/
def pairTiles (k : Nat) : List Nat := [k, k + 16]

/-- A SELFTEST that runs notes a slot or check that did not pass (R530). -/
def State.testFailed (s : State) : State := { s with test := { s.test with passed := false } }

/-- A test cycle starts: the phase written last takes effect, and a waiting SELFTEST takes the cycle (R530, R565). -/
def State.cycleStart (s : State) : State :=
  let s1 := { s with test := { s.test with phase := s.getF Reg.GRN_TST_CFG_TST_PHASE } }
  if s.test.selftest = 1 then { s1 with test := { s1.test with selftest := 2, passed := true } } else s1

/-- The power manager holds tile `t`'s target at 44 or above from now to the end of its slot (R566). -/
def State.prehold (s : State) (t : Nat) : State :=
  (s.setTile t { s.tile t with preHold := true }).setGoal t (max 44 (s.goal t))

/-- A slot starts on tile `t`: its running commands are killed, and their context leaves the tile; a tile neither fenced nor RUNNING
skips it (R152, R296, R567). -/
def State.slotStart (s : State) (t : Nat) : State :=
  if !s.fenced t && !s.isRunning (tilePage t) then
    ((s.setTile t { s.tile t with preHold := false }).satInc Reg.GRN_TST_CNT_SKIPS).testFailed
  else (s.setTile t { s.tile t with inSlot := true }).kill t 0 true true

/-- What a test result does to tile `t`'s verdict, or to a tile that is not fenced (R132, R133, R569). -/
def State.testVerdict (s : State) (t : Nat) (pass : Bool) : State :=
  if s.fenced t then
    if s.getF (Reg.TILE_FENCE_VERDICT t) = 1 then s.putF (Reg.TILE_FENCE_VERDICT t) (if pass then 3 else 2) else s
  else if pass then s
  else (s.fence t 3).raise (FS.TILE_TESTFAIL t)

/-- Tile `t`'s slot ends with a result (R566, R569). -/
def State.slotEnd (s : State) (t : Nat) (pass : Bool) : State :=
  if (s.tile t).inSlot then
    let s1 := s.setTile t { s.tile t with inSlot := false, preHold := false }
    let s2 := if pass then s1.wrapInc Reg.GRN_TST_CNT_PASSES else (s1.satInc Reg.GRN_TST_CNT_FAILS).testFailed
    s2.testVerdict t pass
  else s

/-- SELFTEST ends when pair 15's slot has ended (R530). -/
def State.selftestEnd (s : State) (k : Nat) : State :=
  if k = 15 ∧ s.test.selftest = 2 ∧ (pairTiles k).all (fun t => !(s.tile t).inSlot) then
    ({ s with test := { s.test with selftest := 0 } }).endOp (if s.test.passed then 0 else 3)
  else s

/-- The sources that a known-answer check may raise (R571). -/
def katSources : List Nat := [FS.IFE_KAT, FS.ING_KAT, FS.PUM_KAT, FS.ETH_KAT, FS.KVP_KAT, FS.STM_KAT, FS.TIER_KAT]

/-! ## Commands -/

/-- TEST_CYCLE_START (R565). -/
def execTestCycleStart (s : State) : Host.Outcome State Fault Refusal := whenLive (fun s => s.cycleStart) s

/-- TEST_SLOT_PREHOLD (R566). -/
def execTestSlotPrehold (pair : Nat) (s : State) : Host.Outcome State Fault Refusal :=
  whenLive (fun s => s.guard (decide (pair < 16)) (fun s => ((pairTiles pair).foldl (fun u t => u.prehold t) s).setIslands)) s

/-- TEST_SLOT_START (R152, R567). -/
def execTestSlotStart (pair : Nat) (s : State) : Host.Outcome State Fault Refusal :=
  whenLive (fun s => s.guard (decide (pair < 16)) (fun s => (pairTiles pair).foldl (fun u t => u.slotStart t) s)) s

/-- TEST_SLOT_END (R566, R569). -/
def execTestSlotEnd (pair : Nat) (passA passB : Bool) (s : State) : Host.Outcome State Fault Refusal :=
  whenLive (fun s => s.guard (decide (pair < 16)) (fun s =>
    ((s.slotEnd pair passA).slotEnd (pair + 16) passB).selftestEnd pair)) s

/-- TEST_SLOT_TIMEOUT: a sequence not finished after 40 µs counts as failing (R567). -/
def execTestSlotTimeout (pair tile : Nat) (s : State) : Host.Outcome State Fault Refusal :=
  whenLive (fun s => s.guard (decide (pair < 16) && (pairTiles pair).contains tile) (fun s =>
    (s.slotEnd tile false).selftestEnd pair)) s

/-- KNOWN_ANSWER_CHECK (R571). -/
def execKnownAnswerCheck (source : Nat) (good : Bool) (s : State) : Host.Outcome State Fault Refusal :=
  whenLive (fun s => s.guard (katSources.contains source && !good) (fun s => (s.raise source).testFailed)) s

end Sys2Proof.Machine
end

