-- ==== Sys2Proof/Machine/Tiers.lean ====
section
/-! DEFINITION. The memory tiers (chapter 09): placement by object and heat (R269–R274), the weight window (R275–R277),
bandwidth buckets and the system cache (R262, R263, R281–R283), and the loss of a die-to-die module (R19, R20). -/

namespace Sys2Proof.Machine

/-! ## The page map (R265, R271) -/

/-- Bytes of a page. -/
def pageBytes : Nat := 0x200000

/-- Pages of local DRAM in UNIFIED mode (R57). -/
def State.pageCount (s : State) : Nat := 32768 + s.tier.lpdBytes / pageBytes

/-- The state with page `p`'s map entry replaced. -/
def State.setTierPage (s : State) (p : Nat) (x : TierPage) : State :=
  { s with tier := { s.tier with pages := Sparse.set (fun k => { frame := k }) s.tier.pages p x } }

/-- Object `i` of the object table as applied. -/
def State.object (s : State) (i : Nat) : TierObj := Sparse.get (fun _ => {}) s.tier.objects i

/-- The state with object `i` replaced. -/
def State.setObject (s : State) (i : Nat) (x : TierObj) : State :=
  { s with tier := { s.tier with objects := Sparse.set (fun _ => {}) s.tier.objects i x } }

/-- Page `p` lies in HBM3 now. -/
def State.inHbm (s : State) (p : Nat) : Bool := decide ((s.tierPage p).frame < 32768)

/-- A page lies where hint `h` wants it: 1 T2, 2 T3; no hint is met anywhere. -/
def State.hintMet (s : State) (p h : Nat) : Bool :=
  if h = 1 then s.inHbm p else if h = 2 then !s.inHbm p else true

/-- The hint of the object that tags page `p`. -/
def State.pageHint (s : State) (p : Nat) : Nat := match (s.tierPage p).obj with | some i => (s.object i).hint | none => 0

/-- The page is part of an exchange that waits or is in flight. -/
def State.inExchange (s : State) (p : Nat) : Bool :=
  s.tier.queue.any (fun x => x.low == p || x.high == p) ||
    s.tier.current.any (fun x => x.1.low == p || x.1.high == p)

/-- Pages in fused P0 regions count as pinned (R273). -/
def State.fusedPage (s : State) (p : Nat) : Bool := [0, 1, 2, 3].any (fun r => s.rgnTouches r (p * pageBytes) pageBytes)

/-- The page is pinned. -/
def State.pinned (s : State) (p : Nat) : Bool := (s.tierPage p).pin || s.fusedPage p

/-- A page that heat and placement may choose: untagged, unpinned and in no exchange. -/
def State.movable (s : State) (p : Nat) : Bool := (s.tierPage p).obj.isNone && !s.pinned p && !s.inExchange p

/-- The page of least (`cold`) or greatest heat among those that `ok` admits; ties go to the lower number. -/
def State.pickPage (s : State) (cold : Bool) (ok : Nat → Bool) : Option Nat :=
  ((List.range s.pageCount).filter ok).foldl (fun m p =>
    match m with
    | none => some p
    | some q =>
      let a := (s.tierPage p).heat
      let b := (s.tierPage q).heat
      if (if cold then decide (a < b) else decide (b < a)) then some p else some q) none

/-- The partner of a page that leaves its tier: the coldest movable page of the other (R271). -/
def State.partner (s : State) (p : Nat) : Option Nat :=
  s.pickPage true (fun q => s.movable q && s.inHbm q != s.inHbm p)

/-- Pages out of their hinted tier that wait for no exchange. -/
def State.spilledPages (s : State) : List Nat :=
  if s.unified then
    (s.tier.pages.filter (fun e => e.2.obj.isSome && !s.hintMet e.1 (s.pageHint e.1) && !s.inExchange e.1)).map (fun e => e.1)
  else []

/-- SPILLED shows the pages now outside their hinted tier (R271). -/
def State.showSpilled (s : State) : State := s.putF Reg.TIER_MIG_CNT_SPILLED (min 65535 s.spilledPages.length)

/-- Exchanges in the order in which they go: APPLY's, promotions of spilled pages, heat's (R271, R274). -/
def State.addExchange (s : State) (x : Exchange) : State :=
  let q := s.tier.queue
  { s with tier := { s.tier with queue := q.filter (fun y => y.kind ≤ x.kind) ++ [x] ++ q.filter (fun y => x.kind < y.kind) } }

/-- An exchange is queued for page `p` if a partner exists; a page of a fused P0 region counts as pinned and stays (R273). -/
def State.movePage (s : State) (p part kind : Nat) : State :=
  match s.partner p with
  | some q => if s.fusedPage p then s else s.addExchange { low := min p q, high := max p q, part := part, kind := kind }
  | none => s

/-- Object `i` is the one whose APPLY has not ended. -/
def State.applying (s : State) (i : Nat) : Bool := (s.block 0x330).busy && s.getF Reg.TIER_OBJ_STAT_INDEX == i

/-- Spilled pages are promoted when a partner is available, before any heat exchange; those of an APPLY that has not ended go as its
own (R271). -/
def State.promote (s : State) : State :=
  (s.spilledPages.foldl (fun u p => match (u.tierPage p).obj with
    | some i => u.movePage p (u.object i).part (if u.applying i then 0 else 1)
    | none => u) s).showSpilled

/-- The first exchange starts when none is in flight (R274). -/
def State.startExchange (s : State) : State :=
  if s.tier.current.isSome || !s.isRunning 0x330 then s
  else match s.tier.queue with
    | [] => s
    | x :: r => { s with tier := { s.tier with queue := r, current := some (x, 0) } }

/-- The result of an APPLY is shown. -/
def State.objResult (s : State) (i r : Nat) : State := (s.putF Reg.TIER_OBJ_STAT_INDEX i).putF Reg.TIER_OBJ_STAT_RESULT r

/-- Every page of object `i` is where its hint wants it, or SPLIT gives the hint no effect (R270, R271). -/
def State.allPlaced (s : State) (i : Nat) : Bool :=
  !s.unified || !s.tier.pages.any (fun e => e.2.obj == some i && !s.hintMet e.1 (s.object i).hint)

/-- The last exchange of an APPLY has ended: BUSY clears, and the result says whether every page is placed (R270, R271). -/
def State.endApply (s : State) : State :=
  if (s.block 0x330).busy then
    let i := s.getF Reg.TIER_OBJ_STAT_INDEX
    (s.objResult i (if s.allPlaced i then 0 else 4)).setBlock 0x330 { s.block 0x330 with busy := false }
  else s

/-- The next exchange starts; an APPLY with none left ends (R271). -/
def State.exchangeNext (s : State) : State :=
  let s1 := s.startExchange
  if s1.tier.queue.any (fun x => x.kind == 0) || s1.tier.current.any (fun x => x.1.kind == 0) then s1 else s1.endApply

/-- A page of an applied object is placed: PIN freezes it; in SPLIT mode PIN has no effect (R271). -/
def State.placed (s : State) (p : Nat) : State :=
  match (s.tierPage p).obj with
  | some i =>
    if s.unified && s.hintMet p (s.object i).hint then s.setTierPage p { s.tierPage p with pin := (s.object i).pin } else s
  | none => s

/-- What the system cache holds of pages that are exchanged leaves it: it holds lines of LPDDR5X only (R262). -/
def State.dropLines (s : State) (x : Exchange) : State :=
  { s with tier := { s.tier with cache := s.tier.cache.filter (fun (e : Nat × CacheLine) => e.1 * 64 / pageBytes != x.low && e.1 * 64 / pageBytes != x.high) } }

/-- The requests that move one block of an exchange, 64 KiB each way, are charged to its partition (R271, R274). -/
def State.exchangeTraffic (s : State) (x : Exchange) (n : Nat) : State :=
  let a := x.low * pageBytes + 65536 * n
  let b := x.high * pageBytes + 65536 * n
  [(a, false), (b, false), (a, true), (b, true)].foldl (fun u r => u.traffic exchangePort x.part r.2 r.1 65536) s

/-- An exchange is complete: the frames are swapped (R273, R274). -/
def State.swapFrames (s : State) (x : Exchange) : State :=
  let a := s.tierPage x.low
  let b := s.tierPage x.high
  let s1 := (s.setTierPage x.low { a with frame := b.frame }).setTierPage x.high { b with frame := a.frame }
  (((s1.placed x.low).placed x.high).dropLines x).satInc Reg.TIER_MIG_CNT_SWAPS

/-! ## APPLY (R269–R271) -/

/-- The address of object entry `i`. -/
def State.objAddr (s : State) (i : Nat) : Nat := s.getF Reg.TIER_OBJ_BASE_BASE * 2 ^ 20 + 16 * i

/-- The 16 bytes of object entry `i`. -/
def State.objRow (s : State) (i : Nat) : List Byte := s.fetch (s.objAddr i) 16

/-- The object that an entry spells. -/
def objOf (l : List Byte) : TierObj where
  valid := true
  part := entryBits l 0 8 62 60
  hint := entryBits l 0 8 59 58
  pin := bit (leField l 0 8) 57
  noAlloc := bit (leField l 0 8) 56
  base := entryBits l 0 8 47 21
  pages := entryBits l 8 4 16 0

/-- FORMAT of R270. -/
def objRowOk (l : List Byte) : Bool :=
  let o := objOf l
  entryBits l 0 8 55 48 == 0 && entryBits l 0 8 20 0 == 0 && entryBits l 8 4 31 17 == 0 && leField l 12 4 == 0 &&
    o.hint != 3 && o.pages != 0

/-- The object's pages. -/
def TierObj.range (o : TierObj) : List Nat := (List.range o.pages).map (fun i => o.base + i)

/-- The object lies within local DRAM (R57, R270). -/
def State.objInRange (s : State) (o : TierObj) : Bool :=
  if s.unified then decide (o.base + o.pages ≤ s.pageCount)
  else decide (o.base + o.pages ≤ 32768) ||
    (decide (65536 ≤ o.base) && decide (o.base + o.pages ≤ 65536 + s.tier.lpdBytes / pageBytes))

/-- Two objects share a page. -/
def objMeet (a b : TierObj) : Bool := decide (a.base < b.base + b.pages) && decide (b.base < a.base + a.pages)

/-- The pages of an object return to heat management. -/
def State.untag (s : State) (o : TierObj) : State :=
  o.range.foldl (fun u p => u.setTierPage p { u.tierPage p with obj := none, pin := false, noAlloc := false }) s

/-- The old pages of object `i` are given back, and the object is no longer valid. -/
def State.removeObject (s : State) (i : Nat) : State :=
  if (s.object i).valid then (s.untag (s.object i)).setObject i {} else s

/-- A page is tagged: a heat exchange that waits for it no longer goes, and one in flight becomes the APPLY's (R271, R273). -/
def State.tag (s : State) (i p : Nat) (o : TierObj) : State :=
  let names (x : Exchange) : Bool := x.low == p || x.high == p
  let s1 := { s with tier := { s.tier with
    queue := s.tier.queue.filter (fun x => !(x.kind == 2 && names x)),
    current := s.tier.current.map (fun (x, n) => if names x then ({ x with kind := 0 }, n) else (x, n)) } }
  s1.setTierPage p { s1.tierPage p with obj := some i, noAlloc := o.noAlloc }

/-- The pages are tagged and placed as hinted, in increasing order (R271). -/
def State.placeObject (s : State) (i : Nat) (o : TierObj) : State :=
  let s1 := (s.removeObject i).setObject i o
  let s2 := o.range.foldl (fun u p => (u.tag i p o).placed p) s1
  if s.unified then
    o.range.foldl (fun u p => if u.hintMet p o.hint || u.inExchange p then u else u.movePage p o.part 0) s2
  else s2

/-- TIER_OBJ_APPLY: the entry is read for the partition that owns TIER page 0 and applied (R266, R269–R271). A TIER that does not run
applies nothing (R285). -/
def State.wrObjApply (s : State) (v : Nat) : State :=
  let i := v % 65536
  let l := s.objRow i
  let o := objOf l
  if !s.isRunning 0x330 then s
  else if !s.memOk (s.owner 0x330) (s.objAddr i) 16 false then s.objResult i 3
  else if !bit (leField l 0 8) 63 then (((s.removeObject i).promote).exchangeNext).objResult i 6
  else if !objRowOk l then s.objResult i 5
  else if !s.objInRange o then s.objResult i 2
  else if s.tier.objects.any (fun e => e.1 != i && objMeet o e.2) then s.objResult i 1
  else if !o.range.all (fun p => s.reach o.part (p * pageBytes) pageBytes true) then s.objResult i 3
  else
    let s1 := (s.placeObject i o).showSpilled
    ((s1.setBlock 0x330 { s1.block 0x330 with busy := true }).objResult i 0).exchangeNext

/-! ## Heat (R272, R273) -/

/-- Heat values at the end of an interval (R272). -/
def State.coolPages (s : State) : State :=
  s.tier.pages.foldl (fun u e =>
    u.setTierPage e.1 { u.tierPage e.1 with heat := min 65535 ((u.tierPage e.1).heat / 2 + (u.tierPage e.1).count), count := 0 }) s

/-- One pair of R273, if it may be formed. -/
def State.heatPair (s : State) : Option Exchange :=
  match s.pickPage false (fun p => s.movable p && !s.inHbm p), s.pickPage true (fun p => s.movable p && s.inHbm p) with
  | some h, some c =>
    let a := (s.tierPage h).heat
    if s.getF Reg.TIER_HEAT_PROMOTE ≤ a ∧ (s.tierPage c).heat + s.getF Reg.TIER_MIG_HYST ≤ a then
      some { low := min h c, high := max h c, part := s.getF Reg.TIER_MIG_PART, kind := 2 }
    else none
  | _, _ => none

/-- Up to MAX_SWAPS pairs are formed (R273). -/
def State.heatPairs (s : State) : Nat → State
  | 0 => s
  | k + 1 => match s.heatPair with
    | some x => (s.addExchange x).heatPairs k
    | none => s

/-! ## The weight window (R275–R277) -/

/-- Channel `c`. -/
def State.chan (s : State) (c : Nat) : WwChan := Sparse.get (fun _ => {}) s.tier.chans c

/-- The state with channel `c` replaced. -/
def State.setChan (s : State) (c : Nat) (x : WwChan) : State :=
  { s with tier := { s.tier with chans := Sparse.set (fun _ => {}) s.tier.chans c x } }

/-- STATE of channel `c`: 0 IDLE, 1 RUNNING, 2 DONE, 3 STOPPED, 4 ERROR. -/
def State.wwState (s : State) (c : Nat) : Nat := s.getF (Reg.TIER_WW_STAT_STATE c)

/-- Channel `c` takes a state and an error code. -/
def State.setWw (s : State) (c st err : Nat) : State :=
  (s.putF (Reg.TIER_WW_STAT_STATE c) st).putF (Reg.TIER_WW_STAT_ERR c) err

/-- Slots W of a descriptor. -/
def wwSlots (l : List Byte) : Nat := entryBits l 0 4 21 16

/-- Layers of a descriptor. -/
def wwLayers (l : List Byte) : Nat := entryBits l 0 4 15 0

/-- PART of a descriptor. -/
def wwPart (l : List Byte) : Nat := entryBits l 0 4 30 28

/-- Bytes of a slot. -/
def wwSlotBytes (l : List Byte) : Nat := 4096 * entryBits l 4 4 19 0

/-- READY_OBJ. -/
def wwReady (l : List Byte) : Nat := entryBits l 0x18 2 13 0

/-- RELEASE_OBJ. -/
def wwRelease (l : List Byte) : Nat := entryBits l 0x1A 2 13 0

/-- WIN_BASE. -/
def wwBase (l : List Byte) : Nat := entryBits l 0x10 8 47 0

/-- The descriptor's fields are in range (R277 code 1). -/
def wwDescOk (l : List Byte) : Bool :=
  bit (leField l 0 4) 31 && entryBits l 0 4 27 22 == 0 && wwSlots l != 0 && wwLayers l != 0 && entryBits l 4 4 31 20 == 0 &&
  wwSlotBytes l != 0 && entryBits l 8 8 63 48 == 0 && entryBits l 8 8 3 0 == 0 && entryBits l 0x10 8 63 48 == 0 &&
  entryBits l 0x10 8 11 0 == 0 && entryBits l 0x18 2 15 14 == 0 && entryBits l 0x1A 2 15 14 == 0 &&
  (l.drop 0x20).all (fun b => b == 0)

/-- The pages of HBM3 that the ring touches belong to one object with HINT T2, PIN and every page placed (R276). -/
def State.ringPinned (s : State) (a n : Nat) : Bool :=
  s.tier.objects.any (fun e => e.2.valid && e.2.hint == 1 && e.2.pin && decide (e.2.base * pageBytes ≤ a) &&
    decide (a + n ≤ (e.2.base + e.2.pages) * pageBytes) && e.2.range.all (fun p => s.inHbm p))

/-- The slot ring lies where R276 allows, and PART may write it. -/
def State.ringOk (s : State) (l : List Byte) : Bool :=
  let a := wwBase l
  let n := wwSlots l * wwSlotBytes l
  (match s.space a with
    | .scratch o => decide (o + n ≤ s.getF Reg.TIER_SC_WAYS_SCRATCH_WAYS * 0x600000)
    | .dram o => if s.unified then s.ringPinned o n else decide (o + n ≤ hbmBytes)
    | _ => false) && s.memOk (wwPart l) a n true

/-- The layer table entry of layer `g`: 16 bytes. -/
def State.wwLayer (s : State) (l : List Byte) (g : Nat) : List Byte :=
  s.fetch (entryBits l 8 8 47 0 + 16 * (g % max (wwLayers l) 1)) 16

/-- Source address of a layer. -/
def layerSrc (e : List Byte) : Nat := entryBits e 0 8 47 0

/-- Bytes of a layer. -/
def layerLen (e : List Byte) : Nat := leField e 8 4

/-- The code of R277 that stops a channel with descriptor `l` at layer `g`, whose table entry reads `e`, if one does. -/
def State.wwCheck (s : State) (l e : List Byte) (g : Nat) : Option Nat :=
  let p := wwPart l
  if !wwDescOk l || layerSrc e % 64 != 0 || layerLen e % 64 != 0 || leField e 12 4 != 0 || entryBits e 0 8 63 48 != 0 then some 1
  else if !(s.liveOf (wwReady l) p && s.liveOf (wwRelease l) p) then some 2
  else if !s.ringOk l then some 3
  else if !(s.memOk p (entryBits l 8 8 47 0 + 16 * (g % wwLayers l)) 16 false && s.memOk p (layerSrc e) (layerLen e) false) then
    some 4
  else if wwSlotBytes l < layerLen e then some 5
  else none

/-- Channel `c` stops in ERROR. -/
def State.wwError (s : State) (c code : Nat) : State :=
  ((s.setChan c { s.chan c with loading := false, stopping := false }).setWw c 4 code).raise FS.TIER_WW

/-- TIER_WW_CTRL: STOP of a running channel; GO of one that is not (R275). The descriptor is read for the partition that it names; where
that may not read it, the channel stops with the code of a source that it may not read (R266, R277). -/
def State.wrWwCtrl (s : State) (c v : Nat) : State :=
  if s.wwState c = 1 then
    if bit v 1 then
      if (s.chan c).loading then s.setChan c { s.chan c with stopping := true } else s.setWw c 3 0
    else s
  else if bit v 0 && s.isRunning 0x330 then
    let a := s.getF (Reg.TIER_WW_DESC_DESC c) * 64
    let l := s.fetch a 64
    let s1 := (s.setChan c { desc := l }).putF (Reg.TIER_WW_DONE_DONE c) 0
    if !s.memOk (wwPart l) a 64 false then s1.wwError c 4
    else
      let s2 := s1.traffic weightPort (wwPart l) false a 64
      match s2.wwCheck l (s2.wwLayer l 0) 0 with
      | some e => s2.wwError c e
      | none => s2.setWw c 1 0
  else s

/-- Lines of a neighbour window that a hub engine still waits for (R545). -/
def State.linesBusy (s : State) (a n : Nat) : Bool :=
  match s.space a with
  | .neighbour p o => s.odl.outs.any (fun x => x.pos == p && !x.write && x.owner.isNone && meets x.addr (64 * x.lines) o n)
  | _ => false

/-- Channel `c` starts loading its next layer if RELEASE_OBJ allows it: the requests for the table entry and the source are made, and
the entry is held as checked (R275–R277). -/
def State.wwStart (s : State) (c : Nat) : State :=
  let x := s.chan c
  let l := x.desc
  if s.wwState c != 1 || x.loading || x.stopping || !s.isRunning 0x330 then s
  else
    let e := s.wwLayer l x.g
    match s.wwCheck l e x.g with
    | some code => s.wwError c code
    | none =>
      if x.g < wwSlots l ∨ x.g - wwSlots l + 1 ≤ s.syncValue (wwRelease l) then
        (((s.setChan c { x with loading := true, layer := e }).traffic weightPort (wwPart l) false
            (entryBits l 8 8 47 0 + 16 * (x.g % wwLayers l)) 16).traffic weightPort (wwPart l) false (layerSrc e) (layerLen e)).askLines
          weightPort (wwPart l) (layerSrc e) (layerLen e) none
      else s

/-- The port of the weight-window engine at sync objects, for which spec/ gives no number: the first beyond those it lists. -/
def weightSyncPort : Nat := 40

/-- A layer is complete: its bytes are in the slot, READY_OBJ is signalled, and the channel goes on, or ends (R275–R277). -/
def State.wwDone (s : State) (c : Nat) : State :=
  let x := s.chan c
  let l := x.desc
  let e := x.layer
  if s.wwState c != 1 || !x.loading then s
  else if s.linesBusy (layerSrc e) (layerLen e) then s
  else
    let s1 := (s.readsFind [(layerSrc e, layerLen e)]).put weightPort (wwPart l) (wwBase l + x.g % wwSlots l * wwSlotBytes l)
      (s.fetch (layerSrc e) (layerLen e))
    let s2 := (s1.setChan c { x with loading := false, g := x.g + 1 }).wrapInc (Reg.TIER_WW_DONE_DONE c)
    let repeats := leField l 0x1C 4
    let s3 := if repeats != 0 && x.g + 1 == repeats * wwLayers l then s2.setWw c 2 0
      else if x.stopping then s2.setWw c 3 0
      else s2
    s3.signal weightSyncPort (wwReady l) 1

/-! ## Memory ports: buckets and cache (R262, R263, R281–R284) -/

/-- The word pair of MEM_BKT in force for bucket `k` = 8 × port + partition. -/
def State.bucketNow (s : State) (k : Nat) : Nat := Sparse.get (fun _ => 0x40FFFF0000) s.tier.bktNow k

/-- GUAR, CEIL (none for no ceiling) and BURST in bytes of bucket `k`, rates in bytes per 10 ns (R281). -/
def State.bucketOf (s : State) (k : Nat) : Nat × Option Nat × Nat :=
  let v := s.bucketNow k
  let g := bits v 15 0
  (g, if bits v 31 16 = 0xFFFF then none else some (max (bits v 31 16) g), 1024 * bits v 47 32)

/-- Tokens of bucket `k`: G and C. -/
def State.gOf (s : State) (k : Nat) : Nat := Sparse.get (fun _ => 0) s.tier.gTokens k
def State.cOf (s : State) (k : Nat) : Nat := Sparse.get (fun _ => 0) s.tier.cTokens k

/-- The state with the tokens of bucket `k` replaced. -/
def State.setTokens (s : State) (k g c : Nat) : State :=
  { s with tier := { s.tier with gTokens := Sparse.set (fun _ => 0) s.tier.gTokens k g,
                                 cTokens := Sparse.set (fun _ => 0) s.tier.cTokens k c } }

/-- The class of a request of `cost` bytes at bucket `k`: 0 guaranteed, 1 best-effort, none when it waits (R281). -/
def State.classOf (s : State) (k cost : Nat) : Option Nat :=
  if cost ≤ s.gOf k then some 0
  else if (s.bucketOf k).2.1.isNone ∨ cost ≤ s.cOf k then some 1
  else none

/-- The tokens of a request are taken (R281). -/
def State.takeTokens (s : State) (k cost : Nat) : State :=
  if cost ≤ s.gOf k then s.setTokens k (s.gOf k - cost) (s.cOf k - cost) else s.setTokens k (s.gOf k) (s.cOf k - cost)

/-- The block of a page exchange in flight holds the request, unless it is the exchange's own (R274). -/
def State.blockHeld (s : State) (r : MemReq) : Bool :=
  match s.tier.current, s.space r.addr with
  | some (x, n), .dram o =>
    r.port != exchangePort && [o, o + 64 * r.units - 1].any (fun a =>
      (x.low == a / pageBytes || x.high == a / pageBytes) && a % pageBytes / 65536 == n)
  | _, _ => false

/-- A line of the cache, by line address. -/
def State.cacheLine (s : State) (n : Nat) : CacheLine := Sparse.get (fun _ => {}) s.tier.cache n

/-- The state with a line of the cache replaced. -/
def State.setCacheLine (s : State) (n : Nat) (x : CacheLine) : State :=
  { s with tier := { s.tier with cache := Sparse.set (fun _ => {}) s.tier.cache n x } }

/-- The ways in which partition `p` may allocate: its mask without the scratch partition's ways (R263, R264). -/
def State.allocWays (s : State) (p : Nat) : List Nat :=
  let m := s.getF (if p % 2 = 0 then Reg.TIER_SC_MASK_WAYS_EVEN (p / 2) else Reg.TIER_SC_MASK_WAYS_ODD (p / 2))
  (List.range (16 - s.getF Reg.TIER_SC_WAYS_SCRATCH_WAYS)).filter (fun w => bit m w)

/-- The set of line `n` within its slice: 24 MiB of 16 ways of 64 bytes are 24,576 sets (R260, R263). How spec/'s slices spread lines
over their sets is open. -/
def setOf (n : Nat) : Nat := Config.addressHash 1 n % 24576

/-- Line `n` takes a way that partition `p` may use; the line that held it leaves, and a dirty one is written back at the
LPDDR5X controller, charged to its own partition and asked for by the requester `port` that displaced it (R263, R281). Which of the
ways is taken is open. -/
def State.allocate? (s : State) (port n p : Nat) (dirty : Bool) : State :=
  let ways := s.allocWays p
  if ways.isEmpty || (s.tierPage (n * 64 / pageBytes)).noAlloc then s
  else
    let (k, s1) := s.free 32
    let w := ways.getD (k % ways.length) 0
    let s2 := match s1.tier.cache.find? (fun e => e.2.valid && e.2.way == w &&
        setOf e.1 == setOf n && bits (e.1 * 64) 13 12 == bits (n * 64) 13 12) with
      | some (m, x) =>
        let u := s1.setCacheLine m {}
        if x.dirty then
          u.waitAt (4 + bits (m * 64) 13 12) { write := true, addr := m * 64, units := 1, part := x.part, data := [], port := port }
        else u
      | none => s1
    s2.setCacheLine n { valid := true, way := w, part := p, dirty := dirty }

/-- The request's units count as served to its partition at a port. -/
def State.served (s : State) (port : Nat) (r : MemReq) : State := s.wrapInc (Reg.MEM_SERVED_SERVED port r.part) r.units

/-- Accesses add to the page's interval count in UNIFIED mode; an exchange's own do not (R272). -/
def State.heatUp (s : State) (r : MemReq) : State :=
  match s.space r.addr with
  | .dram o =>
    if s.unified && r.port != exchangePort then
      let p := o / pageBytes
      s.setTierPage p { s.tierPage p with count := min 65535 ((s.tierPage p).count + r.units) }
    else s
  | _ => s

/-- The request's bytes are in memory. -/
def State.landReq (s : State) (r : MemReq) : State := if r.write && !r.data.isEmpty then s.store r.addr r.data else s

/-- A request is served at a slice: a hit ends there, and so does a write that allocates, for the cache is write-back; all others go on
to the LPDDR5X controller behind it (R262, R263). -/
def State.serveSlice (s : State) (o : Nat) (r : MemReq) : State :=
  let lines := (List.range r.units).map (fun i => o / 64 + i)
  let missed := lines.filter (fun n => !(s.cacheLine n).valid)
  let s1 := if r.port == exchangePort then s else missed.foldl (fun u n => u.allocate? r.port n r.part r.write) s
  let s2 := lines.foldl (fun u n => if r.write && (u.cacheLine n).valid then u.setCacheLine n { u.cacheLine n with dirty := true } else u) s1
  let toBehind := if r.write then missed.any (fun n => !(s2.cacheLine n).valid) else !missed.isEmpty
  if toBehind then s2.waitAt (4 + bits o 13 12) { r with data := [] } else s2

/-- A request is served at the port that it meets first, or at the LPDDR5X controller behind it (R262, R263, R272, R282). Its bytes are
in memory once the first has served it. -/
def State.serve (s : State) (port : Nat) (r : MemReq) : State :=
  let s1 := s.served port r
  if 4 ≤ port ∧ port < 8 then s1
  else
    let s2 := (s1.heatUp r).landReq r
    match s2.space r.addr with
    | .dram o => if port < 8 || !s2.inLpd o then s2 else s2.serveSlice o r
    | _ => s2

/-- The requests at the head of a port's queues, one for each partition and requester port: the oldest that no exchange holds (R274,
R282). -/
def State.heads (s : State) (port : Nat) : List MemReq :=
  ((s.portQueue port).filter (fun r => !s.blockHeld r)).foldl (fun l r =>
    if l.any (fun x => x.part == r.part && x.port == r.port) then l else l ++ [r]) []

/-- The request that a port serves next: the guaranteed class first, and within a class R195 with the ports of R282 and R196. A
partition that waits for tokens delays no other (R281, R282). -/
def State.grant? (s : State) (port : Nat) : Option MemReq :=
  let pick (cls : Nat) := s.winner (.memPort port) (fun r => (r.part, r.port))
    ((s.heads port).filter (fun r => s.classOf (8 * port + r.part) (64 * r.units) == some cls))
  match pick 0 with
  | some r => some r
  | none => pick 1

/-- A port serves what it can, at most `fuel` requests: each takes its tokens and moves the port's pointer. -/
def State.drainPort (s : State) (port : Nat) : Nat → State
  | 0 => s
  | k + 1 => match s.grant? port with
    | none => s
    | some r =>
      let s1 := (s.setPortQueue port ((s.portQueue port).erase r)).granted (.memPort port) r.port
      ((s1.takeTokens (8 * port + r.part) (64 * r.units)).serve port r).drainPort port k

/-- Every port serves what it can; the slices first, whose misses go on to the LPDDR5X controllers. -/
def State.drainPorts (s : State) : State :=
  [8, 9, 10, 11, 0, 1, 2, 3, 4, 5, 6, 7].foldl (fun u p => u.drainPort p (u.portQueue p).length) s

/-- The guarantee capacity of a port in 0.1 GB/s (R283). -/
def guaranteeCapacity (port : Nat) : Nat := if port < 4 then 6500 else if port < 8 then 520 else 4600

/-- The overcommit source of a port. -/
def overcommitSource (port : Nat) : Nat :=
  if port < 4 then FS.HBM_OVERCOMMIT port else if port < 8 then FS.LPC_OVERCOMMIT (port - 4) else FS.SC_OVERCOMMIT (port - 8)

/-- The setting written for bucket `k` takes effect (R284). -/
def State.loadBucket (s : State) (k : Nat) : State :=
  let v := s.regNat (Reg.MEM_BKT (k / 8) (k % 8)) 2
  { s with tier := { s.tier with bktNow := Sparse.set (fun _ => 0x40FFFF0000) s.tier.bktNow k v } }

/-- The settings written since the last refill take effect, and the guarantees are summed (R283, R284). -/
def State.loadBuckets (s : State) (port : Nat) : State :=
  let s1 := (List.range 8).foldl (fun u p => u.loadBucket (8 * port + p)) s
  let sum := (List.range 8).foldl (fun n p => n + (s1.bucketOf (8 * port + p)).1) 0
  let exceed := decide (guaranteeCapacity port < sum)
  let s2 := s1.putF (Reg.MEM_PORT_STAT_GUAR_SUM port) (min sum 65535)
  let s3 := s2.putF (Reg.MEM_PORT_STAT_OVERCOMMIT port) (b2n exceed)
  if exceed && !s.onF (Reg.MEM_PORT_STAT_OVERCOMMIT port) then s3.raise (overcommitSource port) else s3

/-- Every bucket of a port gains its rates for 10 ns, up to BURST (R281). -/
def State.refill (s : State) (port : Nat) : State :=
  let s1 := s.loadBuckets port
  let s2 := (List.range 8).foldl (fun u p =>
    let k := 8 * port + p
    let (g, c, b) := u.bucketOf k
    u.setTokens k (min b (u.gOf k + g)) (min b (u.cOf k + c.getD 0))) s1
  s2.drainPorts

/-- A memory request of `n` bytes from `a`: its reach is checked, but not Granite's, whose access to an unmapped address is refused
(R87, R88, R266); a line that fails its CRC twice is never applied (R572, R573); else its requests of at most eight lines join the ports
they meet (R144, R281), or go out to a neighbour (R541). -/
def State.memRequest (s : State) (write : Bool) (a n part port : Nat) (data : List Byte) (crcError : Nat) : State :=
  let granite := port == granitePort
  if n = 0 ∨ 0x3F000000000 < a + n ∧ s.rangeMapped a n then s
  else if granite && !s.rangeMapped a n then s.refuse .granite .unmapped
  else if !granite && !s.memOk part a n write then s
  else if 2 ≤ crcError then s.raise FS.NOC_E2E
  else if s.isNeighbour a then if write then s.sendLines port part a data none else s.askLines port part a n none
  else if (s.portOf a).isNone then if write then s.store a data else s
  else
    ((requestsOf a n).foldl (fun u q => u.enqueue
      { write := write, addr := q.1, units := q.2, part := part, data := if write then (data.drop (q.1 - a)).take (64 * q.2) else [],
        port := port }) s).drainPorts

/-! ## Die-to-die modules (R18–R20) -/

/-- A module is out of use: what it carried and has not been served is issued again over its substitute (R19, R20). -/
def State.loseModule (s : State) (m : Nat) : State :=
  let s1 := { s with tier := { s.tier with d2dRemoved := m :: s.tier.d2dRemoved } }
  { s1 with tier := { s1.tier with waiting := s1.tier.waiting.map (fun e => (e.1, e.2.map (fun r =>
    if r.module == some m then { s1.routed r with again := true } else r))) } }

/-! ## Start and stop (R285) -/

/-- The TIER start: the object table lies in mapped memory, and no valid software region ends below its base (R285). -/
def State.tierStartOk (s : State) : Bool :=
  s.rangeMapped (s.objAddr 0) 0x100000 && decide (s.objAddr 0 + 0x100000 ≤ 0x3F000000000) && (List.range 28).all (fun i => !s.onF (Reg.TIER_RGN_BASE_V (i + 4)) ||
    decide (s.getF (Reg.TIER_RGN_BASE_BASE (i + 4)) ≤ s.getF (Reg.TIER_RGN_LIM_LIM (i + 4))))

/-- The TIER stop begins: every channel finishes its layer and stops. -/
def State.tierStop (s : State) : State := (List.range 16).foldl (fun u c => u.wrWwCtrl c 2) s

/-- The stop may end: no layer is being loaded, and no exchange block (R285). -/
def State.tierStopReady (s : State) : Bool := s.tier.current.isNone && !s.tier.chans.any (fun e => e.2.loading)

/-- The TIER has stopped: what waits is dropped, and an APPLY ends with the pages where they are. -/
def State.tierStopped (s : State) : State :=
  (({ s with tier := { s.tier with queue := [], current := none } }).endApply.showSpilled).drainPorts

/-- A new SCRATCH_WAYS leaves the scratch partition's contents open (R264). -/
def State.wrScWays (s : State) (v : Nat) : State :=
  let s1 := s.applyWord Reg.TIER_SC_WAYS v
  if s1.getF Reg.TIER_SC_WAYS_SCRATCH_WAYS = s.getF Reg.TIER_SC_WAYS_SCRATCH_WAYS then s1
  else
    let s2 := { s1 with mem := Sparse.keep (fun a => !(decide (0x31000000000 ≤ a) && decide (a < 0x3F000000000))) s1.mem,
                        tier := { s1.tier with cache := s1.tier.cache.filter (fun e =>
                          decide (e.2.way + s1.getF Reg.TIER_SC_WAYS_SCRATCH_WAYS < 16)) } }
    let (l, s3) := s2.freeBytes (s2.getF Reg.TIER_SC_WAYS_SCRATCH_WAYS * 0x600000)
    s3.write 0x31000000000 l

/-! ## Commands -/

/-- APPLY. -/
def execApply (req : Requester) (index : Nat) (s : State) : Host.Outcome State Fault Refusal :=
  let v := index % 65536
  whenLive (fun s => s.access req Reg.TIER_OBJ_APPLY v (fun t => t.wrObjApply v)) s

/-- EXCHANGE_BLOCK_DONE: the accesses held by the block proceed; the last block ends the exchange (R274). A TIER that stops ends the
exchange with its block (R285). -/
def execExchangeBlockDone (s : State) : Host.Outcome State Fault Refusal :=
  whenLive (fun s =>
    match s.tier.current with
    | none => s
    | some (x, n) =>
      let s1 := s.exchangeTraffic x n
      if n + 1 < 32 then
        ({ s1 with tier := { s1.tier with current := if s1.isRunning 0x330 then some (x, n + 1) else none } }).drainPorts
      else (((({ s1 with tier := { s1.tier with current := none } }).swapFrames x).promote).exchangeNext).drainPorts) s

/-- HEAT_INTERVAL (R272, R273). -/
def execHeatInterval (s : State) : Host.Outcome State Fault Refusal :=
  whenLive (fun s => s.guard s.unified (fun s =>
    let s1 := s.coolPages
    s1.guard (s1.isRunning 0x330) (fun t =>
      ((t.promote).heatPairs (t.getF Reg.TIER_HEAT_MAX_SWAPS)).exchangeNext))) s

/-- WW_GO. -/
def execWwGo (req : Requester) (chan : Nat) (s : State) : Host.Outcome State Fault Refusal :=
  whenLive (fun s => s.guard (decide (chan < 16)) (fun s =>
    s.access req (Reg.TIER_WW_CTRL chan) 1 (fun t => t.wrWwCtrl chan 1))) s

/-- WW_STOP. -/
def execWwStop (req : Requester) (chan : Nat) (s : State) : Host.Outcome State Fault Refusal :=
  whenLive (fun s => s.guard (decide (chan < 16)) (fun s =>
    s.access req (Reg.TIER_WW_CTRL chan) 2 (fun t => t.wrWwCtrl chan 2))) s

/-- WW_LAYER_START (R275). -/
def execWwLayerStart (chan : Nat) (s : State) : Host.Outcome State Fault Refusal :=
  whenLive (fun s => s.guard (decide (chan < 16)) (fun s => s.wwStart chan)) s

/-- WW_LAYER_DONE (R275). -/
def execWwLayerDone (chan : Nat) (s : State) : Host.Outcome State Fault Refusal :=
  whenLive (fun s => s.guard (decide (chan < 16)) (fun s => s.wwDone chan)) s

/-- MEMORY_REQUEST (R281, R282, R572). -/
def execMemoryRequest (write : Bool) (addr units part : Nat) (port : Nat) (data : List Byte) (crcError : Nat) (s : State) :
    Host.Outcome State Fault Refusal :=
  whenLive (fun s => s.memRequest write (addr - addr % 64) (64 * units) (if port = granitePort then 0 else part % 8) port
    (padTo (64 * units) data) crcError) s

/-- BUCKET_REFILL (R281). -/
def execBucketRefill (port : Nat) (s : State) : Host.Outcome State Fault Refusal :=
  whenLive (fun s => s.guard (decide (port < 12)) (fun s => s.refill port)) s

/-- D2D_MODULE_FAIL (R19, R20). -/
def execD2dModuleFail (module : Nat) (s : State) : Host.Outcome State Fault Refusal :=
  whenLive (fun s => s.guard (decide (module < 4) && s.tier.d2dLatched.contains module && !s.tier.d2dRemoved.contains module)
    (fun s => (s.loseModule module).raise FS.D2D_DOWN)) s

end Sys2Proof.Machine
end

