-- ==== Sys2Proof/Machine/Filters.lean ====
section
/-! DEFINITION. What Agate's filters compute (R357–R364): its records as they are read, the motion and measurement models, and the
steps of a track and of the ego filter. Every filter computes in FP32 in a fixed order of operations that spec/ does not state (R362),
so the words that come out of it are open functions of exactly what the models name: the matrices, the measurement, its variances and
its mapping. -/

namespace Sys2Proof.Machine

/-! What an open computation of the hub engines computes: the first argument of Config.computed. -/
namespace Calc
def distance : Nat := 1
def cost : Nat := 2
def trackX : Nat := 3
def trackP : Nat := 4
def egoX : Nat := 5
def egoP : Nat := 6
def imu : Nat := 7
def birthX : Nat := 8
def birthP : Nat := 9
def egoBlock : Nat := 10
def summary : Nat := 11
def gap : Nat := 13
def predictX : Nat := 100
def predictP : Nat := 101
def residual : Nat := 102
def egoAt : Nat := 103
def coastPos : Nat := 104
end Calc

/-- A word of an open computation. -/
def openWord (k : Nat) (inputs : List Nat) (i : Nat) : Nat := Config.computed k inputs i % 2 ^ 32

/-- The first `n` words of an open computation. -/
def calcs (k : Nat) (inputs : List Nat) (n : Nat) : List Nat := (List.range n).map (openWord k inputs)

/-- An open FP32 value within 2^`k` of an exact one. -/
def openNear (c : Nat) (inputs : List Nat) (r : Num) (k : Int) : Num :=
  let v := f32 (openWord c inputs 0)
  if v.isFin && within v r k then v else r.round.1

/-- `n` bytes to which spec/ gives no value. -/
def gapBytes (inputs : List Nat) (n : Nat) : List Byte := (List.range n).map (fun i => BitVec.ofNat 8 (openWord Calc.gap inputs i))

/-- `a ≤ b`, infinities included; false for NaN. -/
def Num.leq : Num → Num → Bool
  | .nan, _ => false
  | _, .nan => false
  | .inf true, _ => true
  | _, .inf false => true
  | a, b => a.le b

/-! ## FP32, rounded at each operation (R451) -/

/-- Sum, difference, product and quotient, each rounded once. -/
def fa (a b : Num) : Num := (fAdd a b).1
def fs (a b : Num) : Num := (fSub a b).1
def fm (a b : Num) : Num := (fMul a b).1
def fd (a b : Num) : Num := (fDiv a b).1

/-- The correctly rounded square root (R451). -/
def fRoot (x : Num) : Num :=
  match x with
  | .nan => .nan
  | .inf n => if n then .nan else .inf false
  | .fin n m e => if m = 0 then .fin n 0 0 else if n then .nan else sqrtFin m e

/-! ## Time (R346) -/

/-- TB3 now. -/
def State.tb3 (s : State) : Nat := s.now 3

/-- The age of time `t` at time `now`, modulo 2^32. -/
def ageOf (now t : Nat) : Nat := (now + 2 ^ 32 - t % 2 ^ 32) % 2 ^ 32

/-- `a` is older than `b` (R346). -/
def older (a b : Nat) : Bool := decide (1 ≤ ageOf b a ∧ ageOf b a < 2 ^ 31)

/-- The frame number. -/
def State.frameNo (s : State) : Nat := s.getF Reg.QTZ_FRAME_FRAME

/-- The time from `a` to `b`, in seconds, exact. -/
def secondsFrom (a b : Nat) : Rat := mkRat (signed 32 (ageOf b a)) 1000000000

/-! ## Records (R349) -/

/-- The words of a byte list. -/
def wordsOf (l : List Byte) (o n : Nat) : List Nat := (List.range n).map (fun i => leField l (o + 4 * i) 4)

/-- HDR of a record. -/
def recHdr (d : List Byte) : Nat := leField d 0 4

/-- SENSOR of a record. -/
def recSensor (d : List Byte) : Nat := bits (recHdr d) 5 0

/-- The record is RAW. -/
def recRaw (d : List Byte) : Bool := bits (recHdr d) 27 26 == 1

/-- HMODEL of a record: from the sensor's entry for RAW. -/
def State.recModel (s : State) (d : List Byte) : Nat :=
  if recRaw d then s.getF (Reg.AGT_S_CFG_HMODEL (recSensor d)) else bits (recHdr d) 11 8

/-- Measured components of a record. -/
def State.recDim (s : State) (d : List Byte) : Nat :=
  1 + (if recRaw d then s.getF (Reg.AGT_S_CFG_MDIM (recSensor d)) else bits (recHdr d) 19 16)

/-- Half word `i` of a packed pair of sensor registers. -/
def State.sensorHalf (s : State) (a i : Nat) : Nat := bits (s.reg (a + 4 * (i / 2))).toNat (16 * (i % 2) + 15) (16 * (i % 2))

/-- Component `k` of a RAW record's measurement, an FP32 word (R358). -/
def State.rawZ (s : State) (d : List Byte) (k : Nat) : Nat :=
  let h := s.sensorHalf (Reg.AGT_S_DEC (recSensor d) 0) k
  let o := bits h 15 10
  let payload (n : Nat) : Nat := leNat ((List.range n).map (fun j => if o + j < 64 then d.getD (0x20 + o + j) 0 else 0))
  let v : Num := match bits h 9 8 with
    | 0 => .ofInt (signed 16 (payload 2))
    | 1 => .ofInt (signed 32 (payload 4))
    | 2 => f32 (payload 4)
    | _ => .zero
  toF32 ((v.round.1).scale (signed 8 (bits h 7 0)))

/-- Variance of component `k` of a RAW record, an FP32 word; an unused component takes no part. -/
def State.rawR (s : State) (d : List Byte) (k : Nat) : Nat :=
  let i := recSensor d
  if bits (s.sensorHalf (Reg.AGT_S_DEC i 0) k) 9 8 = 3 then 0x7F800000
  else toF32 (fp16.decode (s.sensorHalf (Reg.AGT_S_R i 0) k))

/-- The measurement and its variances, FP32 words. -/
def State.recZ (s : State) (d : List Byte) : List Nat :=
  if recRaw d then (List.range (s.recDim d)).map (s.rawZ d) else wordsOf d 0x20 (min (s.recDim d) 8)
def State.recR (s : State) (d : List Byte) : List Nat :=
  if recRaw d then (List.range (s.recDim d)).map (s.rawR d) else wordsOf d 0x40 (min (s.recDim d) 8)

/-! ## Exact matrices -/

/-- The exact value of a finite FP32 word; an infinity or a NaN, for which no matrix is stated, counts as 0. -/
def ratOf (w : Nat) : Rat :=
  match f32 w with
  | .fin n m e => mkRat (mantAt n m (max e 0) 0) (2 ^ (-e).toNat)
  | _ => 0

/-- A rational number rounded once to FP32. -/
def ratF32 (r : Rat) : Nat := toF32 (fd (.ofInt r.num) (.ofInt r.den))

/-- An FP32 word is a finite number. -/
def finiteWord (w : Nat) : Bool := (f32 w).isFin

/-- A number among the inputs of an open computation: sign, numerator, denominator. -/
def ratWords (r : Rat) : List Nat := [b2n (decide (r.num < 0)), r.num.natAbs, r.den]

/-- A matrix, by rows. -/
abbrev Matrix' := List (List Rat)

/-- A matrix among the inputs of an open computation. -/
def matWords (m : Matrix') : List Nat := [m.length] ++ m.flatMap (fun r => r.flatMap ratWords)

/-- The `r` × `c` matrix of a function. -/
def matOf (r c : Nat) (f : Nat → Nat → Rat) : Matrix' := (List.range r).map (fun i => (List.range c).map (f i))

/-- An entry of a matrix. -/
def Matrix'.at (m : Matrix') (i j : Nat) : Rat := (m.getD i []).getD j 0

/-- The product of two `n` × `n` matrices. -/
def matMul (n : Nat) (a b : Matrix') : Matrix' :=
  matOf n n (fun i j => (List.range n).foldl (fun x k => x + a.at i k * b.at k j) 0)

/-- `n` factorial. -/
def fact : Nat → Nat
  | 0 => 1
  | n + 1 => (n + 1) * fact n

/-! ## Motion models (R359, R361) -/

/-- What the components of a state and of a measurement are (R359, R360). -/
inductive Comp where
  | x | y | z | vx | vy | vz | ax | ay | az | yaw | speed | yawRate | accel | steer | range | azimuth | elevation | rangeRate
deriving DecidableEq, Repr

/-- The state of motion model `m`, by its components; a USER model's have no names. -/
def stateComps (m : Nat) : Option (List Comp) :=
  match m with
  | 0 => some [.x, .y, .vx, .vy]
  | 1 => some [.x, .y, .vx, .vy, .ax, .ay]
  | 2 => some [.x, .y, .yaw, .speed, .yawRate]
  | 3 => some [.x, .y, .yaw, .speed, .yawRate, .accel]
  | 4 => some [.x, .y, .z, .vx, .vy, .vz]
  | 5 => some [.x, .y, .z, .vx, .vy, .vz, .ax, .ay, .az]
  | 6 => some [.x, .y, .yaw, .speed, .steer]
  | 7 => some [.x, .y, .z]
  | _ => none

/-- The state size of a motion model. -/
def State.stateDim (s : State) (m : Nat) : Nat :=
  match stateComps m with
  | some l => l.length
  | none => bits (leField s.agt.user ((m - 8) * 4096) 4) 4 0

/-- Axes and derivatives (counted from the position) of a model that is linear in its named state. -/
def linearModel (m : Nat) : Option (Nat × Nat) :=
  match m with
  | 0 => some (2, 2)
  | 1 => some (2, 3)
  | 4 => some (3, 2)
  | 5 => some (3, 3)
  | 7 => some (3, 1)
  | _ => none

/-- F(dt) of `k` axes with `d` derivatives each: the Taylor rows. -/
def linearF (k d : Nat) (dt : Rat) : Matrix' :=
  matOf (k * d) (k * d) (fun i j =>
    if i % k = j % k ∧ i / k ≤ j / k then dt ^ (j / k - i / k) / (fact (j / k - i / k) : Rat) else 0)

/-- Q(dt) of the white-noise model of the highest derivative, with spectral density `q`. -/
def linearQ (k d : Nat) (q dt : Rat) : Matrix' :=
  matOf (k * d) (k * d) (fun i j =>
    let a := d - 1 - i / k
    let b := d - 1 - j / k
    if i % k = j % k then q * dt ^ (a + b + 1) / ((fact a * fact b * (a + b + 1) : Nat) : Rat) else 0)

/-- A 16 × 16 FP32 matrix of the user block, its first `n` rows and columns. -/
def State.userMat (s : State) (o r n : Nat) : Matrix' := matOf r n (fun i j => ratOf (leField s.agt.user (o + 64 * i + 4 * j) 4))

/-- F(dt) and Q(dt) of a linear motion model: the named ones, and USER's F = I + A dt + A² dt² / 2 and Q = Qc dt (R359, R361). The
extended filters have none: their Jacobian is taken at the prior state. -/
def State.motion (s : State) (m : Nat) (dt : Rat) : Option (Matrix' × Matrix') :=
  match linearModel m with
  | some (k, d) => some (linearF k d dt, linearQ k d (ratOf (s.getF (Reg.AGT_QN_QN m))) dt)
  | none =>
    if m < 8 then none
    else
      let n := s.stateDim m
      let o := (m - 8) * 4096
      let a := s.userMat (o + 0x40) n n
      let a2 := matMul n a a
      some (matOf n n (fun i j => (if i = j then 1 else 0) + a.at i j * dt + a2.at i j * dt ^ 2 / 2),
        matOf n n (fun i j => (s.userMat (o + 0x440) n n).at i j * dt))

/-- What a prediction over `dt` reads: the model's matrices, or for an extended model its number, density and, for BICYCLE, the
wheelbase in mm. -/
def State.motionWords (s : State) (m : Nat) (dt : Rat) : List Nat :=
  match s.motion m dt with
  | some (f, q) => [1] ++ matWords f ++ matWords q
  | none => [0, m, s.getF (Reg.AGT_QN_QN m)] ++ (if m = 6 then [2900] else []) ++ ratWords dt

/-- A covariance made symmetric by averaging its off-diagonal pairs, here rounded once (R362). -/
def symmetric (n : Nat) (l : List Nat) : List Nat :=
  (List.range (n * n)).map (fun k =>
    let i := k / n
    let j := k % n
    if i = j then l.getD k 0
    else toF32 ((((f32 (l.getD (min i j * n + max i j) 0)).add (f32 (l.getD (max i j * n + min i j) 0))).1.scale (-1)).round.1))

/-- A track predicted to time `t` (R347, R359). -/
def State.predictTrack (s : State) (x : Track) (t : Nat) : Track :=
  let n := s.stateDim x.model
  let w := s.motionWords x.model (secondsFrom x.time t) ++ x.x ++ x.p
  { x with x := calcs Calc.predictX w n, p := symmetric n (calcs Calc.predictP w (n * n)), time := t }

/-! ## Measurement models (R357, R360, R361) -/

/-- What a measurement model measures; USER's components have no names. -/
def measComps (h : Nat) : Option (List Comp) :=
  match h with
  | 0 => some [.x, .y]
  | 1 => some [.x, .y, .z]
  | 2 => some [.x, .y, .vx, .vy]
  | 3 => some [.x, .y, .z, .yaw, .vx, .vy]
  | 4 => some [.range, .azimuth]
  | 5 => some [.range, .azimuth, .elevation]
  | 6 => some [.range, .azimuth, .rangeRate]
  | 7 => some []
  | _ => none

/-- The dimension that a measurement model has. -/
def State.modelDim (s : State) (h : Nat) : Nat :=
  match measComps h with
  | some l => l.length
  | none => bits (leField s.agt.user (0x8000 + (h - 8) * 1024) 4) 3 0

/-- A state holds what a measured component needs: itself; x and y for range and azimuth, z for elevation, a velocity for range rate
(R360). -/
def holds (hs : List Comp) (c : Comp) : Bool :=
  match c with
  | .range | .azimuth => hs.contains .x && hs.contains .y
  | .elevation => hs.contains .z
  | .rangeRate => hs.contains .vx || hs.contains .speed
  | c => hs.contains c

/-- The components of a measurement that take part in the update of a track of motion model `m`: what its state does not hold has
infinite variance (R360). Between named and unnamed components all take part. -/
def State.takePart (s : State) (h m : Nat) : List Nat :=
  match measComps h, stateComps m with
  | some ms, some hs => (List.range ms.length).filter (fun i => (ms[i]?).any (holds hs))
  | _, _ => List.range (s.modelDim h)

/-- H, for the rows that take part, of a model that is linear: it picks components of the state, or is the user block's (R360, R361). -/
def State.measMatrix (s : State) (h m : Nat) : Option Matrix' :=
  match measComps h, stateComps m with
  | some ms, some hs =>
    if h < 4 then
      some ((s.takePart h m).map (fun i => hs.map (fun c => if ms[i]? = some c then 1 else 0)))
    else none
  | none, _ => some (s.userMat (0x8000 + (h - 8) * 1024 + 0x40) (s.modelDim h) (s.stateDim m))
  | _, _ => none

/-- Component `i` of measurement model `h` is an angle whose residual is wrapped: azimuth and yaw (R360). -/
def wraps (h i : Nat) : Bool := (measComps h).any (fun ms => ms[i]? = some .azimuth || ms[i]? = some .yaw)

/-- An FP32 word in [−π, π): one of the words whose magnitude lies below the FP32 number next above π. -/
def angleWord (w : Nat) : Nat := w % 2 ^ 31 % 0x40490FDB + w / 2 ^ 31 % 2 * 2 ^ 31

/-! ## Transforms (R356, R357) -/

/-- Entry `n` of a copy of the transform table. -/
def xfEntry (copy : List Byte) (n : Nat) : List Byte := (copy.drop (64 * n)).take 64

/-- V of a transform entry. -/
def xfValid (e : List Byte) : Bool := bit (leField e 0x24 4) 31

/-- The transform entry that applies at time `t` (R357). -/
def State.xfAt (s : State) (n t : Nat) : Option (List Byte) :=
  let a := xfEntry s.agt.active n
  let b := xfEntry s.agt.previous n
  if xfValid a && !older t (leField a 0x20 4) then some a else if xfValid b then some b else none

/-- The transform entry of a record. -/
def State.recXf (s : State) (r : AgtRec) : Option (List Byte) := s.xfAt (s.getF (Reg.AGT_S_CFG_XF r.sensor)) r.tcap

/-- What a filter reads of the ego state. -/
def egoWords (e : EgoState) : List Nat := [e.time] ++ e.x ++ e.p ++ e.imu

/-- The ego state at time `t`, from the last ego record not later than `t` (R357). -/
def State.egoWordsAt (s : State) (t : Nat) : List Nat :=
  let e := ((s.agt.egoPast.find? (fun e => !older t e.2.time)).map (fun e => e.2)).getD {}
  t :: calcs Calc.egoAt (t :: egoWords e) 15

/-- The ego state with which a record is mapped into the vehicle working frame: the one at T_CAP, kept from its first application
(R357, R369). -/
def State.recFrame (s : State) (r : AgtRec) : List Nat := r.frame.getD (s.egoWordsAt r.tcap)

/-- What maps a record's measurement: transform and ego state. -/
def State.mapWords (s : State) (r : AgtRec) : List Nat := wordsOf ((s.recXf r).getD []) 0 7 ++ s.recFrame r

/-- What a filter reads of a record. -/
def State.recWords (s : State) (r : AgtRec) : List Nat := [s.recModel r.data] ++ s.recZ r.data ++ s.recR r.data ++ s.mapWords r

/-! ## Tracks (R359–R364) -/

/-- Component `i` of a measurement's residual against a track predicted to its time (R360, R364). -/
def State.residual (s : State) (x : Track) (r : AgtRec) (i : Nat) : Nat :=
  let h := s.recModel r.data
  let m := match s.measMatrix h x.model with | some m => matWords m | none => [h]
  let w := openWord Calc.residual (m ++ [i] ++ x.x ++ [(s.recZ r.data).getD i 0] ++ s.mapWords r) 0
  if wraps h i then angleWord w else w

/-- What an update reads: the predicted track, and of the measurement the residuals, variances and matrix rows that take part. -/
def State.updateWords (s : State) (x : Track) (r : AgtRec) : List Nat :=
  let h := s.recModel r.data
  let part := s.takePart h x.model
  let m := match s.measMatrix h x.model with | some m => matWords m | none => h :: s.mapWords r
  x.x ++ x.p ++ part.map (s.residual x r) ++ part.map (fun i => (s.recR r.data).getD i 0) ++ m

/-- d² of a record and a track at the record's time (R364). -/
def State.distance (s : State) (x : Track) (r : AgtRec) : Nat :=
  openWord Calc.distance (s.updateWords (s.predictTrack x r.tcap) r) 0

/-- A track's state and covariance after a record, in the Joseph form, symmetric (R359, R362). -/
def State.filtered (s : State) (x : Track) (r : AgtRec) : Track :=
  let y := s.predictTrack x r.tcap
  let w := s.updateWords y r
  let n := s.stateDim x.model
  { y with x := calcs Calc.trackX w n, p := symmetric n (calcs Calc.trackP w (n * n)) }

/-- The components of a new track's state that a record measures (R366). -/
def State.measured (s : State) (h m : Nat) : List Nat :=
  let want (c : Comp) : Bool := match h with
    | 4 | 6 => c = .x || c = .y
    | 5 => c = .x || c = .y || c = .z
    | _ => (measComps h).any (fun ms => ms.contains c)
  match measComps h, stateComps m with
  | some _, some hs => (List.range hs.length).filter (fun i => (hs[i]?).any want)
  | _, _ => List.range (s.stateDim m)

/-- State and covariance of a track that record `r` starts: what it measures comes from it; all else is 0 with variance 100 (R366). -/
def State.bornFrom (s : State) (r : AgtRec) (m : Nat) : List Nat × List Nat :=
  let n := s.stateDim m
  let ms := s.measured (s.recModel r.data) m
  let w := m :: s.recWords r
  let p := symmetric n (calcs Calc.birthP w (n * n))
  ((List.range n).map (fun i => if ms.contains i then openWord Calc.birthX w i else 0),
    (List.range (n * n)).map (fun k => if k / n = k % n ∧ !ms.contains (k / n) then toF32 (.ofInt 100) else p.getD k 0))

/-! ## The ego filter (R363) -/

/-- The ego filter after an ego record of a role in epoch `e`: an IMU record propagates it, the others update it. -/
def State.egoAfter (s : State) (r : AgtRec) (e : Nat) : EgoState :=
  let role := s.getF (Reg.AGT_S_CFG_EGO_ROLE r.sensor)
  let x := s.agt.ego
  let w := role :: r.tcap :: egoWords x ++ [s.recModel r.data] ++ s.recZ r.data ++ s.recR r.data ++ wordsOf ((s.recXf r).getD []) 0 7
  { x := calcs Calc.egoX w 15, p := symmetric 15 (calcs Calc.egoP w 225), time := r.tcap,
    imu := if role = 1 then calcs Calc.imu w 6 else x.imu, imuEpoch := if role = 1 then some e else x.imuEpoch }

/-- No IMU record has been applied in the last 5 epochs (R363). -/
def EgoState.degraded (e : EgoState) (n : Nat) : Bool :=
  match e.imuEpoch with
  | some k => decide (5 ≤ (n + 2 ^ 32 - k % 2 ^ 32) % 2 ^ 32)
  | none => true

/-- The ego-state block of epoch `n` at C(n) without its time: position, attitude, velocity, the latest angular rate and acceleration
less the estimated biases, and the covariance diagonal. Without IMU records the velocity stays as it is and the position follows it
(R52, R363). -/
def EgoState.block (e : EgoState) (n c : Nat) : List Nat :=
  let w := c :: egoWords e
  let less (i : Nat) : Nat := toF32 (fSub (f32 (e.imu.getD i 0)) (f32 (e.x.getD (9 + i) 0))).1
  let state (i : Nat) : Nat :=
    if e.degraded n then
      if i < 3 then openWord Calc.coastPos ([e.x.getD i 0, e.x.getD (6 + i) 0] ++ ratWords (secondsFrom e.time c)) 0
      else if 6 ≤ i then e.x.getD i 0
      else openWord Calc.egoBlock w i
    else openWord Calc.egoBlock w i
  (List.range 9).map state ++ (List.range 6).map less ++ ((calcs Calc.egoBlock w 30).drop 15)

end Sys2Proof.Machine
end

