-- ==== Sys2Proof/Machine/Agate.lean ====
section
/-! DEFINITION. Agate, the fusion engine (chapter 12): its queue (R346–R353), alignment (R354–R356), the batches of a sensor
(R364–R366, R371, R372), checkpoints, rewind and drain (R367–R370), and the epoch's commit (R373). What its filters compute stands in
Filters. -/

namespace Sys2Proof.Machine

/-- The record is earlier in the order of the key: T_CAP, CLASS, SENSOR, SID, arrival (R351). -/
def AgtRec.before (a b : AgtRec) : Bool :=
  if a.tcap ≠ b.tcap then older a.tcap b.tcap else sooner [a.cls, a.sensor, a.sid, a.arrival] [b.cls, b.sensor, b.sid, b.arrival]

/-- A record joins the queue at its place. -/
def insertRec (r : AgtRec) : List AgtRec → List AgtRec
  | [] => [r]
  | x :: l => if r.before x then r :: x :: l else x :: insertRec r l

/-- The state with the queue replaced; COUNT follows. -/
def State.setAgtQueue (s : State) (q : List AgtRec) : State :=
  ({ s with agt := { s.agt with queue := q } }).putF Reg.AGT_Q_COUNT q.length

/-- A record reaches the queue at insertion port `port` (R349): stale and overflowing ones are rejected; while Agate does not run all
are (R350, R374). True when it is inserted. -/
def State.agtInsert (s0 : State) (port : Nat) (d : List Byte) : Bool × State :=
  let s := s0.granted .agateQueue port
  let t := leField d 8 4
  if s.isRunning 0x3C0 && decide (2100000000 < ageOf s.tb3 t) then (false, s.satInc Reg.AGT_CNT1_STALE)
  else if !s.isRunning 0x3C0 || decide (65536 ≤ s.agt.queue.length) then
    (false, ((s.satInc Reg.AGT_CNT1_QFULL).irq 0x3C0 4).raise FS.AGT_QFULL)
  else
    let r : AgtRec :=
      { tcap := t, cls := bits (recHdr d) 23 20, sensor := recSensor d, sid := leField d 4 4, arrival := s.agt.arrivals,
        data := padTo 128 d, eligible := if s.agt.cut then s.frameNo + 1 else s.frameNo }
    (true, ({ s with agt := { s.agt with arrivals := s.agt.arrivals + 1 } }).setAgtQueue (insertRec r s.agt.queue))

/-- A record leaves the queue (R353). -/
def State.dropRec (s : State) (r : AgtRec) : State := s.setAgtQueue (s.agt.queue.filter (fun x => x.arrival != r.arrival))

/-- A record has been applied, or has had its say, in epoch `e`; the ego state that mapped it is kept for replays (R369). -/
def State.markRec (s : State) (r : AgtRec) (e : Nat) : State :=
  { s with agt := { s.agt with queue := s.agt.queue.map (fun x =>
    if x.arrival = r.arrival then { x with applied := some e, frame := some (s.recFrame x) } else x) } }

/-- A record's check at read passes (R352, R358). -/
def State.recGood (s : State) (r : AgtRec) : Bool :=
  let d := r.data
  leField d 0x7C 4 == crc32 (d.take 124) && leField d 8 4 == r.tcap && bits (recHdr d) 23 20 == r.cls &&
  recSensor d == r.sensor && leField d 4 4 == r.sid && bits (recHdr d) 31 28 == 1 && decide (bits (recHdr d) 27 26 < 2) &&
  s.recModel d != 7 && s.recDim d == s.modelDim (s.recModel d)

/-! ## Sensors (R354, R355, R372) -/

/-- STATE of sensor `i`: 0 OFF, 1 ADMITTED, 2 VOTED_OUT, 3 OUT_OF_SYNC. -/
def State.sensorState (s : State) (i : Nat) : Nat := s.getF (Reg.AGT_S_STAT_STATE i)

/-- The trigger output of the ingress stream that serves sensor `i` (R354). -/
def State.sensorTrigger (s : State) (i : Nat) : Option Nat :=
  ((List.range 64).find? (fun n => s.getF (Reg.ING_S_CTRL_SENSOR n) == i && s.onF (Reg.ING_S_TRIG_EN n))).map
    (fun n => s.getF (Reg.ING_S_TRIG_TRIG n))

/-- The skew check of R354: true when the record is used. A sensor that becomes OUT_OF_SYNC is voted out: VOTE_OUTS counts it and BLK_STAT
bit 0 is set. -/
def State.alignRec (s : State) (r : AgtRec) : Bool × State :=
  let i := r.sensor
  let trig := leField r.data 0x0C 4
  if !s.onF (Reg.AGT_S_CFG_TRIG_CHK i) || trig == 0 then (true, s)
  else
    let t := if s.onF (Reg.AGT_S_CFG_TSRC i) then r.tcap else leField r.data 0x10 4
    let k := signed 32 (toBits 32 ((t : Int) - trig - s.getF (Reg.AGT_S_OFS_OFS i)))
    let period : Int := s.getF (Reg.AGT_S_PERIOD_PERIOD i)
    let win : Int := if s.getF (Reg.AGT_S_WIN_WIN i) = 0 then period / 2 else s.getF (Reg.AGT_S_WIN_WIN i)
    let s1 := s.putF (Reg.AGT_S_SKEW_SKEW i) (toBits 32 k)
    if (k.natAbs : Int) ≤ win then
      (true, if s1.sensorState i = 3 then s1.putF (Reg.AGT_S_STAT_STATE i) 2 else s1)
    else if (k.natAbs : Int) ≤ period then (false, s1.satInc (Reg.AGT_S_CNT_MISALIGNED i))
    else
      let s2 := if s1.sensorState i = 3 then s1
        else (((s1.putF (Reg.AGT_S_STAT_STATE i) 3).satInc (Reg.AGT_S_CNT_SYNC_LOSSES i)).satInc (Reg.AGT_S_CNT_VOTE_OUTS i)).irq 0x3C0 1
      let s3 := match s2.sensorTrigger i with | some o => s2.trigRearm o | none => s2
      (false, s3.raise FS.AGT_SYNC)

/-! ## Transforms (R356) -/

/-- The partition for which Agate's own accesses to memory are made: the owner of its page 0 (R266). -/
def State.agtPart (s : State) : Nat := s.owner 0x3C0

/-- The square of a quaternion's norm, exact. -/
def quatNorm (e : List Byte) : Num :=
  (wordsOf e 0 4).foldl (fun a w => (a.add ((f32 w).mul (f32 w)).1).1) .zero

/-- An entry passes the check of a swap: its CRC, and a norm within 0.999 to 1.001 (R356). -/
def xfGood (e : List Byte) : Bool :=
  let n := ((quatNorm e).mul (.ofInt 1000000)).1
  leField e 0x3C 4 == crc32 (e.take 60) && n.isFin && (Num.ofInt 998001).le n && n.le (.ofInt 1002001)

/-- A pending swap is carried out at a frame tick; a bank that Agate may not read is refused like one that fails its check (R266,
R356). -/
def State.swapTransforms (s : State) : State :=
  if !s.onF Reg.AGT_XF_STAT_PENDING then s
  else
    let b := s.agt.wantBank
    let a := s.getF Reg.AGT_XF_BASE_BASE * 2 ^ 15 + b * 16384
    let l := s.fetch a 16384
    let ok := s.memOk s.agtPart a 16384 false
    let s1 := (s.putF Reg.AGT_XF_STAT_PENDING 0).trafficIf ok agatePort s.agtPart false a 16384
    if ok && (List.range 256).all (fun n => !xfValid (xfEntry l n) || xfGood (xfEntry l n)) then
      ((({ s1 with agt := { s1.agt with previous := s1.agt.active, active := l } }).putF Reg.AGT_XF_STAT_REFUSED 0).putF
        Reg.AGT_XF_STAT_ACTIVE b).wrapInc Reg.AGT_XF_STAT_SWAPS
    else (s1.putF Reg.AGT_XF_STAT_REFUSED 1).raise FS.AGT_XF

/-- AGT_XF_CTRL. -/
def State.wrXfCtrl (s : State) (v : Nat) : State :=
  if bit v 1 then ({ s with agt := { s.agt with wantBank := v % 2 } }).putF Reg.AGT_XF_STAT_PENDING 1 else s

/-! ## Tracks (R364–R366) -/

/-- Track `n`. -/
def State.track (s : State) (n : Nat) : Track := Sparse.get (fun _ => {}) s.agt.tracks n

/-- The state with track `n` replaced. -/
def State.setTrack (s : State) (n : Nat) (x : Track) : State :=
  { s with agt := { s.agt with tracks := Sparse.set (fun _ => {}) s.agt.tracks n x } }

/-- The default gates by dimension (R364), in thousandths. -/
def defaultGates : List Nat := [6635, 9210, 11345, 13277, 15086, 16812, 18475, 20090]

/-- GATE of a record (R364), an FP32 word. -/
def State.gateWord (s : State) (r : AgtRec) : Nat :=
  let g := s.getF (Reg.AGT_S_GATE_GATE r.sensor)
  if (f32 g).isZero then toF32 (fDiv (.ofInt (defaultGates.getD (s.recDim r.data - 1) 20090)) (.ofInt 1000)).1 else g

/-- A record and a track gate (R364). -/
def State.gates (s : State) (x : Track) (r : AgtRec) : Bool :=
  let d := f32 (s.distance x r)
  x.status != 0 && d.leq (f32 (s.gateWord r))

/-- The numbers of the tracks in use. -/
def State.trackNos (s : State) : List Nat := s.agt.tracks.map (fun e => e.1)

/-! ## Checkpoints (R367) -/

/-- The checkpoint of epoch `e`. -/
def State.ckpt (s : State) (e : Nat) : Option Ckpt := s.agt.ckpts.find? (fun c => c.epoch == e)

/-- Change the checkpoint of epoch `e`. -/
def State.onCkpt (s : State) (e : Nat) (f : Ckpt → Ckpt) : State :=
  { s with agt := { s.agt with ckpts := s.agt.ckpts.map (fun c => if c.epoch = e then f c else c) } }

/-- An update of track `n` in epoch `e` by a record is logged; the track's image at the opening is kept at its first. -/
def State.logUpdate (s : State) (e n : Nat) (r : AgtRec) : State :=
  s.onCkpt e (fun c =>
    { c with images := if n = 4096 ∨ c.images.any (fun i => i.1 == n) then c.images else c.images ++ [(n, s.track n)],
             log := c.log ++ [(r.arrival, n)] })

/-- The distance between two frame numbers. -/
def epochsFrom (a b : Nat) : Nat := (b + 2 ^ 32 - a % 2 ^ 32) % 2 ^ 32

/-- Epochs from `a` to `b`, oldest first. -/
def epochsTo (a b : Nat) : List Nat := (List.range (min 64 (epochsFrom a b) + 1)).map (fun i => (a + i) % 2 ^ 32)

/-- A track's state at the opening of epoch `e` (R367). -/
def State.trackAt (s : State) (e n : Nat) : Track :=
  match ((epochsTo e s.frameNo).filterMap (fun k => s.ckpt k)).findSome? (fun c => (c.images.find? (fun i => i.1 == n)).map (fun i => i.2)) with
  | some x => x
  | none => s.track n

/-! ## Updates -/

/-- Track `n` after record `r` in epoch `e` (R359, R362, R366). -/
def State.updatedTrack (s : State) (x : Track) (r : AgtRec) (e : Nat) : Track :=
  let d := r.data
  let fresh := x.last != e || x.hits == 0
  let hits := if fresh then x.hits + 1 else x.hits
  let ext := wordsOf d 0x60 3
  { s.filtered x r with
    label := leField d 0x6E 2, score := leField d 0x6C 2, ext := if recRaw d || ext.all (fun v => v == 0) then x.ext else ext,
    hits := hits, last := e, by_ := Sparse.set (fun _ => 0) x.by_ r.sensor (e + 1),
    status := if x.status = 3 then 2
      else if x.status = 1 ∧ s.getF Reg.AGT_TRK_CONFIRM_M ≤ hits ∧ epochsFrom x.born e < s.getF Reg.AGT_TRK_CONFIRM_N then 2
      else x.status }

/-- Record `r` updates track `n` in epoch `e`. -/
def State.updateTrack (s : State) (n : Nat) (r : AgtRec) (e : Nat) : State :=
  let s1 := s.logUpdate e n r
  s1.setTrack n (s1.updatedTrack (s1.track n) r e)

/-- The lowest free track number (R366). -/
def State.freeTrack (s : State) : Option Nat := (List.range 4096).find? (fun n => (s.track n).status == 0)

/-- Record `r` starts track `n` in epoch `e`: a hit, which confirms it where one is enough (R366). -/
def State.startTrack (s : State) (n : Nat) (r : AgtRec) (e : Nat) : State :=
  let m := s.getF (Reg.AGT_S_CFG_TMODEL r.sensor)
  let (x, p) := s.bornFrom r m
  (s.logUpdate e n r).setTrack n
    { status := if s.getF Reg.AGT_TRK_CONFIRM_M ≤ 1 then 2 else 1, model := m, x := x, p := p, time := r.tcap,
      label := leField r.data 0x6E 2, score := leField r.data 0x6C 2,
      ext := if recRaw r.data then [0, 0, 0] else wordsOf r.data 0x60 3, born := e, hits := 1, last := e, by_ := [(r.sensor, e + 1)] }

/-- An unassigned record starts a TENTATIVE track on the lowest free number, or is refused (R366). -/
def State.birth (s : State) (r : AgtRec) (e : Nat) : State :=
  if leField r.data 0x6C 2 < s.getF Reg.AGT_BIRTH_BIRTH_SCORE then s
  else match s.freeTrack with
    | none => s.satInc Reg.AGT_CNT3_BIRTH_FULL
    | some n => (s.startTrack n r e).wrapInc Reg.AGT_CNT3_BIRTHS

/-- An ego record propagates or updates the ego filter in epoch `e` (R363). -/
def State.updateEgo (s : State) (r : AgtRec) (e : Nat) : State :=
  let y := s.egoAfter r e
  let s1 := s.logUpdate e 4096 r
  { s1 with agt := { s1.agt with ego := y, egoPast := (e, y) :: s1.agt.egoPast } }

/-! ## Batches (R364, R365, R371, R372) -/

/-- The best assignment of records, in key order, to tracks: each record's options are tracks with their gains; among
equal totals an earlier record keeps the lower track number, and a track before none (R365). -/
def bestAssign : List (List (Nat × Int)) → List Nat → Int × List (Option Nat)
  | [], _ => (0, [])
  | opts :: rest, used =>
    let skip := bestAssign rest used
    let best : Option (Int × List (Option Nat)) := opts.foldl (fun m o =>
      if used.contains o.1 then m
      else
        let r := bestAssign rest (o.1 :: used)
        let v := o.2 + r.1
        match m with
        | some b => if b.1 < v then some (v, some o.1 :: r.2) else m
        | none => some (v, some o.1 :: r.2)) none
    match best with
    | some b => if b.1 < skip.1 then (skip.1, none :: skip.2) else b
    | none => (skip.1, none :: skip.2)

/-- A cost in units of 2^−8: the unit below the value or the one above it, which of them is open (R365). An infinite one exceeds every
sum of finite ones. -/
def quantised (w : Nat) : Int :=
  match f32 w with
  | .fin n m e => (mantAt n m (max e (-8)) (-8)) / 2 ^ (-8 - e).toNat + (openWord Calc.cost [w] 0 % 2 : Nat)
  | _ => 2 ^ 200

/-- The tracks that record `r` gates among `among`, with their gains. -/
def State.options (s : State) (among : List Nat) (r : AgtRec) : List (Nat × Int) :=
  (among.filter (fun n => s.gates (s.track n) r)).map (fun n =>
    (n, quantised (s.gateWord r) - quantised (s.distance (s.track n) r)))

/-- A group of at most 256 records of a batch is assigned and updated in key order, on tracks that no earlier group of the batch has
taken; what is left over starts tracks. -/
def State.applyGroup (s : State) (e : Nat) (among : Nat → Bool) (used : List Nat) (rs : List AgtRec) : List Nat × State :=
  let asg := (bestAssign (rs.map (s.options (s.trackNos.filter (fun n => among n && !used.contains n)))) []).2
  let pairs := rs.zip asg
  let s1 := pairs.foldl (fun u p => match p.2 with | some n => u.updateTrack n p.1 e | none => u) s
  (used ++ asg.filterMap id, pairs.foldl (fun u p => match p.2 with | some _ => u | none => u.birth p.1 e) s1)

/-- The groups of a batch, one after another (R365). -/
def State.applyGroups (s : State) (e : Nat) (among : Nat → Bool) (rs : List AgtRec) : State :=
  ((groupsOf 256 rs.length rs).foldl (fun a g => a.2.applyGroup e among a.1 g) (([] : List Nat), s)).2

/-- The least d² of a record to a track that makes it a voting record (R371). -/
def State.voteOf (s : State) (e : Nat) (r : AgtRec) : Option Nat :=
  let i := r.sensor
  let vg := (f32 (s.gateWord r)).mul (.ofInt (s.getF Reg.AGT_CFG_VGATE))
  let partners (x : Track) : Nat :=
    (x.by_.filter (fun b => b.1 != i && bit (s.getF (Reg.AGT_S_OVL_OVL i)) b.1 && s.sensorState b.1 == 1 &&
      decide (epochsFrom (b.2 - 1) e ≤ s.getF Reg.AGT_CFG_VOTE_AGE))).length
  ((s.trackNos.filter (fun n => (s.track n).status == 2 && decide (2 ≤ partners (s.track n)))).map
    (fun n => s.distance (s.track n) r)).foldl (fun m d =>
      if (f32 d).leq vg.1 then
        match m with | some b => if (f32 d).leq (f32 b) then some d else some b | none => some d
      else m) none

/-- A sensor is voted out. -/
def State.voteOut (s : State) (i : Nat) : State :=
  (((s.putF (Reg.AGT_S_STAT_STATE i) 2).satInc (Reg.AGT_S_CNT_VOTE_OUTS i)).irq 0x3C0 1).raise FS.AGT_VOTE

/-- A sensor frame is evaluated against the other sensors (R371, R372). -/
def State.vote (s : State) (e : Nat) (rs : List AgtRec) : State :=
  match rs with
  | [] => s
  | r :: _ =>
    let i := r.sensor
    let ds : List Rat := rs.filterMap (fun q => (s.voteOf e q).map (fun d => ratOf d / ratOf (s.gateWord q)))
    if ds.isEmpty then s
    else
      let bad := decide ((ds.length : Rat) < ds.foldl (fun x d => x + d) 0)
      let hist := (2 * s.getF (Reg.AGT_S_STAT_HIST i) + b2n bad) % 65536
      let s1 := s.putF (Reg.AGT_S_STAT_HIST i) hist
      match s.sensorState i with
      | 1 => if 8 ≤ popCount hist 16 then (s1.voteOut i).putF (Reg.AGT_S_STAT_AGREE i) 0 else s1
      | 2 =>
        let agree := if bad then 0 else min 64 (s.getF (Reg.AGT_S_STAT_AGREE i) + 1)
        let s2 := s1.putF (Reg.AGT_S_STAT_AGREE i) agree
        if agree = 64 ∧ s.onF (Reg.AGT_S_CFG_LOCKOUT i) = false then
          (s2.putF (Reg.AGT_S_STAT_STATE i) 1).putF (Reg.AGT_S_STAT_HIST i) 0
        else s2
      | _ => s1

/-- A batch of epoch `e` is applied: an admitted sensor's records update the ego filter or tracks among `among`. -/
def State.applyBatch (s : State) (e : Nat) (among : Nat → Bool) (rs : List AgtRec) : State :=
  match rs with
  | [] => s
  | r :: _ =>
    let admitted := s.sensorState r.sensor == 1
    let s1 := if s.onF (Reg.AGT_S_CFG_EGO_ROLE r.sensor) then
        (if admitted then rs.foldl (fun u q => u.updateEgo q e) s else s)
      else
        let u := if admitted then s.applyGroups e among rs else s
        -- the evaluation reads the state before the batch
        let v := s.vote e rs
        if admitted then
          ((u.putF (Reg.AGT_S_STAT_STATE r.sensor) (v.sensorState r.sensor)).putF (Reg.AGT_S_STAT_HIST r.sensor)
            (v.getF (Reg.AGT_S_STAT_HIST r.sensor))) |> fun w =>
            if v.sensorState r.sensor = 2 then (w.voteOut r.sensor).putF (Reg.AGT_S_STAT_AGREE r.sensor) 0 else w
        else v
    rs.foldl (fun u q => u.markRec q e) s1

/-- Records in batches: one sensor and SID each, in the order of their first records. -/
def batches : Nat → List AgtRec → List (List AgtRec)
  | 0, _ => []
  | _, [] => []
  | k + 1, r :: l =>
    let mine (x : AgtRec) : Bool := x.sensor == r.sensor && x.sid == r.sid
    (r :: l.filter mine) :: batches k (l.filter (fun x => !mine x))

/-- The records among `rs` that their checks at read let through; the others leave the queue, counted (R352, R354, R357,
R358). -/
def State.vet (s : State) (rs : List AgtRec) : List AgtRec × State :=
  rs.foldl (fun a r =>
    let (l, s) := a
    if !s.recGood r then (l, ((s.dropRec r).satInc Reg.AGT_CNT2_BADREC).raise FS.AGT_RECCRC)
    else if !s.onF (Reg.AGT_S_CFG_EN r.sensor) then (l, (s.dropRec r).satInc Reg.AGT_CNT2_BADREC)
    else
      let (ok, s1) := s.alignRec r
      if !ok then (l, s1.dropRec r)
      else if (s1.recXf r).isNone then (l, (s1.dropRec r).satInc Reg.AGT_CNT3_NO_XF)
      else (l ++ [r], s1)) ([], s)

/-! ## Rewind (R368, R369) -/

/-- C(n) of a past epoch. -/
def State.cutOf (s : State) (n : Nat) : Option Nat := (s.agt.cuts.find? (fun c => c.1 == n)).map (fun c => c.2)

/-- A record is late: its T_CAP is not later than C(mark) (R347). -/
def State.isLate (s : State) (r : AgtRec) : Bool :=
  match s.agt.mark with
  | none => false
  | some m => match s.cutOf m with
    | some c => !older c r.tcap
    | none => false

/-- The epoch that covers a time: the oldest whose C is not older than it (R346); none before the oldest known. -/
def State.epochOf (s : State) (t : Nat) : Option Nat :=
  let l := s.agt.cuts.reverse
  match l with
  | [] => none
  | first :: _ =>
    if !older first.2 t then none else (l.find? (fun c => !older c.2 t)).map (fun c => c.1)

/-- A late record's epoch, unless it is too old or a checkpoint from it to the mark is dropped (R368). -/
def State.lateEpoch (s : State) (r : AgtRec) : Option Nat :=
  match s.agt.mark, s.epochOf r.tcap with
  | some m, some e =>
    if epochsFrom e m ≤ 31 ∧ (epochsTo e m).all (fun k => (s.ckpt k).any (fun c => !c.dropped)) then some e else none
  | _, _ => none

/-- The numbers of the tracks in use, and of those that a checkpoint's images hold. -/
def State.pastTracks (s : State) : List Nat := (s.trackNos ++ s.agt.ckpts.flatMap (fun c => c.images.map (fun i => i.1))).eraseDups

/-- The tracks that a late record of epoch `e` restores: those it gates at its time from the checkpointed state, and those
its batch-mates were assigned to (R368). -/
def State.restores (s : State) (r : AgtRec) (e : Nat) : List Nat :=
  if s.onF (Reg.AGT_S_CFG_EGO_ROLE r.sensor) then []
  else
    let mates := (s.agt.queue.filter (fun x => x.sensor == r.sensor && x.sid == r.sid)).map (fun x => x.arrival)
    let gated := s.pastTracks.filter (fun n => s.gates (s.trackAt e n) r)
    let with_ := match s.ckpt e with
      | some c => (c.log.filter (fun g => mates.contains g.1 && decide (g.2 < 4096))).map (fun g => g.2)
      | none => []
    (gated ++ with_).eraseDups

/-- What a rewind has taken so far: records with their epochs, oldest epoch, restored tracks, an ego record among them. -/
structure Rewind where
  recs : List (AgtRec × Nat)
  oldest : Nat
  tracks : List Nat
  ego : Bool
deriving DecidableEq, Repr

/-- The bound of R368 in 0.1 µs. -/
def Rewind.bound (w : Rewind) (mark : Nat) : Nat :=
  let e := epochsFrom w.oldest mark + 1
  160 + 5 * e * w.tracks.length + (if w.ego then 10 * e else 0)

/-- A rewind with one record more. -/
def Rewind.with_ (w : Rewind) (mark : Nat) (r : AgtRec) (e : Nat) (ts : List Nat) (ego : Bool) : Rewind :=
  { recs := w.recs ++ [(r, e)], oldest := if epochsFrom e mark < epochsFrom w.oldest mark then w.oldest else e,
    tracks := (w.tracks ++ ts).eraseDups, ego := w.ego || ego }

/-- The late set is formed in key order: what the budget takes, what waits, what is discarded (R368). -/
def State.formLate (s : State) (mark : Nat) : List AgtRec → Rewind → Bool → Rewind × State
  | [], w, _ => (w, s)
  | r :: l, w, full =>
    let wait (s : State) : State :=
      let u := s.satInc Reg.AGT_CNT2_DEFERRED
      { u with agt := { u.agt with deferred := true } }
    if full then (wait s).formLate mark l w true
    else match s.lateEpoch r with
      | none => ((s.dropRec r).satInc Reg.AGT_CNT0_TOO_OLD).formLate mark l w false
      | some e =>
        let budget := 10 * s.getF Reg.AGT_CFG_REWIND_US
        let ego := s.onF (Reg.AGT_S_CFG_EGO_ROLE r.sensor)
        let ts := s.restores r e
        let alone : Rewind := ({ recs := [], oldest := e, tracks := [], ego := false } : Rewind).with_ mark r e ts ego
        let both := if w.recs.isEmpty then alone else w.with_ mark r e ts ego
        if budget < alone.bound mark ∨ 256 < alone.tracks.length then
          ((s.dropRec r).satInc Reg.AGT_CNT0_TOO_DEEP).formLate mark l w false
        else if both.bound mark ≤ budget ∧ both.tracks.length ≤ 256 then s.formLate mark l both false
        else (wait s).formLate mark l w true

/-- A logged update is applied again, without re-association: its record chooses its transform again, or is discarded and released; one
of a track that is not in use is its birth, which takes the lowest free number. `names` gives tracks born again under another number
(R353, R357, R369). -/
def State.replay (s : State) (e : Nat) (names : List (Nat × Nat)) (g : Nat × Nat) : List (Nat × Nat) × State :=
  match s.agt.queue.find? (fun x => x.arrival == g.1) with
  | none => (names, s)
  | some r =>
    let n := ((names.find? (fun q => q.1 == g.2)).map (fun q => q.2)).getD g.2
    if (s.recXf r).isNone then (names, (s.dropRec r).satInc Reg.AGT_CNT3_NO_XF)
    else if n = 4096 then (names, s.updateEgo r e)
    else if (s.track n).status != 0 then (names, s.updateTrack n r e)
    else match s.freeTrack with
      | some k => ((g.2, k) :: names, s.startTrack k r e)
      | none => (names, s.satInc Reg.AGT_CNT3_BIRTH_FULL)

/-- A track at the end of epoch `n` (R366). -/
def State.ageTrack (s : State) (n : Nat) (x : Track) : Track :=
  let idle := epochsFrom x.last n
  match x.status with
  | 1 => if s.getF Reg.AGT_TRK_CONFIRM_N ≤ epochsFrom x.born n + 1 then {} else x
  | 2 => if idle = 0 then x else if s.getF Reg.AGT_TRK_COAST ≤ idle then {} else { x with status := 3 }
  | 3 => if s.getF Reg.AGT_TRK_COAST ≤ idle then {} else x
  | _ => {}

/-- The checkpoint slot of epoch `e` takes its place in memory; spec/ does not state how its content is laid out. A slot that would exceed
SLOT, or that Agate may not write, is dropped (R266, R367). -/
def State.storeCkpt (s : State) (e : Nat) : State :=
  match s.ckpt e with
  | none => s
  | some c =>
    let slot := s.getF Reg.AGT_CKPT_CFG_SLOT * 65536
    let n := 1024 + 1024 * c.images.length + 8 * c.log.length
    let a := s.getF Reg.AGT_CKPT_BASE_BASE * 2 ^ 20 + e % 32 * slot
    if c.dropped then s
    else if slot < n || !s.memOk s.agtPart a n true then
      (s.onCkpt e (fun c => { c with dropped := true })).satInc Reg.AGT_CNT2_CKPT_DROP
    else
      let (l, s1) := s.freeBytes n
      s1.put agatePort s1.agtPart a l

/-- One epoch of a rewind: the late batches among T, then the logged updates of T again, and the tracks of T age as at the epoch's end;
its checkpoint is rewritten (R369). -/
def State.replayEpoch (s : State) (w : Rewind) (names : List (Nat × Nat)) (e : Nat) : List (Nat × Nat) × State :=
  let inT (n : Nat) : Bool := w.tracks.contains n || (n == 4096 && w.ego) || names.any (fun q => q.2 == n)
  let logged : List (Nat × Nat) := match s.ckpt e with | some c => c.log.filter (fun g => inT g.2) | none => []
  let s1 := s.onCkpt e (fun c =>
    { c with images := c.images.filter (fun i => !inT i.1), log := c.log.filter (fun g => !inT g.2),
             ego := if w.ego then s.agt.ego else c.ego })
  let late := (w.recs.filter (fun p => p.2 == e)).map (fun p => p.1)
  let s2 := (batches late.length late).foldl (fun u b => u.applyBatch e inT b) s1
  let (names, s3) := logged.foldl (fun a g => a.2.replay e a.1 g) (names, s2)
  let s4 := (w.tracks ++ names.map (fun q => q.2)).eraseDups.foldl (fun u n => u.setTrack n (u.ageTrack e (u.track n))) s3
  (names, s4.storeCkpt e)

/-- The rewind (R369). -/
def State.rewind (s : State) (w : Rewind) (mark : Nat) : State :=
  let s1 := w.tracks.foldl (fun u n => u.setTrack n (s.trackAt w.oldest n)) s
  let s2 := match w.ego, s.ckpt w.oldest with
    | true, some c => { s1 with agt := { s1.agt with
        ego := c.ego, egoPast := s1.agt.egoPast.filter (fun x => decide (2 ^ 31 ≤ epochsFrom w.oldest x.1)) } }
    | _, _ => s1
  let s3 := ((epochsTo w.oldest mark).foldl (fun a e => a.2.replayEpoch w a.1 e) (([] : List (Nat × Nat)), s2)).2
  (({ s3 with agt := { s3.agt with rewound := true } }).satInc Reg.AGT_CNT0_REWINDS).irq 0x3C0 2

/-! ## Drain (R370) -/

/-- Records of the queue that may take part in the epoch in progress and wait. -/
def State.waitingRecs (s : State) : List AgtRec :=
  s.agt.queue.filter (fun r => r.applied.isNone && decide (epochsFrom r.eligible s.frameNo < 2 ^ 31))

/-- The late set of the frame, and how many records the drain may take after it: 10 µs and 0.7 µs each (R368, R370). -/
def State.doLate (s : State) : State :=
  match s.agt.mark with
  | none => { s with agt := { s.agt with lateDone := true, drainLeft := 1900 / 7 } }
  | some m =>
    let (rs, s1) := s.vet (s.waitingRecs.filter s.isLate)
    let (w, s2) := s1.formLate m rs { recs := [], oldest := m, tracks := [], ego := false } false
    let used := if w.recs.isEmpty then 0 else w.bound m
    let s3 := if w.recs.isEmpty then s2 else s2.rewind w m
    { s3 with agt := { s3.agt with lateDone := true, drainLeft := (1900 - used) / 7 } }

/-- Current records are drained in key order (R370). -/
def State.drainRecs (s : State) : State :=
  let take := (s.waitingRecs.filter (fun r => !s.isLate r)).take s.agt.drainLeft
  let (rs, s1) := s.vet take
  let s2 := { s1 with agt := { s1.agt with drainLeft := s1.agt.drainLeft - take.length } }
  (batches rs.length rs).foldl (fun u b => u.applyBatch u.frameNo (fun _ => true) b) s2

/-! ## The epoch (R346, R366, R373) -/

/-- An epoch is open: it has begun, and its commit has not been made (R374). -/
def State.epochOpen (s : State) : Bool :=
  s.agt.opened && !(s.agt.cut && s.agt.mark.isSome && s.agt.mark == s.agt.cuts.head?.map (fun c => c.1))

/-- Agate works on its epoch: RUNNING, or STOPPING until the commit at which the stop is taken (R374). -/
def State.agateWorks (s : State) : Bool := s.isRunning 0x3C0 || (s.blockState 0x3C0 == .stopping && s.epochOpen)

/-- A frame tick: the epoch opens with its checkpoint; a pending transform swap is carried out (R356, R367, R374). The first epoch
after a start begins after the C that Quartz latched in the frame before (R346). -/
def State.agateTick (s : State) : State :=
  if !s.isRunning 0x3C0 then s
  else
    let s1 := s.swapTransforms
    let c : Ckpt := { epoch := s1.frameNo, ego := s1.agt.ego, images := [], log := [], dropped := false }
    { s1 with agt := { s1.agt with
        opened := true, cut := false, rewound := false, deferred := false, lateDone := false, ckpts := (c :: s1.agt.ckpts).take 33,
        cuts := if s1.agt.cuts.isEmpty then [((s1.frameNo + 2 ^ 32 - 1) % 2 ^ 32, s1.getF Reg.QTZ_C200_C)] else s1.agt.cuts,
        egoPast := s1.agt.egoPast.filter (fun x => decide (epochsFrom x.1 s1.frameNo ≤ 33)) } }

/-- Φ 200: C(n) is latched, and current records that the drain has not reached are deferred (R346, R370). -/
def State.agateCut (s : State) : State :=
  if !(s.agateWorks && s.agt.opened) || s.agt.cut then s
  else
    let left := (s.waitingRecs.filter (fun r => !s.isLate r)).length
    let s1 := { s with agt := { s.agt with cut := true, cuts := ((s.frameNo, s.tb3) :: s.agt.cuts).take 40,
                                           deferred := s.agt.deferred || left != 0 } }
    s1.satInc Reg.AGT_CNT2_DEFERRED left

/-- SENSORS of a snapshot: admitted sensors that ING does not report absent (R372). -/
def State.sensorsMask (s : State) : Nat :=
  (List.range 64).foldl (fun m i =>
    m + b2n (s.sensorState i == 1 && !bit (s.regNat Reg.ING_ABSENT 2) i) * 2 ^ i) 0

/-- The ego-state block at C(n), 32 words; the state time is the tick's TB4 plus 200,000 ns (R347, R363). -/
def State.egoBlock (s : State) (n c : Nat) : List Nat := s.agt.ego.block n c ++ [(s.frame.tb4 + 200000) % 2 ^ 32, 0]

/-- The words of a track's summary: x, y, z, vx, vy, yaw, and the standard deviations of x, y and yaw. A component of the model's state
is given as it is; what the state does not hold, as a speed along the yaw, is open (R359, R373). -/
def State.summaryWords (s : State) (y : Track) : List Nat :=
  let n := s.stateDim y.model
  let w := calcs Calc.summary (y.model :: y.x ++ y.p) 9
  let place (c : Comp) : Option Nat := (stateComps y.model).bind (fun l => l.findIdx? (fun h => h == c))
  let value (i : Nat) (c : Comp) : Nat := match place c with | some k => y.x.getD k 0 | none => w.getD i 0
  let spread (i : Nat) (c : Comp) : Nat := match place c with | some k => toF32 (fSqrt (f32 (y.p.getD (k * n + k) 0))).1 | none => w.getD i 0
  [value 0 .x, value 1 .y, value 2 .z, value 3 .vx, value 4 .vy, value 5 .yaw, spread 6 .x, spread 7 .y, spread 8 .yaw]

/-- A track summary, predicted to C(n) without a change of the stored track (R347, R373). -/
def State.summaryOf (s : State) (n c : Nat) (e : Nat × Track) : List Byte :=
  let x := e.2
  let y := s.predictTrack x c
  let w := s.summaryWords y
  let word (i : Nat) : List Byte := leBytes 4 (w.getD i 0)
  leBytes 2 e.1 ++ leBytes 1 (x.status * 64) ++ leBytes 1 x.model ++ leBytes 4 (x.label * 65536 + x.score) ++
    (word 0 ++ word 1 ++ word 2 ++ word 3 ++ word 4 ++ word 5) ++ x.ext.flatMap (leBytes 4) ++ (word 6 ++ word 7 ++ word 8) ++
    leBytes 4 (min 65535 (epochsFrom x.born n) * 65536 + min 65535 (epochsFrom x.last n)) ++ leBytes 4 x.time

/-- The bytes of snapshot n (R373). -/
def State.snapshot (s : State) (n c : Nat) : List Byte :=
  let ts := s.agt.tracks.filter (fun e => decide (2 ≤ e.2.status))
  let body := leBytes 4 c ++ leBytes 4 (s.frame.tb4 + 200000) ++
    leBytes 4 (4 * b2n (s.agt.ego.degraded n) + 2 * b2n s.agt.deferred + b2n s.agt.rewound) ++ leBytes 4 ts.length ++
    leBytes 8 s.sensorsMask ++ List.replicate 36 0 ++ (s.egoBlock n c).flatMap (leBytes 4) ++ List.replicate 64 0 ++
    ts.flatMap (s.summaryOf n c)
  leBytes 4 n ++ body ++ leBytes 4 (crc32 body)

/-- Records applied 32 epochs ago or earlier are released (R353). -/
def State.releaseRecs (s : State) (n : Nat) : State :=
  s.setAgtQueue (s.agt.queue.filter (fun r => match r.applied with | some e => decide (epochsFrom e n < 32) | none => true))

/-- Epoch n is committed: the mark, the snapshot, and the ego state handed to Pumice (R346, R363, R373, R381, R576). -/
def State.commitEpoch (s : State) : State :=
  match s.agt.cuts with
  | (n, c) :: _ =>
    if !(s.agateWorks && s.agt.cut) || s.agt.mark == some n then s
    else
      let s1 := s.agt.tracks.foldl (fun u e => u.setTrack e.1 (u.ageTrack n e.2)) s
      let s2 := s1.storeCkpt n
      let a := s2.getF Reg.AGT_OUT_BASE_BASE * 2 ^ 20 + n % 2 * 0x80000
      let s3 := s2.putIf agatePort s2.agtPart a (s2.snapshot n c)
      let s4 := (({ s3 with agt := { s3.agt with mark := some n, committed := some a } }).putF Reg.AGT_EPOCH_EPOCH n).releaseRecs n
      let s5 := if s4.isRunning 0x400 then
          { s4 with pum := { s4.pum with egos := ((c, s4.egoBlock n c) :: s4.pum.egos).take 1024 } }
        else s4
      s5.kick 0
  | [] => s

/-! ## Rings (R348) -/

/-- Ring `r` beyond its registers. -/
def State.agtRing (s : State) (r : Nat) : AgtRing := Sparse.get (fun _ => {}) s.agt.rings r

/-- The state with ring `r` replaced. -/
def State.setAgtRing (s : State) (r : Nat) (x : AgtRing) : State :=
  { s with agt := { s.agt with rings := Sparse.set (fun _ => {}) s.agt.rings r x } }

/-- Agate takes the next record of ring `r`, which it may read, once PUT_OBJ allows it. -/
def State.takeRing (s : State) (r : Nat) : State :=
  let x := s.agtRing r
  let put := s.syncValue (s.getF (Reg.AGT_R_CFG_PUT_OBJ r))
  if !(s.isRunning 0x3C0 && s.onF (Reg.AGT_R_CFG_EN r)) || decide (put ≤ x.put0 + x.taken) then s
  else
    let a := s.getF (Reg.AGT_R_BASE_BASE r) * 128 + x.taken % 2 ^ s.getF (Reg.AGT_R_CFG_LOG2N r) * 128
    let p := s.owner 0x3C9
    let (d, s0) := s.readFor agatePort p a 128
    let s1 := (s0.agtInsert r d).2
    let s2 := (s1.setAgtRing r { x with taken := x.taken + 1 }).wrapInc (Reg.AGT_R_STAT_TAKEN r)
    s2.signal agatePort (s2.getF (Reg.AGT_R_OBJ_TAKE_OBJ r)) 1

/-- The objects of ring `r` are LIVE and of its page's partition. -/
def State.ringObjectsOk (s : State) (r : Nat) : Bool :=
  let p := s.owner 0x3C9
  s.liveOf (s.getF (Reg.AGT_R_CFG_PUT_OBJ r)) p && s.liveOf (s.getF (Reg.AGT_R_OBJ_TAKE_OBJ r)) p

/-- AGT_R_CFG: setting EN samples PUT0, or is refused: EN stays 0, and FS_AGT_CFG is raised at NOTE. -/
def State.wrRingCfg (s : State) (r v : Nat) : State :=
  let was := s.onF (Reg.AGT_R_CFG_EN r)
  let s1 := s.applyWord (Reg.AGT_R_CFG r) v
  if was || !s1.onF (Reg.AGT_R_CFG_EN r) then s1
  else if s1.ringObjectsOk r then
    (s1.setAgtRing r { put0 := s1.syncValue (s1.getF (Reg.AGT_R_CFG_PUT_OBJ r)), taken := 0 }).putF (Reg.AGT_R_STAT_TAKEN r) 0
  else (s1.putF (Reg.AGT_R_CFG_EN r) 0).raiseNote FS.AGT_CFG

/-- AGT_S_CFG: EN = 1 admits the sensor afresh, EN = 0 takes it to OFF. -/
def State.wrSensorCfg (s : State) (i v : Nat) : State :=
  let s1 := s.applyWord (Reg.AGT_S_CFG i) v
  if bit v 31 then
    ((s1.putF (Reg.AGT_S_STAT_STATE i) 1).putF (Reg.AGT_S_STAT_HIST i) 0).putF (Reg.AGT_S_STAT_AGREE i) 0
  else s1.putF (Reg.AGT_S_STAT_STATE i) 0

/-! ## Start and stop (R374) -/

/-- An address is not 0 and in local DRAM. -/
def State.localBase (s : State) (a n : Nat) : Bool :=
  a != 0 && (match s.space a with | .dram _ => s.rangeMapped a n | _ => false)

/-- The models of a user block are in range: n and m of each (R361). -/
def userOk (l : List Byte) : Bool :=
  (List.range 8).all (fun u =>
    let n := bits (leField l (u * 4096) 4) 4 0
    let w := leField l (0x8000 + u * 1024) 4
    decide (1 ≤ n ∧ n ≤ 16) && decide (1 ≤ bits w 3 0 ∧ bits w 3 0 ≤ 8) && decide (1 ≤ bits w 12 8 ∧ bits w 12 8 ≤ 16))

/-- Agate's start loads the user block, which it must be able to read; its bases are in order, and so is the block (R361, R374). -/
def State.agateStart (s : State) : Bool × State :=
  let a := s.getF Reg.AGT_UMAT_BASE_BASE * 4096
  let l := s.fetch a 40960
  let ok := s.memOk s.agtPart a 40960 false
  let s1 := ({ s with agt := { s.agt with user := l } }).trafficIf ok agatePort s.agtPart false a 40960
  (s.localBase (s.getF Reg.AGT_CKPT_BASE_BASE * 2 ^ 20) (32 * 65536 * s.getF Reg.AGT_CKPT_CFG_SLOT) &&
    s.localBase (s.getF Reg.AGT_OUT_BASE_BASE * 2 ^ 20) 0x100000 && ok && userOk l, s1)

/-- Agate has started: an empty track table and no checkpoints. -/
def State.agateStarted (s : State) : State :=
  { s with agt := { s.agt with opened := false, tracks := [], ego := {}, egoPast := [], mark := none, cuts := [], cut := false, ckpts := [],
                               rewound := false, deferred := false, lateDone := false, drainLeft := 0 } }

/-- Agate has stopped: the queue and the track table are cleared. -/
def State.agateStopped (s : State) : State :=
  let s1 := s.setAgtQueue []
  { s1 with agt := { s1.agt with opened := false, tracks := [] } }

/-! ## Commands -/

/-- RING_TAKE (R348). -/
def execRingTake (ring : Nat) (s : State) : Host.Outcome State Fault Refusal :=
  whenLive (fun s => s.guard (decide (ring < 16)) (fun s => s.takeRing ring)) s

/-- AGATE_DRAIN: the late set first, once a frame, then current records (R368–R370). -/
def execAgateDrain (s : State) : Host.Outcome State Fault Refusal :=
  whenLive (fun s => s.guard (s.agateWorks && s.agt.opened && !s.agt.cut) (fun s =>
    (if s.agt.lateDone then s else s.doLate).drainRecs)) s

/-- AGATE_CUTOFF (R43, R346, R370): Φ 200, where Quartz latches TB3 (R478). -/
def execAgateCutoff (s : State) : Host.Outcome State Fault Refusal := whenLive (fun s => s.agateCut.putF Reg.QTZ_C200_C s.tb3) s

/-- EPOCH_COMMIT (R373). -/
def execEpochCommit (s : State) : Host.Outcome State Fault Refusal := whenLive (fun s => s.commitEpoch) s

/-- TRANSFORM_SWAP_REQUEST (R356). -/
def execTransformSwapRequest (req : Requester) (bank : Nat) (s : State) : Host.Outcome State Fault Refusal :=
  let v := 2 + bank % 2
  whenLive (fun s => s.access req Reg.AGT_XF_CTRL v (fun t => t.wrXfCtrl v)) s

/-- AGATE_RING_ENABLE: the configuration word is written with EN = 1 (R348). -/
def execAgateRingEnable (req : Requester) (ring cfg : Nat) (s : State) : Host.Outcome State Fault Refusal :=
  let v := setBits (cfg % 2 ^ 32) 31 31 1
  whenLive (fun s => s.guard (decide (ring < 16)) (fun s => s.access req (Reg.AGT_R_CFG ring) v (fun t => t.wrRingCfg ring v))) s

/-- SENSOR_ENABLE: the configuration word as written (R372). -/
def execSensorEnable (req : Requester) (sensor cfg : Nat) (s : State) : Host.Outcome State Fault Refusal :=
  let v := cfg % 2 ^ 32
  whenLive (fun s => s.guard (decide (sensor < 64)) (fun s =>
    s.access req (Reg.AGT_S_CFG sensor) v (fun t => t.wrSensorCfg sensor v))) s

end Sys2Proof.Machine
end

