-- ==== Sys2Proof/Machine/FrontEnd.lean ====
section
/-! DEFINITION. The image front end (R326–R328, R338) and the seeded generator (R337). The packing of pixels into lines,
the demosaic and the places of a bilinear resize have no rule of their own in spec/: they are open functions of what they depend
on. -/

namespace Sys2Proof.Machine

namespace Calc
def pixel : Nat := 60
def demosaic : Nat := 61
def resize : Nat := 62
end Calc

/-! ## The seeded generator (R337) -/

/-- One round of the generator on (v, k). -/
def seedRound (x : Nat × Nat) : Nat × Nat :=
  let m := 2 ^ 64
  let v := (x.1 + x.2) % m
  let v := v ^^^ (v / 2 ^ 31)
  let v := v * 0xE7D43A956C1BF08D % m
  (v ^^^ (v / 2 ^ 27), (x.2 + 0x9E3779B97F4A7C15) % m)

/-- Word `counter` of sample `sid` of a stream under a seed (R337). -/
def seededWord (seed stream sid counter : Nat) : Nat :=
  let k := seed ^^^ (stream * 0x9E3779B97F4A7C15 % 2 ^ 64)
  (seedRound (seedRound (seedRound (seedRound ((sid % 2 ^ 32) * 2 ^ 32 + counter % 2 ^ 32, k))))).1 / 2 ^ 32

/-! ## Fixed-point steps -/

/-- A ratio rounded to nearest with ties to even, clamped (R326). -/
def fixStep (num : Int) (den : Nat) (lo hi : Int) : Int :=
  let q := num / (den : Int)
  let r := num % (den : Int)
  let v := if 2 * r < den then q else if (den : Int) < 2 * r then q + 1 else if q % 2 = 0 then q else q + 1
  max lo (min hi v)

/-- Bits per pixel of a CSI-2 data type that the front end takes. -/
def pixelBits : Nat → Option Nat
  | 0x2A => some 8 | 0x2B => some 10 | 0x2C => some 12 | 0x2D => some 14 | 0x2E => some 16 | 0x2F => some 20
  | 0x1E => some 16 | 0x24 => some 24 | _ => none

/-- A data type with RAW pixels. -/
def isRaw (dt : Nat) : Bool := decide (0x2A ≤ dt ∧ dt ≤ 0x2F)

/-- The bytes of a frame of `w` × `h` pixels. -/
def pixelFrameBytes (dt w h : Nat) : Option Nat := (pixelBits dt).map (fun b => ceilDiv (w * b) 8 * h)

/-! ## One camera's configuration -/

/-- WIDTH and HEIGHT of camera `u`, and the DT of its packets. -/
def State.ifeW (s : State) (u : Nat) : Nat := s.getF (Reg.IFE_IN_WIDTH u)
def State.ifeH (s : State) (u : Nat) : Nat := s.getF (Reg.IFE_IN_HEIGHT u)
def State.ifeDt (s : State) (u : Nat) : Nat := s.getF (Reg.IFE_CFG_DT u)

/-- The seeded word of a sample of camera `u` (R338). -/
def State.seeded (s : State) (u sid counter : Nat) : Nat := seededWord (s.getF Reg.ING_SEED_SEED) u sid counter

/-- The crop offset in x (0) or y (1) of a sample (R338). -/
def State.jitter (s : State) (u sid axis : Nat) : Int :=
  if s.onF (Reg.IFE_CFG_AUG u) then
    let j := s.getF (Reg.IFE_CFG_JIT u)
    ((s.seeded u sid (0x80000000 + axis) % (2 * j + 1) : Nat) : Int) - j
  else 0

/-- The jitter gain of a sample, formed in FP32 (R338). -/
def State.jitterGain (s : State) (u sid : Nat) : Num :=
  let w := s.seeded u sid 0x80000002
  (fAdd (.ofInt 1) (fMul (f32 (s.getF (Reg.IFE_GJIT_GJIT u))) (fSub (.fin false (w / 256) (-23)) (.ofInt 1)).1).1).1

/-- The black level and the gain of a Bayer position. -/
def State.blackLevel (s : State) (u pos : Nat) : Nat :=
  bits (s.reg (Reg.IFE_BL0 u + 4 * (pos / 2))).toNat (16 * (pos % 2) + 15) (16 * (pos % 2))
def State.whiteGain (s : State) (u pos : Nat) : Nat :=
  bits (s.reg (Reg.IFE_WB0 u + 4 * (pos / 2))).toNat (16 * (pos % 2) + 15) (16 * (pos % 2))

/-! ## Stages (R326) -/

/-- Channel `c` of pixel (x, y) as it arrives, before alignment; the chroma of YUV422 is that of its pixel pair, repeated. -/
def State.rawPixel (s : State) (u : Nat) (d : List Byte) (x y c : Nat) : Nat :=
  let dt := s.ifeDt u
  let w := match dt with | 0x2A => 8 | 0x2B => 10 | 0x2C => 12 | 0x2D => 14 | 0x2E => 16 | 0x2F => 20 | _ => 8
  let line := ceilDiv (s.ifeW u * (pixelBits dt).getD 8) 8
  openWord Calc.pixel ([dt, if dt = 0x1E ∧ 0 < c then x / 2 else x, c] ++ ((d.drop (line * y)).take line).map (fun b => b.toNat)) 0 % 2 ^ w

/-- Stages 1 and 2 of a RAW pixel: 20 bits. -/
def State.balanced (s : State) (u sid : Nat) (d : List Byte) (x y : Nat) : Nat :=
  let pos := 2 * (y % 2) + x % 2
  let v := s.rawPixel u d x y 0 * 2 ^ (20 - (pixelBits (s.ifeDt u)).getD 20)
  let v1 := fixStep (((v - s.blackLevel u pos) * s.whiteGain u pos : Nat) : Int) 4096 0 (2 ^ 20 - 1)
  if s.onF (Reg.IFE_CFG_AUG u) then
    match ((Num.ofInt v1).mul (s.jitterGain u sid)).1 with
    | .fin n m e => (max 0 (min (2 ^ 20 - 1) (roundInt 0 n m e))).toNat
    | .inf n => if n then 0 else 2 ^ 20 - 1
    | .nan => 0
  else v1.toNat

/-- Stage 3: the channels of a RAW pixel, 20 bits each; a pixel outside the frame stands as 2^20 in the neighbourhood. -/
def State.demosaiced (s : State) (u sid : Nat) (d : List Byte) (x y c : Nat) : Nat :=
  if s.onF (Reg.IFE_CFG_MONO u) then s.balanced u sid d x y
  else
    let at_ (i j : Nat) : Nat :=
      if x + i < 2 ∨ y + j < 2 ∨ s.ifeW u ≤ x + i - 2 ∨ s.ifeH u ≤ y + j - 2 then 2 ^ 20
      else s.balanced u sid d (x + i - 2) (y + j - 2)
    openWord Calc.demosaic ([s.getF (Reg.IFE_CFG_BAYER u), x % 2, y % 2, c] ++
      (List.range 25).map (fun k => at_ (k % 5) (k / 5))) 0 % 2 ^ 20

/-- Stage 4: the tone map, 20 bits to 16. -/
def State.toneMapped (s : State) (u v : Nat) : Nat :=
  let f := v % 4096
  let a := s.getF (Reg.IFE_CURVE_Y u (v / 4096))
  let b := s.getF (Reg.IFE_CURVE_Y u (v / 4096 + 1))
  (fixStep ((a * (4096 - f) + b * f : Nat) : Int) 4096 0 65535).toNat

/-- Channel `c` of pixel (x, y) after stages 1–4, 16 bits; positions outside the frame read the nearest edge pixel. -/
def State.toned (s : State) (u sid : Nat) (d : List Byte) (x y : Int) (c : Nat) : Nat :=
  let px := (max 0 (min ((s.ifeW u : Int) - 1) x)).toNat
  let py := (max 0 (min ((s.ifeH u : Int) - 1) y)).toNat
  if isRaw (s.ifeDt u) then s.toneMapped u (s.demosaiced u sid d px py c) else s.rawPixel u d px py c * 256

/-- Channels that reach stage 6. -/
def State.ifeInputs (s : State) (u : Nat) : Nat := if isRaw (s.ifeDt u) && s.onF (Reg.IFE_CFG_MONO u) then 1 else 3

/-- Where output pixel `x` of `o` reads a line of `c` input pixels, in 2^−16 pixels: within the stretch of input that it stands for, with
pixel centres at whole numbers. spec/ does not state where in it; at ratio 1 it is the pixel itself. -/
def resizeAt (o c x : Nat) : Int :=
  if o = c then 65536 * (x : Int)
  else (x * c * 65536 / o : Nat) + (openWord Calc.resize [o, c, x] 0 % (65536 * c / o + 1) : Nat) - 32768

/-- Stage 5: channel `c` of output pixel (x, y), 16 bits: bilinear between the four input pixels around its place. -/
def State.resized (s : State) (u sid : Nat) (d : List Byte) (x y c : Nat) : Nat :=
  let px := resizeAt (s.getF (Reg.IFE_OUT_OW u)) (s.getF (Reg.IFE_CROP1_CW u)) x
  let py := resizeAt (s.getF (Reg.IFE_OUT_OH u)) (s.getF (Reg.IFE_CROP1_CH u)) y
  let x0 : Int := s.getF (Reg.IFE_CROP0_X0 u) + s.jitter u sid 0 + px / 65536
  let y0 : Int := s.getF (Reg.IFE_CROP0_Y0 u) + s.jitter u sid 1 + py / 65536
  let fx := px % 65536
  let fy := py % 65536
  let at_ (i j : Int) : Int := s.toned u sid d (x0 + i) (y0 + j) c
  (fixStep ((at_ 0 0 * (65536 - fx) + at_ 1 0 * fx) * (65536 - fy) + (at_ 0 1 * (65536 - fx) + at_ 1 1 * fx) * fy)
    (2 ^ 32) 0 65535).toNat

/-- Stage 6: row `r` of the colour matrix, 16 bits. -/
def State.coloured (s : State) (u sid : Nat) (d : List Byte) (x y r : Nat) : Nat :=
  let sum := (List.range (s.ifeInputs u)).foldl (fun (t : Int) c =>
    t + signed 16 (s.getF (Reg.IFE_CCM_C u (3 * r + c))) * (s.resized u sid d x y c : Int)) 0
  (fixStep (sum + 4096 * signed 16 (s.getF (Reg.IFE_CCM_C u (9 + r)))) 4096 0 65535).toNat

/-- Stage 7: the element of channel `r` at (x, y) in the output format. -/
def State.ifeElem (s : State) (u sid : Nat) (d : List Byte) (x y r : Nat) : Nat :=
  let v := (fFma (.ofInt (s.coloured u sid d x y r)) (f32 (s.getF (Reg.IFE_NORM_SCALE u r))) (f32 (s.getF (Reg.IFE_NORM_OFF u r)))).1
  (encodeElem (s.getF (Reg.IFE_CFG_FMT u)) 0 true v).1

/-- Bytes of one element. -/
def State.ifeElemBytes (s : State) (u : Nat) : Nat := fmtBits (s.getF (Reg.IFE_CFG_FMT u)) / 8

/-- The rows of a tensor as (row length in elements, number of rows). -/
def State.ifeShape (s : State) (u : Nat) : Nat × Nat :=
  let ow := s.getF (Reg.IFE_OUT_OW u)
  let oh := s.getF (Reg.IFE_OUT_OH u)
  let n := s.getF (Reg.IFE_CFG_CHANNELS u)
  if s.getF (Reg.IFE_CFG_LAYOUT u) = 0 then (ow * n, oh) else (ow, n * oh)

/-- The bytes of a tensor: rows aligned to 64 bytes (R328). -/
def State.ifeBytes (s : State) (u : Nat) : Nat :=
  let (len, rows) := s.ifeShape u
  ceilDiv (len * s.ifeElemBytes u) 64 * 64 * rows

/-- The tensor of a frame (R326, R328): what the gaps between its rows hold is open. -/
def State.frontEnd (s : State) (u sid : Nat) (d : List Byte) : List Byte :=
  let (len, rows) := s.ifeShape u
  let w := s.ifeElemBytes u
  let n := s.getF (Reg.IFE_CFG_CHANNELS u)
  let oh := s.getF (Reg.IFE_OUT_OH u)
  let elem (row i : Nat) : Nat :=
    if s.getF (Reg.IFE_CFG_LAYOUT u) = 0 then s.ifeElem u sid d (i / n) row (i % n)
    else s.ifeElem u sid d i (row % oh) (row / oh)
  (List.range rows).flatMap (fun row =>
    (List.range len).flatMap (fun i => leBytes w (elem row i)) ++
      gapBytes [s.freeCtr, u, sid, row] (ceilDiv (len * w) 64 * 64 - len * w))

/-- A front-end crop, ratio or format that a start refuses (R343). -/
def State.ifeBad (s : State) (u : Nat) : Bool :=
  let cw := s.getF (Reg.IFE_CROP1_CW u)
  let ch := s.getF (Reg.IFE_CROP1_CH u)
  let ow := s.getF (Reg.IFE_OUT_OW u)
  let oh := s.getF (Reg.IFE_OUT_OH u)
  let f := s.getF (Reg.IFE_CFG_FMT u)
  !(decide (0 < ow) && decide (ow ≤ cw) && decide (cw ≤ 8 * ow) && decide (0 < oh) && decide (oh ≤ ch) && decide (ch ≤ 8 * oh) &&
    decide (s.getF (Reg.IFE_CROP0_X0 u) + cw ≤ s.ifeW u) && decide (s.getF (Reg.IFE_CROP0_Y0 u) + ch ≤ s.ifeH u) &&
    (f == 1 || f == 7 || f == 8))

end Sys2Proof.Machine
end

