-- ==== Sys2Proof/Machine/Driving.lean ====
section
/-! DEFINITION. Driving with reduced margin (chapter 18): degrade causes (R535), host loss and return (R313, R536, R537), and
what the publication of a world-and-plan record does to the device mode (R531, R533). -/

namespace Sys2Proof.Machine

/-- A degrade cause is set. -/
def State.degraded (s : State) : Bool :=
  s.onF Reg.DEV_MODE_HOST_LOST || s.onF Reg.DEV_MODE_TILE || s.onF Reg.DEV_MODE_SENSOR || s.onF Reg.DEV_MODE_NOPLAN

/-- The degrade causes are evaluated; ACTIVE becomes DEGRADED when one is set (R533, R535). A TILE cause holds. -/
def State.evalDegrade (s : State) : State :=
  let gone := s.dev.presentAtArm &&& (2 ^ 32 - 1 - s.getF Reg.DEV_TILE_PRESENT_PRESENT)
  let s1 := if gone = 0 then s else s.putF Reg.DEV_MODE_TILE 1
  let s2 := (s1.putF Reg.DEV_MODE_SENSOR (b2n s.dev.lastWpr.sensorOut)).putF Reg.DEV_MODE_NOPLAN (b2n s.dev.lastWpr.noPlan)
  match s2.mode with
  | .active => if s2.degraded then s2.setMode .degraded else s2
  | _ => s2

/-- Contexts of the partitions in HOSTLOSS are held, with CAUSE 0x21 (R313). -/
def State.holdForHost (s : State) : State :=
  (s.contexts.filter (fun c => (s.ctx c).state == .active && bit (s.getF Reg.SCH_CFG_HOSTLOSS) (s.ctx c).part)).foldl
    (fun u c => u.holdCtx c 0x21) s

/-- The grace timer starts (R537). -/
def State.startGrace (s : State) : State :=
  ({ s with dev := { s.dev with graceSince := some s.qtz.cycles } }).putF Reg.DEV_GRACE_LEFT (s.getF Reg.DEV_HOSTLOSS_GRACE_MS)

/-- What a host loss does while the device drives (R313, R536, R537). -/
def State.hostLossActs (s : State) : State := s.holdForHost.startGrace

/-- The host is declared lost, but not in BOOT (R536). -/
def State.loseHost (s : State) : State :=
  if s.onF Reg.DEV_MODE_HOST_LOST then s
  else match s.mode with
    | .off | .boot => s
    | m =>
      let s1 := (s.putF Reg.DEV_MODE_HOST_LOST 1).putF Reg.DEV_GRACE_EXPIRED 0
      (if m = .active ∨ m = .degraded then s1.hostLossActs else s1).evalDegrade

/-- The host returns (R536, R537). -/
def State.hostReturns (s : State) : State :=
  if s.onF Reg.DEV_MODE_HOST_LOST then ((s.putF Reg.DEV_MODE_HOST_LOST 0).stopGrace).evalDegrade else s

/-- The device enters ACTIVE at a tick: a loss that stands acts as if just declared (R534, R536). -/
def State.enterActive (s : State) : State :=
  let s1 := s.setMode .active
  let s2 := if s1.onF Reg.DEV_MODE_HOST_LOST then (s1.putF Reg.DEV_GRACE_EXPIRED 0).hostLossActs else s1
  s2.evalDegrade

/-- A record is published: degrade causes, the way back from DEGRADED, and the end of an ARM that waits for it (R531, R533,
R535). -/
def State.wprPublished (s : State) (w : WprInfo) : State :=
  let s1 := ({ s with dev := { s.dev with lastWpr := w } }).evalDegrade
  let s2 := match s1.mode with
    | .degraded => if s1.degraded then s1 else s1.setMode .active
    | _ => s1
  match s2.dev.op, s2.mode with
  | some o, .ready => if o.code = 1 ∧ w.valid then (s2.setMode .armed).endOp 0 else s2
  | _, _ => s2

end Sys2Proof.Machine
end

