-- ==== Sys2Proof/Machine/Egress.lean ====
section
/-! DEFINITION. Frames that the device sends: admission to egress queues (R500, R501, R507), the frames it originates on
Ethernet (R508) and CAN XL (R509), and the frames that wait for a CAN bus (R511). -/

namespace Sys2Proof.Machine

/-! ## Egress queues -/

/-- Port `p` beyond its registers. -/
def State.ethPort (s : State) (p : Nat) : EthPort := Sparse.get (fun _ => {}) s.eth.ports p

/-- The state with port `p` replaced. -/
def State.setEthPort (s : State) (p : Nat) (x : EthPort) : State :=
  { s with eth := { s.eth with ports := Sparse.set (fun _ => {}) s.eth.ports p x } }

/-- Port `p` is up: an external port by its link, the internal port 8 while ETH is RUNNING (R507). -/
def State.portUp (s : State) (p : Nat) : Bool := s.isRunning 0x580 && (p == 8 || s.onF (Reg.ETH_P_STAT_UP p))

/-- The frames of a class at a port. -/
def EthPort.queue (x : EthPort) (c : Nat) : List (List Byte) := Sparse.get (fun _ => []) x.queues c

/-- A port with the frames of a class replaced. -/
def EthPort.setQueue (x : EthPort) (c : Nat) (l : List (List Byte)) : EthPort :=
  { x with queues := Sparse.set (fun _ => []) x.queues c l }

/-- A frame from ingress port `src` is admitted to the queue of its class at port `p`, which grants that port, or dropped and counted
(R195, R501, R507). The PCP map is the identity. -/
def State.enqueueFrame (s : State) (src p pcp : Nat) (frame : List Byte) : State :=
  let x := s.ethPort p
  let l := x.queue pcp
  if !s.portUp p then s.satInc (Reg.ETH_P_CNT0_LDROP p)
  else if Config.queueShare p pcp < (l.map List.length).sum + frame.length then s.satInc (Reg.ETH_P_CNT0_QDROP p)
  else (s.setEthPort p (x.setQueue pcp (l ++ [frame]))).granted (.egress p pcp) src

/-- A frame from ingress port `src` is admitted at every port of a mask. -/
def State.admitAll (s : State) (src mask pcp : Nat) (frame : List Byte) : State :=
  ((List.range 9).filter (fun p => bit mask p)).foldl (fun u p => u.enqueueFrame src p pcp frame) s

/-- Bytes of a number in network order. -/
def beBytes (n v : Nat) : List Byte := (leBytes n v).reverse

/-! ## Replication (R505) -/

/-- A table entry is in use: the tables are empty at reset. -/
def tableUsed (e : Nat) : Bool := e != 0

/-- The port mask of replication function `r`: none where the function is not in use. -/
def State.replicaPorts (s : State) (r : Nat) : Nat :=
  let e := s.getF (Reg.ETH_RF_ENTRY r)
  if tableUsed e then Config.tableField 0 e % 256 else 0

/-- The R-tag of replication function `r`: its EtherType and its next sequence number. -/
def State.rTag (s : State) (r : Nat) : List Byte × State :=
  let n := Sparse.get (fun _ => 0) s.eth.seqs r
  (beBytes 2 0xF1C1 ++ beBytes 2 0 ++ beBytes 2 n,
   { s with eth := { s.eth with seqs := Sparse.set (fun _ => 0) s.eth.seqs r ((n + 1) % 65536) } })

/-! ## Frames the device originates (R508, R509) -/

/-- The Z32 header: MSG and the Garnet frame. -/
def z32Header (msg f : Nat) : Nat := msg * 2 ^ 24 + f * 2 ^ 16

/-- A frame is sent through transmit descriptor `k` to the Ethernet ports of a mask (R508). -/
def State.originate (s : State) (k msg f ports : Nat) (payload : List Byte) : State :=
  if !s.onF (Reg.ETH_TXF_V k) then s
  else
    let pcp := s.getF (Reg.ETH_TXF_PCP k)
    let r := s.getF (Reg.ETH_TXF_RFN k)
    let (tag, s1) := if r < 64 then s.rTag r else ([], s)
    let mask := ports ||| (if r < 64 then s.replicaPorts r else 0)
    let frame := beBytes 6 (s.getF (Reg.ETH_TXF_DA k)) ++ beBytes 6 (s.getF Reg.ETH_MAC_MAC) ++ beBytes 2 0x8100 ++
      beBytes 2 (pcp * 2 ^ 13 + s.getF (Reg.ETH_TXF_VID k)) ++ tag ++ beBytes 2 (s.getF Reg.ETH_CFG_ETYPE) ++
      leBytes 4 (z32Header msg f) ++ payload
    s1.admitAll 8 mask pcp frame

/-- Controller `c` beyond its registers. -/
def State.canCtl (s : State) (c : Nat) : CanCtl := Sparse.get (fun _ => {}) s.can c

/-- The state with controller `c` replaced. -/
def State.setCanCtl (s : State) (c : Nat) (x : CanCtl) : State := { s with can := Sparse.set (fun _ => {}) s.can c x }

/-- A CAN XL frame of the device becomes pending at controller `c`, replacing its source's last one; a controller not in XL
mode drops it (R509, R511). -/
def State.offerXl (s : State) (c src id hdr : Nat) (payload : List Byte) : State :=
  if s.getF (Reg.CAN_CFG_MODE c) ≠ 2 then s.satInc (Reg.CAN_CNT_XL_ONLY c)
  else
    let x := s.canCtl c
    let t : CanTx := { src := src, frame := { fmt := 2, ide := false, id := id, data := payload },
                       xl := [s.getF (Reg.CAN_XL_SDT c), 0, s.getF (Reg.CAN_XL_VCID c), hdr] }
    let s1 := if x.pending.any (fun u => u.src == src) then s.satInc (Reg.CAN_CNT_REPLACED c) else s
    s1.setCanCtl c { x with pending := x.pending.filter (fun u => u.src != src) ++ [t] }

/-- A frame of the device is sent on the CAN controllers of a mask. -/
def State.offerXlAll (s : State) (mask src id hdr : Nat) (payload : List Byte) : State :=
  ((List.range 6).filter (fun c => bit mask c)).foldl (fun u c => u.offerXl c src id hdr payload) s

end Sys2Proof.Machine
end

