-- ==== Sys2Proof/Machine/Pumice.lean ====
section
/-! DEFINITION. Pumice, the point-cloud engine (chapter 13): point packets and sweeps (R375–R380), frames (R378, R379),
motion compensation (R381–R384), the octree and its voxels (R385–R388), and the outputs of a build (R389–R393). Its jobs are in
PumiceJobs. -/

namespace Sys2Proof.Machine

namespace Calc
def toBody : Nat := 20
def insideBox : Nat := 21
def poseAt : Nat := 22
def atan2 : Nat := 23
def boxIou : Nat := 24
def toWorking : Nat := 25
def fromWorking : Nat := 26
def attitude : Nat := 27
def boxToWorking : Nat := 28
def boxFromWorking : Nat := 29
end Calc

/-! ## Order -/

/-- Put `x` before the first element that it precedes. -/
def insertBy {α : Type} (lt : α → α → Bool) (x : α) : List α → List α
  | [] => [x]
  | y :: l => if lt x y then x :: y :: l else y :: insertBy lt x l

/-- Sort, keeping the order of equals. -/
def sortBy {α : Type} (lt : α → α → Bool) (l : List α) : List α := l.foldl (fun m x => insertBy lt x m) []

/-- The Morton key of R389, from `n` bits of each coordinate. -/
def morton : Nat → Nat → Nat → Nat → Nat
  | 0, _, _, _ => 0
  | n + 1, x, y, z => x % 2 + 2 * (y % 2) + 4 * (z % 2) + 8 * morton n (x / 2) (y / 2) (z / 2)

/-! ## Scanners and sweeps (R375–R377) -/

/-- The scanners in use. -/
def State.scanners (s : State) : List Nat := (List.range 16).filter (fun k => s.onF (Reg.PUM_SC_CFG_EN k))

/-- The sensor index of a scanner: the SENSOR of its ingress stream (R379). -/
def State.scannerSensor (s : State) (k : Nat) : Nat := s.getF (Reg.ING_S_CTRL_SENSOR (s.getF (Reg.PUM_SC_CFG_STREAM k)))

/-- PS_CAP in points (R380). -/
def State.psCap (s : State) : Nat := s.getF Reg.PUM_PS_CAP_CAP * 65536

/-- A point packet's header and length are as R375 requires. -/
def packetOk (d : List Byte) : Bool :=
  let h := leField d 0 4
  let n := bits h 15 0
  decide (d.length = 32 + 16 * n) && bits h 31 24 == 1 && bits h 23 18 == 0 && leField d 12 20 == 0 &&
  decide (1 ≤ n ∧ n ≤ 4094)

/-- The sweeps replaced. -/
def State.setSweeps (s : State) (l : List PumSweep) : State := { s with pum := { s.pum with sweeps := l } }

/-- The open sweep of scanner `k`. -/
def State.openSweep (s : State) (k : Nat) : Option PumSweep := s.pum.sweeps.find? (fun w => w.scanner == k && w.done.isNone)

/-- The open sweep of scanner `k` is discarded, if there is one. -/
def State.discardSweep (s : State) (k : Nat) : State :=
  s.setSweeps (s.pum.sweeps.filter (fun w => !(w.scanner == k && w.done.isNone)))

/-- The open sweep of scanner `k` is abandoned, and counted (R377, R341). -/
def State.abandonSweep (s : State) (k : Nat) : State :=
  if (s.openSweep k).isSome then (s.discardSweep k).satInc Reg.PUM_CNT0_ABANDONED else s

/-- Two sweeps are the same one. -/
def PumSweep.same (a b : PumSweep) : Bool := a.scanner == b.scanner && a.number == b.number && a.done == b.done

/-- A closed frame still needs the sweep (R380). -/
def State.sweepNeeded (s : State) (w : PumSweep) : Bool :=
  let fs := s.pum.frames ++ (match s.pum.building with | some b => [b.frame] | none => [])
  fs.any (fun f => f.sweeps.any (fun v => v.same w))

/-- Positions `a` to `a + n − 1` and `b` to `b + m − 1` of a ring of `c` positions meet. -/
def ringsMeet (c a n b m : Nat) : Bool := decide ((b + c - a) % c < n) || decide ((a + c - b) % c < m)

/-- Room for `n` points at the store's next index, freeing the oldest sweeps that no closed frame needs; none where a
needed sweep is in the way (R380). -/
def State.storeRoom (s : State) (k n : Nat) : Nat → Option State
  | 0 => none
  | fuel + 1 =>
    let c := s.psCap
    if s.pum.sweeps.all (fun w => w.packets.all (fun p => !ringsMeet c s.pum.head n p.first p.count)) then
      if n ≤ c then some s else none
    else match s.pum.sweeps.find? (fun w => !s.sweepNeeded w && !(w.scanner == k && w.done.isNone)) with
      | some w => (s.setSweeps (s.pum.sweeps.filter (fun v => !v.same w))).storeRoom k n fuel
      | none => none

/-- The partition for which Pumice accesses its own stores and tables: the owner of its page 0 (R266). -/
def State.pumPart (s : State) : Nat := s.owner 0x400

/-- A write of one of Pumice's stores; one that its regions refuse is not made (R266). -/
def State.pumPut (s : State) (a : Nat) (l : List Byte) : State := s.putIf pumicePort s.pumPart a l

/-- Points written at the store's next index (R380). -/
def State.storePoints (s : State) : List (List Byte) → State
  | [] => s
  | p :: l =>
    let s1 := s.pumPut (s.getF Reg.PUM_PS_BASE_BASE * 64 + 16 * s.pum.head) p
    ({ s1 with pum := { s1.pum with head := (s.pum.head + 1) % s.psCap } }).storePoints l

/-- A frame closes at end time `t` (R378, R379). -/
def State.closeFrame (s : State) (t : Nat) : State :=
  let recent (k : Nat) : List PumSweep :=
    let l := s.pum.sweeps.reverse.filter (fun w => w.scanner == k && w.done.any (fun e => !older t e))
    l.take (s.getF Reg.PUM_CFG_NSWEEP + 1)
  let newer (a b : PumSweep) : Bool :=
    let x := a.done.getD 0
    let y := b.done.getD 0
    older y x || (x == y && decide (b.sensor < a.sensor))
  let f : PumFrame := { number := s.pum.nextFrame, tref := t, leadLost := s.pum.leadLate,
                        sweeps := sortBy newer (s.scanners.flatMap recent) }
  { s with pum := { s.pum with frames := s.pum.frames ++ [f], nextFrame := (s.pum.nextFrame + 1) % 2 ^ 32, leadLate := false } }

/-- The open sweep of scanner `k` is complete, ending at `t`; a frame may close (R377, R378). -/
def State.completeSweep (s : State) (k t : Nat) : State :=
  match s.openSweep k with
  | none => s
  | some w =>
    let s1 := (((s.discardSweep k).setSweeps ((s.discardSweep k).pum.sweeps ++ [{ w with done := some t }])).putF
      (Reg.PUM_SC_STAT_SWEEP k) w.number).putF (Reg.PUM_SC_END_END k) t
    if k = s.getF Reg.PUM_CFG_LEAD ∨ s.pum.leadLate then s1.closeFrame t else s1

/-- A packet is discarded and counted. -/
def State.badPacket (s : State) : State := s.satInc Reg.PUM_CNT0_BADPKT

/-- A point packet of scanner `k` whose sample has capture time `tcap` (R375–R380). -/
def State.takePacket (s : State) (k : Nat) (d : List Byte) (tcap : Nat) : State :=
  let h := leField d 0 4
  let n := bits h 15 0
  let number := leField d 4 4
  let base := toBits 32 ((tcap : Int) + signed 32 (leField d 8 4))
  let last := bits (leField d (32 + 16 * (n - 1) + 12) 4) 31 12
  if !packetOk d then s.badPacket.raise FS.PUM_PKT
  else if !bit h 17 && !(s.openSweep k).any (fun w => w.number == number) then s.badPacket
  else match s.storeRoom k n (s.pum.sweeps.length + 1) with
    | none => s.satInc Reg.PUM_CNT0_STORE_FULL
    | some s1 =>
      let s2 := if bit h 17 then
          let u := s1.abandonSweep k
          u.setSweeps (u.pum.sweeps ++ [{ scanner := k, sensor := s.scannerSensor k, number := number, done := none, packets := [] }])
        else s1
      let s3 := s2.setSweeps (s2.pum.sweeps.map (fun w =>
        if w.scanner == k && w.done.isNone then { w with packets := w.packets ++ [⟨s2.pum.head, n, base⟩] } else w))
      let s4 := s3.storePoints ((List.range n).map (fun j => (d.drop (32 + 16 * j)).take 16))
      if bit h 16 then s4.completeSweep k ((base + 16 * last) % 2 ^ 32) else s4

/-- A sample of a POINTS stream reaches the scanners that it serves (R375). -/
def State.pointSample (s : State) (n : Nat) (d : List Byte) (tcap : Nat) : State :=
  if !s.isRunning 0x400 then s
  else (s.scanners.filter (fun k => s.getF (Reg.PUM_SC_CFG_STREAM k) == n)).foldl (fun u k => u.takePacket k d tcap) s

/-- PUM_SC_CFG: EN = 0 discards the scanner's open sweep. -/
def State.wrScanner (s : State) (k v : Nat) : State :=
  let s1 := s.applyWord (Reg.PUM_SC_CFG k) v
  if s1.onF (Reg.PUM_SC_CFG_EN k) then s1 else s1.discardSweep k

/-! ## Regions (R386, R393) -/

/-- The offset of the bank that frame `f` uses. -/
def State.bank (s : State) (f : Nat) : Nat := f % 2 * (s.getF Reg.PUM_BANK_STRIDE * 2 ^ 20)

/-- Node table, overflow table and layer 0 of frame `f`. -/
def State.nodeBase (s : State) (f : Nat) : Nat := s.getF Reg.PUM_NODE_BASE_BASE * 4096 + s.bank f
def State.ovfBase (s : State) (f : Nat) : Nat := s.getF Reg.PUM_OVF_BASE_BASE * 4096 + s.bank f
def State.voxBase (s : State) (f : Nat) : Nat := s.getF Reg.PUM_VOX_BASE_BASE * 2 ^ 21 + s.bank f

/-- `n` bytes of local DRAM are zeroed for partition `part`. -/
def State.zeroBytes (s : State) (part a n : Nat) : State :=
  let a := s.canon a
  if !s.memOk part a n true then s else { s with mem := s.mem.filter (fun e => !(decide (a ≤ e.1) && decide (e.1 < a + n))) }

/-- The hash of R386. -/
def siteHash (log2 x y z level : Nat) : Nat :=
  let m := 2 ^ 32
  ((x * 0x9E3779B1 % m) ^^^ (y * 0x85EBCA77 % m) ^^^ (z * 0xC2B2AE3D % m) ^^^ (level * 0x27D4EB2F % m)) / 2 ^ (32 - log2)

/-- The addresses of the 32 probes of a key. -/
def probes (base log2 size x y z level : Nat) : List Nat :=
  (List.range 32).map (fun j => base + size * ((siteHash log2 x y z level + j) % 2 ^ log2))

/-- The last word of an entry's first 16 bytes: V and LEVEL. -/
def keyWord (level : Nat) : Nat := 2 ^ 31 + level * 2 ^ 26

/-- The entry of a key in one table: (found, address), or none where it is neither there nor fits. -/
def State.probe (s : State) (base log2 size x y z level : Nat) : Option (Bool × Nat) :=
  (probes base log2 size x y z level).findSome? (fun a =>
    let w := s.readNat (a + 12) 4
    if !bit w 31 then some (false, a)
    else if s.readNat a 4 = x ∧ s.readNat (a + 4) 4 = y ∧ s.readNat (a + 8) 4 = z ∧ bits w 30 26 = level then some (true, a)
    else none)

/-! ## The build (R382–R388) -/

/-- A voxel as the build holds it: node level, coordinates, entry, and its winner. -/
structure Voxel where
  level : Nat
  x : Nat
  y : Nat
  z : Nat
  /-- Address of its node entry. -/
  at_ : Nat
  /-- Winner: compensated position, time, the last point word, store index, d², end time, point number, sensor. -/
  pos : List Nat
  time : Nat
  info : Nat
  index : Nat
  d2 : Nat
  end_ : Nat
  no : Nat
  sensor : Nat
deriving DecidableEq, Repr

/-- What a build has come to: nodes, voxels, points taken, and the flags COARSENED, SPILLED, TRUNCATED. -/
structure BuildAcc where
  nodes : Nat := 0
  vox : List Voxel := []
  taken : Nat := 0
  coarse : Bool := false
  spilled : Bool := false
  truncated : Bool := false
deriving DecidableEq, Repr

/-- The leaf edge, an FP32 value (R385). -/
def State.leafEdge (s : State) : Num := (fDiv (.ofInt (s.getF Reg.PUM_CFG_LEAF_CM)) (.ofInt 100)).1

/-- The grid's corner along axis 0, 1 or 2. -/
def State.gridOrigin (s : State) (axis : Nat) : Num := f32 (s.reg (Reg.PUM_GRID_X + 4 * axis)).toNat

/-- The centre of a cell of step 2^`step` leaves along an axis (R397). -/
def State.cellCentre (s : State) (axis c : Nat) (step : Int) : Num :=
  let k := (fAdd (.ofInt c) (.fin false 1 (-1))).1.scale step
  (fAdd (s.gridOrigin axis) (fMul k s.leafEdge).1).1

/-- The squared distance of R398, an FP32 value, from its three differences. -/
def squared (dx dy dz : Num) : Num := (fFma dz dz (fFma dy dy (fMul dx dx).1).1).1

/-- The difference along an axis of FP32 words and values, rounded once. -/
def diffs (p : List Nat) (c : List Num) : List Num := (p.zip c).map (fun q => (fSub (f32 q.1) q.2).1)

/-- R398 between a position and a centre. -/
def distance2 (p : List Nat) (c : List Num) : Num :=
  let d := diffs p c
  squared (d.getD 0 .nan) (d.getD 1 .nan) (d.getD 2 .nan)

/-- The floor of a finite value. -/
def Num.floor : Num → Option Int
  | .fin n m e => some (roundInt 2 n m e)
  | _ => none

/-- The leaf coordinate of a position word along an axis; none outside the cube (R385). -/
def State.leafCoord (s : State) (axis w : Nat) : Option Nat :=
  match (fDiv (fSub (f32 w) (s.gridOrigin axis)).1 s.leafEdge).1.floor with
  | some v => if 0 ≤ v ∧ v < 2 ^ s.getF Reg.PUM_CFG_DEPTH then some v.toNat else none
  | none => none

/-- The newest held ego state not later than `t` (R383). -/
def egoAt (egos : List (Nat × List Nat)) (t : Nat) : Option (Nat × List Nat) := egos.find? (fun e => !older t e.1)

/-- A time in ns as FP32 seconds. -/
def seconds (n : Int) : Num := (fDiv (.ofInt n) (.ofInt 1000000000)).1

/-- The pose at time `t` from a held ego state: the position p + v × dt; and what its attitude is made of, the ego's roll, pitch and yaw
and the rotation ω × dt about the body axes (R383). -/
def poseWords (e : Nat × List Nat) (t : Nat) : List Nat :=
  let dt := seconds (signed 32 (ageOf t e.1))
  let w (i : Nat) : Num := f32 (e.2.getD i 0)
  (List.range 3).map (fun i => toF32 (fAdd (w i) (fMul (w (6 + i)) dt).1).1) ++ (List.range 3).map (fun i => e.2.getD (3 + i) 0) ++
    (List.range 3).map (fun i => toF32 (fMul (w (9 + i)) dt).1)

/-- The pose at `t` from the newest held state not later than it; open where no such state is held. -/
def poseAt (egos : List (Nat × List Nat)) (t : Nat) : List Nat :=
  match egoAt egos t with
  | some e => poseWords e t
  | none => calcs Calc.poseAt [t] 9

/-- A point's words through its transform entry, the pose at its own time and the pose at T_REF, in turn (R384). The order of the
operations within a step is not stated, so each step's result is open, a function of what it reads. -/
def compensated (p xf own ref : List Nat) : List Nat :=
  calcs Calc.fromWorking (ref ++ calcs Calc.toWorking (own ++ calcs Calc.toBody (xf ++ p) 3) 3) 3

/-- The transform entry that applies at `t`, of the copies a build reads (R357, R384). -/
def xfPick (active previous : List Byte) (n t : Nat) : Option (List Byte) :=
  let a := xfEntry active n
  let b := xfEntry previous n
  if xfValid a && !older t (leField a 0x20 4) then some a else if xfValid b then some b else none

/-- A new node is counted; its parent's CHILD bit is set (R385). Answers its entry, or none where it does not fit (R388). -/
def State.addNode (s : State) (f : Nat) (b : BuildAcc) (x y z level : Nat) : Option Nat × BuildAcc × State :=
  let nl := s.getF Reg.PUM_NODE_LOG2_LOG2
  let ol := s.getF Reg.PUM_OVF_LOG2_LOG2
  let found : Option (Bool × Nat × Bool) := match s.probe (s.nodeBase f) nl 32 x y z level with
    | some (k, a) => some (k, a, false)
    | none => (s.probe (s.ovfBase f) ol 32 x y z level).map (fun p => (p.1, p.2, true))
  match found with
  | some (true, a, _) => (some a, b, s)
  | some (false, a, spill) =>
    if 4194304 ≤ b.nodes then (none, b, s)
    else
      let s1 := s.pumPut a (leBytes 4 x ++ leBytes 4 y ++ leBytes 4 z ++ leBytes 4 (keyWord level) ++ List.replicate 16 0)
      (some a, { b with nodes := b.nodes + 1, spilled := b.spilled || spill }, s1)
  | none => (none, b, s)

/-- The nodes from the root down to level `low` exist, with their CHILD bits: `n` levels above `low` remain. -/
def State.addPath (s : State) (f : Nat) (b : BuildAcc) (x y z low : Nat) (parent : Option Nat) : Nat → Option Nat × BuildAcc × State
  | 0 => (parent, b, s)
  | n + 1 =>
    let level := low + n
    let sh (v : Nat) : Nat := v / 2 ^ level
    match s.addNode f b (sh x) (sh y) (sh z) level with
    | (some a, b1, s1) =>
      let s2 := match parent with
        | some p =>
          let w := s1.readNat (p + 12) 4
          s1.pumPut (p + 12) (leBytes 4 (w ||| 2 ^ (18 + (sh x % 2 + 2 * (sh y % 2) + 4 * (sh z % 2)))))
        | none => s1
      s2.addPath f b1 x y z low (some a) n
    | (none, b1, s1) => (none, b1, s1)

/-- A candidate replaces a winner (R387). -/
def Voxel.beats (a b : Voxel) : Bool :=
  if a.end_ ≠ b.end_ then older b.end_ a.end_
  else if a.sensor ≠ b.sensor then decide (b.sensor < a.sensor)
  else decide (a.d2 < b.d2) || (a.d2 == b.d2 && decide (a.no < b.no))

/-- The winner's fields of a voxel's node entry (R386). -/
def State.writeWinner (s : State) (v : Voxel) : State :=
  s.pumPut (v.at_ + 16) (leBytes 4 v.index ++ leBytes 4 v.d2 ++ leBytes 4 v.end_ ++ leBytes 4 (v.no * 1024 + v.sensor))

/-- A point enters a voxel: it competes, or the voxel is created with it (R387, R388). -/
def State.enterVoxel (s : State) (b : BuildAcc) (v : Voxel) : BuildAcc × State :=
  match b.vox.find? (fun u => u.at_ == v.at_ && u.level == v.level) with
  | some u =>
    if v.beats u then ({ b with vox := b.vox.map (fun w => if w.at_ = v.at_ ∧ w.level = v.level then v else w) }, s.writeWinner v)
    else (b, s)
  | none =>
    if 1048576 ≤ b.vox.length then ({ b with truncated := true }, s.satInc Reg.PUM_CNT3_TRUNC_PTS)
    else ({ b with vox := b.vox ++ [v] }, s.writeWinner v)

/-- Step 1 of R388 is in force. -/
def BuildAcc.coarser (b : BuildAcc) : Bool := b.coarse || decide (3774873 ≤ b.nodes) || decide (943718 ≤ b.vox.length)

/-- A compensated point is inserted (R385, R388). `v` holds the candidate with its leaf coordinates. -/
def State.insertPoint (s : State) (f : Nat) (b : BuildAcc) (v : Voxel) : BuildAcc × State :=
  let coarse := b.coarser
  let leafThere := b.vox.any (fun u => u.level == 0 && u.x == v.x && u.y == v.y && u.z == v.z)
  let low := if coarse && !leafThere then 1 else 0
  let b1 := { b with coarse := coarse }
  let depth := s.getF Reg.PUM_CFG_DEPTH
  let there := b.vox.any (fun u => u.level == low && u.x == v.x / 2 ^ low && u.y == v.y / 2 ^ low && u.z == v.z / 2 ^ low)
  if !there && decide (1048576 ≤ b.vox.length) then ({ b1 with truncated := true }, s.satInc Reg.PUM_CNT3_TRUNC_PTS)
  else match s.addPath f b1 v.x v.y v.z low none (depth + 1 - low) with
    | (some a, b2, s1) =>
      let x := v.x / 2 ^ low
      let y := v.y / 2 ^ low
      let z := v.z / 2 ^ low
      let d := distance2 v.pos [s.cellCentre 0 x low, s.cellCentre 1 y low, s.cellCentre 2 z low]
      s1.enterVoxel b2 { v with level := low, x := x, y := y, z := z, at_ := a, d2 := toF32 d }
    | (none, b2, s1) => ({ b2 with truncated := true }, s1.satInc Reg.PUM_CNT3_TRUNC_PTS)

/-- A point of a sweep as the build takes it: sweep, number, store index, time. -/
structure TakenPoint where
  sweep : PumSweep
  no : Nat
  index : Nat
  base : Nat
deriving DecidableEq, Repr

/-- The points of a sweep, from point 0 upward. -/
def PumSweep.points (w : PumSweep) (cap : Nat) : List TakenPoint :=
  (w.packets.foldl (fun (a : Nat × List TakenPoint) p =>
    (a.1 + p.count, a.2 ++ (List.range p.count).map (fun j => ⟨w, a.1 + j, (p.first + j) % cap, p.base⟩))) (0, [])).2

/-- One point of the frame is compensated and inserted, or discarded and counted (R383–R385). -/
def State.buildPoint (s0 : State) (g : PumBuild) (b : BuildAcc) (p : TakenPoint) : BuildAcc × State :=
  let (d, s) := s0.readFor pumicePort s0.pumPart (s0.getF Reg.PUM_PS_BASE_BASE * 64 + 16 * p.index) 16
  let w := wordsOf d 0 4
  let info := w.getD 3 0
  let t := (p.base + 16 * bits info 31 12) % 2 ^ 32
  match egoAt g.egos t, egoAt g.egos g.frame.tref with
  | some e, some r =>
    match xfPick g.active g.previous (s.getF (Reg.PUM_SC_CFG_XF p.sweep.scanner)) t with
    | none => (b, s.satInc Reg.PUM_CNT2_NO_XF)
    | some x =>
      let pos := compensated (w.take 3) (wordsOf x 0 7) (poseWords e t) (poseWords r g.frame.tref)
      match s.leafCoord 0 (pos.getD 0 0), s.leafCoord 1 (pos.getD 1 0), s.leafCoord 2 (pos.getD 2 0) with
      | some cx, some cy, some cz =>
        s.insertPoint g.frame.number b
          { level := 0, x := cx, y := cy, z := cz, at_ := 0, pos := pos, time := t, info := info, index := p.index, d2 := 0,
            end_ := p.sweep.done.getD 0, no := p.no, sensor := p.sweep.sensor }
      | _, _, _ => (b, s.satInc Reg.PUM_CNT1_OUTSIDE)
  | _, _ => (b, s.satInc Reg.PUM_CNT1_EGO_OLD)

/-! ## Outputs (R389–R392) -/

/-- The place of a voxel in layer 0 (R389). -/
def Voxel.order (v : Voxel) : List Nat :=
  let k := v.level
  [morton 32 (v.x * 2 ^ k) (v.y * 2 ^ k) (v.z * 2 ^ k), v.level]

/-- A site key (R389). -/
def siteKey (x y z level : Nat) : List Byte := leBytes 4 x ++ leBytes 4 y ++ leBytes 4 z ++ leBytes 4 (keyWord level)

/-- The centre of a voxel. -/
def State.voxelCentre (s : State) (v : Voxel) : List Num :=
  [s.cellCentre 0 v.x v.level, s.cellCentre 1 v.y v.level, s.cellCentre 2 v.z v.level]

/-- The eight features of a voxel, FP32 values (R389). -/
def State.features (s : State) (tref : Nat) (v : Voxel) : List Num :=
  diffs v.pos (s.voxelCentre v) ++
    [(fDiv (.ofInt (bits v.info 7 0)) (.ofInt 255)).1,
     seconds (signed 32 (toBits 32 ((tref : Int) - v.time))),
     .ofInt (bits v.info 11 8), .ofInt v.level, .zero]

/-- Row `i` of layer 0 is written (R389). -/
def State.writeRow (s : State) (base tref i : Nat) (v : Voxel) : State :=
  let c := s.getF Reg.PUM_BANK_FEAT_FMT
  let n := fmtBits c / 8
  let s1 := s.pumPut (base + 16 * i) (siteKey v.x v.y v.z v.level)
  let s2 := s1.pumPut (base + 2 ^ 24 + 16 * i) (v.pos.flatMap (leBytes 4) ++ leBytes 4 (v.no * 1024 + v.sensor))
  s2.pumPut (base + 2 ^ 25 + 8 * n * i) ((s.features tref v).flatMap (fun x => leBytes n (encodeElem c 0 true x).1))

/-- The rows of layer 0. -/
def State.writeRows (s : State) (base tref i : Nat) : List Voxel → State
  | [] => s
  | v :: l => (s.writeRow base tref i v).writeRows base tref (i + 1) l

/-- The flag word of a frame (R390). -/
def buildFlags (g : PumBuild) (b : BuildAcc) (capped : Bool) : Nat :=
  64 * b2n g.extrap + 32 * b2n g.frame.leadLost + 16 * b2n capped + 8 * b2n b.coarser + 4 * b2n b.spilled + 2 * b2n b.truncated

/-- A point lies in a box that is enlarged by `margin` on every side (R392): by height; beyond the reach of the box's corners it does not,
and within the shorter half side it does; between these it depends on the box's yaw, whose trigonometry spec/ does not state, but for a
box along the axes. -/
def inEnlarged (centre box : List Nat) (margin : Nat) : Bool :=
  let c (i : Nat) : Rat := ratOf (centre.getD i 0)
  let b (i : Nat) : Rat := ratOf (box.getD i 0)
  let m := ratOf margin
  let dx := c 0 - b 0
  let dy := c 1 - b 1
  let dz := c 2 - b 2
  let hl := b 3 / 2 + m
  let hw := b 4 / 2 + m
  let hh := b 5 / 2 + m
  let d := dx * dx + dy * dy
  if decide (hl < 0) || decide (hw < 0) || decide (hh < dz) || decide (hh < -dz) || decide (hl * hl + hw * hw < d) then false
  else if decide (d ≤ hl * hl) && decide (d ≤ hw * hw) then true
  else if box.getD 6 0 % 2 ^ 31 = 0 then decide (dx ≤ hl) && decide (-dx ≤ hl) && decide (dy ≤ hw) && decide (-dy ≤ hw)
  else openWord Calc.insideBox (centre ++ box.take 7 ++ [margin]) 0 % 2 == 1

/-- The occupancy image (R392). -/
def State.writeOccupancy (s : State) (g : PumBuild) (l : List Voxel) : State :=
  if !s.onF Reg.PUM_OCC_CFG_OCC_EN then s
  else
    let margin := s.getF Reg.PUM_OCC_MARGIN_MARGIN
    let inBox (v : Voxel) : Bool := s.pum.boxes.any (fun x =>
      inEnlarged ((s.voxelCentre v).map toF32) x margin)
    let z (v : Voxel) : Num := f32 (v.pos.getD 2 0)
    let shown := l.filter (fun v => (f32 (s.getF Reg.PUM_OCC_ZMIN_ZMIN)).le (z v) && (z v).le (f32 (s.getF Reg.PUM_OCC_ZMAX_ZMAX)) &&
      !inBox v)
    let pose := poseAt g.egos g.frame.tref
    let head := leBytes 4 g.frame.number ++ leBytes 4 g.frame.tref ++ leBytes 4 shown.length ++
      leBytes 4 (s.getF Reg.PUM_CFG_LEAF_CM * 256 + s.getF Reg.PUM_CFG_DEPTH) ++
      ([0, 1, 2].flatMap (fun k => leBytes 4 (s.reg (Reg.PUM_GRID_X + 4 * k)).toNat)) ++
      (pose.take 3 ++ calcs Calc.attitude (pose.drop 3) 3).flatMap (leBytes 4) ++ List.replicate 8 0
    let keys := shown.flatMap (fun v => siteKey v.x v.y v.z v.level)
    s.pumPut (s.getF Reg.PUM_OCC_BASE_BASE * 2 ^ 21 + g.frame.number % 2 * 2 ^ 25)
      (head ++ leBytes 4 (crc32 (head ++ keys)) ++ keys)

/-- The build is done: the tables, layer 0, the occupancy image and the frame status, then FRAME_OBJ (R388–R392). -/
def State.buildDone (s : State) (g : PumBuild) : State :=
  let f := g.frame.number
  let s1 := (s.zeroBytes s.pumPart (s.nodeBase f) (32 * 2 ^ s.getF Reg.PUM_NODE_LOG2_LOG2)).zeroBytes s.pumPart (s.ovfBase f)
    (32 * 2 ^ s.getF Reg.PUM_OVF_LOG2_LOG2)
  let all := g.frame.sweeps.flatMap (fun w => w.points s.psCap)
  let pts := all.take 2097152
  let capped := decide (2097152 < all.length)
  let (b, s2) := pts.foldl (fun (a : BuildAcc × State) p => a.2.buildPoint g a.1 p) ({}, s1)
  let rows := sortBy (fun x y => sooner x.order y.order) b.vox
  let base := s.voxBase f
  let s3 := (s2.writeRows base g.frame.tref 0 rows).writeOccupancy g rows
  let flags := buildFlags g b capped
  let status := leBytes 4 f ++ leBytes 4 g.frame.tref ++ leBytes 4 pts.length ++ leBytes 4 b.nodes ++ leBytes 4 rows.length ++
    leBytes 4 flags ++ List.replicate 36 0
  let s4 := s3.pumPut (base + 2 ^ 26) (status ++ leBytes 4 (crc32 status))
  let s5 := ((((s4.putF Reg.PUM_FRAME_FRAME f).putF Reg.PUM_FSTAT_FLAGS (flags / 2)).putF Reg.PUM_FCNT0_NODES b.nodes).putF
    Reg.PUM_FCNT1_POINTS pts.length).putF Reg.PUM_FCNT2_VOXELS rows.length
  let built : PumBuilt := { number := f, tref := g.frame.tref,
                            layers := [⟨0, rows.length, rows.length, 0, none⟩] }
  let s6 := { s5 with pum := { s5.pum with building := none, built := built :: s5.pum.built } }
  let s7 := if b.coarser then s6.satInc Reg.PUM_CNT2_COARSENED else s6
  let s8 := if b.spilled then s7.satInc Reg.PUM_CNT2_SPILLED else s7
  let s9 := if b.truncated then ((s8.satInc Reg.PUM_CNT3_TRUNC).irq 0x400 2).raise FS.PUM_TRUNC else s8
  ((s9.irq 0x400 1).signal pumicePort (s9.getF Reg.PUM_OBJ_FRAME_OBJ) 1).kick 7

/-- A build starts: its inputs are taken, and the frame that held its bank is gone (R382, R393). -/
def State.startBuild (s : State) (f : PumFrame) (extrap : Bool) : State :=
  let g : PumBuild := { frame := f, extrap := extrap, egos := s.pum.egos, active := s.agt.active, previous := s.agt.previous }
  { s with pum := { s.pum with building := some g, frames := s.pum.frames.tail,
                               built := s.pum.built.filter (fun b => b.number % 2 != f.number % 2) } }

/-- The frame named by a job. -/
def PumJob.frame (j : PumJob) : Nat := leField j.desc 0x0C 4

/-- The next closed frame that may be built: no build runs, and no job taken names the frame of its bank (R393). -/
def State.nextBuild (s : State) : Option PumFrame :=
  match s.isRunning 0x400, s.pum.building, s.pum.frames with
  | true, none, f :: _ =>
    if s.pum.jobs.any (fun j => (j.frame + 2) % 2 ^ 32 == f.number) then none else some f
  | _, _, _ => none

/-- An ego state stamped at or after T_REF is held (R382). -/
def State.egoHeld (s : State) (f : PumFrame) : Bool := s.pum.egos.any (fun e => !older e.1 f.tref)

/-! ## Commands -/

/-- POINT_PACKET (R375). -/
def execPointPacket (scanner : Nat) (packet : List Byte) (tcap : Nat) (s : State) : Host.Outcome State Fault Refusal :=
  whenLive (fun s => s.guard (s.isRunning 0x400 && s.scanners.contains scanner) (fun s =>
    s.takePacket scanner packet (tcap % 2 ^ 32))) s

/-- LEAD_TIMEOUT (R378). -/
def execLeadTimeout (s : State) : Host.Outcome State Fault Refusal :=
  whenLive (fun s => s.guard (s.isRunning 0x400) (fun s => { s with pum := { s.pum with leadLate := true } })) s

/-- BUILD_START (R382). -/
def execBuildStart (s : State) : Host.Outcome State Fault Refusal :=
  whenLive (fun s => match s.nextBuild with
    | some f => if s.egoHeld f then s.startBuild f false else s
    | none => s) s

/-- EGO_WAIT_EXPIRY (R382). -/
def execEgoWaitExpiry (s : State) : Host.Outcome State Fault Refusal :=
  whenLive (fun s => match s.nextBuild with
    | some f => if s.egoHeld f then s else (s.startBuild f true).raise FS.PUM_EGO
    | none => s) s

/-- BUILD_DONE (R390); a stop abandons the build in progress (R409). -/
def execBuildDone (s : State) : Host.Outcome State Fault Refusal :=
  whenLive (fun s => s.guard (s.isRunning 0x400) (fun s => match s.pum.building with
    | some g => s.buildDone g
    | none => s)) s

end Sys2Proof.Machine
end

