-- ==== Sys2Proof/Machine/PumiceJobs.lean ====
section
/-! DEFINITION. Pumice's jobs (chapter 13): rings and refusals (R394–R396), neighbour search (R397, R398), rulebooks
(R399–R402), box decoding, suppression and publication (R403–R407), and the block's start and stop (R409). -/

namespace Sys2Proof.Machine

/-! ## Rings and jobs (R394–R396) -/

/-- Job ring `r` beyond its registers. -/
def State.jobRing (s : State) (r : Nat) : AgtRing := Sparse.get (fun _ => {}) s.pum.rings r

/-- The state with job ring `r` replaced. -/
def State.setJobRing (s : State) (r : Nat) (x : AgtRing) : State :=
  { s with pum := { s.pum with rings := Sparse.set (fun _ => {}) s.pum.rings r x } }

/-- The partition of job ring `r` (R394). -/
def State.jobPart (s : State) (r : Nat) : Nat := s.owner (0x404 + r)

/-- A word, a long word and bits of a job descriptor. -/
def PumJob.word (j : PumJob) (o : Nat) : Nat := leField j.desc o 4
def PumJob.addr (j : PumJob) (o : Nat) : Nat := leField j.desc o 8
def PumJob.bits (j : PumJob) (o hi lo : Nat) : Nat := Machine.bits (j.word o) hi lo

/-- TYPE of a job: 1 QUERY, 2 RULEBOOK, 3 DECODE. -/
def PumJob.type (j : PumJob) : Nat := j.bits 0 31 28

/-- An address field of 48 bits is aligned to `n` bytes. -/
def addrOk (a n : Nat) : Bool := decide (a < 2 ^ 48) && a % n == 0

/-- An FP32 word is finite and above 0. -/
def f32Positive (w : Nat) : Bool := let x := f32 w; x.isFin && !x.isZero && !x.neg

/-- The fields of a QUERY are in range. -/
def PumJob.queryOk (j : PumJob) : Bool :=
  let k := j.bits 0x10 22 16
  let list := bit (j.word 0x10) 30
  decide (1 ≤ k ∧ k ≤ 64) && j.bits 0x10 29 23 == 0 && j.bits 0x10 15 4 == 0 &&
  (if bit (j.word 0x10) 31 then j.word 0x14 == 0 else f32Positive (j.word 0x14)) &&
  (if list then decide (j.addr 0x18 < 2 ^ 48) && decide (1 ≤ j.word 0x20 ∧ j.word 0x20 ≤ 1048576)
   else j.addr 0x18 == 0 && j.word 0x20 == 0) &&
  j.word 0x24 == 0 && addrOk (j.addr 0x28) 64 && addrOk (j.addr 0x30) 64 && j.word 0x38 == 0

/-- CONV, KS, input and output layer of a RULEBOOK. -/
def PumJob.conv (j : PumJob) : Nat := j.bits 0x10 31 30
def PumJob.ks (j : PumJob) : Nat := j.bits 0x10 29 27
def PumJob.inLayer (j : PumJob) : Nat := j.bits 0x10 19 16
def PumJob.outLayer (j : PumJob) : Nat := j.bits 0x10 11 8

/-- The fields of a RULEBOOK are in range. -/
def PumJob.rulebookOk (j : PumJob) : Bool :=
  let k := j.ks
  let o := j.word 0x14
  let i := j.word 0x18
  (match j.conv with
   | 2 => k == 2 || k == 3
   | 3 => k == 1 || k == 2 || k == 3 || k == 5
   | _ => k == 1 || k == 3 || k == 5) &&
  j.bits 0x10 26 20 == 0 && j.bits 0x10 15 12 == 0 && j.bits 0x10 7 0 == 0 &&
  decide (128 ≤ o ∧ o ≤ 65536) && o % 128 == 0 && decide (64 ≤ i ∧ i ≤ 65536) && i % 64 == 0 &&
  decide (1 ≤ j.word 0x1C ∧ j.word 0x1C ≤ 65535) && addrOk (j.addr 0x20) 64 &&
  decide (1 ≤ j.word 0x28 ∧ j.word 0x28 ≤ 1048576) && leField j.desc 0x2C 16 == 0

/-- The fields of a DECODE are in range. -/
def PumJob.decodeOk (j : PumJob) : Bool :=
  let f := j.bits 0x20 31 28
  let w := j.bits 0x24 31 16
  let h := j.bits 0x24 15 0
  let iou := fp16.decode (j.bits 0x34 15 0)
  decide (7 ≤ f ∧ f ≤ 9) && j.bits 0x20 24 20 == 0 && j.bits 0x20 15 0 == 0 && decide (1 ≤ w ∧ w ≤ 4096) &&
  decide (1 ≤ h ∧ h ≤ 4096) && f32Positive (j.word 0x30) && Num.zero.le iou && iou.le (.ofInt 1) &&
  decide (j.word 0x38 ≤ 1000000000) && decide (j.addr 0x10 < 2 ^ 48) && decide (j.addr 0x18 < 2 ^ 48)

/-- The FORMAT check of R396. -/
def PumJob.formatOk (j : PumJob) : Bool :=
  bit (j.word 0) 27 && j.bits 0 26 14 == 0 && j.bits 4 30 14 == 0 &&
  (match j.type with | 1 => j.queryOk | 2 => j.rulebookOk | 3 => j.decodeOk | _ => false)

/-- The wait of a job: its object and value (R395). -/
def PumJob.wait (j : PumJob) : Option (Nat × Nat) := if bit (j.word 4) 31 then some (j.bits 4 13 0, j.word 8) else none

/-- The SYNC check of R396. -/
def State.jobSyncOk (s : State) (j : PumJob) : Bool :=
  let p := s.jobPart j.ring
  s.liveOf (j.bits 0 13 0) p && (match j.wait with | some (o, _) => s.liveOf o p | none => true)

/-- The built frame that a job names. -/
def State.builtOf (s : State) (j : PumJob) : Option PumBuilt := s.pum.built.find? (fun b => b.number == j.frame)

/-- Layer `l` of a built frame. -/
def PumBuilt.layer? (b : PumBuilt) (l : Nat) : Option PumLayer := b.layers.find? (fun x => x.layer == l)

/-- The LAYER check of R396. -/
def State.jobLayersOk (s : State) (b : PumBuilt) (j : PumJob) : Bool :=
  match j.type with
  | 1 => bit (j.word 0x10) 30 || (b.layer? (j.bits 0x10 3 0)).isSome
  | 2 =>
    (b.layer? j.inLayer).isSome && j.outLayer != 0 && j.outLayer != j.inLayer && s.onF (Reg.PUM_L_KEYS_BASE j.outLayer) &&
    (j.conv != 3 || ((b.layer? j.outLayer).isSome && (b.layer? j.inLayer).any (fun x => x.downOf == some (j.outLayer, j.ks))))
  | _ => true

/-- The bytes of a query's row in an output (R397). -/
def PumJob.queryRow (j : PumJob) : Nat := ceilDiv (4 * j.bits 0x10 22 16) 64 * 64

/-- The queries of a QUERY. -/
def PumJob.queries (j : PumJob) (b : PumBuilt) : Nat :=
  if bit (j.word 0x10) 30 then j.word 0x20 else ((b.layer? (j.bits 0x10 3 0)).map (fun x => x.rows)).getD 0

/-- The bytes of a rulebook's chunk (R402). -/
def PumJob.chunkBytes (j : PumJob) : Nat := 64 + 4 * j.word 0x18 + 4 * (j.ks * j.ks * j.ks) * j.word 0x14

/-- The box list of a frame (R407). -/
def State.boxList (s : State) (f : Nat) : Nat := s.getF Reg.PUM_DEC_OUT_BASE * 2 ^ 20 + f % 2 * 0x80000

/-- The ranges of memory that a job names, with whether it writes them. -/
def State.jobRanges (s : State) (b : PumBuilt) (j : PumJob) : List (Nat × Nat × Bool) :=
  match j.type with
  | 1 =>
    let n := j.queries b * j.queryRow
    (if bit (j.word 0x10) 30 then [(j.addr 0x18, 16 * j.word 0x20, false)] else []) ++ [(j.addr 0x28, n, true)] ++
      (if j.addr 0x30 = 0 then [] else [(j.addr 0x30, n, true)])
  | 2 => [(j.addr 0x20, 64 + j.word 0x1C * j.chunkBytes, true)]
  | _ =>
    let cells := j.bits 0x24 31 16 * j.bits 0x24 15 0
    let e := fmtBits (j.bits 0x20 31 28) / 8
    [(j.addr 0x10, cells * (j.bits 0x20 19 16 + 1) * e, false), (j.addr 0x18, cells * 10 * e, false),
     (s.boxList j.frame, 64 + 4096 * 64, true)]

/-- The site keys of a layer of frame `f` (R389, PUM_L_KEYS). -/
def State.keysBase (s : State) (l f : Nat) : Nat :=
  if l = 0 then s.voxBase f else s.getF (Reg.PUM_L_KEYS_BASE l) * 64 + s.bank f

/-- The tables of layers that a job reads: the winners' positions and the sites of a query, the sites of a rulebook's layers. -/
def State.jobTables (s : State) (b : PumBuilt) (j : PumJob) : List (Nat × Nat) :=
  let keys (l : Nat) : List (Nat × Nat) := match b.layer? l with
    | some x => [(s.keysBase l b.number, 16 * x.written)]
    | none => []
  match j.type with
  | 1 => [(s.voxBase b.number + 2 ^ 24, 16 * ((b.layer? 0).map (fun x => x.rows)).getD 0)] ++
      (if bit (j.word 0x10) 30 then [] else keys (j.bits 0x10 3 0))
  | 2 => keys j.inLayer ++ (if j.conv = 3 then keys j.outLayer else [])
  | _ => []

/-- Everything that a job reads of memory. -/
def State.jobReads (s : State) (b : PumBuilt) (j : PumJob) : List (Nat × Nat) :=
  (((s.jobRanges b j).filter (fun r => !r.2.2)).map (fun r => (r.1, r.2.1))) ++ s.jobTables b j

/-- A job enters its unit: the unit grants its ring, and the requests of its reads, which are charged to its ring's partition, join the
memory ports (R395). -/
def State.inUnit (s : State) (j : PumJob) (b : PumBuilt) : State :=
  (s.granted (.pumUnit j.type) j.ring).trafficAll pumicePort (s.jobPart j.ring) false (s.jobReads b j)

/-- A write of a job to a table of its layers, for its ring's partition; one that its regions refuse is not made (R266, R395). -/
def State.jobPut (s : State) (j : PumJob) (a : Nat) (l : List Byte) : State := s.putIf pumicePort (s.jobPart j.ring) a l

/-- The first of the checks of R396 that depend on the frame which a job fails: 0 none. -/
def State.jobRunError (s : State) (j : PumJob) : Nat :=
  match s.builtOf j with
  | none => 3
  | some b =>
    if !s.jobLayersOk b j then 4
    else if (s.jobRanges b j).any (fun r => r.2.1 != 0 && !s.memOk (s.jobPart j.ring) r.1 r.2.1 r.2.2) ||
      (s.jobTables b j).any (fun r => r.2 != 0 && !s.memOk (s.jobPart j.ring) r.1 r.2 false) then 5 else 0

/-- A job of ring `r` is refused (R396). -/
def State.refuseJob (s : State) (r err : Nat) : State :=
  let s1 := (((s.putF (Reg.PUM_J_ERR_ERR r) err).satInc (Reg.PUM_J_ERR_REFUSED r)).satInc Reg.PUM_CNT3_JOB_ERR).irq (0x404 + r) 1
  (s1.raise FS.PUM_JOB).signal pumicePort (s1.getF (Reg.PUM_J_OBJ_TAKE_OBJ r)) 1

/-- Pumice takes the next job of ring `r`: its first checks are made (R394, R396). -/
def State.takeJob (s : State) (r : Nat) : State :=
  let x := s.jobRing r
  let put := s.syncValue (s.getF (Reg.PUM_J_CFG_PUT_OBJ r))
  if !(s.isRunning 0x400 && s.onF (Reg.PUM_J_CFG_EN r)) || decide (put ≤ x.put0 + x.taken) then s
  else
    let a := s.getF (Reg.PUM_J_BASE_BASE r) * 64 + x.taken % 2 ^ s.getF (Reg.PUM_J_CFG_LOG2N r) * 64
    let (d, s0) := s.readFor pumicePort (s.jobPart r) a 64
    let s1 := (s0.setJobRing r { x with taken := x.taken + 1 }).wrapInc (Reg.PUM_J_STAT_TAKEN r)
    let j : PumJob := { ring := r, desc := d }
    if leField d 0x3C 4 ≠ crc32 (d.take 60) then s1.refuseJob r 6
    else if !j.formatOk then s1.refuseJob r 1
    else if !s1.jobSyncOk j then s1.refuseJob r 2
    else { s1 with pum := { s1.pum with jobs := s1.pum.jobs ++ [j] } }

/-- The jobs replaced. -/
def State.setJobs (s : State) (l : List PumJob) : State := { s with pum := { s.pum with jobs := l } }

/-- A job's wait holds (R395). -/
def State.jobWaitMet (s : State) (j : PumJob) : Bool :=
  match j.wait with
  | some (o, v) => s.syncState o == 1 && waitHolds 1 (s.syncValue o) v false
  | none => true

/-- Job `i` of the taken ones may run on its unit now: it is of type `t`, it waits no more, and no job of its type is in
the unit or before it in its ring (R395). -/
def State.jobReady (s : State) (i t : Nat) : Option PumJob :=
  match s.pum.jobs[i]? with
  | some j =>
    if s.isRunning 0x400 && j.type == t && !j.ran && s.jobWaitMet j &&
      !(s.pum.jobs.any (fun k => k.type == t && k.ran)) &&
      !((s.pum.jobs.take i).any (fun k => k.type == t && k.ring == j.ring)) then some j else none
  | none => none

/-- Job `i` runs: the remaining checks, then its unit's work (R395, R396). -/
def State.runJob (s : State) (i t : Nat) (work : State → PumJob → PumBuilt → PumJob × State) : State :=
  match s.jobReady i t with
  | none => s
  | some j =>
    let e := s.jobRunError j
    match e, s.builtOf j with
    | 0, some b =>
      let (k, s1) := work s j b
      s1.setJobs (s1.pum.jobs.set i { k with ran := true })
    | _, _ => (s.setJobs (s.pum.jobs.eraseIdx i)).refuseJob j.ring e

/-- Job `i` has completed (R396); the boxes of a decode are those of the most recent one (R392). A stop abandons it (R409). -/
def State.completeJob (s : State) (i : Nat) : State :=
  match s.pum.jobs[i]? with
  | some j =>
    if j.ran && j.due.isNone && s.isRunning 0x400 then
      let s1 := s.setJobs (s.pum.jobs.eraseIdx i)
      let s2 := if j.type = 3 then { s1 with pum := { s1.pum with boxes := j.boxes } } else s1
      (s2.signal pumicePort (j.bits 0 13 0) 1).signal pumicePort (s2.getF (Reg.PUM_J_OBJ_TAKE_OBJ j.ring)) 1
    else s
  | none => s

/-- A row of a table of 16-byte keys: x, y, z, LEVEL; none for a hole. -/
def State.siteAt (s : State) (a : Nat) : Option (Nat × Nat × Nat × Nat) :=
  let w := s.fetch a 16
  if bit (leField w 12 4) 31 then some (leField w 0 4, leField w 4 4, leField w 8 4, bits (leField w 12 4) 30 26) else none

/-- The site of a row of a layer: none for a hole. -/
def State.layerSite (s : State) (f : Nat) (x : PumLayer) (row : Nat) : Option (Nat × Nat × Nat × Nat) :=
  if row < x.written then s.siteAt (s.keysBase x.layer f + 16 * row) else none

/-! ## Neighbour search (R397, R398) -/

/-- Query `q`'s position, three FP32 values; none for a hole row (R397). -/
def State.queryPoint (s : State) (j : PumJob) (b : PumBuilt) (q : Nat) : Option (List Num) :=
  if bit (j.word 0x10) 30 then some ((wordsOf (s.fetch (j.addr 0x18 + 16 * q) 12) 0 3).map f32)
  else match b.layer? (j.bits 0x10 3 0) with
    | none => none
    | some x => (s.layerSite b.number x q).map (fun c =>
      [s.cellCentre 0 c.1 x.step, s.cellCentre 1 c.2.1 x.step, s.cellCentre 2 c.2.2.1 x.step])

/-- The results of a query: squared distances and rows, ascending, at most K (R397). -/
def State.neighbours (s : State) (j : PumJob) (b : PumBuilt) (p : List Num) : List (Nat × Nat) :=
  let rows := ((b.layer? 0).map (fun x => x.rows)).getD 0
  let r := f32 (j.word 0x14)
  let limit := if bit (j.word 0x10) 31 then 0x7F800000 else toF32 (fMul r r).1
  let near (i : Nat) : Option (Nat × Nat) :=
    let d := toF32 (distance2 (wordsOf (s.fetch (s.voxBase b.number + 2 ^ 24 + 16 * i) 12) 0 3) p)
    if d ≤ limit then some (d, i) else none
  (sortBy (fun a c => sooner [a.1, a.2] [c.1, c.2]) ((List.range rows).filterMap near)).take (j.bits 0x10 22 16)

/-- A query's row of results with its past-the-end entries, padded to `row` bytes; what the padding holds is open (R397). -/
def queryRowBytes (l : List Nat) (k pad row : Nat) (at_ : List Nat) : List Byte :=
  (l ++ List.replicate (k - l.length) pad).flatMap (leBytes 4) ++ gapBytes at_ (row - 4 * k)

/-- The QUERY unit's work. -/
def State.runQuery (s : State) (j : PumJob) (b : PumBuilt) : PumJob × State :=
  let k := j.bits 0x10 22 16
  let row := j.queryRow
  (j, (List.range (j.queries b)).foldl (fun u q =>
    let l := match s.queryPoint j b q with | some p => s.neighbours j b p | none => []
    let u1 := u.put pumicePort (u.jobPart j.ring) (j.addr 0x28 + row * q) (queryRowBytes (l.map (fun e => e.2)) k 0xFFFFFFFF row [u.freeCtr, q, 0])
    if j.addr 0x30 = 0 then u1
    else u1.put pumicePort (u1.jobPart j.ring) (j.addr 0x30 + row * q) (queryRowBytes (l.map (fun e => e.1)) k 0x7F800000 row [u.freeCtr, q, 1])) (s.inUnit j b))

/-! ## Rulebooks (R399–R402) -/

/-- Offset number `k` of R399. -/
def kernelOffset (ks k : Nat) : Int × Int × Int :=
  if ks = 2 then (k % 2, k / 2 % 2, k / 4)
  else
    let r : Int := (ks - 1) / 2
    (k % ks - r, k / ks % ks - r, k / (ks * ks) - r)

/-- A coordinate triple. -/
abbrev Coord := Int × Int × Int

/-- The coordinates of a site. -/
def coordOf (c : Nat × Nat × Nat × Nat) : Coord := (c.1, c.2.1, c.2.2.1)

/-- The input that feeds output `o` through offset `d`, if it is an integer vector (R399). -/
def inputOf (conv : Nat) (o d : Coord) : Option Coord :=
  match conv with
  | 2 => some (2 * o.1 + d.1, 2 * o.2.1 + d.2.1, 2 * o.2.2 + d.2.2)
  | 3 =>
    let x := o.1 - d.1
    let y := o.2.1 - d.2.1
    let z := o.2.2 - d.2.2
    if x % 2 = 0 ∧ y % 2 = 0 ∧ z % 2 = 0 then some (x / 2, y / 2, z / 2) else none
  | _ => some (o.1 + d.1, o.2.1 + d.2.1, o.2.2 + d.2.2)

/-- The output that input `i` makes through offset `d`: REGULAR and DOWN (R399). -/
def outputOf (conv : Nat) (i d : Coord) : Option Coord :=
  let x := i.1 - d.1
  let y := i.2.1 - d.2.1
  let z := i.2.2 - d.2.2
  if conv = 2 then (if x % 2 = 0 ∧ y % 2 = 0 ∧ z % 2 = 0 then some (x / 2, y / 2, z / 2) else none) else some (x, y, z)

/-- The row of a layer's sites at coordinates `c`: a leaf before a level-1 voxel (R399). -/
def lookupRow (sites : List (Nat × Nat × Nat × Nat × Nat)) (c : Coord) : Option Nat :=
  let hits := sites.filter (fun e => coordOf e.2 == c)
  match hits.find? (fun e => e.2.2.2.2 == 0) with
  | some e => some e.1
  | none => hits.head?.map (fun e => e.1)

/-- Site generation so far (R400). -/
structure SiteGen where
  sites : List Coord := []
  truncated : Nat := 0
  cut : Bool := false
  spilled : Bool := false
deriving DecidableEq, Repr

/-- The place of a spilled site in the frame's overflow table: a free slot of its probes, or the one that an earlier run of the job gave
the same site of the same layer (R386, R391, R400). -/
def State.spillPlace (s : State) (j : PumJob) (f x y z : Nat) : Option Nat :=
  (probes (s.ovfBase f) (s.getF Reg.PUM_OVF_LOG2_LOG2) 32 x y z 0).find? (fun a =>
    s.readNat (a + 12) 4 = 0 || (s.readNat a 4 = x && s.readNat (a + 4) 4 = y && s.readNat (a + 8) 4 = z &&
      s.readNat (a + 12) 4 = keyWord 0 && s.readNat (a + 20) 4 = j.outLayer && s.readNat (a + 24) 8 = 0))

/-- A site of OUT_LAYER is generated, unless it exists (R400). -/
def State.generate (s : State) (j : PumJob) (f : Nat) (g : SiteGen) (c : Coord) : SiteGen × State :=
  let l := j.outLayer
  let base := s.getF (Reg.PUM_L_HASH_BASE l) * 64 + s.bank f
  let x := c.1.toNat
  let y := c.2.1.toNat
  let z := c.2.2.toNat
  if c.1 < 0 ∨ c.2.1 < 0 ∨ c.2.2 < 0 ∨ g.sites.contains c then (g, s)
  else if j.word 0x28 ≤ g.sites.length then ({ g with truncated := g.truncated + 1 }, s)
  else
    let lg := s.getF (Reg.PUM_L_CFG_HASH_LOG2 l)
    match (probes base lg 16 x y z 0).find? (fun a => !bit (s.readNat (a + 12) 4) 31) with
    | some a =>
      ({ g with sites := g.sites ++ [c] }, s.jobPut j a (leBytes 4 x ++ leBytes 4 y ++ leBytes 4 z ++ leBytes 4 (2 ^ 31 + g.sites.length)))
    | none => match s.spillPlace j f x y z with
      | some a =>
        ({ g with sites := g.sites ++ [c], spilled := true },
          s.jobPut j a (leBytes 4 x ++ leBytes 4 y ++ leBytes 4 z ++ leBytes 4 (keyWord 0) ++ leBytes 4 g.sites.length ++ leBytes 4 l ++
            List.replicate 8 0))
      | none => ({ g with truncated := g.truncated + 1 }, s)

/-- The sites that one input row generates (R399, R400). -/
def State.generateRow (s : State) (j : PumJob) (f : Nat) (g : SiteGen) (i : Coord) : SiteGen × State :=
  let ks := j.ks
  let cut := g.cut || decide (9 * j.word 0x28 ≤ 10 * g.sites.length)
  let g1 := { g with cut := cut }
  if cut then s.generate j f g1 (if j.conv = 2 then (i.1 / 2, i.2.1 / 2, i.2.2 / 2) else i)
  else (List.range (ks * ks * ks)).foldl (fun (a : SiteGen × State) k =>
    match outputOf j.conv i (kernelOffset ks k) with
    | some o => a.2.generate j f a.1 o
    | none => a) (g1, s)

/-- One chunk of a rulebook: its sites with their LEVEL, and its distinct input rows. -/
structure RuleChunk where
  sites : List (Nat × Nat × Nat × Nat)
  ins : List Nat
deriving DecidableEq, Repr

/-- The input rows of an output site, by offset (R399). -/
def feeds (conv ks : Nat) (sites : List (Nat × Nat × Nat × Nat × Nat)) (c : Coord) : List (Option Nat) :=
  (List.range (ks * ks * ks)).map (fun k =>
    match inputOf conv c (kernelOffset ks k) with
    | some i => lookupRow sites i
    | none => none)

/-- Sites are cut into chunks, in order (R401): the chunks so far, newest first, and the sites truncated. A site that needs
more than IN_MAX rows by itself is truncated. -/
def cutChunks (outMax inMax chunkMax : Nat) (rows : Nat × Nat × Nat × Nat → List Nat) :
    List (Nat × Nat × Nat × Nat) → List RuleChunk → Nat → List RuleChunk × Nat
  | [], acc, t => (acc, t)
  | c :: l, acc, t =>
    let r := (rows c).eraseDups
    if inMax < r.length then cutChunks outMax inMax chunkMax rows l acc (t + 1)
    else match acc with
      | h :: rest =>
        let ins := (h.ins ++ r).eraseDups
        if h.sites.length < outMax ∧ ins.length ≤ inMax then
          cutChunks outMax inMax chunkMax rows l ({ sites := h.sites ++ [c], ins := ins } :: rest) t
        else if acc.length < chunkMax then cutChunks outMax inMax chunkMax rows l ({ sites := [c], ins := r } :: acc) t
        else (acc, t + (l.length + 1))
      | [] => cutChunks outMax inMax chunkMax rows l [{ sites := [c], ins := r }] t

/-- The offset lists of a chunk: for each offset and output position, the position of its input (R402). -/
def offsetLists (conv ks outMax : Nat) (sites : List (Nat × Nat × Nat × Nat × Nat)) (c : RuleChunk) (ins : List Nat) : List Nat :=
  (List.range (ks * ks * ks)).flatMap (fun k => (List.range outMax).map (fun p =>
    match c.sites[p]? with
    | some o => (match inputOf conv (coordOf o) (kernelOffset ks k) with
      | some i => (match lookupRow sites i with | some r => ins.idxOf r | none => 0xFFFFFFFF)
      | none => 0xFFFFFFFF)
    | none => 0xFFFFFFFF))

/-- The entries of an offset list that feed something. -/
def hitCount (l : List Nat) : Nat := (l.filter (fun v => v != 0xFFFFFFFF)).length

/-- RuleChunk `n` of a rulebook is written: `c` is none for an empty one (R402). -/
def State.writeChunk (s : State) (j : PumJob) (sites : List (Nat × Nat × Nat × Nat × Nat)) (n : Nat) (c : Option RuleChunk) :
    Nat × State :=
  let inMax := j.word 0x18
  let x : RuleChunk := c.getD ⟨[], []⟩
  let ins := sortBy (fun a b => decide (a < b)) x.ins
  let lists := offsetLists j.conv j.ks (j.word 0x14) sites x ins
  let hits := hitCount lists
  let idx := ins ++ List.replicate (inMax - ins.length) 0xFFFFFFFF
  (hits, s.put pumicePort (s.jobPart j.ring) (j.addr 0x20 + 64 + n * j.chunkBytes)
    (leBytes 4 n ++ leBytes 4 x.sites.length ++ leBytes 4 ins.length ++ leBytes 4 hits ++ List.replicate 48 0 ++
      (idx ++ lists).flatMap (leBytes 4)))

/-- The rows of OUT_LAYER's keys that a chunk fills; the rest of its OUT_MAX rows are holes (R401). -/
def chunkKeys (outMax : Nat) (c : RuleChunk) : List Byte :=
  padTo (16 * outMax) (c.sites.flatMap (fun o => siteKey o.1 o.2.1 o.2.2.1 o.2.2.2))

/-- The RULEBOOK unit's work (R399–R402). -/
def State.runRulebook (s0 : State) (j : PumJob) (b : PumBuilt) : PumJob × State :=
  let s := s0.inUnit j b
  let f := b.number
  let inL : PumLayer := (b.layer? j.inLayer).getD ⟨0, 0, 0, 0, none⟩
  let sitesOf (x : PumLayer) : List (Nat × Nat × Nat × Nat × Nat) :=
    (List.range x.written).filterMap (fun r => (s.layerSite f x r).map (fun c => (r, c)))
  let inputs := sitesOf inL
  let make := j.conv == 1 || j.conv == 2
  let s0 := if make then s.zeroBytes (s.jobPart j.ring) (s.getF (Reg.PUM_L_HASH_BASE j.outLayer) * 64 + s.bank f)
      (16 * 2 ^ s.getF (Reg.PUM_L_CFG_HASH_LOG2 j.outLayer)) else s
  let (g, s1) := if make then inputs.foldl (fun (a : SiteGen × State) i => a.2.generateRow j f a.1 (coordOf i.2)) ({}, s0)
    else ({}, s0)
  let sites : List (Nat × Nat × Nat × Nat) :=
    if make then g.sites.map (fun c => (c.1.toNat, c.2.1.toNat, c.2.2.toNat, 0))
    else if j.conv = 3 then ((b.layer? j.outLayer).map sitesOf).getD [] |>.map (fun e => e.2)
    else inputs.map (fun e => e.2)
  let key (c : Nat × Nat × Nat × Nat) : List Nat := [morton 32 c.1 c.2.1 c.2.2.1, c.2.2.2]
  let sorted := sortBy (fun x y => sooner (key x) (key y)) sites
  let rowsOf (c : Nat × Nat × Nat × Nat) : List Nat := (feeds j.conv j.ks inputs (coordOf c)).filterMap id
  let (rev, lost) := cutChunks (j.word 0x14) (j.word 0x18) (j.word 0x1C) rowsOf sorted [] 0
  let chunks := rev.reverse
  let s2 := s1.jobPut j (s1.keysBase j.outLayer f) (chunks.flatMap (chunkKeys (j.word 0x14)))
  let (hits, s3) := (List.range (j.word 0x1C)).foldl (fun (a : Nat × State) n =>
    let (h, u) := a.2.writeChunk j inputs n chunks[n]?
    (a.1 + h, u)) (0, s2)
  let trunc := g.truncated + lost
  let head := leBytes 4 f ++ leBytes 4 chunks.length ++ leBytes 4 sorted.length ++ leBytes 4 trunc ++
    leBytes 4 (8 * b2n g.cut + 4 * b2n g.spilled + 2 * b2n (trunc != 0)) ++ leBytes 4 hits ++ List.replicate 36 0
  let s4 := s3.put pumicePort (s3.jobPart j.ring) (j.addr 0x20) (head ++ leBytes 4 (crc32 head))
  let step := if j.conv = 2 then inL.step + 1 else if j.conv = 3 then inL.step - 1 else inL.step
  let old := (b.layer? j.outLayer).bind (fun x => x.downOf)
  let out : PumLayer :=
    { layer := j.outLayer, rows := j.word 0x1C * j.word 0x14, written := chunks.length * j.word 0x14, step := step,
      downOf := if j.conv = 2 then some (j.inLayer, j.ks) else if j.conv = 3 then old else none }
  let s5 := { s4 with pum := { s4.pum with built := s4.pum.built.map (fun x =>
    if x.number = f then { x with layers := out :: x.layers.filter (fun y => y.layer != j.outLayer) } else x) } }
  let s6 := if g.spilled then s5.satInc Reg.PUM_CNT2_SPILLED else s5
  let s7 := if trunc = 0 then s6 else (s6.satInc Reg.PUM_CNT3_TRUNC).satInc Reg.PUM_CNT3_TRUNC_PTS trunc
  (j, s7)

/-! ## Box decoding (R403–R407) -/

/-- Element `i` of an array of a DECODE's format. -/
def State.mapElem (s : State) (j : PumJob) (a i : Nat) : Num :=
  let c := j.bits 0x20 31 28
  let n := fmtBits c / 8
  (decodeElem c (leNat (s.fetch (a + n * i) n))).round.1

/-- The score of a cell of a class (R403). -/
def State.score (s : State) (j : PumJob) (row col c : Nat) : Num :=
  let v := s.mapElem j (j.addr 0x10) ((row * j.bits 0x24 31 16 + col) * (j.bits 0x20 19 16 + 1) + c)
  if bit (j.word 0x20) 27 then (fLimit 0x10 v).1 else v

/-- A candidate: score, cell index, class. -/
structure Candidate where
  score : Num
  cell : Nat
  cls : Nat
deriving DecidableEq, Repr

/-- The candidates of a DECODE, ranked (R403). -/
def State.candidates (s : State) (j : PumJob) : List Candidate :=
  let w := j.bits 0x24 31 16
  let h := j.bits 0x24 15 0
  let thr := fp16.decode (j.bits 0x34 31 16)
  let around (row col : Nat) : List (Nat × Nat) :=
    ((List.range 3).flatMap (fun a => (List.range 3).map (fun b => (row + a, col + b)))).filter (fun p =>
      !(p.1 == row + 1 && p.2 == col + 1) && decide (1 ≤ p.1 ∧ p.1 ≤ h ∧ 1 ≤ p.2 ∧ p.2 ≤ w))
  let take (row col c : Nat) : Option Candidate :=
    let x := s.score j row col c
    if thr.leq x && (!bit (j.word 0x20) 26 || (around row col).all (fun p => (s.score j (p.1 - 1) (p.2 - 1) c).leq x)) then
      some ⟨x, row * w + col, c⟩
    else none
  let all := (List.range h).flatMap (fun row => (List.range w).flatMap (fun col =>
    (List.range (j.bits 0x20 19 16 + 1)).filterMap (take row col)))
  sortBy (fun a b => (b.score.leq a.score && !a.score.leq b.score) ||
    (a.score.leq b.score && b.score.leq a.score && sooner [a.cell, a.cls] [b.cell, b.cls])) all

/-- The box of a candidate: x, y, z, l, w, h, yaw, vx, vy, score, class, cell; none if a component is not finite (R404). -/
def State.boxOf (s : State) (j : PumJob) (c : Candidate) : Option (List Nat) :=
  let w := j.bits 0x24 31 16
  let r (k : Nat) : Num := s.mapElem j (j.addr 0x18) (c.cell * 10 + k)
  let half : Num := .fin false 1 (-1)
  let place (o k : Nat) (e : Num) : Num :=
    (fAdd (f32 (j.word o)) (fMul (fAdd (fAdd (.ofInt k) half).1 e).1 (f32 (j.word 0x30))).1).1
  let angles := [toF32 (r 6), toF32 (r 7)]
  let yaw := match exactAtan2 (r 6) (r 7) with
    | some a => toF32 (openNear Calc.atan2 angles a (-20))
    | none => openWord Calc.atan2 angles 0
  let l := [place 0x28 (c.cell % w) (r 0), place 0x2C (c.cell / w) (r 1), r 2, (fExp 0x0B (r 3)).1, (fExp 0x0B (r 4)).1,
    (fExp 0x0B (r 5)).1, f32 yaw, r 8, r 9]
  if l.all (fun v => v.isFin) then some (l.map toF32 ++ [toF32 c.score, c.cls, c.cell]) else none

/-- Two boxes' centres lie farther apart than half the sum of their diagonals, exactly (R405). -/
def farApart (a b : List Nat) : Bool :=
  let v (l : List Nat) (i : Nat) : Rat := ratOf (l.getD i 0)
  let sq (x : Rat) : Rat := x * x
  let d (l : List Nat) : Rat := sq (v l 3) + sq (v l 4)
  let q := 4 * (sq (v a 0 - v b 0) + sq (v a 1 - v b 1)) - d a - d b
  decide (0 < q) && decide (4 * d a * d b < q * q)

/-- The rotated bird's-eye IoU of two boxes: 0 for boxes far apart, else open, for the fixed order of its clipping is not stated
(R405). -/
def boxIou (a b : List Nat) : Num := if farApart a b then .zero else f32 (openWord Calc.boxIou (a.take 7 ++ b.take 7) 0)

/-- Greedy suppression in candidate order: boxes kept so far, newest first, and boxes dropped (R404, R405). -/
def State.suppress (s : State) (j : PumJob) : List Candidate → List (List Nat) → Nat → List (List Nat) × Nat
  | [], kept, d => (kept.reverse, d)
  | c :: l, kept, d =>
    if 4096 ≤ kept.length then (kept.reverse, d)
    else match s.boxOf j c with
      | none => s.suppress j l kept (d + 1)
      | some b =>
        let same (k : List Nat) : Bool := bit (j.word 0x20) 25 || k.getD 10 0 == c.cls
        let exceed (k : List Nat) : Bool :=
          !((boxIou b k).leq (fp16.decode (j.bits 0x34 15 0)))
        if kept.any (fun k => same k && exceed k) then s.suppress j l kept d else s.suppress j l (b :: kept) d

/-- A box of the box list, 64 bytes. -/
def boxBytes (b : List Nat) : List Byte :=
  padTo 64 ((b.take 10).flatMap (leBytes 4) ++ leBytes 4 (b.getD 10 0) ++ leBytes 4 (b.getD 11 0))

/-- T_PUB of a DECODE (R406). -/
def State.publishTime (s : State) (j : PumJob) (b : PumBuilt) : Nat :=
  if s.onF Reg.PUM_DEC_CFG_PROJECT then (b.tref + j.word 0x38) % 2 ^ 32 else b.tref

/-- The DECODE unit's work up to the box list (R403–R407). -/
def State.runDecode (s0 : State) (j : PumJob) (b : PumBuilt) : PumJob × State :=
  let s := s0.inUnit j b
  let all := s.candidates j
  let (boxes, dropped) := s.suppress j (all.take 65536) [] 0
  let t := s.publishTime j b
  let body := boxes.flatMap boxBytes
  let head := leBytes 4 b.number ++ leBytes 4 b.tref ++ leBytes 4 t ++ leBytes 4 boxes.length ++
    leBytes 4 (b2n (decide (65536 < all.length))) ++ List.replicate 40 0
  let s1 := s.put pumicePort (s.jobPart j.ring) (s.boxList b.number) (head ++ leBytes 4 (crc32 (head ++ body)) ++ body)
  ({ j with due := some t, boxes := boxes }, if dropped = 0 then s1 else s1.satInc Reg.PUM_CNT3_JOB_ERR dropped)

/-- Δt of a DECODE: PROJ_NS in seconds (R406). -/
def PumJob.ahead (j : PumJob) : Num := seconds (j.word 0x38)

/-- A box carried to T_PUB: x, y, z, yaw, vx, vy. Its position advances by its velocity; then it is expressed in the working frame by the
pose at T_REF and in the body frame by the pose at T_PUB, steps whose operation order is not stated (R406). -/
def State.projectBox (s : State) (j : PumJob) (b : PumBuilt) (t : Nat) (x : List Nat) : List Nat :=
  let plain := [x.getD 0 0, x.getD 1 0, x.getD 2 0, x.getD 6 0, x.getD 7 0, x.getD 8 0]
  if !s.onF Reg.PUM_DEC_CFG_PROJECT then plain
  else
    let on (i k : Nat) : Nat := toF32 (fAdd (f32 (x.getD i 0)) (fMul (f32 (x.getD k 0)) j.ahead).1).1
    let then_ := match s.pum.egos.head? with | some e => poseWords e t | none => calcs Calc.poseAt [t] 9
    calcs Calc.boxFromWorking (then_ ++
      calcs Calc.boxToWorking (poseAt s.pum.egos b.tref ++ [on 0 7, on 1 8] ++ plain.drop 2) 6) 6

/-- The variances of a box record, FP32 words (R406, R407). -/
def State.boxVariances (s : State) (j : PumJob) : List Nat :=
  let v (f : Fld) : Num := fp16.decode (s.getF f)
  let dt := j.ahead
  let grown (x r : Num) : Num :=
    if s.onF Reg.PUM_DEC_CFG_PROJECT then (fAdd x (fMul r (fMul dt dt).1).1).1 else x
  let vx := v Reg.PUM_DEC_VAR2_VVAR_X
  let vy := v Reg.PUM_DEC_VAR2_VVAR_Y
  [grown (v Reg.PUM_DEC_VAR0_VAR_X) vx, grown (v Reg.PUM_DEC_VAR0_VAR_Y) vy, v Reg.PUM_DEC_VAR1_VAR_Z,
   v Reg.PUM_DEC_VAR1_VAR_YAW, vx, vy].map toF32

/-- The Agate record of a box (R349, R407). -/
def State.boxRecord (s : State) (j : PumJob) (b : PumBuilt) (t : Nat) (x : List Nat) : List Byte :=
  let score := match (f32 (x.getD 9 0)).mul (.ofInt 65535) with
    | (.fin n m e, _) => (max 0 (min 65535 (roundInt 0 n m e))).toNat
    | (.inf false, _) => 65535
    | _ => 0
  let hdr := 2 ^ 28 + s.getF Reg.PUM_DEC_CFG_OUT_CLASS * 2 ^ 20 + 5 * 2 ^ 16 + 3 * 2 ^ 8 + s.getF Reg.PUM_DEC_CFG_OUT_SENSOR
  let word (l : List Nat) : List Byte := l.flatMap (leBytes 4)
  let body := word [hdr, b.number, t, 0, 0, 0, 0, 0] ++ word (s.projectBox j b t x ++ [0, 0]) ++
    word (s.boxVariances j ++ [0, 0]) ++ word [x.getD 3 0, x.getD 4 0, x.getD 5 0] ++ leBytes 2 score ++
    leBytes 2 (x.getD 10 0) ++ List.replicate 12 0
  body ++ leBytes 4 (crc32 body)

/-- TB3 has reached T_PUB of the decode in the unit: one record a box goes to Agate (R407). -/
def State.publish (s : State) : State :=
  match s.pum.jobs.findIdx? (fun j => j.due.any (fun t => !older s.tb3 t)) with
  | none => s
  | some i =>
    match s.pum.jobs[i]? with
    | none => s
    | some j =>
      let b : PumBuilt := (s.builtOf j).getD ⟨j.frame, 0, []⟩
      let s1 := j.boxes.foldl (fun u x => (u.agtInsert 17 (s.boxRecord j b (j.due.getD 0) x)).2) s
      s1.setJobs (s1.pum.jobs.set i { j with due := none })

/-! ## Ring enable, start and stop (R394, R409) -/

/-- PUM_J_CFG: setting EN samples PUT0. -/
def State.wrJobCfg (s : State) (r v : Nat) : State :=
  let was := s.onF (Reg.PUM_J_CFG_EN r)
  let s1 := s.applyWord (Reg.PUM_J_CFG r) v
  if was || !s1.onF (Reg.PUM_J_CFG_EN r) then s1
  else (s1.setJobRing r { put0 := s1.syncValue (s1.getF (Reg.PUM_J_CFG_PUT_OBJ r)), taken := 0 }).putF (Reg.PUM_J_STAT_TAKEN r) 0

/-- Pumice's start checks its bases and that each bank fits within BANK_STRIDE (R409). -/
def State.pumiceStartOk (s : State) : Bool :=
  let stride := s.getF Reg.PUM_BANK_STRIDE * 2 ^ 20
  let two (a n : Nat) : Bool := s.localBase a n && s.localBase (a + stride) n && decide (n ≤ stride)
  s.localBase (s.getF Reg.PUM_PS_BASE_BASE * 64) (16 * s.psCap) &&
  two (s.getF Reg.PUM_NODE_BASE_BASE * 4096) (32 * 2 ^ s.getF Reg.PUM_NODE_LOG2_LOG2) &&
  two (s.getF Reg.PUM_OVF_BASE_BASE * 4096) (32 * 2 ^ s.getF Reg.PUM_OVF_LOG2_LOG2) &&
  two (s.getF Reg.PUM_VOX_BASE_BASE * 2 ^ 21) (2 ^ 26 + 64) &&
  (!s.onF Reg.PUM_OCC_CFG_OCC_EN || s.localBase (s.getF Reg.PUM_OCC_BASE_BASE * 2 ^ 21) (2 ^ 26))

/-- Pumice stops: every taken job is signalled as taken, and its stores are cleared (R409). -/
def State.pumiceStopped (s : State) : State :=
  let s1 := s.pum.jobs.foldl (fun u j => u.signal pumicePort (u.getF (Reg.PUM_J_OBJ_TAKE_OBJ j.ring)) 1) s
  { s1 with pum := { s1.pum with head := 0, sweeps := [], egos := [], frames := [], building := none, nextFrame := 0,
                                 leadLate := false, built := [], jobs := [] } }

/-! ## Commands -/

/-- JOB_TAKE (R394). -/
def execJobTake (ring : Nat) (s : State) : Host.Outcome State Fault Refusal :=
  whenLive (fun s => s.guard (decide (ring < 4)) (fun s => s.takeJob ring)) s

/-- QUERY (R397): `job` counts the taken jobs that have not completed, from 0. -/
def execQuery (job : Nat) (s : State) : Host.Outcome State Fault Refusal :=
  whenLive (fun s => s.runJob job 1 State.runQuery) s

/-- RULEBOOK (R400). -/
def execRulebook (job : Nat) (s : State) : Host.Outcome State Fault Refusal :=
  whenLive (fun s => s.runJob job 2 State.runRulebook) s

/-- DECODE (R403). -/
def execDecode (job : Nat) (s : State) : Host.Outcome State Fault Refusal :=
  whenLive (fun s => s.runJob job 3 State.runDecode) s

/-- JOB_COMPLETE (R396). -/
def execJobComplete (job : Nat) (s : State) : Host.Outcome State Fault Refusal := whenLive (fun s => s.completeJob job) s

/-- DECODE_PUBLISH (R407). -/
def execDecodePublish (s : State) : Host.Outcome State Fault Refusal := whenLive (fun s => s.publish) s

/-- JOB_RING_ENABLE: the configuration word is written with EN = 1 (R394). -/
def execJobRingEnable (req : Requester) (ring cfg : Nat) (s : State) : Host.Outcome State Fault Refusal :=
  let v := setBits (cfg % 2 ^ 32) 31 31 1
  whenLive (fun s => s.guard (decide (ring < 4)) (fun s => s.access req (Reg.PUM_J_CFG ring) v (fun t => t.wrJobCfg ring v))) s

end Sys2Proof.Machine
end

