-- ==== Sys2Proof/Machine/Slate.lean ====
section
/-! DEFINITION. Slate (chapter 14): the static tree built from Pumice's occupancy images (R414, R415), object entries and bins
(R417–R419), keep-out boxes (R420), and the publication of snapshots (R421). -/

namespace Sys2Proof.Machine

namespace Calc
def intoWorking : Nat := 30
end Calc

/-! ## Agate snapshots (R373) -/

/-- The partition of Slate's accesses (R266). -/
def State.sltPart (s : State) : Nat := s.owner 0x4C0

/-- The bytes of the newest Agate snapshot committed, if there is one that Slate may read (R44, R266, R411). A restart of Agate
leaves it. -/
def State.agateSnapshot (s : State) : Option (List Byte) :=
  match s.agt.committed with
  | none => none
  | some a =>
    let n := 0x104 + 64 * min 4096 (leNat (s.fetch (a + 0x10) 4))
    if s.memOk s.sltPart a n false then some (s.fetch a n) else none

/-- The requests that reading the newest Agate snapshot makes. -/
def State.snapshotTraffic (s : State) (d : List Byte) : State :=
  match s.agt.committed with
  | some a => s.traffic flintPort s.sltPart false a d.length
  | none => s

/-- A writer of Slate's store is granted it: the static builder 0, the object inserter 1, the keep-out loader 2 (R195, R420). -/
def State.sltGrant (s : State) (writer : Nat) : State := s.granted (.slateBank 0) writer

/-- The track summaries of a snapshot. -/
def snapTracks (d : List Byte) : List (List Byte) :=
  (List.range (min 4096 (leField d 0x10 4))).map (fun i => (d.drop (0x100 + 64 * i)).take 64)

/-- A track's number. -/
def sumTrack (t : List Byte) : Nat := leField t 0 2 % 4096

/-- The ego position x, y of a snapshot. -/
def snapEgo (d : List Byte) : List Num := (wordsOf d 0x40 2).map f32

/-- The square of a horizontal distance, exact. -/
def horizontal (x y : Num) (e : List Num) : Num :=
  let dx := (x.add (e.getD 0 .nan).opp).1
  let dy := (y.add (e.getD 1 .nan).opp).1
  ((dx.mul dx).1.add (dy.mul dy).1).1

/-- A horizontal distance is within RANGE of the ego position (R412). -/
def State.inRange (s : State) (x y : Num) (e : List Num) : Bool :=
  let r := f32 (s.getF Reg.SLT_RANGE_RANGE)
  (horizontal x y e).leq (r.mul r).1

/-! ## The static tree (R413–R415) -/

/-- The slots that a key probes (R386, R413: NODE_LOG2 = 20). -/
def sltProbes (x y z level : Nat) : List Nat := (List.range 32).map (fun j => (siteHash 20 x y z level + j) % 2 ^ 20)

/-- The slot of a key: (found, slot), or none where it neither is there nor fits. -/
def SltTree.slot (t : SltTree) (x y z level : Nat) : Option (Bool × Nat) :=
  (sltProbes x y z level).findSome? (fun k =>
    match Sparse.get (fun _ => none) t.nodes k with
    | none => some (false, k)
    | some n => if n.x = x ∧ n.y = y ∧ n.z = z ∧ n.level = level then some (true, k) else none)

/-- The tree with the node in a slot replaced. -/
def SltTree.setNode (t : SltTree) (k : Nat) (n : SltNode) : SltTree := { t with nodes := Sparse.set (fun _ => none) t.nodes k (some n) }

/-- A coordinate's 32-bit pattern shifted to a higher level. -/
def upLevel (v k : Nat) : Nat := toBits 32 (signed 32 v / 2 ^ k)

/-- The nodes from `level` up to TOP exist, each with its CHILD bit; none where a key does not fit (R414, R415). `n` levels
remain, `child` is the bit of the node below. -/
def SltTree.addUp (t : SltTree) (x y z level : Nat) (occ : Bool) (child : Option Nat) : Nat → Option SltTree
  | 0 => some t
  | n + 1 =>
    match t.slot x y z level with
    | none => none
    | some (found, k) =>
      let old : SltNode := if found then (Sparse.get (fun _ => none) t.nodes k).getD {} else { x := x, y := y, z := z, level := level }
      let node : SltNode := { old with occ := old.occ || occ, child := old.child ||| (match child with | some c => 2 ^ c | none => 0) }
      let t1 := { t.setNode k node with count := if found then t.count else t.count + 1 }
      t1.addUp (upLevel x 1) (upLevel y 1) (upLevel z 1) (level + 1) false (some (x % 2 + 2 * (y % 2) + 4 * (z % 2))) n

/-- The centre of an image's voxel along an axis, in the frame of the image: GRID + (coordinate + 0.5) × leaf × 2^LEVEL, an FP32 word.
`key` is as imageKeys gives it (R414). -/
def keyCentre (key : List Nat) (axis : Nat) : Nat :=
  let half : Num := .fin false 1 (-1)
  let leaf := fd (.ofInt (key.getD 4 0)) (.ofInt 100)
  toF32 (fa (f32 (key.getD (5 + axis) 0))
    (fm ((fa (.ofInt (key.getD axis 0)) half).scale (bits (key.getD 3 0) 30 26)) leaf))

/-- The Slate leaf that holds a coordinate in m, an FP32 word: floor(x / LEAF), a 32-bit pattern (R412). -/
def State.sltLeaf (s : State) (w : Nat) : Nat := toBits 32 (ratOf w * 100 / (s.getF Reg.SLT_CFG_LEAF_CM : Rat)).floor

/-- A key of an image, with its image's words, sets OCC on its leaf, or on a level-1 node once the bank is nearly full. How the pose
maps a centre into the working frame is open but for what it reads (R414, R415). -/
def State.addKey (s : State) (ego : List Num) (t : SltTree) (key : List Nat) : Option SltTree :=
  let cm := s.getF Reg.SLT_CFG_LEAF_CM
  let l := (calcs Calc.intoWorking ((key.drop 8).take 6 ++ (List.range 3).map (keyCentre key)) 3).map s.sltLeaf
  let x := l.getD 0 0
  let y := l.getD 1 0
  let z := l.getD 2 0
  let centre (v : Nat) : Num := (divWide (.ofInt ((2 * signed 32 v + 1) * cm)) (.ofInt 200)).1
  let low := if 943718 ≤ t.count then 1 else 0
  if !s.inRange (centre x) (centre y) ego then some t
  else t.addUp (upLevel x low) (upLevel y low) (upLevel z low) low true none (s.getF Reg.SLT_CFG_TOP + 1 - low)

/-- The address of the occupancy image of frame `f` (R392). -/
def State.imageAt (s : State) (f : Nat) : Nat := s.getF Reg.PUM_OCC_BASE_BASE * 2 ^ 21 + f % 2 * 2 ^ 25

/-- The header and keys of an image. -/
def State.image (s : State) (f : Nat) : List Byte :=
  let a := s.imageAt f
  s.fetch a (0x40 + 16 * min 1048576 (leNat (s.fetch (a + 8) 4)))

/-- An image has a correct CRC (R392). -/
def occImageGood (d : List Byte) : Bool := leField d 0x3C 4 == crc32 (d.take 0x3C ++ d.drop 0x40)

/-- Frame `f`'s image has a correct CRC, and Slate may read it: one that its regions refuse counts as one whose CRC is wrong. -/
def State.occGood (s : State) (f : Nat) : Bool :=
  let d := s.image f
  s.memOk s.sltPart (s.imageAt f) d.length false && occImageGood d

/-- The frames whose completed occupancy images Pumice holds, newest first (R392, R414). -/
def State.images (s : State) : List PumBuilt := if s.onF Reg.PUM_OCC_CFG_OCC_EN then s.pum.built else []

/-- A frame's image is recent enough for an Agate snapshot (R414). -/
def State.imageFresh (s : State) (snap : List Byte) (b : PumBuilt) : Bool :=
  let c := leField snap 4 4
  !older b.tref c || decide (ageOf c b.tref ≤ s.getF Reg.SLT_AGE_STATIC_AGE * 1000000)

/-- The keys of an image in image order, each with the words of its image that place it: origin, leaf edge, pose (R414). -/
def imageKeys (d : List Byte) : List (List Nat) :=
  let head := bits (leField d 0x0C 4) 15 8 :: wordsOf d 0x10 9
  (List.range (leField d 8 4)).map (fun i => wordsOf d (0x40 + 16 * i) 4 ++ head)

/-- The keys that the builder inserts in one window: 16 in a hub cycle from Φ 250 to Φ 395 (R414). -/
def buildBudget : Nat := 16 * 145000

/-- Keys are inserted in order; none where one does not fit. -/
def State.addKeys (s : State) (ego : List Num) (t : SltTree) : List (List Nat) → Option SltTree
  | [] => some t
  | k :: l => match s.addKey ego t k with
    | some u => s.addKeys ego u l
    | none => none

/-- A static build step: it begins a build where a newer image is held, and inserts this window's keys (R414, R415). -/
def State.staticStep (s : State) (snap : List Byte) : State :=
  let good : List PumBuilt := s.images.filter (fun b => s.imageFresh snap b && s.occGood b.number)
  let s0 := { s with slt := { s.slt with stale := good.isEmpty } }
  let newer := s.images.any (fun b => match s.slt.active.newest with | some t => older t b.tref | none => true)
  let taken : List PumBuilt := good.take (s.getF Reg.SLT_CFG_STATIC_N)
  let bad := (s.images.filter (fun b => !s.occGood b.number)).length
  let s1 := match s0.slt.build with
    | some _ => s0
    | none =>
      if !newer then s0
      else
        let u := if bad = 0 then s0 else s0.satInc Reg.SLT_CNT0_IMG_BAD bad
        let w := taken.foldl (fun (t : State) (b : PumBuilt) =>
          t.traffic flintPort s.sltPart false (s.imageAt b.number) (s.image b.number).length) u
        if taken.isEmpty then u
        else { w with slt := { w.slt with build := some { todo := taken.flatMap (fun (b : PumBuilt) => imageKeys (s.image b.number)),
                                                           tree := { newest := taken.head?.map (fun (b : PumBuilt) => b.tref) }, complete := false } } }
  match s1.slt.build with
  | none => s1
  | some b =>
    if b.complete then s1
    else match (s1.sltGrant 0).addKeys (snapEgo snap) b.tree (b.todo.take buildBudget) with
      | none =>
        let u := { s1.sltGrant 0 with slt := { s1.slt with build := none, full := true } }
        (u.satInc Reg.SLT_CNT0_STATIC_FULL).raise FS.SLT_FULL
      | some t =>
        let rest := b.todo.drop buildBudget
        let b1 : SltBuild := { todo := rest, tree := t, complete := rest.isEmpty }
        let u := { s1.sltGrant 0 with slt := { s1.slt with build := some b1, full := if rest.isEmpty then false else s1.slt.full } }
        if rest.isEmpty then u.wrapInc Reg.SLT_CNT1_REBUILDS else u

/-! ## Objects (R417–R419) -/

/-- Object bank `b`. -/
def State.sltBank (s : State) (b : Nat) : SltBank := Sparse.get (fun _ => {}) s.slt.banks b

/-- The state with object bank `b` replaced. -/
def State.setSltBank (s : State) (b : Nat) (x : SltBank) : State :=
  { s with slt := { s.slt with banks := Sparse.set (fun _ => {}) s.slt.banks b x } }

/-- Half of a value. -/
def halved (x : Num) : Num := x.scale (-1)

/-- The length of the vector (a, b). -/
def hypotenuse (a b : Num) : Num := fRoot (fa (fm a a) (fm b b))

/-- The cosine and the sine of a track's yaw. -/
def yawCos (w : Nat) : Num := (fTrig 0x13 (f32 w)).1
def yawSin (w : Nat) : Num := (fTrig 0x12 (f32 w)).1

/-- The uncertainty margin m_k of a track in slice `k` (R417). -/
def State.objectMargin (s : State) (t : List Byte) (k : Nat) : Num :=
  let v (o : Nat) : Num := f32 (leField t o 4)
  let ksig := f32 (s.getF Reg.SLT_KSIG_KSIG)
  let tenth := fd (.ofInt 1) (.ofInt 10)
  fa (fa (fm ksig (hypotenuse (v 0x2C) (v 0x30))) (halved (fm (fm ksig (v 0x34)) (hypotenuse (v 0x20) (v 0x24)))))
    (fm (fm (f32 (s.getF Reg.SLT_GROW_GROW)) tenth) (.ofInt (k + 1)))

/-- The entry of a track in slice `k`, eight words: centre, z range, half-length, half-width, yaw, and its number (R417). FP32 in the
order in which the rule is written. -/
def State.objectEntry (s : State) (t : List Byte) (k : Nat) : List Nat :=
  let v (o : Nat) : Num := f32 (leField t o 4)
  let tenth := fd (.ofInt 1) (.ofInt 10)
  let on (p w : Num) : Num := fa p (fm (fm w tenth) (.fin false (2 * k + 1) (-1)))
  let yaw := leField t 0x1C 4
  let along := fa (fm (v 0x14) (yawCos yaw)) (fm (v 0x18) (yawSin yaw))
  let across := fs (fm (v 0x18) (yawCos yaw)) (fm (v 0x14) (yawSin yaw))
  let half (size speed : Num) : Num := fa (fa (halved size) (fm speed.abs (fd (.ofInt 1) (.ofInt 20)))) (s.objectMargin t k)
  [on (v 0x08) (v 0x14), on (v 0x0C) (v 0x18), fs (v 0x10) (halved (v 0x28)), fa (v 0x10) (halved (v 0x28)),
    half (v 0x20) along, half (v 0x24) across].map toF32 ++ [yaw, 2 ^ 31 + sumTrack t]

/-- The bin of a cell (R418). -/
def binOf (cx cy : Nat) : Nat := ((cx * 0x9E3779B1 % 2 ^ 32) ^^^ (cy * 0x85EBCA77 % 2 ^ 32)) / 2 ^ 21

/-- The half extent of an entry's bounding rectangle along x (0) or y (1), exact from its words. -/
def entryReach (e : List Nat) (axis : Nat) : Rat :=
  let v (i : Nat) : Rat := ratOf (e.getD i 0)
  let c := ratOf (toF32 (yawCos (e.getD 6 0)))
  let n := ratOf (toF32 (yawSin (e.getD 6 0)))
  let size (x : Rat) : Rat := if x < 0 then -x else x
  if axis = 0 then size (c * v 4) + size (n * v 5) else size (n * v 4) + size (c * v 5)

/-- The bins whose cells, squares of BIN, meet the entry's bounding rectangle (R418). -/
def State.objectBins (s : State) (e : List Nat) : List Nat :=
  let cell (x : Rat) : Int := (x * 10 / (s.getF Reg.SLT_CFG_BIN_DM : Rat)).floor
  let span (i : Nat) : List Nat :=
    let lo := cell (ratOf (e.getD i 0) - entryReach e i)
    let hi := cell (ratOf (e.getD i 0) + entryReach e i)
    (List.range (hi - lo + 1).toNat).map (fun (k : Nat) => toBits 32 (lo + (k : Int)))
  ((span 0).flatMap (fun x => (span 1).map (fun y => binOf x y))).eraseDups

/-- A bin of a slice. -/
def SltBank.bin (b : SltBank) (i : Nat) : SltBin := Sparse.get (fun _ => []) b.bins i

/-- A reference enters a bin; a full bin becomes BLOCKED. Answers whether it found the bin full (R418). -/
def SltBank.addRef (b : SltBank) (i n : Nat) : Bool × SltBank :=
  let l := b.bin i
  let put (x : SltBin) : SltBank := { b with bins := Sparse.set (fun _ => []) b.bins i x }
  if l.length < 8 then (false, put (l ++ [(n, false)]))
  else (true, put (l.take 7 ++ (l.drop 7).map (fun r => (r.1, true))))

/-- Entries, references and copy of track `n` leave the bank. -/
def SltBank.clearTrack (b : SltBank) (n : Nat) : SltBank :=
  { entries := b.entries.filter (fun e => e.1 % 4096 != n),
    bins := b.bins.filterMap (fun e =>
      let l := e.2.filter (fun r => r.1 != n)
      if l.isEmpty then none else some (e.1, l)),
    copies := Sparse.set (fun _ => []) b.copies n [] }

/-- The references that track `n` has in slice `k`. -/
def SltBank.refs (b : SltBank) (k n : Nat) : Nat :=
  (b.bins.filter (fun e => e.1 / 2048 == k && e.2.any (fun r => r.1 == n))).length

/-- Unit cycles to rewrite a track: for each slice a quarter of its old and new references, at least one (R419). -/
def State.trackCost (s : State) (b : SltBank) (n : Nat) (t : Option (List Byte)) : Nat :=
  ((List.range 80).map (fun k =>
    let fresh := match t with | some d => (s.objectBins (s.objectEntry d k)).length | none => 0
    max 1 (ceilDiv (b.refs k n + fresh) 4))).sum

/-- A track of the snapshot is inserted into the bank (R417–R419); answers the bins found full. -/
def State.insertTrack (s : State) (b : SltBank) (t : List Byte) : Nat × SltBank :=
  let n := sumTrack t
  (List.range 80).foldl (fun (a : Nat × SltBank) k =>
    let e := s.objectEntry t k
    let b1 := { a.2 with entries := Sparse.set (fun _ => []) a.2.entries (k * 4096 + n) e }
    (s.objectBins e).foldl (fun (c : Nat × SltBank) i =>
      let (full, b2) := c.2.addRef (k * 2048 + i) n
      (c.1 + b2n full, b2)) (a.1, b1)) (0, { b.clearTrack n with copies := Sparse.set (fun _ => []) b.copies n t })

/-- What the inserter has to do in this frame: tracks whose summary differs from the bank's copy, and tracks that have left,
nearest first (R419). -/
def State.insertWork (s : State) (b : SltBank) (snap : List Byte) : List (Nat × Option (List Byte)) :=
  let ego := snapEgo snap
  let pos (t : List Byte) : Num := horizontal (f32 (leField t 8 4)) (f32 (leField t 0x0C 4)) ego
  let near (t : List Byte) : Bool := s.inRange (f32 (leField t 8 4)) (f32 (leField t 0x0C 4)) ego
  let now := (snapTracks snap).filter near
  let gone := b.copies.filter (fun c => !(now.any (fun t => sumTrack t == c.1)))
  let changed := now.filter (fun t => Sparse.get (fun _ => []) b.copies (sumTrack t) != t)
  let work := changed.map (fun t => (sumTrack t, some t, pos t)) ++ gone.map (fun c => (c.1, none, pos c.2))
  (sortBy (fun x y => (x.2.2.leq y.2.2 && !y.2.2.leq x.2.2) || (x.2.2.leq y.2.2 && decide (x.1 < y.1))) work).map
    (fun w => (w.1, w.2.1))

/-- Unit cycles of the four inserter units from Φ 250 to Φ 395 (R419). -/
def insertBudget : Nat := 4 * 145000

/-- The inserter works through its tracks while its budget lasts; the rest are left. -/
def State.insertTracks (s : State) (bank budget : Nat) : List (Nat × Option (List Byte)) → State
  | [] => s
  | w :: l =>
    let b := s.sltBank bank
    let cost := s.trackCost b w.1 w.2
    if budget < cost then { s with slt := { s.slt with left := (w :: l).map (fun v => v.1) } }
    else
      let (full, b1) := match w.2 with | some t => s.insertTrack b t | none => (0, b.clearTrack w.1)
      let s1 := (s.sltGrant 1).setSltBank bank b1
      (if full = 0 then s1 else s1.satInc Reg.SLT_CNT0_BIN_FULL full).insertTracks bank (budget - cost) l

/-! ## Keep-out boxes (R420) -/

/-- A bank of entries with its header at 0x2000: the listed entries of eight words, if its CRC holds and all are valid
(R420, R423). -/
def listedBank (d : List Byte) (lo hi : Nat) : Option (List (List Nat)) :=
  let n := leField d 0x2000 2
  let es := (List.range n).map (fun i => wordsOf d (32 * i) 8)
  if lo ≤ n ∧ n ≤ hi ∧ leField d 0x203C 4 = crc32 (d.take (32 * n) ++ (d.drop 0x2000).take 0x3C) ∧
      es.all (fun e => bit (e.getD 7 0) 31) then some es
  else none

/-- A pending keep-out swap is carried out at Φ 250; a bank that Slate may not read is refused. -/
def State.swapKeepOut (s : State) : State :=
  if !s.onF Reg.SLT_STAT_KO_PENDING then s
  else
    let s1 := s.putF Reg.SLT_STAT_KO_PENDING 0
    let a := s.getF Reg.SLT_KO_BASE_BASE * 2 ^ 15 + s.slt.wantBank * 16384
    let ok := s.memOk s.sltPart a 0x2040 false
    match if ok then listedBank (s.fetch a 0x2040) 0 256 else none with
    | some es =>
      let s2 := (s1.traffic flintPort s.sltPart false a 0x2040).sltGrant 2
      ({ s2 with slt := { s2.slt with keepOut := es } }).putF Reg.SLT_STAT_KO_REFUSED 0
    | none => ((s1.trafficIf ok flintPort s.sltPart false a 0x2040).putF Reg.SLT_STAT_KO_REFUSED 1).raiseNote FS.SLT_CFG

/-- SLT_KO_CTRL. -/
def State.wrKeepOut (s : State) (v : Nat) : State :=
  if bit v 1 then ({ s with slt := { s.slt with wantBank := v % 2 } }).putF Reg.SLT_STAT_KO_PENDING 1 else s

/-! ## The frame (R419, R421) -/

/-- Φ 250: Slate takes the newest Agate snapshot, steps its static build and inserts objects. -/
def State.slateUpdate (s : State) : State :=
  if !s.isRunning 0x4C0 then s
  else
    let s1 := s.swapKeepOut
    match s1.agateSnapshot with
    | none => s1
    | some d =>
      let s2 := (s1.snapshotTraffic d).staticStep d
      let bank := s2.frameNo % 2
      let s3 := { s2 with slt := { s2.slt with work := some d, left := [], truncated := false } }
      s3.insertTracks bank insertBudget (s3.insertWork (s3.sltBank bank) d)

/-- Φ 395: tracks not reached are cleared for this snapshot (R419). -/
def State.insertCutoff (s : State) : State :=
  if s.slt.work.isNone || s.slt.left.isEmpty then s
  else
    let bank := s.frameNo % 2
    let b := s.slt.left.foldl (fun b n => b.clearTrack n) (s.sltBank bank)
    let s1 := s.setSltBank bank b
    (({ s1 with slt := { s1.slt with left := [], truncated := true } }).satInc Reg.SLT_CNT1_OBJ_TRUNC).raise FS.SLT_FULL

/-- Φ 400: S(n) is published (R421); a stop under way completes without publishing (R441). -/
def State.slatePublish (s : State) : State :=
  let s := { s.insertCutoff with slt := { s.insertCutoff.slt with ended := true } }
  match s.isRunning 0x4C0, s.slt.work with
  | true, some d =>
    let n := s.frameNo
    let ready := s.slt.build.any (fun b => b.complete)
    let s1 := match s.slt.build with
      | some b => if b.complete then
          (({ s with slt := { s.slt with active := b.tree, build := none } }).putF Reg.SLT_STAT_STATIC_BANK
            (1 - s.getF Reg.SLT_STAT_STATIC_BANK)).putF Reg.SLT_STAT_NODES b.tree.count
        else s
      | none => s
    let epoch := leField d 0 4
    let late := epoch != n || bit (leField d 0x0C 4) 1
    let stale := s1.slt.stale || (s1.slt.full && !ready)
    let snap : SltSnap := { id := n, epoch := epoch, late := late, time := leField d 8 4, agate := d, tree := s1.slt.active,
                            bank := s1.sltBank (n % 2), keepOut := s1.slt.keepOut }
    let s2 := { s1 with slt := { s1.slt with work := none, published := some snap } }
    let s3 := ((((s2.putF Reg.SLT_SNAP_SLATE_ID n).putF Reg.SLT_SNAP_EPOCH_EPOCH epoch).putF Reg.SLT_STAT_STATIC_STALE (b2n stale)).putF
      Reg.SLT_STAT_AGATE_LATE (b2n late)).putF Reg.SLT_STAT_OBJ_TRUNC (b2n s2.slt.truncated)
    (if stale || s2.slt.truncated then s3.irq 0x4C0 1 else s3).kick 1
  | _, _ => s

/-! ## Start and stop (R441) -/

/-- Slate's start checks its base. -/
def State.slateStartOk (s : State) : Bool := s.localBase (s.getF Reg.SLT_KO_BASE_BASE * 2 ^ 15) (2 ^ 15)

/-- Slate begins empty. -/
def State.slateStarted (s : State) : State :=
  let s1 := { s with slt := { s.slt with active := {}, build := none, banks := [], keepOut := [], work := none, left := [],
                                         truncated := false, stale := false, full := false } }
  s1.putF Reg.SLT_STAT_NODES 0

/-- Slate's stop waits for the next Φ 400. -/
def State.slateStop (s : State) : State := { s with slt := { s.slt with ended := false } }

/-- Slate has stopped: a snapshot in work is not published. -/
def State.slateStopped (s : State) : State := { s with slt := { s.slt with work := none, left := [] } }

/-! ## Commands -/

/-- SLATE_UPDATE (R419). -/
def execSlateUpdate (s : State) : Host.Outcome State Fault Refusal := whenLive (fun s => s.slateUpdate) s

/-- KEEP_OUT_SWAP_REQUEST (R420). -/
def execKeepOutSwapRequest (req : Requester) (bank : Nat) (s : State) : Host.Outcome State Fault Refusal :=
  let v := 2 + bank % 2
  whenLive (fun s => s.access req Reg.SLT_KO_CTRL v (fun t => t.wrKeepOut v)) s

/-- SLATE_INSERT_CUTOFF (R419). -/
def execSlateInsertCutoff (s : State) : Host.Outcome State Fault Refusal := whenLive (fun s => s.insertCutoff) s

/-- SLATE_PUBLISH (R421). -/
def execSlatePublish (s : State) : Host.Outcome State Fault Refusal := whenLive (fun s => s.slatePublish) s

end Sys2Proof.Machine
end

