-- ==== Sys2Proof/Machine/Flint.lean ====
section
/-! DEFINITION. Flint (chapters 02 and 14): trajectories (R422), swaps of the reference path and seeds (R423, R424), the
optimiser (R425–R430), collision checks (R431, R432), the commit check and its fallbacks (R433–R435), the standby lease
(R436–R439), and the world-and-plan record (R51–R54). The optimiser's and the checker's arithmetic has a fixed order that
spec/ does not state: their results are open functions of what they depend on. -/

namespace Sys2Proof.Machine

namespace Calc
def interp : Nat := 40
def egoPredict : Nat := 41
def rolled : Nat := 42
def sweep : Nat := 43
def meets : Nat := 44
def mrt : Nat := 45
def shoulderSpan : Nat := 46
def clearance : Nat := 47
def noPath : Nat := 48
end Calc

/-! ## Trajectories (R422) -/

/-- 62.5 ms in ns. -/
def knotNs : Nat := 62500000

/-- Knot `j` of a trajectory's words. -/
def knot (w : List Nat) (j : Nat) : List Nat := (w.drop (8 * j)).take 8

/-- A point between two knots, `t` ns after the first: every field linear in time, rounded once; the flags are the first knot's (R422). -/
def between (a b : List Nat) (t : Nat) : List Nat :=
  let field (i : Nat) : Nat :=
    let x := a.getD i 0
    let y := b.getD i 0
    if finiteWord x && finiteWord y then ratF32 (ratOf x + (ratOf y - ratOf x) * mkRat t knotNs) else openWord Calc.interp [x, y, t] 0
  (List.range 7).map field ++ [a.getD 7 0]

/-- A trajectory `d` ns after its T0: knots at their times, the ends held, linear interpolation in between (R422, R450). -/
def trajAt (w : List Nat) (d : Int) : List Nat :=
  if d ≤ 0 then knot w 0
  else
    let n := d.toNat
    if 127 * knotNs ≤ n then knot w 127
    else if n % knotNs = 0 then knot w (n / knotNs)
    else between (knot w (n / knotNs)) (knot w (n / knotNs + 1)) (n % knotNs)

/-- The signed time from `a` to `b`, both modulo 2^32 (R346). -/
def timeTo (a b : Nat) : Int := signed 32 (toBits 32 ((b : Int) - a))

/-- A trajectory read from `t0` on, as 128 knots from there. -/
def Traj.from_ (x : Traj) (t0 : Nat) : List Nat :=
  (List.range 128).flatMap (fun j => trajAt x.knots (timeTo x.t0 t0 + (knotNs * j : Nat)))

/-! ## Swaps (R423, R424) -/

/-- FLT_SWAP. -/
def State.wrSwap (s : State) (v : Nat) : State :=
  { s with flt := { s.flt with wantPath := if bit v 1 then some (v % 2) else s.flt.wantPath,
                               wantSeed := if bit v 3 then some (bits v 2 2) else s.flt.wantSeed } }

/-- A seed bank: its listed seeds of 256 words, if its CRC holds (R424). -/
def seedBank (d : List Byte) : Option (List (List Nat)) :=
  let n := leField d 0 2
  let body := (List.range n).flatMap (fun i => (d.drop (0x400 * (i + 1))).take 0x400)
  if n ≤ 63 ∧ leField d 0x3C 4 = crc32 (d.take 0x3C ++ body) then
    some ((List.range n).map (fun i => wordsOf d (0x400 * (i + 1)) 256))
  else none

/-- The partition of Flint's accesses (R266). -/
def State.fltPart (s : State) : Nat := s.owner 0x480

/-- A bank of `n` bytes that Flint reads for a swap: none where its regions refuse it. -/
def State.swapBank (s : State) (a n : Nat) : Option (List Byte) :=
  if s.memOk s.fltPart a n false then some (s.fetch a n) else none

/-- Flint works on its frame: RUNNING, or STOPPING until the Φ 950 at which the stop takes effect (R440). -/
def State.flintWorks (s : State) : Bool := s.isRunning 0x480 || (s.blockState 0x480 == .stopping && !s.flt.ended)

/-- Swaps that wait take effect at a frame tick, or are refused (R423, R424). -/
def State.planSwaps (s : State) : State :=
  let s1 := match s.flt.wantPath with
    | none => s
    | some b =>
      let a := s.getF Reg.FLT_REF_BASE_BASE * 2 ^ 15 + b * 16384
      let d := s.swapBank a 0x2040
      let u := ({ s with flt := { s.flt with wantPath := none } }).trafficIf d.isSome flintPort s.fltPart false a 0x2040
      match d.bind (fun x => listedBank x 2 256) with
      | some p => ({ u with flt := { u.flt with path := p } }).putF Reg.FLT_STAT_REF_REFUSED 0
      | none => (u.putF Reg.FLT_STAT_REF_REFUSED 1).raiseNote FS.FLT_CFG
  match s1.flt.wantSeed with
  | none => s1
  | some b =>
    let a := s1.getF Reg.FLT_SEED_BASE_BASE * 2 ^ 17 + b * 65536
    let d := s1.swapBank a 65536
    let u := ({ s1 with flt := { s1.flt with wantSeed := none } }).trafficIf d.isSome flintPort s1.fltPart false a 65536
    match d.bind seedBank with
    | some p => ({ u with flt := { u.flt with seeds := p } }).putF Reg.FLT_STAT_SEED_REFUSED 0
    | none => (u.putF Reg.FLT_STAT_SEED_REFUSED 1).raiseNote FS.FLT_CFG

/-- A frame tick: swaps, RESUME and a fresh frame (R423, R439, R440). -/
def State.flintTick (s : State) : State :=
  if !s.flintWorks then s
  else
    let s1 := s.planSwaps
    let f := s1.flt
    let s2 := { s1 with flt := { f with before := f.before || f.started, started := false, testing := false, plan := none, checked := none,
                                        reuse := false, handedNow := false, noPlan := false, resume := false,
                                        grace := f.grace && !f.resume } }
    s2.putF Reg.FLT_STAT_GRACE (b2n s2.flt.grace)

/-! ## Collision checks (R431, R432) -/

/-- A parameter FLT_P(k). -/
def State.fltP (s : State) (k : Nat) : Num := f32 (s.getF (Reg.FLT_P_P k))

/-- The body parts in use, eight words each (R431). -/
def State.bodyParts (s : State) : List (List Nat) :=
  ((List.range 16).filter (fun i => s.onF (Reg.FLT_BODY_CFG_EN i))).map (fun i =>
    (List.range 8).map (fun k => (s.reg (Reg.FLT_BODY_CFG i + 4 * k)).toNat))

/-- The slice of a time `d` ns after T_S (R411). -/
def sliceOf (d : Int) : Nat := if d < 0 then 0 else min 79 (d.toNat / 100000000)

/-- What is occupied in slice `k` of a snapshot, each as a tag and words (R431). -/
def SltSnap.obstacles (x : SltSnap) (k : Nat) : List (List Nat) :=
  (x.tree.nodes.filterMap (fun e => match e.2 with
    | some n => if n.occ then some [0, n.x, n.y, n.z, n.level] else none
    | none => none)) ++
  x.keepOut.map (fun b => 1 :: b) ++
  (x.bank.entries.filter (fun e => e.1 / 4096 == k && bit (e.2.getD 7 0) 31)).map (fun e => 2 :: e.2) ++
  (x.bank.bins.filter (fun e => e.1 / 2048 == k && e.2.any (fun r => r.2))).map (fun e => [3, e.1 % 2048])

/-- A part over a stretch between two poses meets an obstacle (R431, R432). -/
def State.partMeets (s : State) (part a b o : List Nat) : Bool :=
  openWord Calc.meets ([s.getF (Reg.FLT_P_P 8), s.getF Reg.SLT_CFG_LEAF_CM, s.getF Reg.SLT_CFG_BIN_DM] ++ part ++ a ++ b ++ o) 0 % 2 == 1

/-- A trajectory from `t0` meets something held in a snapshot, tested at `sub` stretches of each interval: at a pose at its
start, or over the whole of it in every slice it overlaps (R432). -/
def State.collides (s : State) (snap : Option SltSnap) (t0 : Nat) (w : List Nat) (sub : Nat) (swept : Bool) : Bool :=
  match snap with
  | none => false
  | some x => (List.range (127 * sub)).any (fun i =>
      let d : Int := (knotNs * i / sub : Nat)
      let e : Int := (knotNs * (i + 1) / sub : Nat)
      let ofs := timeTo x.time t0
      let k := sliceOf (ofs + d)
      let l := if swept then sliceOf (ofs + e) else k
      let a := trajAt w d
      let b := if swept then trajAt w e else a
      (List.range (l + 1 - k)).any (fun j => (x.obstacles (k + j)).any (fun o =>
        s.bodyParts.any (fun p => s.partMeets p a b o))))

/-- The commit checker's verdict: it finds no collision (R432). -/
def State.checkPasses (s : State) (t0 : Nat) (w : List Nat) : Bool :=
  !s.collides s.slt.published t0 w (s.getF Reg.FLT_CFG_SUB_CHK) true

/-! ## Optimisation (R425–R430) -/

/-- The words of an Agate snapshot that predict the ego state. -/
def snapEgoWords (x : Option SltSnap) : List Nat := match x with | some y => wordsOf y.agate 0x40 32 | none => []

/-- The ego state predicted to `t0` at constant acceleration, as a knot; its curvature is the yaw rate over the speed, 0 below 0.5 m/s
(R425). The operation order of the prediction is open. -/
def egoKnot (x : Option SltSnap) (t0 : Nat) : List Nat :=
  let w := snapEgoWords x
  let l := calcs Calc.egoPredict (t0 :: w) 5
  let v := f32 (l.getD 3 0)
  let k := if (Num.fin false 1 (-1)).leq v then toF32 (fd (f32 (w.getD 11 0)) v) else 0
  l ++ [k, 0, 2 ^ 31]

/-- s0 of the frame, and whether it was taken from the ego state (R425). -/
def State.initialState (s : State) (t0 : Nat) : List Nat × Bool :=
  let ego := egoKnot s.slt.published t0
  match s.flt.handed with
  | some p =>
    let a := trajAt p.knots (timeTo p.t0 t0)
    let r := s.fltP 9
    if epochsFrom p.frame s.frameNo = 1 ∧
        (horizontal (f32 (a.getD 0 0)) (f32 (a.getD 1 0)) [f32 (ego.getD 0 0), f32 (ego.getD 1 0)]).leq (r.mul r).1 = true then (a, false)
    else (ego, true)
  | none => (ego, true)

/-- The controls of a candidate: a and κ at each knot (R426). -/
abbrev Controls := List (Nat × Nat)

/-- The controls that candidate `c` begins with: of the previous plan, resampled, or of a seed; a and κ at T0 are those of s0 (R426). -/
def State.startControls (s : State) (c : Nat) : Controls :=
  let l : Controls := if c = 0 then
      match s.flt.handed with
      | some p => let w := p.from_ s.flt.t0; (List.range 128).map (fun j => ((knot w j).getD 4 0, (knot w j).getD 5 0))
      | none => []
    else let d := s.flt.seeds.getD (c - 1) []; (List.range 128).map (fun j => (d.getD (2 * j) 0, d.getD (2 * j + 1) 0))
  (s.flt.s0.getD 4 0, s.flt.s0.getD 5 0) :: l.drop 1

/-- The rate of a control over an interval of 62.5 ms (R426). -/
def rateOf (a b : Nat) : Num := fd (fs (f32 b) (f32 a)) (.fin false 1 (-4))

/-- The knots of controls rolled out from state `x`, which is x, y, yaw and v. How the four steps of an interval order their operations
is open (R426); the last knot has no interval, and its curvature rate is 0. -/
def rollOut (x : List Nat) : Controls → List Nat
  | [] => []
  | [c] => x ++ [c.1, c.2, 0, 2 ^ 31]
  | c :: d :: l =>
    let q := toF32 (rateOf c.2 d.2)
    x ++ [c.1, c.2, q, 2 ^ 31] ++ rollOut (calcs Calc.rolled (x ++ [c.1, c.2, toF32 (rateOf c.1 d.1), q]) 4) (d :: l)

/-- The knots of a candidate's controls, from s0. -/
def State.knotsOf (s : State) (l : Controls) : List Nat := rollOut (s.flt.s0.take 4) l

/-! ### Cost (R423, R428) -/

/-- The foot of a point on a segment of the reference path: where along it, 0 to 1 within; the ends of the path are extended (R423). -/
def footOn (a b : List Nat) (first last : Bool) (x y : Rat) : Rat :=
  let v (l : List Nat) (i : Nat) : Rat := ratOf (l.getD i 0)
  let dx := v b 0 - v a 0
  let dy := v b 1 - v a 1
  let t := ((x - v a 0) * dx + (y - v a 1) * dy) / (dx * dx + dy * dy)
  if t < 0 ∧ first = false then 0 else if 1 < t ∧ last = false then 1 else t

/-- Field `i` of the reference path at a foot. -/
def pathField (a b : List Nat) (t : Rat) (i : Nat) : Rat := ratOf (a.getD i 0) + (ratOf (b.getD i 0) - ratOf (a.getD i 0)) * t

/-- The projection of a point onto the reference path: the square of its lateral offset, and the heading and reference speed there; of
equally near segments the first (R423). None without a path. -/
def projected (path : List (List Nat)) (x y : Rat) : Option (Rat × Rat × Rat) :=
  let n := path.length
  let segs := (List.range (n - 1)).map (fun i =>
    let a := path.getD i []
    let b := path.getD (i + 1) []
    let t := footOn a b (i == 0) (i + 2 == n) x y
    let dx := x - pathField a b t 0
    let dy := y - pathField a b t 1
    (dx * dx + dy * dy, pathField a b t 2, pathField a b t 4))
  segs.foldl (fun m g => match m with
    | some b => if g.1 < b.1 then some g else some b
    | none => some g) none

/-- The clearance at a sample, up to CLEAR_M: 0 where the body meets something, else open (R427, R428). -/
def State.clearance (s : State) (pose : List Nat) (snap : Option SltSnap) (k : Nat) : Rat :=
  let most := ratOf (s.getF (Reg.FLT_P_P 7))
  let os := match snap with | some x => x.obstacles k | none => []
  if os.any (fun o => s.bodyParts.any (fun p => s.partMeets p pose pose o)) then 0
  else if os.isEmpty then most
  else max 0 (min most (ratOf (openWord Calc.clearance (pose ++ s.bodyParts.flatten ++ os.flatten) 0)))

/-- The cost J of knots, exact: the sum of R428 (R428). -/
def State.costOf (s : State) (w : List Nat) : Rat :=
  let f (j i : Nat) : Rat := ratOf ((knot w j).getD i 0)
  let wt (i : Nat) : Rat := ratOf (s.getF (Reg.FLT_W_W i))
  let sq (x : Rat) : Rat := x * x
  let jerk (j : Nat) : Rat := (f (j + 1) 4 - f j 4) * 16
  let place (j : Nat) : Rat × Rat × Rat := (projected s.flt.path (f j 0) (f j 1)).getD
    (ratOf (openWord Calc.noPath [j] 0), ratOf (openWord Calc.noPath [j] 1), ratOf (openWord Calc.noPath [j] 2))
  let sub := s.getF Reg.FLT_CFG_SUB_OPT
  let rates := ((List.range 127).map (fun j => (wt 0 * sq (jerk j) + wt 1 * sq (f j 6)) / 16)).sum
  let terms := ((List.range 128).map (fun j =>
    let p := place j
    wt 2 * sq (f j 3 - p.2.2) + wt 3 * p.1 + wt 4 * sq (f j 2 - p.2.1) + wt 5 * sq (sq (f j 3) * f j 5))).sum
  let near := ((List.range (127 * sub)).map (fun i =>
    let d : Int := (knotNs * i / sub : Nat)
    let k := match s.flt.snap with | some x => sliceOf (timeTo x.time s.flt.t0 + d) | none => 0
    sq (max 0 (ratOf (s.getF (Reg.FLT_P_P 7)) - s.clearance (trajAt w d) s.flt.snap k)))).sum
  rates + terms + wt 6 * near + wt 7 * sq (f 127 3 - (place 127).2.2)

/-- The limits of R429 hold at every knot. -/
def State.withinLimits (s : State) (w : List Nat) : Bool :=
  let f (j k : Nat) : Num := f32 ((knot w j).getD k 0)
  let below (x : Num) (k : Nat) : Bool := x.abs.leq (s.fltP k)
  (List.range 128).all (fun j =>
    Num.zero.leq (f j 3) && (f j 3).leq (s.fltP 0) && (s.fltP 1).leq (f j 4) && (f j 4).leq (s.fltP 2) &&
    (j == 127 || below (fDiv (fSub (f (j + 1) 4) (f j 4)).1 (.fin false 1 (-4))).1 3) &&
    below (f j 5) 4 && below (f j 6) 5 && ((fMul (fMul (f j 3) (f j 3)).1 (f j 5).abs).1).leq (s.fltP 6))

/-! ### Iterations (R427, R430) -/

/-- One iteration: along the direction that the backward sweep finds, which is open, the first of the steps 1, 1/2, 1/4 and 1/8 that
lowers the cost and violates no limit of R429 is kept; else the controls stay (R427). -/
def State.iterate (s : State) (l : Controls) : Controls :=
  let w := s.knotsOf l
  let dir := calcs Calc.sweep (w ++ s.flt.path.flatten ++ (List.range 16).map (fun k => s.getF (Reg.FLT_P_P k)) ++
    (List.range 8).map (fun k => s.getF (Reg.FLT_W_W k))) 256
  let step (k : Nat) : Controls := l.take 1 ++ ((List.range 127).map (fun j =>
    let c := l.getD (j + 1) (0, 0)
    let by_ (x i : Nat) : Nat := toF32 (fa (f32 x) ((f32 (dir.getD i 0)).scale (-(k : Int))))
    (by_ c.1 (2 * j + 2), by_ c.2 (2 * j + 3))))
  let good (m : Controls) : Bool := decide (s.costOf (s.knotsOf m) < s.costOf w) && s.withinLimits (s.knotsOf m)
  (((List.range 4).map step).find? good).getD l

/-- The controls after `k` iterations. -/
def State.iterated (s : State) (l : Controls) : Nat → Controls
  | 0 => l
  | k + 1 => s.iterate (s.iterated l k)

/-- Candidate `c` after `k` iterations; its cost is rounded once (R427, R428). -/
def State.candidate (s : State) (c k : Nat) : PlanCand :=
  let w := s.knotsOf (s.iterated (s.startControls c) k)
  { number := c, knots := w, cost := ratF32 (s.costOf w) }

/-- A candidate is feasible (R429). -/
def State.feasible (s : State) (c : PlanCand) : Bool :=
  s.withinLimits c.knots && !s.collides s.flt.snap s.flt.t0 c.knots (s.getF Reg.FLT_CFG_SUB_OPT) false

/-- The candidates as the lanes leave them at Φ 850, and whether one is unfinished: a candidate has all its iterations, or stands where it
was, and then the later ones of its lane, candidate number mod 16, have none (R430). `stopped` lists lanes that have not finished. -/
def State.lanes (s : State) (stopped : List Nat) : List Nat → List PlanCand × Bool × State
  | [] => ([], !stopped.isEmpty, s)
  | c :: l =>
    let most := s.getF Reg.FLT_CFG_ITER_MAX
    let lane := c % 16
    let (v, s1) := s.free 6
    let k := if stopped.contains lane then 0 else v % (most + 1)
    let (r, cut, s2) := s1.lanes (if k < most then lane :: stopped else stopped) l
    (s.candidate c k :: r, cut, s2)

/-- The checker tests against the newest published snapshot: the record names it (R52, R433). -/
def State.checkUses (s : State) : State := { s with flt := { s.flt with checked := s.slt.published.map (fun x => x.id) } }

/-- Feasible candidates by cost, ties to the lower number (R433). -/
def rankCands (l : List PlanCand) : List PlanCand :=
  sortBy (fun a b =>
    let x := f32 a.cost
    let y := f32 b.cost
    (x.leq y && !y.leq x) || (x.leq y && decide (a.number < b.number))) l

/-- The checker's visits from Φ 850 to Φ 880: eight a hub cycle (R432, R433). -/
def checkBudget : Nat := 8 * 30000

/-- The checker tests ranked candidates in order: `v` lists the visits each test takes (R433). -/
def State.testRanked (s : State) (left : Nat) : List PlanCand → List Nat → State
  | [], _ => s
  | _ :: _, [] => { s with flt := { s.flt with testing := true } }
  | c :: l, v :: vs =>
    let budget := s.getF Reg.FLT_CHK_CHK_BUDGET
    let n := min v budget
    if left < n then { s with flt := { s.flt with testing := true } }
    else if v ≤ budget && s.checkPasses s.flt.t0 c.knots then { s with flt := { s.flt with plan := some (c.knots, c.number) } }
    else (s.satInc Reg.FLT_CNT0_CHK_FAIL).testRanked (left - n) l vs

/-- Φ 400: Flint takes the newest snapshot, s0 and its candidates (R425, R430, R440). -/
def State.flintOptimise (s : State) : State :=
  if !s.flintWorks then s
  else
    let t0 := s.qtz.nextTick % 2 ^ 32
    let (s0, reinit) := s.initialState t0
    ({ s with flt := { s.flt with started := true, s0 := s0, t0 := t0, snap := s.slt.published } }).putF Reg.FLT_STAT_REINIT (b2n reinit)

/-- Φ 850: the lanes stop; feasible candidates are ranked and tested (R430, R433). -/
def State.optimiserStop (s : State) (visits : List Nat) : State :=
  if !(s.flintWorks && s.flt.started && s.flt.before) || s.flt.grace then s
  else
    let (l, cut, s2) := s.lanes [] (List.range (s.flt.seeds.length + 1))
    let s3 := (if cut then s2.satInc Reg.FLT_CNT0_CUTOFFS else s2).putF Reg.FLT_STAT_CUTOFF (b2n cut)
    s3.checkUses.testRanked checkBudget ((rankCands (l.filter s3.feasible)).take (s.getF Reg.FLT_CFG_RANK_N)) visits

/-! ## Fallback (R434) -/

/-- The previous frame's plan from T0, if it covers at least REUSE_MIN. -/
def State.reusable (s : State) : Option (List Nat) :=
  match s.flt.handed with
  | some p =>
    let left : Int := 127 * knotNs - timeTo p.t0 s.flt.t0
    let want := ((s.fltP 13).mul (.ofInt 1000000000)).1
    if epochsFrom p.frame s.frameNo = 1 ∧ want.leq (.ofInt left) = true then some (p.from_ s.flt.t0) else none
  | none => none

/-- Φ 880: a running test is abandoned as a fail; without a plan, the checker tests the previous plan (R433, R434). That test
may run out of its visits or of its time, which spec/ leaves to the number of visits it takes. -/
def State.checkStop (s : State) : State :=
  if !(s.flintWorks && s.flt.started && s.flt.before) || s.flt.grace then s
  else
    let s1 := if s.flt.testing then ({ s with flt := { s.flt with testing := false } }).satInc Reg.FLT_CNT0_CHK_FAIL else s
    if s1.flt.plan.isSome then s1
    else
      let s2 := { s1 with flt := { s1.flt with noPlan := true } }
      match s2.reusable with
      | some w =>
        let (b, s3) := s2.checkUses.free 1
        if s3.checkPasses s3.flt.t0 w && b == 1 then { s3 with flt := { s3.flt with plan := some (w, 0xFE) } }
        else { s3 with flt := { s3.flt with reuse := true } }
      | none => s2

/-- The lease of the previous frame, read from T0 (R434, R439). -/
def State.leasePlan (s : State) : Option (List Nat × Nat) :=
  match s.flt.lease with
  | some l => if epochsFrom l.traj.frame s.frameNo = 1 then some (l.traj.from_ s.flt.t0, 0xFF) else none
  | none => none

/-- Φ 895: without a plan, the previous frame's lease is the plan (R434). -/
def State.reuseStop (s : State) : State :=
  if !(s.flintWorks && s.flt.started && s.flt.before) || s.flt.grace then s
  else if s.flt.plan.isSome then s
  else { s with flt := { s.flt with reuse := false, noPlan := true, plan := s.leasePlan } }

/-- Φ 900: the plan goes to Garnet (R434, R435, R439). -/
def State.handOver (s : State) : State :=
  let plan := if s.flt.grace then s.leasePlan else s.flt.plan
  match s.flintWorks && s.flt.started && s.flt.before && !s.flt.handedNow, plan with
  | true, some (w, winner) =>
    let n := s.frameNo
    let x : Traj := { frame := n, t0 := s.flt.t0, knots := w }
    let s1 := { s with flt := { s.flt with handed := some x, handedNow := true }, gnt := { s.gnt with next := some x } }
    let s2 := (((s1.putF Reg.FLT_STAT_PLAN_REUSED (b2n (winner == 0xFE))).putF Reg.FLT_STAT_MRT_SELECTED (b2n (winner == 0xFF))).putF
      Reg.FLT_STAT_WINNER winner).putF Reg.FLT_FRAME_FRAME n
    let s3 := if s.flt.noPlan && !s.flt.grace then
        ((s2.satInc Reg.FLT_CNT0_NOPLAN).irq 0x480 1).raise FS.FLT_NOPLAN
      else s2
    s3.kick 2
  | _, _ => s

/-! ## The standby lease (R436–R438) -/

/-- Speed and acceleration of a minimal-risk option `t` seconds after s0: a ramps at J_MAX to −`d` and stays there, until standstill, where
it returns to 0; and whether it stands (R436). Exact. -/
def mrtMotion (v0 a0 jmax d t : Rat) : Rat × Rat × Bool :=
  let j := if a0 + d < 0 then -jmax else jmax
  let ramp := (a0 + d) / j
  let v := if t ≤ ramp then v0 + a0 * t - j * t * t / 2 else v0 + a0 * ramp - j * ramp * ramp / 2 - d * (t - ramp)
  let a := if t ≤ ramp then a0 - j * t else -d
  if v ≤ 0 then (0, 0, true) else (v, a, false)

/-- Option `k` of the minimal-risk trajectory: 128 knots from s0. Position, yaw and curvature along the reference path, with the lateral
ease of SHOULDER, are open (R436). -/
def State.mrtOption (s : State) (k : Nat) (s0 : List Nat) : List Nat :=
  let par := (List.range 16).map (fun i => s.getF (Reg.FLT_P_P i))
  let p (i : Nat) : Rat := ratOf (par.getD i 0)
  s0 ++ (List.range 127).flatMap (fun i =>
    let w := calcs Calc.mrt ([k, i + 1] ++ s0 ++ s.flt.path.flatten ++ par) 5
    let (v, a, stop) := mrtMotion (ratOf (s0.getD 3 0)) (ratOf (s0.getD 4 0)) (p 3) (if k = 3 then p 11 else p 10) (mkRat (i + 1 : Nat) 16)
    w.take 3 ++ [ratF32 v, ratF32 a] ++ w.drop 3 ++ [2 ^ 31 + b2n stop * 2 ^ 30])

/-- The reference path has a shoulder at every point from s0 to the stopping point (R436). -/
def State.hasShoulder (s : State) (s0 : List Nat) : Bool :=
  let r := calcs Calc.shoulderSpan (s0 ++ s.flt.path.flatten ++ [s.getF (Reg.FLT_P_P 10)]) 2
  !s.flt.path.isEmpty &&
    ((s.flt.path.drop (r.getD 0 0)).take (r.getD 1 0 + 1)).all (fun p => !(f32 (p.getD 6 0)).isZero)

/-- The first option that passes its check, with KIND; none passing, the third, unchecked (R436). -/
def State.chooseLease (s : State) (s0 : List Nat) : List (Nat × Nat) → (List Nat × Nat × Bool) × State
  | [] => ((s.mrtOption 3 s0, 0, true), s)
  | (k, kind) :: l =>
    let w := s.mrtOption k s0
    let (b, s1) := s.free 1
    if s1.checkPasses s1.flt.t0 w && b == 1 then ((w, kind, false), s1) else s1.chooseLease s0 l

/-- A value in units, rounded to nearest with ties to even, saturated to an integer range (R437). -/
def compact (x : Num) (unit : Nat) (lo hi : Int) : Int :=
  match (x.mul (.ofInt unit)).1 with
  | .fin n m e => max lo (min hi (roundInt 0 n m e))
  | .inf n => if n then lo else hi
  | .nan => 0

/-- A compact knot (R437). -/
def compactKnot (yaw0 : Num) (k : List Nat) : List Byte :=
  let f (i : Nat) : Num := f32 (k.getD i 0)
  let w (v : Int) : List Byte := leBytes 2 (toBits 16 v)
  w (compact (f 3) 100 0 65535) ++ w (compact (f 4) 1000 (-32768) 32767) ++ w (compact (f 5) 100000 (-32768) 32767) ++
    w (compact ((f 2).add yaw0.opp).1 10000 (-32768) 32767)

/-- The payload of a lease frame (R437). -/
def State.leasePayload (s : State) (l : Lease) : List Byte :=
  let w := l.traj.knots
  let s0 := knot w 0
  let body := leBytes 4 1 ++ leBytes 4 s.frameNo ++ leBytes 4 ((s.frame.tb2 + 1000000) % 2 ^ 32) ++
    leBytes 4 (toBits 32 ((l.until_ : Int) - l.traj.t0)) ++ leBytes 4 (256 * b2n l.unchecked + l.kind) ++
    (s0.take 4).flatMap (leBytes 4) ++ List.replicate 28 0 ++
    (List.range 128).flatMap (fun j => compactKnot (f32 (s0.getD 2 0)) (knot w j))
  body ++ leBytes 4 (crc32 body)

/-- Φ 940: the lease is written and sent, but not in the safe state (R436, R437, R439). -/
def State.writeLease (s : State) : State :=
  if !(s.flintWorks && s.flt.started) then s
  else
    let s0 := match s.flt.handedNow, s.flt.handed with | true, some p => knot p.knots 0 | _, _ => s.flt.s0
    let opts := (if s.hasShoulder s0 then [(1, 1)] else []) ++ [(2, 0), (3, 0)]
    let ((w, kind, un), s1) := s.chooseLease s0 opts
    let t0 := s.flt.t0
    let l : Lease := { traj := { frame := s.frameNo, t0 := t0, knots := w },
                       until_ := (t0 + s.getF Reg.FLT_LEASE_VALID_MS * 1000000) % 2 ^ 32, kind := kind, unchecked := un }
    let s2 := (({ s1 with flt := { s1.flt with lease := some l } }).putF Reg.FLT_STAT_LEASE_UNCHECKED (b2n un)).putF
      Reg.FLT_STAT_LEASE_KIND kind
    let p := s2.leasePayload l
    let s3 := if s2.inSafe then s2
      else (s2.originate 1 2 0 (s2.getF Reg.FLT_LEASE_LEASE_ETH) p).offerXlAll (s2.getF Reg.FLT_LEASE_LEASE_CAN) 0
        (s2.getF Reg.FLT_LEASE_ID_LEASE_ID) (z32Header 2 0) p
    s3.kick 3

/-! ## The world-and-plan record (R51–R54) -/

/-- A sensor that is configured is absent or voted out: VOTED_OUT, or OUT_OF_SYNC (R52, R354). -/
def State.sensorOut (s : State) : Bool :=
  (List.range 64).any (fun i => s.onF (Reg.AGT_S_CFG_EN i) && (s.sensorState i == 2 || s.sensorState i == 3 || bit (s.regNat Reg.ING_ABSENT 2) i))

/-- REASON of the record (R435). -/
def State.wprReason (s : State) : Nat :=
  if s.inSafe then 2
  else if !s.flt.handedNow then 5
  else if s.flt.grace then 6
  else if s.flt.noPlan then 1
  else match s.flt.snap with
    | none => 4
    | some x => if x.id ≠ s.frameNo then 4 else if x.late then 3 else 0

/-- The validity word (R52, R53). -/
def State.wprValidity (s : State) : Nat :=
  let r := s.wprReason
  let rewind := match s.flt.snap with | some x => bit (leField x.agate 0x0C 4) 0 | none => false
  b2n rewind * 2 ^ 23 + s.getF Reg.FLT_STAT_PLAN_REUSED * 2 ^ 22 + s.getF Reg.FLT_STAT_MRT_SELECTED * 2 ^ 21 +
    b2n s.sensorOut * 2 ^ 20 + b2n s.dev.graceSince.isSome * 2 ^ 19 + r * 256 + b2n (r != 2 && r != 5)

/-- The record's bytes up to the CRC (R52). DESIGN CHOICE (log entry 148): without a snapshot EGO, SENSORS, EPOCH and TRACKS are 0,
without a check in the frame SLATE_ID is that of the optimiser's snapshot, and without a plan or a lease that part is 0. -/
def State.wprBytes (s : State) : List Byte :=
  let x := s.flt.snap
  let d := match x with | some y => y.agate | none => []
  let ts := snapTracks d
  let zero := List.replicate 4096 (0 : Byte)
  let plan := match s.flt.handed with | some p => p.knots.flatMap (leBytes 4) | none => zero
  let lease := match s.flt.lease with | some l => l.traj.knots.flatMap (leBytes 4) | none => zero
  leBytes 4 ((133 + ts.length) * 65536 + 1) ++ leBytes 4 s.frameNo ++ leBytes 4 s.frame.tb2 ++ leBytes 4 s.frame.tb4 ++
    leBytes 4 s.wprValidity ++ leBytes 4 (match s.flt.checked, x with | some n, _ => n | none, some y => y.id | none, none => 0) ++
    leBytes 4 (match x with | some y => y.epoch | none => 0) ++ leBytes 4 ts.length ++
    leBytes 4 (match s.flt.lease with | some l => l.until_ | none => 0) ++ leBytes 4 0 ++ padTo 8 ((d.drop 0x14).take 8) ++
    List.replicate 16 0 ++ padTo 128 ((d.drop 0x40).take 128) ++ List.replicate 64 0 ++ plan ++ lease ++ ts.flatten

/-- Φ 950: WPR(n) is written into the ring, its frame is sent, and what it says reaches the device mode (R51, R54, R531,
R533, R535). It is the Φ 950 at which a stop takes effect (R440). -/
def State.publishWpr (s : State) : State :=
  if !(s.flintWorks && s.flt.started) then { s with flt := { s.flt with ended := true } }
  else
    let r := s.wprReason
    let d := s.wprBytes
    let s0 := { s with flt := { s.flt with ended := true } }
    let s1 := s0.putIf flintPort s.fltPart (s.getF Reg.FLT_WPR_BASE_BASE * 2 ^ 19 + s.frameNo % 64 * 0x80000)
      (d ++ leBytes 4 (crc32 d))
    let head := d.take 256
    let s2 := (s1.originate 0 1 0 (s1.getF Reg.FLT_WPR_DST_ETH) (head ++ leBytes 4 (crc32 head))).putF Reg.FLT_STAT_REASON r
    let s3 := { s2 with frame := { s2.frame with sent54 := true } }
    let w : WprInfo := { valid := r != 2 && r != 5, sensorOut := s.sensorOut,
                         noPlan := r == 1 || s.onF Reg.FLT_STAT_MRT_SELECTED, velocity := wordsOf d 0x58 3 }
    (s3.wprPublished w).kick 4

/-- FLT_CTRL: RESUME while the host is not lost ends the minimal-risk hand-overs from the next frame (R439). -/
def State.wrFltCtrl (s : State) (v : Nat) : State :=
  if bit v 0 && !s.onF Reg.DEV_MODE_HOST_LOST then { s with flt := { s.flt with resume := true } } else s

/-! ## Start and stop (R440) -/

/-- Flint's start checks its bases. -/
def State.flintStartOk (s : State) : Bool :=
  s.localBase (s.getF Reg.FLT_WPR_BASE_BASE * 2 ^ 19) (64 * 0x80000) && s.localBase (s.getF Reg.FLT_REF_BASE_BASE * 2 ^ 15) (2 ^ 15) &&
  s.localBase (s.getF Reg.FLT_SEED_BASE_BASE * 2 ^ 17) (2 ^ 17)

/-- Flint has started: no frame of its own has passed yet. -/
def State.flintStarted (s : State) : State :=
  { s with flt := { s.flt with started := false, before := false, testing := false, plan := none, reuse := false,
                               handed := none, handedNow := false, noPlan := false } }

/-- Flint's stop waits for the next Φ 950. -/
def State.flintStop (s : State) : State := { s with flt := { s.flt with ended := false } }

/-- Flint has stopped. -/
def State.flintStopped (s : State) : State := { s with flt := { s.flt with started := false, handedNow := false } }

/-! ## Commands -/

/-- FLINT_OPTIMISE (R430). -/
def execFlintOptimise (s : State) : Host.Outcome State Fault Refusal := whenLive (fun s => s.flintOptimise) s

/-- OPTIMISER_CUTOFF (R430): `checks` lists the visits that each test of a ranked candidate takes. -/
def execOptimiserCutoff (checks : List Nat) (s : State) : Host.Outcome State Fault Refusal :=
  whenLive (fun s => s.optimiserStop checks) s

/-- CHECK_CUTOFF (R433). -/
def execCheckCutoff (s : State) : Host.Outcome State Fault Refusal := whenLive (fun s => s.checkStop) s

/-- REUSE_CUTOFF (R434). -/
def execReuseCutoff (s : State) : Host.Outcome State Fault Refusal := whenLive (fun s => s.reuseStop) s

/-- PLAN_HANDOVER (R434). -/
def execPlanHandover (s : State) : Host.Outcome State Fault Refusal := whenLive (fun s => s.handOver) s

/-- LEASE_WRITE (R437). -/
def execLeaseWrite (s : State) : Host.Outcome State Fault Refusal := whenLive (fun s => s.writeLease) s

/-- WPR_PUBLISH (R51). -/
def execWprPublish (s : State) : Host.Outcome State Fault Refusal := whenLive (fun s => s.publishWpr) s

/-- REF_SWAP (R423). -/
def execRefSwap (req : Requester) (bank : Nat) (s : State) : Host.Outcome State Fault Refusal :=
  let v := 2 + bank % 2
  whenLive (fun s => s.access req Reg.FLT_SWAP v (fun t => t.wrSwap v)) s

/-- SEED_SWAP (R424). -/
def execSeedSwap (req : Requester) (bank : Nat) (s : State) : Host.Outcome State Fault Refusal :=
  let v := 8 + 4 * (bank % 2)
  whenLive (fun s => s.access req Reg.FLT_SWAP v (fun t => t.wrSwap v)) s

/-- RESUME (R439). -/
def execResume (req : Requester) (s : State) : Host.Outcome State Fault Refusal :=
  whenLive (fun s => s.access req Reg.FLT_CTRL 1 (fun t => t.wrFltCtrl 1)) s

end Sys2Proof.Machine
end

