-- ==== Sys2Proof/Machine/Garnet.lean ====
section
/-! DEFINITION. Garnet (chapter 15): sources (R448–R450), loops (R451), outputs and bumpless transfer (R452–R454), the
repetitive controller (R455), profile generators (R456–R458), supervision and safe output (R459–R463), actuator frames
(R464, R465), start and stop (R466, R467), register writes (R444, R454, R457, R461, R468). -/

namespace Sys2Proof.Machine

namespace Calc
def atan : Nat := 50
end Calc

/-! ## FP32 in written order (R451) -/

/-- clamp(x, lo, hi). -/
def fClamp (x lo hi : Num) : Num := fMin (fMax x lo) hi

/-- atan, within 2^−22 rad: which value within that bound is open (R451). -/
def fAtan (x : Num) : Num :=
  match exactAtan2 x (.ofInt 1) with
  | some r => openNear Calc.atan [toF32 x] r (-22)
  | none => f32 (openWord Calc.atan [toF32 x] 0)

/-- `a < b`; false for NaN. -/
def fLess (a b : Num) : Bool := a.leq b && !b.leq a

/-! ## Parts of the state -/

/-- Loop `i` beyond its registers. -/
def State.gntLoop (s : State) (i : Nat) : GntLoop := Sparse.get (fun _ => {}) s.gnt.loops i

/-- The state with loop `i` replaced. -/
def State.setGntLoop (s : State) (i : Nat) (x : GntLoop) : State :=
  { s with gnt := { s.gnt with loops := Sparse.set (fun _ => {}) s.gnt.loops i x } }

/-- Actuator `a` beyond its registers. -/
def State.gntAct (s : State) (a : Nat) : GntAct := Sparse.get (fun _ => {}) s.gnt.acts a

/-- The state with actuator `a` replaced. -/
def State.setGntAct (s : State) (a : Nat) (x : GntAct) : State :=
  { s with gnt := { s.gnt with acts := Sparse.set (fun _ => {}) s.gnt.acts a x } }

/-- Feedback slot `k`: its newest sample and T_CAP. -/
def State.gntSlot (s : State) (k : Nat) : Option (List Byte × Nat) := Sparse.get (fun _ => none) s.gnt.slots k

/-- The state with feedback slot `k` replaced. -/
def State.setGntSlot (s : State) (k : Nat) (x : Option (List Byte × Nat)) : State :=
  { s with gnt := { s.gnt with slots := Sparse.set (fun _ => none) s.gnt.slots k x } }

/-- Garnet runs its loops and sends its frames: RUNNING, or STOPPING (R467). -/
def State.gntActive (s : State) : Bool := s.blockState 0x500 == .running || s.blockState 0x500 == .stopping

/-- Parameter `k` of loop `i`. -/
def State.lp (s : State) (i k : Nat) : Num := f32 (s.getF (Reg.GNT_L_P_P i k))

/-- Loop `i` is enabled. -/
def State.loopOn (s : State) (i : Nat) : Bool := s.onF (Reg.GNT_L_CFG_EN i)

/-- The actuator of loop `i`. -/
def State.loopAct (s : State) (i : Nat) : Nat := s.getF (Reg.GNT_L_CFG_ACT i)

/-- The enabled loops of actuator `a`. -/
def State.actLoops (s : State) (a : Nat) : List Nat := (List.range 64).filter (fun i => s.loopOn i && s.loopAct i == a)

/-- STATE of actuator `a`: 0 IDLE, 1 AUTO, 2 MANUAL, 3 SAFE_RAMP, 4 SAFE_HELD. -/
def State.actState (s : State) (a : Nat) : Nat := s.getF (Reg.GNT_A_STAT_STATE a)

/-- Loop `i` is the selected loop of its actuator. -/
def State.isSelected (s : State) (i : Nat) : Bool := s.getF (Reg.GNT_A_STAT_SEL (s.loopAct i)) == i

/-- STATE of loop `i` as GNT_L_STAT shows it. -/
def State.loopStateCode (s : State) (i : Nat) : Nat :=
  if s.loopOn i then
    match s.actState (s.loopAct i) with
    | 1 => if s.isSelected i then 1 else 2
    | 2 => 3
    | 3 => 4
    | 4 => 4
    | _ => 0
  else 0

/-- Actuator `a` enters SAFE_RAMP with a cause; one in SAFE already stays as it is (R462). -/
def State.rampActuator (s : State) (a cause : Nat) : State :=
  if s.actState a = 1 ∨ s.actState a = 2 then
    ((s.putF (Reg.GNT_A_STAT_STATE a) 3).putF (Reg.GNT_A_STAT_CAUSE a) cause).irq 0x500 1
  else s

/-- Actuator `a` is in AUTO, or MANUAL when MANUAL = 1, with no cause. -/
def State.actAuto (s : State) (a : Nat) : State :=
  (s.putF (Reg.GNT_A_STAT_STATE a) (if s.onF (Reg.GNT_A_CTRL_MANUAL a) then 2 else 1)).putF (Reg.GNT_A_STAT_CAUSE a) 0

/-! ## Instants (R41, R445–R447, R464) -/

/-- The period of exponent `plog2`, in ns: 2^`plog2` control periods (R445). -/
def periodNs (plog2 : Nat) : Nat := 62500 * 2 ^ plog2

/-- How far the output instant of a period lies behind the boundary at which it starts, in ns (R446: a Garnet cycle is 2 ns). -/
def phaseNs (plog2 phase : Nat) : Nat := 2 * (phase * 31250 * 2 ^ plog2 / 256)

/-- The time in ns since the tick of frame 0: each frame's tick lies 16 control periods behind the last (R41, R445). -/
def State.gridNs (s : State) : Nat := s.frameNo * 1000000 + (s.now 4 + 2 ^ 32 - s.frame.tb4) % 2 ^ 32

/-- The number of the last output instant that has come, `early` ns before it: periods start at the boundaries b with
b mod 2^`plog2` = 0, and frame numbers wrap (R445, R446). -/
def State.instantNo (s : State) (plog2 phase early : Nat) : Nat :=
  (s.gridNs + periodNs plog2 + early - phaseNs plog2 phase) / periodNs plog2 % (16 * 2 ^ 32 / 2 ^ plog2)

/-- The number of loop `i`'s last sample instant that has come: 4,000 Garnet cycles before its output instant (R446, R447). -/
def State.sampleNo (s : State) (i : Nat) : Nat := s.instantNo (s.getF (Reg.GNT_L_CFG_PLOG2 i)) (s.getF (Reg.GNT_L_CFG_PHASE i)) 8000

/-- A sample instant of loop `i` has come. -/
def State.sampleDue (s : State) (i : Nat) : Bool := (s.gntLoop i).sampled != some (s.sampleNo i)

/-- The number of actuator `a`'s last output instant that has come. -/
def State.outputNo (s : State) (a : Nat) : Nat := s.instantNo (s.gntAct a).plog2 (s.gntAct a).phase 0

/-- An output instant of actuator `a` has come. -/
def State.outputDue (s : State) (a : Nat) : Bool := (s.gntAct a).output != some (s.outputNo a)

/-- The number of actuator frame `f`'s last emit instant that has come (R464). -/
def State.emitNo (s : State) (f : Nat) : Nat := s.instantNo (s.getF (Reg.GNT_F_CFG_PLOG2 f)) (s.getF (Reg.GNT_F_CFG_PHASE f)) 0

/-- An emit instant of actuator frame `f` has come. -/
def State.emitDue (s : State) (f : Nat) : Bool := Sparse.get (fun _ => none) s.gnt.emitted f != some (s.emitNo f)

/-- The emit instant of actuator frame `f` that has come has been met. -/
def State.emitMet (s : State) (f : Nat) : State :=
  { s with gnt := { s.gnt with emitted := Sparse.set (fun _ => none) s.gnt.emitted f (some (s.emitNo f)) } }

/-! ## Sources (R448–R450) -/

/-- A selector names a type and an index that exist (R444, R448). -/
def selectorOk (sel : Nat) : Bool :=
  let i := bits sel 11 0
  match bits sel 15 12 with
  | 0 => true
  | 1 => decide (i < 32)
  | 2 => decide (i < 8)
  | 3 => decide (i < 64)
  | 4 => decide (i < 7)
  | 5 => decide (i < 192)
  | _ => false

/-- State selector `k` of loop `i`. -/
def State.xSel (s : State) (i k : Nat) : Nat :=
  s.getF (if k % 2 = 0 then Reg.GNT_L_XSRC_X_SRC0 i (k / 2) else Reg.GNT_L_XSRC_X_SRC1 i (k / 2))

/-- NX of loop `i`. -/
def State.loopNx (s : State) (i : Nat) : Nat := s.getF (Reg.GNT_L_CFG_NXM1 i) + 1

/-- The selectors that loop `i` uses. -/
def State.selectors (s : State) (i : Nat) : List Nat :=
  [s.getF (Reg.GNT_L_SRC_SP_SRC i), s.getF (Reg.GNT_L_SRC_Y_SRC i)] ++
    (if s.onF (Reg.GNT_L_CFG_TYPE i) then (List.range (s.loopNx i)).map (s.xSel i) else [])

/-- Feedback slot `k` is stale (R449). -/
def State.slotStale (s : State) (k : Nat) : Bool :=
  !s.onF (Reg.GNT_FB_CFG_EN k) ||
    match s.gntSlot k with
    | none => true
    | some x =>
      let us := s.getF (Reg.GNT_FB_STALE_STALE_US k)
      us != 0 && decide (us * 1000 < ageOf s.tb3 x.2)

/-- The field of a feedback sample, an FP32 word (R358, R449); spec/ gives TYPE 3 no decoding. -/
def State.feedbackValue (s : State) (k : Nat) (d : List Byte) : Nat :=
  let o := s.getF (Reg.GNT_FB_CFG_OFFSET k)
  let v : Num := match s.getF (Reg.GNT_FB_CFG_TYPE k) with
    | 0 => .ofInt (signed 16 (leField d o 2))
    | 1 => .ofInt (signed 32 (leField d o 4))
    | 2 => f32 (leField d o 4)
    | _ => f32 (openWord Calc.gap [s.freeCtr, k] 0)
  toF32 ((v.round.1).scale (signed 8 (s.getF (Reg.GNT_FB_CFG_SCALE k))))

/-- A sample of FEEDBACK stream `n` reaches the slots that name it (R449). -/
def State.feedbackSample (s : State) (n : Nat) (d : List Byte) (tcap : Nat) : State :=
  ((List.range 32).filter (fun k => s.onF (Reg.GNT_FB_CFG_EN k) && s.getF (Reg.GNT_FB_CFG_STREAM k) == n)).foldl (fun u k =>
    ((u.setGntSlot k (some (d, tcap))).putF (Reg.GNT_FB_VAL_VAL k) (u.feedbackValue k d)).putF (Reg.GNT_FB_TCAP_T_CAP k) tcap) s

/-- A field of the active plan at a TB4 time; without a plan nothing is stated (R450). -/
def State.planField (s : State) (k t : Nat) : Num × State :=
  match s.gnt.plan with
  | some p => (f32 ((trajAt p.knots (timeTo p.t0 t)).getD k 0), s)
  | none =>
    let (v, s1) := s.free 32
    (f32 v, s1)

/-- What a selector of loop `i` reads now (R448). -/
def State.source (s : State) (i sel : Nat) : Num × State :=
  let k := bits sel 11 0
  match bits sel 15 12 with
  | 1 => (f32 (s.getF (Reg.GNT_FB_VAL_VAL k)), s)
  | 2 => (fm (Num.ofInt (signed 32 (s.getF (Reg.ENC_CNT_COUNT k)))).round.1 (f32 (s.getF (Reg.GNT_ENC_SCALE_SCALE k))), s)
  | 3 => (f32 (s.gntLoop k).v, s)
  | 4 => s.planField k ((s.now 4 + s.getF (Reg.GNT_L_LEAD_SP_LEAD i)) % 2 ^ 32)
  | 5 =>
    let x := s.gntLoop (bits k 5 0)
    (f32 (match bits k 7 6 with | 0 => x.p | 1 => x.pv | _ => x.pa), s)
  | _ => (.zero, s)

/-- What a list of selectors reads. -/
def State.sources (s : State) (i : Nat) : List Nat → List Num × State
  | [] => ([], s)
  | sel :: l =>
    let (v, s1) := s.source i sel
    let (r, s2) := s1.sources i l
    (v :: r, s2)

/-! ## Enabling (R444) -/

/-- The period exponent of loop `i`. -/
def State.loopPlog2 (s : State) (i : Nat) : Nat := s.getF (Reg.GNT_L_CFG_PLOG2 i)

/-- Loop `i` may not be enabled beside the enabled loops among `others` (R444). -/
def State.loopBad (s : State) (i : Nat) (others : List Nat) : Bool :=
  let n := s.getF (Reg.GNT_L_RC_NM1 i) + 1
  decide (8 ≤ others.length) ||
  others.any (fun j => s.loopPlog2 j != s.loopPlog2 i || s.getF (Reg.GNT_L_CFG_PHASE j) != s.getF (Reg.GNT_L_CFG_PHASE i)) ||
  decide (8 < s.loopPlog2 i) || (s.selectors i).any (fun x => !selectorOk x) ||
  (s.onF (Reg.GNT_L_CFG_TYPE i) && decide (8 < s.loopNx i)) ||
  (s.onF (Reg.GNT_L_RC_RC_EN i) && decide (n < s.getF (Reg.GNT_L_RC_LEAD i) + 2))

/-- The enabled loops of loop `i`'s actuator other than `i`. -/
def State.groupMates (s : State) (i : Nat) : List Nat := (s.actLoops (s.loopAct i)).filter (fun j => j != i)

/-- Loop `i` is refused: EN stays 0 with CFG_ERR (R444). -/
def State.refuseLoop (s : State) (i : Nat) : State :=
  ((s.putF (Reg.GNT_L_CFG_EN i) 0).putF (Reg.GNT_L_STAT_CFG_ERR i) 1).raise FS.GNT_CFG

/-- Loop `i` begins afresh: its first sample is at its next sample instant. The repetitive controller's buffers and the profile
generator stay. -/
def State.freshLoop (s : State) (i : Nat) (preset : Bool) : State :=
  let x := s.gntLoop i
  let y := { x with fresh := true, preset := preset, yf := 0, yfPrev := 0, d := 0, i := 0, done := false, k := 0 }
  (s.setGntLoop i { y with sampled := some (s.sampleNo i) }).putF
    (Reg.GNT_L_STAT_FE_CNT i) 0

/-- Actuator `a` gets its first loop while Garnet runs: it takes u_prev := SAFE_VAL and the state that a start would give
it, or ramps at once in the safe state or a stop (R463, R466, R467). -/
def State.firstLoop (s : State) (a : Nat) : State :=
  if s.gntActive && s.actState a == 0 then
    let s1 := (s.setGntAct a { s.gntAct a with uPrev := s.getF (Reg.GNT_A_SAFE_SAFE_VAL a) }).actAuto a
    if s1.inSafe then s1.rampActuator a 4
    else if s1.blockState 0x500 == .stopping then s1.rampActuator a 3
    else s1
  else s

/-- Actuator `a` takes the period and phase of loop `i`: its first output is at the next output instant (R444, R446). -/
def State.placeAct (s : State) (a i : Nat) : State :=
  let s1 := s.setGntAct a { s.gntAct a with plog2 := s.loopPlog2 i, phase := s.getF (Reg.GNT_L_CFG_PHASE i) }
  s1.setGntAct a { s1.gntAct a with output := some (s1.outputNo a) }

/-- A write of EN = 1 to loop `i`, its word written with EN = 1. -/
def State.enableLoop (s : State) (i : Nat) : State :=
  if s.loopBad i (s.groupMates i) then s.refuseLoop i
  else
    let a := s.loopAct i
    let s1 := (s.putF (Reg.GNT_L_STAT_CFG_ERR i) 0).freshLoop i false
    (if (s.groupMates i).isEmpty then s1.placeAct a i else s1).firstLoop a

/-- GNT_L_CFG (R444, R461). -/
def State.wrLoopCfg (s : State) (i v : Nat) : State :=
  let was := s.loopOn i
  let s1 := s.applyWord (Reg.GNT_L_CFG i) v
  if bit v 31 && !was then s1.enableLoop i
  else if was && !bit v 31 then
    let s2 := s1.putF (Reg.GNT_L_STAT_FE_CNT i) 0
    if s2.gntActive && (s2.actLoops (s2.loopAct i)).isEmpty then s2.rampActuator (s2.loopAct i) 3 else s2
  else s1

/-- GNT_L_RC: RC_EN going to 1 zeroes both buffers (R455). -/
def State.wrLoopRc (s : State) (i v : Nat) : State :=
  let was := s.onF (Reg.GNT_L_RC_RC_EN i)
  let s1 := s.applyWord (Reg.GNT_L_RC i) v
  if bit v 31 && !was then s1.setGntLoop i { s1.gntLoop i with bufV := [], bufE := [] } else s1

/-- GNT_L_PG: PG_EN going to 1 sets p to the current Y, v and a to 0 (R458). -/
def State.wrLoopPg (s : State) (i v : Nat) : State :=
  let was := s.onF (Reg.GNT_L_PG_PG_EN i)
  let s1 := s.applyWord (Reg.GNT_L_PG i) v
  if bit v 31 && !was then
    let (y, s2) := s1.source i (s1.getF (Reg.GNT_L_SRC_Y_SRC i))
    s2.setGntLoop i { s2.gntLoop i with p := toF32 y, pv := 0, pa := 0, retarget := true }
  else s1

/-- GNT_L_P(k): PG_TARGET, VMAX, AMAX, JMAX and PTOL clear PG_DONE (R457, R468). -/
def State.wrLoopParam (s : State) (i k v : Nat) : State :=
  let s1 := s.applyWord (Reg.GNT_L_P i k) v
  let s2 := if 25 ≤ k ∧ k ≤ 29 then s1.putF (Reg.GNT_L_STAT_PG_DONE i) 0 else s1
  if k = 25 then s2.setGntLoop i { s2.gntLoop i with retarget := true } else s2

/-- GNT_A_CTRL: MANUAL, and RECOVER in SAFE_HELD; a stop and the safe state are not left so (R454, R461, R463, R467). -/
def State.wrActCtrl (s : State) (a v : Nat) : State :=
  let s1 := s.applyWord (Reg.GNT_A_CTRL a) v
  if bit v 31 && s1.actState a == 4 && s1.isRunning 0x500 && !s1.inSafe then s1.setGntAct a { s1.gntAct a with recover := true }
  else s1

/-- GNT_F_CFG: a frame that is enabled is first sent at its next emit instant (R464). -/
def State.wrFrameCfg (s : State) (f v : Nat) : State :=
  let was := s.onF (Reg.GNT_F_CFG_EN f)
  let s1 := s.applyWord (Reg.GNT_F_CFG f) v
  if bit v 31 && !was then s1.emitMet f else s1

/-- GNT_FB_CFG: a slot that is enabled holds no sample yet (R449). -/
def State.wrSlotCfg (s : State) (k v : Nat) : State :=
  let was := s.onF (Reg.GNT_FB_CFG_EN k)
  let s1 := s.applyWord (Reg.GNT_FB_CFG k) v
  if bit v 31 && !was then s1.setGntSlot k none else s1


/-! ## Profile generator (R456–R458) -/

/-- One step of loop `i`'s profile generator, if it is on. -/
def State.profileStep (s : State) (i : Nat) : State :=
  if !s.onF (Reg.GNT_L_PG_PG_EN i) then s
  else
    let x := s.gntLoop i
    let ts := periodF32 (s.loopPlog2 i)
    let target := s.lp i 25
    let vmax := s.lp i 26
    let amax := s.lp i 27
    let jmax := s.lp i 28
    let p := f32 x.p
    let v := f32 x.pv
    let a := f32 x.pa
    let dist := fs target p
    let mag := fMin vmax (fRoot (fm (fm (.ofInt 2) amax) dist.abs))
    let vd := if dist.isZero then Num.zero else if dist.neg then mag.opp else mag
    let ad := fClamp (fm (fs vd v) (fd jmax amax)) amax.opp amax
    let j := fClamp (fd (fs ad a) ts) jmax.opp jmax
    let p1 := fa p (fm ts (fa v (fm ts (fa (fd a (.ofInt 2)) (fd (fm ts j) (.ofInt 6))))))
    let v1 := fa v (fm ts (fa a (fd (fm ts j) (.ofInt 2))))
    let a1 := fa a (fm ts j)
    let rest := (fs target p1).abs.leq (s.lp i 29) && v1.abs.leq (fm amax ts) && a1.abs.leq (fm jmax ts)
    let above := if x.retarget then fLess p target else x.above
    let past := if above then fs p1 target else fs target p1
    let over0 := if x.retarget then Num.zero else f32 (s.getF (Reg.GNT_L_MON_MON i 7))
    let exceed := if fLess over0 past then past else over0
    let (p2, v2, a2) := if rest then (target, Num.zero, Num.zero) else (p1, v1, a1)
    let s1 := s.setGntLoop i { x with p := toF32 p2, pv := toF32 v2, pa := toF32 a2, retarget := false, above := above }
    let s2 := if rest then s1.putF (Reg.GNT_L_STAT_PG_DONE i) 1 else s1
    (((s2.putF (Reg.GNT_L_MON_MON i 4) (toF32 p2)).putF (Reg.GNT_L_MON_MON i 5) (toF32 v2)).putF
      (Reg.GNT_L_MON_MON i 6) (toF32 a2)).putF (Reg.GNT_L_MON_MON i 7) (toF32 exceed)

/-! ## Loop computation (R451, R455) -/

/-- The repetitive controller's term, and the loop with its buffers and sample count advanced by error `e` (R455). -/
def State.repetitive (s : State) (i : Nat) (e : Num) (learns : Bool) : Num × GntLoop :=
  let x := s.gntLoop i
  if !s.onF (Reg.GNT_L_RC_RC_EN i) then (.zero, { x with k := x.k + 1 })
  else
    let n := s.getF (Reg.GNT_L_RC_NM1 i) + 1
    let lead := s.getF (Reg.GNT_L_RC_LEAD i)
    let zero : Nat → Nat := fun _ => 0
    let term (j : Int) : Num :=
      let at_ (q : Int) : Nat := ((x.k + q) % (n : Int)).toNat
      fa (f32 (Sparse.get zero x.bufV (at_ j))) (fm (s.lp i 21) (f32 (Sparse.get zero x.bufE (at_ (lead + j)))))
    let lim := s.lp i 24
    let rc := fClamp (fa (fm (s.lp i 22) (term 0)) (fm (s.lp i 23) (fa (term (-1)) (term 1)))) lim.opp lim
    (rc, { x with k := x.k + 1, bufV := Sparse.set zero x.bufV (x.k % n) (toF32 rc),
                  bufE := Sparse.set zero x.bufE (x.k % n) (if learns then toF32 e else 0) })

/-- v of a PID loop from its parts (R451): p, i, d, FF·r, rc. -/
def pidOut (p i d ff rc : Num) : Num := fa (fa (fa (fa p i) d) ff) rc

/-- v of a state-feedback loop from its parts (R451): KR·r less the state terms, i, rc. -/
def sfOut (kr : Num) (i rc : Num) : Num := fa (fa kr i) rc

/-- One sample of loop `i`: r, y and the states in; yf, d, i and v out, with an integrator preset at a start's first
sample (R451, R453, R466). -/
def State.computeLoop (s : State) (i : Nat) (r y : Num) (xs : List Num) : State :=
  let sf := s.onF (Reg.GNT_L_CFG_TYPE i)
  let x0 := s.gntLoop i
  let ts := periodF32 (s.loopPlog2 i)
  let ki := s.lp i 1
  let yf0 := if x0.fresh then y else f32 x0.yf
  let prev := if x0.fresh then y else f32 x0.yf
  let d0 := if x0.fresh then Num.zero else f32 x0.d
  let yf := fa yf0 (fm (s.lp i 5) (fs y yf0))
  let e := if sf then fs r y else fs r yf
  let a := s.loopAct i
  let (rc, x) := s.repetitive i e (s.actState a == 1 && s.isSelected i)
  let p := fm (s.lp i 0) (fs (fm (s.lp i 4) r) yf)
  let d := fd (fs (fm (s.lp i 3) d0) (fm (s.lp i 2) (fs yf prev))) (fa (s.lp i 3) ts)
  let i0 := f32 x0.i
  let i1 := if ki.isZero then (if sf then i0 else Num.zero) else fa i0 (fm (fm ki ts) e)
  let ff := fm (s.lp i 6) r
  let terms := (List.range xs.length).map (fun k => fm (s.lp i (13 + k)) (xs.getD k .zero))
  let kr := fs (fm (s.lp i 12) r) (terms.tail.foldl fa (terms.headD .zero))
  let out (w : Num) : Num := if sf then sfOut kr w rc else pidOut p w d ff rc
  let i2 := if x0.preset && !ki.isZero then fa i1 (fs (f32 (s.gntAct a).uPrev) (out i1)) else i1
  let v := out i2
  let s1 := s.setGntLoop i { x with sampled := some (s.sampleNo i), fresh := false, preset := false, yf := toF32 yf, yfPrev := toF32 prev, d := toF32 d,
                                    i := toF32 i2, v := toF32 v, done := true }
  (((s1.putF (Reg.GNT_L_MON_MON i 0) (toF32 v)).putF (Reg.GNT_L_MON_MON i 1) (toF32 i2)).putF
    (Reg.GNT_L_MON_MON i 2) (toF32 r)).putF (Reg.GNT_L_MON_MON i 3) (toF32 y)

/-! ## Sampling and supervision (R454, R459–R463) -/

/-- The requests that actuator `a` takes at a sample: RECOVER, MANUAL (R454, R461). -/
def State.takeRequests (s : State) (a : Nat) : State :=
  let x := s.gntAct a
  let s1 := s.setGntAct a { x with recover := false }
  match s.actState a with
  | 1 => if s.onF (Reg.GNT_A_CTRL_MANUAL a) then s1.putF (Reg.GNT_A_STAT_STATE a) 2 else s1
  | 2 => if s.onF (Reg.GNT_A_CTRL_MANUAL a) then s1 else s1.putF (Reg.GNT_A_STAT_STATE a) 1
  | 4 => if x.recover && !s.inSafe && s.isRunning 0x500 then s1.actAuto a else s1
  | _ => s1

/-- Loop `i` reads a stale feedback slot (R460). -/
def State.readsStale (s : State) (i : Nat) : Bool :=
  (s.selectors i).any (fun x => bits x 15 12 == 1 && s.slotStale (bits x 11 0))

/-- Supervision of loop `i` at a sample with set-point `r` and measurement `y` (R459, R460, R462). -/
def State.supervise (s : State) (i : Nat) (r y : Num) : State :=
  let a := s.loopAct i
  if !(s.actState a == 1 && s.isSelected i) then s.putF (Reg.GNT_L_STAT_FE_CNT i) 0
  else
    let lim := s.lp i 11
    let s1 := if !lim.isZero && fLess lim (fs r y).abs then s.satInc (Reg.GNT_L_STAT_FE_CNT i)
              else s.putF (Reg.GNT_L_STAT_FE_CNT i) 0
    if s.readsStale i then ((s1.rampActuator a 2).satInc Reg.GNT_CNT0_STALE).raise FS.GNT_STALE
    else if s1.getF (Reg.GNT_L_FE_FE_TIME i) < s1.getF (Reg.GNT_L_STAT_FE_CNT i) then
      ((s1.rampActuator a 1).satInc Reg.GNT_CNT0_FOLLOW).raise FS.GNT_FOLLOW
    else s1

/-- The set-point r of loop `i` from its source (R450). -/
def State.setPoint (s : State) (i : Nat) (x : Num) : Num :=
  let g := fm (s.lp i 9) x
  fa (if s.onF (Reg.GNT_L_CFG_MAP i) then fAtan g else g) (s.lp i 10)

/-- The sample instant of loop `i` and the computation that it starts (R446–R451, R454–R462). -/
def State.sampleLoop (s : State) (i : Nat) : State :=
  let a := s.loopAct i
  let s1 := (s.takeRequests a).profileStep i
  let (vals, s2) := s1.sources i (s1.selectors i)
  let r := s2.setPoint i (vals.getD 0 .zero)
  let y := vals.getD 1 .zero
  (s2.supervise i r y).computeLoop i r y (vals.drop 2)

/-! ## Outputs (R452, R453, R461) -/

/-- u_m of loop `m`: v clamped to its range and to the rate limit (R452). -/
def State.loopOut (s : State) (a m : Nat) (ts : Num) : Num :=
  let u := fClamp (f32 (s.gntLoop m).v) (s.lp m 7) (s.lp m 8)
  let rate := f32 (s.getF (Reg.GNT_A_RATE_RATE a))
  let prev := f32 (s.gntAct a).uPrev
  let w := fm rate ts
  if rate.isZero then u else fClamp u (fs prev w) (fa prev w)

/-- The lowest of some outputs by the minimum of R662, and the first loop that gives it (R452): a NaN among them is the lowest, and −0
lies below +0. -/
def lowestOut : List (Nat × Num) → Option (Nat × Num)
  | [] => none
  | x :: l =>
    let u := l.foldl (fun m y => fMin m y.2) x.2
    ((x :: l).find? (fun y => toF32 y.2 == toF32 u)).map (fun y => (y.1, u))

/-- One step of a ramp toward SAFE_VAL (R452, R461). -/
def rampStep (prev safe rate ts : Num) : Num :=
  if rate.isZero then safe
  else
    let w := fm rate ts
    if prev.leq safe then fMin (fa prev w) safe else fMax (fs prev w) safe

/-- Actuator `a`'s output, and the loop selected where it is AUTO (R452). -/
def State.formOutput (s : State) (a : Nat) (ms : List Nat) (ts : Num) : Option (Num × Option Nat) :=
  let safe := f32 (s.getF (Reg.GNT_A_SAFE_SAFE_VAL a))
  match s.actState a with
  | 1 => (lowestOut (ms.map (fun m => (m, s.loopOut a m ts)))).map (fun x => (x.2, some x.1))
  | 2 =>
    let all := s.actLoops a
    match all with
    | [] => none
    | m :: l =>
      let lo := l.foldl (fun x j => fMin x (s.lp j 7)) (s.lp m 7)
      let hi := l.foldl (fun x j => fMax x (s.lp j 8)) (s.lp m 8)
      some (fClamp (f32 (s.getF (Reg.GNT_A_MAN_MAN_VAL a))) lo hi, none)
  | 3 => some (rampStep (f32 (s.gntAct a).uPrev) safe (f32 (s.getF (Reg.GNT_A_SRATE_SAFE_RATE a))) ts, none)
  | 4 => some (safe, none)
  | _ => none

/-- Loop `m` presets its integrator from the output just formed (R453). -/
def State.presetLoop (s : State) (u : Num) (m : Nat) : State :=
  if (s.lp m 1).isZero then s
  else
    let x := s.gntLoop m
    let w := toF32 (fa (f32 x.i) (fs u (f32 x.v)))
    (s.setGntLoop m { x with i := w }).putF (Reg.GNT_L_MON_MON m 1) w

/-- The output instant of actuator `a`: the output formed, written and fed back (R452, R453, R461). -/
def State.outputAct (s : State) (a : Nat) : State :=
  let ms := (s.actLoops a).filter (fun m => (s.gntLoop m).done)
  let now := some (s.outputNo a)
  match s.formOutput a ms (periodF32 (s.gntAct a).plog2) with
  | none => s.setGntAct a { s.gntAct a with output := now }
  | some (u, sel) =>
    let w := toF32 u
    let s1 := match sel with | some m => s.putF (Reg.GNT_A_STAT_SEL a) m | none => s
    let s2 := (s1.setGntAct a { s1.gntAct a with uPrev := w, output := now }).putF (Reg.GNT_A_OUT_U a) w
    let safe := f32 (s.getF (Reg.GNT_A_SAFE_SAFE_VAL a))
    let held := s.actState a == 3 && u.leq safe && safe.leq u
    let s3 := if held then s2.putF (Reg.GNT_A_STAT_STATE a) 4 else s2
    ms.foldl (fun t m => t.presetLoop u m) s3

/-! ## Actuator frames (R464, R465) -/

/-- The `k`-th actuator of frame `f`. -/
def State.frameAct (s : State) (f k : Nat) : Nat :=
  bits (s.reg (Reg.GNT_F_ACT f (k / 4))).toNat (8 * (k % 4) + 5) (8 * (k % 4))

/-- What a frame says of actuator `a`. -/
def State.actEntry (s : State) (a : Nat) : List Byte :=
  leBytes 4 (s.getF (Reg.GNT_A_OUT_U a)) ++
    leBytes 4 (a * 2 ^ 24 + s.getF (Reg.GNT_A_STAT_SEL a) * 2 ^ 16 + s.getF (Reg.GNT_A_STAT_CAUSE a) * 16 + s.actState a)

/-- The payload of actuator frame `f`, its counter advanced (R464, R465). -/
def State.actFrame (s : State) (f : Nat) : List Byte :=
  let n := min 16 (s.getF (Reg.GNT_F_CFG_N f))
  let stopping := s.blockState 0x500 == .stopping
  let body := leBytes 4 1 ++ leBytes 4 (s.getF (Reg.GNT_F_CNT_CNT f)) ++ leBytes 4 (s.now 2) ++
    leBytes 4 (b2n s.inSafe * 2 ^ 31 + b2n stopping * 2 ^ 30 + n) ++
    (List.range n).flatMap (fun k => s.actEntry (s.frameAct f k))
  body ++ leBytes 4 (crc32 body)

/-- Frame `f` is emitted. -/
def State.emitActFrame (s : State) (f : Nat) : State :=
  let s1 := ((s.emitMet f).wrapInc (Reg.GNT_F_CNT_CNT f)).wrapInc Reg.GNT_CNT0_FRAMES
  let p := s1.actFrame f
  (s1.originate (2 + f) 3 f (s1.getF (Reg.GNT_F_DST_ETH f)) p).offerXlAll (s1.getF (Reg.GNT_F_DST_CAN f)) (1 + f)
    (s1.getF (Reg.GNT_F_ID_ID f)) (z32Header 3 f) p

/-! ## Control periods (R41, R45, R445) -/

/-- The TB4 ns at which the next control-period boundary of the frame lies, from its tick. -/
def State.boundaryDue (s : State) : Bool :=
  decide (s.gnt.boundary < 16 ∧ 62500 * s.gnt.boundary ≤ (s.now 4 + 2 ^ 32 - s.frame.tb4) % 2 ^ 32)

/-- A control-period boundary; on the first of a frame Garnet adopts the plan that was handed over (R45). -/
def State.controlBoundary (s : State) : State :=
  let s1 := { s with gnt := { s.gnt with boundary := s.gnt.boundary + 1 } }
  match s.gnt.next, s.gnt.boundary == 0 && s.gntActive with
  | some x, true =>
    let s2 := { s1 with gnt := { s1.gnt with plan := some x, next := none } }
    ((s2.putF Reg.GNT_PLAN_FRAME x.frame).putF Reg.GNT_PLAN_T0_T0 x.t0).kick 5
  | _, _ => s1

/-! ## Start and stop (R466, R467) -/

/-- Garnet's start disables the enabled loops that fail R444. -/
def State.gntCheck (s : State) : State :=
  (List.range 64).foldl (fun t i => if t.loopOn i && t.loopBad i (t.groupMates i) then t.refuseLoop i else t) s

/-- Garnet has started: buffers zeroed, loops afresh with presets, actuators with a loop in AUTO or MANUAL from SAFE_VAL; a
FOLLOW or STALE actuator stays in SAFE_HELD; in the safe state all ramp. -/
def State.gntStarted (s : State) : State :=
  let s1 := ((List.range 64).filter (fun i => s.loopOn i)).foldl (fun t i =>
    (t.freshLoop i true).setGntLoop i { (t.freshLoop i true).gntLoop i with bufV := [], bufE := [] }) s
  let s2 := ((List.range 64).filter (fun a => !(s1.actLoops a).isEmpty)).foldl (fun t a =>
    let c := t.getF (Reg.GNT_A_STAT_CAUSE a)
    let u := t.setGntAct a { t.gntAct a with uPrev := t.getF (Reg.GNT_A_SAFE_SAFE_VAL a), recover := false,
                                             output := some (t.outputNo a) }
    if c = 1 ∨ c = 2 then u.putF (Reg.GNT_A_STAT_STATE a) 4 else u.actAuto a) s1
  let s3 := (List.range 32).foldl (fun t f => t.emitMet f) s2
  if s3.inSafe then s3.rampActuators 4 else s3

/-- Garnet's stop (R467). -/
def State.gntStop (s : State) : State := s.rampActuators 3

/-- Every actuator has reached SAFE_HELD (R467). -/
def State.gntHeld (s : State) : Bool := (List.range 64).all (fun a => s.actState a == 0 || s.actState a == 4)

/-! ## Commands -/

/-- CONTROL_PERIOD_BOUNDARY (R41, R45). -/
def execControlPeriodBoundary (s : State) : Host.Outcome State Fault Refusal :=
  whenLive (fun s => s.guard s.boundaryDue (fun s => s.controlBoundary)) s

/-- LOOP_SAMPLE (R446–R451). -/
def execLoopSample (loop : Nat) (s : State) : Host.Outcome State Fault Refusal :=
  whenLive (fun s => s.guard (decide (loop < 64) && s.gntActive && s.loopOn loop && s.sampleDue loop) (fun s => s.sampleLoop loop)) s

/-- LOOP_OUTPUT (R452, R453). -/
def execLoopOutput (act : Nat) (s : State) : Host.Outcome State Fault Refusal :=
  whenLive (fun s => s.guard (decide (act < 64) && s.gntActive && s.outputDue act) (fun s => s.outputAct act)) s

/-- ACTUATOR_FRAME_EMIT (R464). -/
def execActuatorFrameEmit (frame : Nat) (s : State) : Host.Outcome State Fault Refusal :=
  whenLive (fun s => s.guard (decide (frame < 32) && s.gntActive && s.onF (Reg.GNT_F_CFG_EN frame) && s.emitDue frame) (fun s =>
    s.emitActFrame frame)) s

/-- LOOP_ENABLE: the configuration word is written with EN = 1 (R444). -/
def execLoopEnable (req : Requester) (loop cfg : Nat) (s : State) : Host.Outcome State Fault Refusal :=
  let v := setBits (cfg % 2 ^ 32) 31 31 1
  whenLive (fun s => s.guard (decide (loop < 64)) (fun s => s.access req (Reg.GNT_L_CFG loop) v (fun t => t.wrLoopCfg loop v))) s

/-- LOOP_DISABLE: the configuration word is written with EN = 0 (R461). -/
def execLoopDisable (req : Requester) (loop cfg : Nat) (s : State) : Host.Outcome State Fault Refusal :=
  let v := setBits (cfg % 2 ^ 32) 31 31 0
  whenLive (fun s => s.guard (decide (loop < 64)) (fun s => s.access req (Reg.GNT_L_CFG loop) v (fun t => t.wrLoopCfg loop v))) s

/-- RECOVER: GNT_A_CTRL is written with RECOVER = 1 and MANUAL as it stands (R461). -/
def execRecover (req : Requester) (act : Nat) (s : State) : Host.Outcome State Fault Refusal :=
  whenLive (fun s => s.guard (decide (act < 64)) (fun s =>
    let v := 2 ^ 31 + s.getF (Reg.GNT_A_CTRL_MANUAL act)
    s.access req (Reg.GNT_A_CTRL act) v (fun t => t.wrActCtrl act v))) s

/-- MANUAL (R454). -/
def execManual (req : Requester) (act : Nat) (manual : Bool) (s : State) : Host.Outcome State Fault Refusal :=
  whenLive (fun s => s.guard (decide (act < 64)) (fun s =>
    s.access req (Reg.GNT_A_CTRL act) (b2n manual) (fun t => t.wrActCtrl act (b2n manual)))) s

end Sys2Proof.Machine
end

