-- ==== Sys2Proof/Machine/Ingress.lean ====
section
/-! DEFINITION. Sensor ingress (chapter 11): streams and their samples (R316–R325), parsing (R329–R331), memory-sourced
streams (R332), stops and restarts (R340–R345), and pack channels (R333–R336). -/

namespace Sys2Proof.Machine

/-! ## Parts of the state -/

/-- Stream `i` beyond its registers. -/
def State.ingStream (s : State) (i : Nat) : IngStream := Sparse.get (fun _ => {}) s.ing.streams i

/-- The state with stream `i` replaced. -/
def State.setIngStream (s : State) (i : Nat) (x : IngStream) : State :=
  { s with ing := { s.ing with streams := Sparse.set (fun _ => {}) s.ing.streams i x } }

/-- Pack channel `c` beyond its registers. -/
def State.pack (s : State) (c : Nat) : PackChan := Sparse.get (fun _ => {}) s.ing.packs c

/-- The state with pack channel `c` replaced. -/
def State.setPack (s : State) (c : Nat) (x : PackChan) : State :=
  { s with ing := { s.ing with packs := Sparse.set (fun _ => {}) s.ing.packs c x } }

/-- KIND, INST and STATE of stream `i`; it RUNs. -/
def State.ingKind (s : State) (i : Nat) : Nat := s.getF (Reg.ING_S_CTRL_KIND i)
def State.ingInst (s : State) (i : Nat) : Nat := s.getF (Reg.ING_S_SRC_INST i)
def State.ingRuns (s : State) (i : Nat) : Bool := s.isRunning 0x380 && s.getF (Reg.ING_S_STAT_STATE i) == 1

/-- The partition of stream `i`. -/
def State.ingPart (s : State) (i : Nat) : Nat := s.owner (0x381 + i / 8)

/-- The stream takes its samples from memory (R332). -/
def State.memSourced (s : State) (i : Nat) : Bool := s.ingKind i == 8 || s.onF (Reg.ING_S_CTRL_REPLAY i)

/-- A kind whose samples go to the memory ring (R316). -/
def ringKind (k : Nat) : Bool := k == 0 || k == 5 || k == 7 || k == 8

/-- A control-class kind (R316). -/
def controlKind (k : Nat) : Bool := k == 2 || k == 3 || k == 4 || k == 6 || k == 7

/-- Bytes that partition `p` reads: free values where it may not read them. -/
def State.fetchFor (s : State) (p a n : Nat) : List Byte × State := s.readFor ingressPort p a n

/-- Bytes that partition `p` writes: none where it may not. -/
def State.storeFor (s : State) (p a : Nat) (l : List Byte) : State := s.putIf ingressPort p a l

/-- Stream `i` signals an object through ING's sync port, at which its index is its port (R195, R325). -/
def State.ingSignal (s : State) (i obj n : Nat) : State := (s.granted (.ingress true) i).signal ingressPort obj n

/-- The samples of stream `i` begin with the rising edges of its trigger output: IMU bursts and encoder counts (R316, R319). -/
def State.edgeKind (s : State) (i : Nat) : Bool := s.ingKind i == 2 || (s.ingKind i == 3 && decide (s.ingInst i < 8))

/-! ## Configuration (R316, R343) -/

/-- The source instances of a kind (R316). -/
def instOk (kind inst : Nat) : Bool :=
  match kind with
  | 0 => decide (inst < 4)
  | 1 => inst == 14
  | 2 => decide (inst < 4)
  | 3 => decide (inst < 8) || decide (8 ≤ inst ∧ inst < 14)
  | 4 => decide (inst < 2)
  | 5 => decide (inst < 2)
  | 6 => decide (8 ≤ inst ∧ inst < 15)
  | 7 => decide (8 ≤ inst ∧ inst < 16)
  | 8 => true
  | _ => false

/-- The CSI-2 port and virtual channel of a camera stream. -/
def State.camSource (s : State) (i : Nat) : Nat := s.ingInst i * 16 + s.getF (Reg.ING_S_SRC_SEL i) % 16

/-- The enabled camera streams other than `i`. -/
def State.otherCams (s : State) (i : Nat) : List Nat :=
  (List.range 64).filter (fun j => j != i && s.onF (Reg.ING_S_CTRL_EN j) && s.ingKind j == 0)

/-- A list without repeats. -/
def distinct (l : List Nat) : List Nat := l.foldl (fun r x => if r.contains x then r else r ++ [x]) []

/-- A rule of R316 is broken by enabling stream `i`. -/
def State.breaksR316 (s : State) (i : Nat) : Bool :=
  let k := s.ingKind i
  let cams := (s.otherCams i).map s.camSource
  !instOk k (s.ingInst i) ||
  (k == 0 && (decide (32 ≤ i) || decide (2 ≤ (cams.filter (fun c => c == s.camSource i)).length) ||
    decide (16 < (distinct (s.camSource i :: cams)).length))) ||
  (k == 5 && !(decide (1 ≤ s.getF (Reg.ING_S_SRC_SEL i) / 16 % 16 ∧ s.getF (Reg.ING_S_SRC_SEL i) / 16 % 16 ≤ 15))) ||
  (k == 7 && s.ingInst i == 15 &&
    (List.range 64).any (fun j => j != i && s.onF (Reg.ING_S_CTRL_EN j) && s.ingKind j == 7 && s.ingInst j == 15))

/-- Channels and frames of an audio block (R331). -/
def State.audioChannels (s : State) (i : Nat) : Nat := s.getF (Reg.ING_S_SRC_SEL i) % 16 + 1
def State.audioFrames (s : State) (i : Nat) : Nat := 48 * (s.getF (Reg.ING_S_SRC_SEL i) / 16 % 16)

/-- The largest payload of stream `i`. -/
def State.maxPayload (s : State) (i : Nat) : Nat :=
  match s.ingKind i with
  | 0 => s.ifeBytes i
  | 5 => 4 * s.audioChannels i * s.audioFrames i
  | _ => s.getF (Reg.ING_S_LEN_LEN_MAX i)

/-- SLOT_BYTES and NSLOT. -/
def State.slotBytes (s : State) (i : Nat) : Nat := 64 * s.getF (Reg.ING_S_SLOT_SLOT i)
def State.slotCount (s : State) (i : Nat) : Nat := 2 ^ s.getF (Reg.ING_S_SLOT_LOG2N i)

/-- The bytes of a slot with a payload of `n` bytes (R321). -/
def State.slotNeed (s : State) (i n : Nat) : Nat :=
  let r := s.getF (Reg.ING_S_CTRL_NRAND i)
  if r = 0 then 64 + n else 64 + ceilDiv n 64 * 64 + 4 * r

/-- The sync objects that stream `i` uses. -/
def State.ingObjects (s : State) (i : Nat) : List Nat :=
  (if ringKind (s.ingKind i) then
    [s.getF (Reg.ING_S_OBJ1_DONE_OBJ i), s.getF (Reg.ING_S_OBJ1_ORDER_OBJ i), s.getF (Reg.ING_S_OBJ2_REL_OBJ i)] else []) ++
  (if s.memSourced i then [s.getF (Reg.ING_S_OBJ2_IN_OBJ i)] else [])

/-- A start of stream `i` from OFF is refused (R343). -/
def State.ingRefused (s : State) (i : Nat) : Bool :=
  decide (8 < s.ingKind i) || s.breaksR316 i || (s.ingObjects i).any (fun o => !s.liveOf o (s.ingPart i)) ||
  !(decide (1 ≤ s.getF (Reg.ING_S_SLOT_LOG2N i) ∧ s.getF (Reg.ING_S_SLOT_LOG2N i) ≤ 16)) ||
  (ringKind (s.ingKind i) && decide (s.slotBytes i < s.slotNeed i (s.maxPayload i))) ||
  (s.ingKind i == 0 && s.ifeBad i)

/-! ## Starting and stopping (R341–R345) -/

/-- Stream `i` starts: everything of an earlier start is gone (R322, R332, R342). -/
def State.startStream (s : State) (i : Nat) : State :=
  let x : IngStream := { rel0 := s.syncValue (s.getF (Reg.ING_S_OBJ2_REL_OBJ i)), in0 := s.syncValue (s.getF (Reg.ING_S_OBJ2_IN_OBJ i)) }
  ((s.setIngStream i x).putF (Reg.ING_S_STAT_STATE i) 1).putF (Reg.ING_S_STAT_CAUSE i) 0

/-- Stream `i`'s bit of ING_STOPPED. -/
def State.showStopped (s : State) (i : Nat) (v : Bool) : State := s.putF ⟨Reg.ING_STOPPED + i / 32 * 4, i % 32, i % 32⟩ (b2n v)

/-- The sensor of stream `i` is reported absent or present; an index from 64 on is none (R341, R342, R344). -/
def State.reportAbsent (s : State) (i : Nat) (v : Bool) : State :=
  let n := s.getF (Reg.ING_S_CTRL_SENSOR i)
  if n < 64 then s.putF ⟨Reg.ING_ABSENT + n / 32 * 4, n % 32, n % 32⟩ (b2n v) else s

/-- Stream `i` stops at a bad sample (R341). -/
def State.stopStream (s : State) (i cause : Nat) : State :=
  let x := s.ingStream i
  let s1 := s.setIngStream i { x with begun := [], writing := [], finished := [] }
  let s2 := (((s1.putF (Reg.ING_S_STAT_STATE i) 2).putF (Reg.ING_S_STAT_CAUSE i) cause).satInc (Reg.ING_S_STAT_STOPS i)).putF
    (Reg.ING_S_CTRL_EN i) 0
  let s3 := ((s2.showStopped i true).reportAbsent i true).irq (0x381 + i / 8) (2 ^ (i % 8))
  let s4 := if s.ingKind i = 1 then (s.scanners.filter (fun k => s.getF (Reg.PUM_SC_CFG_STREAM k) == i)).foldl (fun u k => u.abandonSweep k) s3
            else s3
  s4.raise FS.ING_STOP

/-- Stream `i` goes to OFF; its samples in flight are discarded. -/
def State.streamOff (s : State) (i : Nat) : State := ((s.setIngStream i {}).putF (Reg.ING_S_STAT_STATE i) 0).showStopped i false

/-- ING_S_CTRL: EN = 1 starts or restarts a stream or is refused, EN = 0 takes it to OFF (R342, R343). -/
def State.wrStreamCtrl (s : State) (i v : Nat) : State :=
  let st := s.getF (Reg.ING_S_STAT_STATE i)
  let s1 := s.applyWord (Reg.ING_S_CTRL i) v
  if !bit v 31 then (if st = 0 then s1 else s1.streamOff i)
  else if st = 1 then s1
  else if st = 2 then (s1.startStream i).showStopped i false
  else if s1.ingRefused i then ((s1.putF (Reg.ING_S_CTRL_EN i) 0).putF (Reg.ING_S_STAT_CAUSE i) 6).raise FS.ING_CFG
  else if s1.isRunning 0x380 then s1.startStream i
  else s1.putF (Reg.ING_S_STAT_CAUSE i) 0

/-- ING has started: each stream with EN = 1 starts again (R345). -/
def State.ingStarted (s : State) : State :=
  ((List.range 64).filter (fun i => s.onF (Reg.ING_S_CTRL_EN i))).foldl (fun u i => (u.startStream i).showStopped i false) s

/-! ## Beginning (R319, R320) -/

/-- A sample of stream `i` begins: it takes the next SID (R319, R320). -/
def State.takeSid (s : State) (i : Nat) : State :=
  let x := s.ingStream i
  let sid := s.getF (Reg.ING_S_SID_SID i)
  let trig := if s.onF (Reg.ING_S_TRIG_EN i) then (s.trigger (s.getF (Reg.ING_S_TRIG_TRIG i))).edgeTb3 else 0
  let b : IngSample := { sid := sid, tcap := s.tb3, ttrig := trig, count := s.getF (Reg.ENC_CNT_COUNT (s.ingInst i % 8)) }
  let first := match x.first with | some f => some f | none => some sid
  (s.setIngStream i { x with begun := x.begun ++ [b], first := first }).wrapInc (Reg.ING_S_SID_SID i)

/-- What starts a sample of stream `i` reaches it; a camera's frame start before its frame end stops it (R319, R340). -/
def State.beginSample (s : State) (i : Nat) : State :=
  if s.ingKind i = 0 ∧ !s.memSourced i ∧ !(s.ingStream i).begun.isEmpty then s.stopStream i 2 else s.takeSid i

/-! ## Parsing (R329, R330, R340) -/

/-- CRC of a type over bytes (R329). -/
def ingCrc (type : Nat) (d : List Byte) : Nat :=
  match type with
  | 1 => crcMsb 8 0x2F 0xFF d ^^^ 0xFF
  | 2 => crcMsb 16 0x1021 0xFFFF d
  | _ => crc32 d

/-- A sample as it is parsed: a stop cause, or its payload and its sequence field. -/
inductive Parsed where
  | stop (cause : Nat)
  | ok (payload : List Byte) (seq : Option Nat)
deriving DecidableEq, Repr

/-- The CRC and the sequence field of a sample whose length is known, after the sequence field `last`. -/
def State.parseBody (s : State) (i : Nat) (p : List Byte) (last : Option Nat) (control : Bool) : Parsed :=
  let c := s.getF (Reg.ING_S_FRAME_CRC i)
  let k := match c with | 0 => 0 | 1 => 1 | 2 => 2 | _ => 4
  let w := s.getF (Reg.ING_S_FRAME_SEQ_W i)
  let o := s.getF (Reg.ING_S_FRAME_SEQ_OFF i)
  let seq := leField p o w
  if p.length < k then .stop 1
  else if c ≠ 0 ∧ leField p (p.length - k) k ≠ ingCrc c (p.take (p.length - k)) then .stop 1
  else if w = 0 then .ok p none
  else if p.length < o + w then .stop 4
  else if control && (match last with | some l => seq != (l + 1) % 2 ^ (8 * w) | none => false) then .stop 3
  else .ok p (some seq)

/-- Parse the bytes of a control-class sample of stream `i` (R329, R340). -/
def State.parseControl (s : State) (i : Nat) (d : List Byte) (last : Option Nat) : Parsed :=
  let off := s.getF (Reg.ING_S_FRAME_LEN_OFF i)
  let hi := s.getF (Reg.ING_S_LEN_LEN_MAX i)
  let lo := s.getF (Reg.ING_S_LEN_LEN_MIN i)
  let n := if off = 0 then hi else leField d off 2
  let limit := if ringKind (s.ingKind i) then s.slotBytes i - 64 else 64
  if n < lo ∨ hi < n ∨ d.length < n ∨ limit < n then .stop 4 else s.parseBody i (d.take n) last true

/-- Parse the bytes of a POINTS or REQUEST sample (R330, R340). -/
def State.parseData (s : State) (i : Nat) (d : List Byte) (last : Option Nat) : Parsed :=
  if d.length < s.getF (Reg.ING_S_LEN_LEN_MIN i) ∨ s.getF (Reg.ING_S_LEN_LEN_MAX i) < d.length then .stop 4
  else s.parseBody i d last false

/-- The payload of an audio block: 32-bit TDM slots as FP32, scaled by 2^−31 (R331). -/
def State.audioPayload (s : State) (i : Nat) (d : List Byte) : List Byte :=
  (List.range (s.audioChannels i * s.audioFrames i)).flatMap (fun k =>
    leBytes 4 (toF32 ((Num.ofInt (signed 32 (leField d (4 * k) 4))).mul (.fin false 1 (-31))).1))

/-- A sample's bytes as its kind makes them its payload, or the cause that stops the stream. -/
def State.parseKind (s : State) (i sid : Nat) (d : List Byte) (damage : SampleDamage) (last : Option Nat) : Parsed :=
  match damage with
  | .crc => .stop 1
  | .malformed => .stop 2
  | _ =>
    let k := s.ingKind i
    if k = 0 then
      if pixelFrameBytes (s.ifeDt i) (s.ifeW i) (s.ifeH i) = some d.length then .ok (s.frontEnd i sid d) none else .stop 2
    else if k = 5 then
      if d.length = 4 * s.audioChannels i * s.audioFrames i then .ok (s.audioPayload i d) none else .stop 2
    else if controlKind k then s.parseControl i d last
    else s.parseData i d last

/-- A sample of stream `i` is parsed; a payload that does not fit its slot stops the stream (R340). -/
def State.parse (s : State) (i sid : Nat) (d : List Byte) (damage : SampleDamage) (last : Option Nat) : Parsed :=
  match s.parseKind i sid d damage last with
  | .ok p seq => if ringKind (s.ingKind i) && decide (s.slotBytes i < s.slotNeed i p.length) then .stop 4 else .ok p seq
  | .stop c => .stop c

/-- The bytes start with the two SYNC bytes, low byte first, or the stream takes none (R329). -/
def State.synced (s : State) (i : Nat) (d : List Byte) : Bool :=
  s.ingKind i != 4 || (decide (2 ≤ d.length) && leField d 0 2 == s.getF (Reg.ING_S_FRAME_SYNC i))

/-! ## Delivery (R318, R321–R324) -/

/-- The identity of a sample that is delivered: SID, T_CAP, T_TRIG, T_SENSOR, SEQ, and the flags REPLAY and ECC_CORR. -/
structure SampleHead where
  sid : Nat
  tcap : Nat
  ttrig : Nat
  tsensor : Nat
  seq : Nat
  replay : Bool
  ecc : Bool
deriving DecidableEq, Repr

/-- The bytes of a slot (R321, R337). -/
def State.slotImage (s : State) (i : Nat) (h : SampleHead) (p : List Byte) : List Byte :=
  let r := s.getF (Reg.ING_S_CTRL_NRAND i)
  let aug := s.ingKind i == 0 && s.onF (Reg.IFE_CFG_AUG i)
  let words := (List.range r).flatMap (fun k => leBytes 4 (seededWord (s.getF Reg.ING_SEED_SEED) i h.sid k))
  let head := leBytes 4 (s.ingKind i * 256 + i) ++ leBytes 4 h.sid ++ leBytes 4 h.tcap ++ leBytes 4 h.ttrig ++
    leBytes 4 h.tsensor ++ leBytes 4 p.length ++
    leBytes 4 (r * 256 + 4 * b2n h.ecc + 2 * b2n h.replay + b2n aug) ++ leBytes 4 h.seq ++ List.replicate 28 0
  let pad := List.replicate (if r = 0 then 0 else ceilDiv p.length 64 * 64 - p.length) (0 : Byte)
  head ++ leBytes 4 (crc32 (head ++ p ++ words)) ++ p ++ pad ++ words

/-- The distance of a SID from SID_FIRST. -/
def IngStream.index (x : IngStream) (sid : Nat) : Nat := (sid + 2 ^ 32 - (x.first.getD sid) % 2 ^ 32) % 2 ^ 32

/-- How far the unbroken run of finished samples reaches from `n`. -/
def runFrom (l : List Nat) : Nat → Nat → Nat
  | 0, n => n
  | k + 1, n => if l.contains n then runFrom l k (n + 1) else n

/-- Sample number `k` of stream `i` is finished: ORDER_OBJ gets what has joined the unbroken run (R323). -/
def State.finishSample (s : State) (i k : Nat) : State :=
  let x := s.ingStream i
  let l := k :: x.finished
  let n := runFrom l l.length x.run
  let s1 := s.setIngStream i { x with run := n, finished := l.filter (fun j => decide (n ≤ j)) }
  if n = x.run then s1 else s1.ingSignal i (s1.getF (Reg.ING_S_OBJ1_ORDER_OBJ i)) (n - x.run)

/-- A sample is dropped (R324, R327). -/
def State.dropSample (s : State) (i sid : Nat) : State :=
  (s.satInc (Reg.ING_S_CNT_DROPS i)).finishSample i ((s.ingStream i).index sid)

/-- Sample `sid` has a free slot (R322). -/
def State.slotFree (s : State) (i sid : Nat) : Bool :=
  let x := s.ingStream i
  let rel := (s.syncValue (s.getF (Reg.ING_S_OBJ2_REL_OBJ i)) + 2 ^ 64 - x.rel0) % 2 ^ 64
  decide (x.index sid < rel + s.slotCount i)

/-- A good sample is delivered: NOSIGNAL ends and the sensor is present (R342, R344). -/
def State.sampleGood (s : State) (i : Nat) : State := (s.putF (Reg.ING_S_STAT_NOSIGNAL i) 0).reportAbsent i false

/-- A good sample clears NOSIGNAL, whether or not a slot is free for it; the sensor that it had reported absent is present (R344). -/
def State.signalBack (s : State) (i : Nat) : State := if s.onF (Reg.ING_S_STAT_NOSIGNAL i) then s.sampleGood i else s

/-- A sample goes to the memory ring (R321–R324). -/
def State.toRing (s : State) (i : Nat) (h : SampleHead) (p : List Byte) : State :=
  if s.slotFree i h.sid then
    let a := s.getF (Reg.ING_S_RING_BASE i) * 64 + h.sid % s.slotCount i * s.slotBytes i
    let s1 := ((s.granted (.ingress false) i).storeFor (s.ingPart i) a (s.slotImage i h p)).sampleGood i
    s1.setIngStream i { s1.ingStream i with writing := (s1.ingStream i).writing ++ [h.sid] }
  else if controlKind (s.ingKind i) then s.stopStream i 5
  else s.dropSample i h.sid

/-- The RAW record of a control sample (R316, R349). Its CLASS, its LABEL, and the payload bytes past LEN are not stated. -/
def State.rawRecord (s : State) (i : Nat) (h : SampleHead) (p : List Byte) : List Byte × State :=
  let (c, s0) := s.free 4
  let (rest, s2) := s0.freeBytes (64 - p.length)
  let (label, s1) := s2.freeBytes 4
  let body := leBytes 4 (2 ^ 28 + 2 ^ 26 + c * 2 ^ 20 + s.getF (Reg.ING_S_CTRL_SENSOR i) % 64) ++ leBytes 4 h.sid ++
    leBytes 4 h.tcap ++ leBytes 4 h.ttrig ++ leBytes 4 h.tsensor ++ leBytes 4 (h.seq % 2 ^ 16 * 2 ^ 16 + p.length) ++
    List.replicate 8 0 ++ p ++ rest ++ List.replicate 12 0 ++ label ++ List.replicate 12 0
  (body ++ leBytes 4 (crc32 body), s1)

/-- A parsed sample goes to its destination (R316, R318). -/
def State.deliver (s : State) (i : Nat) (h : SampleHead) (p : List Byte) : State :=
  match s.ingKind i with
  | 1 => (s.sampleGood i).pointSample i p h.tcap
  | 2 | 3 | 4 =>
    let (d, s1) := (s.sampleGood i).rawRecord i h p
    (s1.agtInsert 16 d).2
  | 6 => let s1 := s.sampleGood i
         if s1.gntActive then s1.feedbackSample i p h.tcap else s1
  | _ => s.toRing i h p

/-- A data-class sequence gap is counted (R330). -/
def State.countGap (s : State) (i : Nat) (last seq : Option Nat) : State :=
  match last, seq with
  | some l, some q => if q = (l + 1) % 2 ^ (8 * s.getF (Reg.ING_S_FRAME_SEQ_W i)) then s else s.satInc (Reg.ING_S_CNT_GAPS i)
  | _, _ => s

/-- A sample with identity `h` has arrived whole (R329–R331, R340). A logged SEQ stands for a replay. -/
def State.takeSample (s : State) (i : Nat) (h : SampleHead) (d : List Byte) (damage : SampleDamage) : State :=
  if damage = .overflow then s.dropSample i h.sid
  else
    let s1 := if damage = .ecc then s.satInc (Reg.ING_S_CNT_ECC i) else s
    let x := s1.ingStream i
    match s1.parse i h.sid d damage x.seq with
    | .stop c => s1.stopStream i c
    | .ok p seq =>
      let s2 := (s1.setIngStream i { x with seq := seq }).signalBack i
      let control := controlKind (s.ingKind i)
      let s3 := if control then s2 else s2.countGap i x.seq seq
      let q := if h.replay then h.seq else if control then seq.getD 0 else 0
      s3.deliver i { h with seq := q } p

/-- The oldest sample of stream `i` that has begun ends with its last byte (R318); UART bytes that do not start with SYNC are no
sample (R329). -/
def State.endSample (s : State) (i : Nat) (d embedded : List Byte) (damage : SampleDamage) : State :=
  let x := s.ingStream i
  match x.begun with
  | [] => s
  | b :: l =>
    let k := s.ingKind i
    let bytes := if k = 3 ∧ s.ingInst i < 8 then leBytes 4 b.count else d
    let tsensor := if k = 0 ∧ 4 ≤ embedded.length then leField embedded 0 4 else 0
    let h : SampleHead := { sid := b.sid, tcap := b.tcap, ttrig := b.ttrig, tsensor := tsensor, seq := 0, replay := false,
                            ecc := damage == .ecc }
    (s.setIngStream i { x with begun := l }).guard (s.synced i bytes) (fun u => u.takeSample i h bytes damage)

/-- A whole sample reaches a stream from a link: it ends the one that has begun, or begins and ends one. -/
def State.arrive (s : State) (i : Nat) (d : List Byte) : State :=
  let s1 := if (s.ingStream i).begun.isEmpty then s.beginSample i else s
  s1.endSample i d [] .none

/-- Sample `sid` of stream `i` may be delivered: a control-class stream delivers in the order of arrival (R318). -/
def State.inTurn (s : State) (i sid : Nat) : Bool :=
  if controlKind (s.ingKind i) then (s.ingStream i).writing.head? == some sid else (s.ingStream i).writing.contains sid

/-- Every byte of sample `sid` is complete: DONE_OBJ, then ORDER_OBJ (R323). -/
def State.sampleDone (s : State) (i sid : Nat) : State :=
  let x := s.ingStream i
  if s.ingRuns i && s.inTurn i sid then
    let s1 := s.setIngStream i { x with writing := x.writing.filter (fun n => n != sid) }
    (s1.ingSignal i (s1.getF (Reg.ING_S_OBJ1_DONE_OBJ i)) 1).finishSample i (x.index sid)
  else s

/-- The SAFETY stream that takes command-port messages (R317). -/
def State.messageStream (s : State) : Option Nat := (List.range 64).find? (fun i => s.ingKind i == 7 && s.ingInst i == 15 && s.ingRuns i)

/-- A command-port message is a sample (R317). -/
def State.cmdpMessage (s : State) (words : List Nat) : State :=
  match s.messageStream with
  | some i => s.arrive i (words.flatMap (leBytes 4))
  | none => s

/-! ## Memory-sourced streams (R332) -/

/-- The next sample of stream `i` is taken from its input ring. -/
def State.takeMemory (s : State) (i : Nat) : State :=
  let x := s.ingStream i
  let avail := (s.syncValue (s.getF (Reg.ING_S_OBJ2_IN_OBJ i)) + 2 ^ 64 - x.in0) % 2 ^ 64
  if !(s.ingRuns i && s.memSourced i && decide (x.taken < avail)) then s
  else
    let p := s.ingPart i
    let a := s.getF (Reg.ING_S_IN_BASE i) * 64 + x.taken % s.slotCount i * s.slotBytes i
    let (d, s1) := s.fetchFor p a (s.slotBytes i)
    let s2 := s1.setIngStream i { x with taken := x.taken + 1 }
    let n := leField d 0x14 4
    let r := bits (leField d 0x18 4) 15 8
    let words := if r = 0 then [] else (d.drop (64 + ceilDiv n 64 * 64)).take (4 * r)
    let payload := (d.drop 64).take n
    let good := leField d 0x3C 4 == crc32 (d.take 0x3C ++ payload ++ words)
    let fits := decide (64 + n ≤ s.slotBytes i)
    if s.onF (Reg.ING_S_CTRL_REPLAY i) && s.ingKind i != 8 then
      let sid := leField d 4 4
      let y := s2.ingStream i
      let s3 := s2.setIngStream i { y with first := match y.first with | some f => some f | none => some sid }
      let h : SampleHead := { sid := sid, tcap := leField d 8 4, ttrig := leField d 0xC 4, tsensor := leField d 0x10 4,
                              seq := leField d 0x1C 4, replay := true, ecc := false }
      if !fits then s3.stopStream i 4 else if !good then s3.stopStream i 1 else s3.takeSample i h payload .none
    else
      let s3 := s2.beginSample i
      if !fits then s3.stopStream i 4 else if !good then s3.stopStream i 1 else s3.endSample i payload [] .none

/-! ## Pack channels (R333–R336) -/

/-- An entry of a pack list: address, COUNT, SEG, SPLIT, POS0. -/
structure PackEntry where
  src : Nat
  count : Nat
  seg : Nat
  split : Bool
  pos : Nat
deriving DecidableEq, Repr

/-- Entry `k` of a pack list. -/
def packEntry (l : List Byte) (k : Nat) : PackEntry :=
  let o := 16 + 16 * k
  { src := bits (leField l o 8) 47 0, count := leField l (o + 8) 2, seg := leField l (o + 0xA) 2,
    split := bit (leField l (o + 0xC) 4) 31, pos := bits (leField l (o + 0xC) 4) 23 0 }

/-- The entries of a pack list. -/
def packEntries (l : List Byte) : List PackEntry := (List.range (leField l 0 2)).map (packEntry l)

/-- ROW_LEN, the element size in bytes, and the bytes of a mark or metadata entry of channel `c`. -/
def State.rowLen (s : State) (c : Nat) : Nat := s.getF (Reg.PK_CFG_ROW_LEN c)
def State.packSize (s : State) (c : Nat) : Nat := 2 ^ s.getF (Reg.PK_CFG_ESIZE c)
def State.markSize (s : State) (c : Nat) : Nat := if s.onF (Reg.PK_CFG_MFMT c) then 8 else 2

/-- A pack list is malformed for channel `c` (R336). -/
def State.packBad (s : State) (c : Nat) (l : List Byte) : Bool :=
  let n := leField l 0 2
  s.getF (Reg.PK_CFG_ESIZE c) == 3 || s.rowLen c == 0 || decide (2048 < s.rowLen c) || leField l 2 14 != 0 ||
  (List.range n).any (fun k =>
    let o := 16 + 16 * k
    let e := packEntry l k
    leField l (o + 6) 2 != 0 || bits (leField l (o + 0xC) 4) 30 24 != 0 || e.count == 0 || e.seg == 0xFFFF ||
      (decide (s.rowLen c < e.count) && !e.split))

/-- Rows as lists of pieces, each a run's address of its first element, count, SEG and POS; the last row may be open. -/
abbrev PackRow := List (Nat × Nat × Nat × Nat)

/-- The elements that a row holds. -/
def rowUsed (r : PackRow) : Nat := (r.map (fun x => x.2.1)).sum

/-- A run longer than a row is laid over rows of `len`, its last one open (R335). -/
def splitRun (len size : Nat) (e : PackEntry) : Nat → Nat → List PackRow
  | 0, _ => []
  | k + 1, o =>
    let n := min len (e.count - o)
    if n = 0 then [] else [(e.src + o * size, n, e.seg, e.pos + o)] :: splitRun len size e k (o + n)

/-- One entry is placed: finished rows and the open one (R335). -/
def placeEntry (len size : Nat) (r : List PackRow × PackRow) (e : PackEntry) : List PackRow × PackRow :=
  if rowUsed r.2 + e.count ≤ len then (r.1, r.2 ++ [(e.src, e.count, e.seg, e.pos)])
  else
    let done := if r.2.isEmpty then r.1 else r.1 ++ [r.2]
    if e.count ≤ len then (done, [(e.src, e.count, e.seg, e.pos)])
    else
      let rows := splitRun len size e (ceilDiv e.count len + 1) 0
      (done ++ rows.dropLast, rows.getLast?.getD [])

/-- The rows of a pack list. -/
def packRows (len size : Nat) (es : List PackEntry) : List PackRow :=
  let r := es.foldl (placeEntry len size) ([], [])
  if r.2.isEmpty then r.1 else r.1 ++ [r.2]

/-- The mark or metadata entry of an element (R333). -/
def markBytes (mfmt : Bool) (seg pos : Nat) : List Byte := if mfmt then leBytes 4 pos ++ leBytes 4 seg else leBytes 2 seg

/-- Write row `i` of channel `c` and its segment records (R333). -/
def State.writePackRow (s : State) (c i : Nat) (r : PackRow) : State :=
  let p := s.owner (0x3B0 + c)
  let len := s.rowLen c
  let w := s.packSize c
  let m := s.onF (Reg.PK_CFG_MFMT c)
  let (data, s1) := r.foldl (fun (x : List Byte × State) q =>
    let (d, u) := x.2.fetchFor p q.1 (q.2.1 * w)
    (x.1 ++ d, u)) ([], s)
  let marks := r.flatMap (fun q => (List.range q.2.1).flatMap (fun k => markBytes m q.2.2.1 ((q.2.2.2 + k) % 2 ^ 24)))
  let padding := (List.range (len - rowUsed r)).flatMap (fun _ => markBytes m 0xFFFF 0)
  let a := s.getF (Reg.PK_OUT_BASE c) * 64 + i * (ceilDiv (len * w) 64 * 64)
  let b := s.getF (Reg.PK_META_BASE c) * 64 + i * (ceilDiv (len * s.markSize c) 64 * 64)
  (s1.storeFor p a (padTo (len * w) data)).storeFor p b (marks ++ padding)

/-- Write rows from number `i` on. -/
def State.writePackRows (s : State) (c i : Nat) : List PackRow → State
  | [] => s
  | r :: l => (s.writePackRow c i r).writePackRows c (i + 1) l

/-- The rows of the run in progress. -/
def State.packPlan (s : State) (c : Nat) (l : List Byte) : List PackRow := packRows (s.rowLen c) (s.packSize c) (packEntries l)

/-- GO arms channel `c` from run 0 (R336). -/
def State.packGo (s : State) (c : Nat) : State :=
  ((s.setPack c { trig0 := s.syncValue (s.getF (Reg.PK_OBJ_TRIG_OBJ c)) }).putF (Reg.PK_STAT_STATE c) 1).putF (Reg.PK_STAT_ERR c) 0

/-- The channel halts after its current row: which row that is, is open (R336, R345). -/
def State.packHalt (s : State) (c : Nat) : State :=
  if s.getF (Reg.PK_STAT_STATE c) ≠ 1 then s
  else
    let s1 := match (s.pack c).list with
      | none => s
      | some l =>
        let rows := s.packPlan c l
        let (k, u) := s.free 16
        u.writePackRows c 0 (rows.take (min rows.length (k + 1)))
    (s1.setPack c {}).putF (Reg.PK_STAT_STATE c) 0

/-- PK_CTRL. -/
def State.wrPackCtrl (s : State) (c v : Nat) : State :=
  let s1 := if bit v 1 then s.packHalt c else s
  if bit v 0 then s1.packGo c else s1

/-- Run r starts once TRIG_OBJ allows it: the list is checked (R336). -/
def State.packStart (s : State) (c : Nat) : State :=
  let x := s.pack c
  let trig := (s.syncValue (s.getF (Reg.PK_OBJ_TRIG_OBJ c)) + 2 ^ 64 - x.trig0) % 2 ^ 64
  if !(s.isRunning 0x380 && s.getF (Reg.PK_STAT_STATE c) == 1 && x.list.isNone && decide (x.run < trig)) then s
  else
    let p := s.owner (0x3B0 + c)
    let a := s.getF (Reg.PK_LIST_BASE c) * 16
    let (h, s1) := s.fetchFor p a 16
    let (l, s2) := s1.fetchFor p (a + 16) (16 * leField h 0 2)
    let err (u : State) (e : Nat) : State := (u.putF (Reg.PK_STAT_STATE c) 2).putF (Reg.PK_STAT_ERR c) e
    if s2.packBad c (h ++ l) then err s2 1
    else if s2.getF (Reg.PK_CFG_MAXROWS c) < (s2.packPlan c (h ++ l)).length then err s2 2
    else s2.setPack c { x with list := some (h ++ l) }

/-- Every row of the run is complete: DONE_OBJ (R336). -/
def State.packDone (s : State) (c : Nat) : State :=
  let x := s.pack c
  match x.list with
  | none => s
  | some l =>
    let rows := s.packPlan c l
    let s1 := (s.writePackRows c 0 rows).setPack c { x with list := none, run := x.run + 1 }
    (s1.putF (Reg.PK_STAT_ROWS c) rows.length).signal ingressPort (s1.getF (Reg.PK_OBJ_DONE_OBJ c)) 1

/-- ING's stop: samples in flight discarded, every stream to OFF with EN kept, pack channels halted (R345). -/
def State.ingStop (s : State) : State :=
  (List.range 8).foldl (fun u c => u.packHalt c)
    ((List.range 64).foldl (fun u i => if u.getF (Reg.ING_S_STAT_STATE i) = 0 then u else u.streamOff i) s)

/-! ## SPI masters (R513) -/

/-- The chip selects whose burst runs or waits on SPI master `m`. -/
def State.spiQueue (s : State) (m : Nat) : List Nat := Sparse.get (fun _ => []) s.iox.spi m

/-- The state with master `m`'s chip selects replaced. -/
def State.setSpiQueue (s : State) (m : Nat) (l : List Nat) : State :=
  { s with iox := { s.iox with spi := Sparse.set (fun _ => []) s.iox.spi m l } }

/-- The IMU stream that runs on a chip select of master `m`. -/
def State.spiStream (s : State) (m cs : Nat) : Option Nat :=
  (List.range 64).find? (fun i => s.ingKind i == 2 && s.ingInst i == m && s.getF (Reg.ING_S_SRC_SEL i) % 4 == cs && s.ingRuns i)

/-- A burst starts: the command bytes are driven and its stream's sample begins. -/
def State.spiStart (s : State) (m cs i : Nat) : State :=
  (s.emit (.spi m cs (leBytes (min 8 (s.getF (Reg.SPI_CFG_CMD_LEN m))) (s.getF (Reg.SPI_CMD_CMD m))))).beginSample i

/-- A trigger edge of IMU stream `i`: its burst starts, waits behind the running one, or is ignored and counted. -/
def State.spiTrigger (s : State) (i : Nat) : State :=
  let m := s.ingInst i
  let cs := s.getF (Reg.ING_S_SRC_SEL i) % 4
  if !s.isRunning 0x5F0 then s
  else match s.spiQueue m with
    | [] => (s.setSpiQueue m [cs]).spiStart m cs i
    | h :: l => if l.contains cs then s.satInc (Reg.SPI_MISS_MISS m) else s.setSpiQueue m (h :: l ++ [cs])

/-- The running burst of master `m` ends; the next that waits, and whose stream still runs, starts. -/
def State.spiEnd (s : State) (m : Nat) : State :=
  match (s.spiQueue m).tail.filter (fun cs => (s.spiStream m cs).isSome) with
  | [] => s.setSpiQueue m []
  | cs :: l => match s.spiStream m cs with
    | some i => (s.setSpiQueue m (cs :: l)).spiStart m cs i
    | none => s.setSpiQueue m []

/-- The last byte of an IMU burst: its RD_LEN bytes are the sample. -/
def State.endBurst (s : State) (i : Nat) (d : List Byte) (damage : SampleDamage) : State :=
  let m := s.ingInst i
  (s.guard (s.ingRuns i) (fun s => s.endSample i (padTo (s.getF (Reg.SPI_CFG_RD_LEN m) + 1) d) [] damage)).spiEnd m

/-! ## Trigger edges (R316, R319, R484) -/

/-- A rising edge of trigger output `o` starts a sample of each running stream that it triggers: an IMU's burst, an encoder's count. -/
def State.risen (s : State) (o : Nat) : State :=
  ((List.range 64).filter (fun i => s.edgeKind i && s.onF (Reg.ING_S_TRIG_EN i) && s.getF (Reg.ING_S_TRIG_TRIG i) == o &&
    s.ingRuns i && !s.memSourced i)).foldl (fun u i => if u.ingKind i = 2 then u.spiTrigger i else u.beginSample i) s

/-- `t` follows `s`; if output `o` has risen, its streams' samples start. -/
def State.afterEdge (s t : State) (o : Nat) : State := if !(s.trigger o).level && (t.trigger o).level then t.risen o else t

/-! ## Commands -/

/-- TRIGGER_EDGE (R484, R486). -/
def execTriggerEdge (out : Nat) (s : State) : Host.Outcome State Fault Refusal :=
  whenLive (fun s => s.guard (decide (out < 24) && s.edgeDue out) (fun s => s.afterEdge (s.driveEdge out) out)) s

/-- TRIGGER_PULSE_END. -/
def execTriggerPulseEnd (out : Nat) (s : State) : Host.Outcome State Fault Refusal :=
  whenLive (fun s => s.guard (decide (out < 24) && s.pulseEndDue out) (fun s => s.afterEdge (s.endPulse out) out)) s

/-- SAMPLE_BEGIN: one that a trigger edge starts begins with that edge, not here (R316, R319). -/
def execSampleBegin (stream : Nat) (s : State) : Host.Outcome State Fault Refusal :=
  whenLive (fun s => s.guard (decide (stream < 64) && s.ingRuns stream && !s.memSourced stream) (fun s =>
    s.guard (!s.edgeKind stream) (fun s => s.beginSample stream))) s

/-- SAMPLE_END: the oldest sample that has begun is parsed, checked and delivered (R318, R329). -/
def execSampleEnd (stream : Nat) (data embedded : List Byte) (damage : SampleDamage) (s : State) :
    Host.Outcome State Fault Refusal :=
  whenLive (fun s => s.guard (decide (stream < 64) && !s.memSourced stream) (fun s =>
    if s.ingKind stream = 2 then s.endBurst stream data damage
    else s.guard (s.ingRuns stream) (fun s => s.endSample stream data embedded damage))) s

/-- SAMPLE_DONE (R323). -/
def execSampleDone (stream sid : Nat) (s : State) : Host.Outcome State Fault Refusal :=
  whenLive (fun s => s.guard (decide (stream < 64)) (fun s => s.sampleDone stream sid)) s

/-- STREAM_ENABLE: the control word is written with EN = 1 (R342, R343). -/
def execStreamEnable (req : Requester) (stream ctrl : Nat) (s : State) : Host.Outcome State Fault Refusal :=
  let v := setBits (ctrl % 2 ^ 32) 31 31 1
  whenLive (fun s => s.guard (decide (stream < 64)) (fun s =>
    s.access req (Reg.ING_S_CTRL stream) v (fun t => t.wrStreamCtrl stream v))) s

/-- STREAM_DISABLE: the control word is written with EN = 0. -/
def execStreamDisable (req : Requester) (stream ctrl : Nat) (s : State) : Host.Outcome State Fault Refusal :=
  let v := setBits (ctrl % 2 ^ 32) 31 31 0
  whenLive (fun s => s.guard (decide (stream < 64)) (fun s =>
    s.access req (Reg.ING_S_CTRL stream) v (fun t => t.wrStreamCtrl stream v))) s

/-- NOSIGNAL_TIMEOUT (R344). -/
def execNosignalTimeout (stream : Nat) (s : State) : Host.Outcome State Fault Refusal :=
  whenLive (fun s =>
    s.guard (decide (stream < 64) && s.ingRuns stream && s.onF (Reg.ING_S_TRIG_TIMEOUT stream) &&
        !s.onF (Reg.ING_S_STAT_NOSIGNAL stream)) (fun s =>
      ((s.putF (Reg.ING_S_STAT_NOSIGNAL stream) 1).reportAbsent stream true).raise FS.ING_NOSIG)) s

/-- MEMORY_SAMPLE_TAKE (R332). -/
def execMemorySampleTake (stream : Nat) (s : State) : Host.Outcome State Fault Refusal :=
  whenLive (fun s => s.guard (decide (stream < 64)) (fun s => s.takeMemory stream)) s

/-- PACK_GO (R336). -/
def execPackGo (req : Requester) (chan : Nat) (s : State) : Host.Outcome State Fault Refusal :=
  whenLive (fun s => s.guard (decide (chan < 8)) (fun s => s.access req (Reg.PK_CTRL chan) 1 (fun t => t.wrPackCtrl chan 1))) s

/-- PACK_STOP (R336). -/
def execPackStop (req : Requester) (chan : Nat) (s : State) : Host.Outcome State Fault Refusal :=
  whenLive (fun s => s.guard (decide (chan < 8)) (fun s => s.access req (Reg.PK_CTRL chan) 2 (fun t => t.wrPackCtrl chan 2))) s

/-- PACK_RUN_START (R336). -/
def execPackRunStart (chan : Nat) (s : State) : Host.Outcome State Fault Refusal :=
  whenLive (fun s => s.guard (decide (chan < 8)) (fun s => s.packStart chan)) s

/-- PACK_RUN_DONE (R336). -/
def execPackRunDone (chan : Nat) (s : State) : Host.Outcome State Fault Refusal :=
  whenLive (fun s => s.guard (decide (chan < 8) && s.isRunning 0x380) (fun s => s.packDone chan)) s

end Sys2Proof.Machine
end

