-- ==== Sys2Proof/Machine/Links.lean ====
section
/-! DEFINITION. External links (chapter 17): the TSN switch (R500–R507), CAN controllers (R510–R512, R666), the PCIe
endpoint (R493–R499), sensor-side ports (R513–R515), the test port (R521), and the collector's own frame (R596). -/

namespace Sys2Proof.Machine

/-! ## Frames as they arrive -/

/-- The number in `n` network-order bytes of a frame at offset `o`. -/
def beField (d : List Byte) (o n : Nat) : Nat := leNat ((d.drop o).take n).reverse

/-- What the switch reads of a frame: destination, source, VLAN, PCP, EtherType and its offset, the R-tag's sequence number. -/
structure EthView where
  da : Nat
  sa : Nat
  vid : Nat
  pcp : Nat
  etype : Nat
  ofs : Nat
  rtag : Option Nat
deriving DecidableEq, Repr

/-- Read a frame's headers; an untagged one takes the port's default PCP (R500). -/
def ethView (d : List Byte) (pcpDef : Nat) : EthView :=
  let tagged := beField d 12 2 == 0x8100
  let tci := beField d 14 2
  let o := if tagged then 16 else 12
  let r := beField d o 2 == 0xF1C1
  let e := if r then o + 6 else o
  { da := beField d 0 6, sa := beField d 6 6, vid := if tagged then tci % 4096 else 0, pcp := if tagged then tci / 2 ^ 13 else pcpDef,
    etype := beField d e 2, ofs := e, rtag := if r then some (beField d (o + 4) 2) else none }

/-- Entry `h` of the stream identification table matches a frame (R503). -/
def State.sidMatches (s : State) (h : Nat) (v : EthView) (d : List Byte) : Bool :=
  let k := s.getF (Reg.ETH_SID_MAC_OR_IP h)
  s.onF (Reg.ETH_SID_V h) && s.getF (Reg.ETH_SID_VID h) == v.vid &&
    match s.getF (Reg.ETH_SID_KEY h) with
    | 0 => k == v.da
    | 1 => k == v.sa
    | 2 =>
      let ip := v.ofs + 2
      let udp := ip + 4 * (beField d ip 1 % 16)
      v.etype == 0x0800 && beField d (ip + 9) 1 == 17 && beField d (ip + 16) 4 == k % 2 ^ 32 && beField d (udp + 2) 2 == k / 2 ^ 32
    | _ => false

/-- The stream handle of a frame: the first entry that matches. -/
def State.streamHandle (s : State) (v : EthView) (d : List Byte) : Option Nat := (List.range 256).find? (fun h => s.sidMatches h v d)

/-! ## Filters, recovery and replication (R504, R505) -/

/-- Which field of an entry whose layout spec/ does not give. -/
def fRfPorts : Nat := 0
def fRfHandle : Nat := 1
def fHistory : Nat := 2
def fQciHandle : Nat := 10
def fQciPcp : Nat := 11
def fMaxSdu : Nat := 12
def fBlockOvs : Nat := 13
def fCir : Nat := 14
def fCbs : Nat := 15
def fBlocked : Nat := 16

/-- Filter `q` beyond its entry. -/
def State.qci (s : State) (q : Nat) : QciFilter := Sparse.get (fun _ => {}) s.eth.filters q

/-- The state with filter `q` replaced. -/
def State.setQci (s : State) (q : Nat) (x : QciFilter) : State :=
  { s with eth := { s.eth with filters := Sparse.set (fun _ => {}) s.eth.filters q x } }

/-- The filter that applies to a stream handle and PCP. -/
def State.filterOf (s : State) (h pcp : Nat) : Option Nat :=
  (List.range 128).find? (fun q =>
    let e := s.getF (Reg.ETH_QCI_ENTRY q)
    tableUsed e && Config.tableField fQciHandle e % 256 == h && Config.tableField fQciPcp e % 8 == pcp)

/-- A frame of `n` bytes at filter `q`: true when it passes. -/
def State.police (s : State) (q n : Nat) : Bool × State :=
  let e := s.getF (Reg.ETH_QCI_ENTRY q)
  let x := s.qci q
  let drop (y : QciFilter) : Bool × State := (false, s.setQci q { y with drops := y.drops + 1 })
  if x.blocked then drop x
  else if Config.tableField fMaxSdu e < n then drop { x with blocked := Config.tableField fBlockOvs e % 2 == 1 }
  else
    let full := 8000000 * Config.tableField fCbs e
    let earned := Config.tableField fCir e * (s.qtz.cycles - x.since) * 2
    let now := if x.since = 0 then full else min full (x.tokens + earned)
    let y := { x with tokens := now, since := s.qtz.cycles }
    if now < 8000000 * n then drop y else (true, s.setQci q { y with tokens := now - 8000000 * n })

/-- A word of filter `q`'s entry; an entry that holds BLOCKED at 0 opens a filter that a frame too long has closed (R504). -/
def State.wrQci (s : State) (q a v : Nat) : State :=
  let s1 := s.applyWord a v
  if Config.tableField fBlocked (s1.getF (Reg.ETH_QCI_ENTRY q)) % 2 = 0 then s1.setQci q { s1.qci q with blocked := false } else s1

/-- The recovery function of a stream handle. -/
def State.recoveryOf (s : State) (h : Nat) : Option Nat :=
  (List.range 64).find? (fun r =>
    let e := s.getF (Reg.ETH_RF_ENTRY (64 + r))
    tableUsed e && Config.tableField fRfHandle e % 256 == h)

/-- Recovery function `r`. -/
def State.recFn (s : State) (r : Nat) : RecFn := Sparse.get (fun _ => {}) s.eth.recov r

/-- The state with recovery function `r` replaced. -/
def State.setRecFn (s : State) (r : Nat) (x : RecFn) : State :=
  { s with eth := { s.eth with recov := Sparse.set (fun _ => {}) s.eth.recov r x } }

/-- The vector recovery algorithm at sequence number `n`: true when the frame is kept (R505). -/
def State.recover (s : State) (r n : Nat) : Bool × State :=
  let x := s.recFn r
  let hist : Int := 1 + Config.tableField fHistory (s.getF (Reg.ETH_RF_ENTRY (64 + r))) % 32
  match x.newest with
  | none => (true, s.setRecFn r { newest := some n, seen := [n] })
  | some w =>
    let d := signed 16 (toBits 16 ((n : Int) - w))
    if hist ≤ d ∨ d ≤ -hist then (false, s)
    else if x.seen.contains n then (false, s)
    else
      let w' := if 0 < d then n else w
      let keep := (n :: x.seen).filter (fun (m : Nat) => decide (-hist < signed 16 (toBits 16 ((m : Int) - w'))))
      (true, s.setRecFn r { newest := some w', seen := keep })

/-- The replication function of a stream handle. -/
def State.replicaOf (s : State) (h : Nat) : Option Nat :=
  (List.range 64).find? (fun r =>
    let e := s.getF (Reg.ETH_RF_ENTRY r)
    tableUsed e && Config.tableField fRfHandle e % 256 == h)

/-! ## Reception (R500, R503, R506) -/

/-- The ingress streams that name stream handle `h` (R316, R503). -/
def State.tsnStreams (s : State) (h : Nat) : List Nat :=
  (List.range 64).filter (fun i => s.ingInst i == 14 && (s.ingKind i == 1 || s.ingKind i == 6 || s.ingKind i == 7) &&
    s.getF (Reg.ING_S_SRC_SEL i) % 256 == h && s.ingRuns i && !s.memSourced i)

/-- The domain of a gPTP frame, 0 for A and 1 for B; none for another (R506). -/
def State.ptpDomain (s : State) (v : EthView) (d : List Byte) : Option Nat :=
  let dom := beField d (v.ofs + 2 + 4) 1
  if dom = s.getF Reg.ETH_PTP_DOM_A then some 0 else if dom = s.getF Reg.ETH_PTP_DOM_B then some 1 else none

/-- A gPTP frame is trapped to Granite, or dropped for its domain (R506). -/
def State.trapPtp (s : State) (p : Nat) (v : EthView) (d : List Byte) : State :=
  if (s.ptpDomain v d).isSome then s.emit (.gptp p (s.now 0) (s.now 1) d)
  else { s with eth := { s.eth with ptpDrops := s.eth.ptpDrops + 1 } }

/-- A frame with its R-tag inserted before the EtherType. -/
def withRTag (d : List Byte) (o : Nat) (tag : List Byte) : List Byte := d.take o ++ tag ++ d.drop o

/-- A frame is forwarded by its filtering entry, and copied to its replication function's ports (R500, R505). -/
def State.forward (s : State) (p : Nat) (v : EthView) (h : Option Nat) (d : List Byte) : State :=
  let mask := Config.filtering v.vid v.da % 2 ^ 9
  let rep := h.bind s.replicaOf
  let copies := match rep with | some r => s.replicaPorts r | none => 0
  if mask ||| copies = 0 then s.satInc (Reg.ETH_P_CNT1_NOFWD p)
  else
    let (frame, s1) := match rep with
      | some r => let (t, u) := s.rTag r; (withRTag d v.ofs t, u)
      | none => (d, s)
    s1.admitAll p (setBits (mask ||| copies) p p 0) v.pcp frame

/-- A frame has been identified, filtered and recovered: it goes to its ingress streams, or is forwarded (R503). -/
def State.dispatchFrame (s : State) (p : Nat) (v : EthView) (h : Option Nat) (d : List Byte) : State :=
  match h with
  | some k =>
    if s.onF (Reg.ETH_SID_DELIVER k) then
      (s.tsnStreams k).foldl (fun u i => u.arrive i (d.drop (v.ofs + 2 + s.getF (Reg.ETH_SID_PAY_OFS k)))) s
    else s.forward p v h d
  | none => s.forward p v h d

/-- A frame that is good arrives at port `p` (R500, R503–R506). -/
def State.receiveFrame (s : State) (p : Nat) (d : List Byte) : State :=
  let v := ethView d (s.getF (Reg.ETH_P_CFG_PCP_DEF p))
  if v.etype = 0x88F7 ∧ p < 8 then s.trapPtp p v d
  else
    let h := s.streamHandle v d
    let (pass, s1) := match h.bind (fun k => s.filterOf k v.pcp) with
      | some q => s.police q d.length
      | none => (true, s)
    if !pass then s1
    else
      let (keep, s2) := match h.bind s1.recoveryOf, v.rtag with
        | some r, some n => s1.recover r n
        | _, _ => (true, s1)
      if keep then s2.dispatchFrame p v h d else s2

/-! ## Gates and transmission (R502) -/

/-- The gate entry in force at port `p`. -/
def State.gateEntry (s : State) (p : Nat) : Nat :=
  s.getF (Reg.ETH_GCL_ENTRY (2 * p + s.getF (Reg.ETH_P_STAT_GCL_BANK p)) (s.ethPort p).entry)

/-- The gate of class `c` at port `p` is open. -/
def State.gateOpen (s : State) (p c : Nat) : Bool := bit (s.gateEntry p) (56 + c)

/-- The list of port `p` restarts from entry 0, on the bank that a swap named. -/
def State.gateCycle (s : State) (p : Nat) : State :=
  let x := s.ethPort p
  let s1 := match x.swap with | some b => s.putF (Reg.ETH_P_STAT_GCL_BANK p) b | none => s
  s1.setEthPort p { x with entry := 0, swap := none }

/-- ETH_P_GCL: a swap waits for the next cycle start. -/
def State.wrGcl (s : State) (p v : Nat) : State :=
  if bit v 1 then s.setEthPort p { s.ethPort p with swap := some (v % 2) } else s

/-! ### Event frames at the egress plane (R482, R483, R506) -/

/-- The message type and the domain of a gPTP event frame that leaves external port `p`: 0 is Sync (IEEE 1588-2019). -/
def State.eventFrame (s : State) (p : Nat) (f : List Byte) : Option (Nat × Nat) :=
  let v := ethView f 0
  let t := beField f (v.ofs + 2) 1 % 16
  if v.etype = 0x88F7 ∧ p < 8 ∧ t < 4 then (s.ptpDomain v f).map (fun d => (t, d)) else none

/-- The domain of a Sync that port `p` sends one-step. -/
def State.oneStep (s : State) (p : Nat) (f : List Byte) : Option Nat :=
  match s.eventFrame p f with
  | some (t, d) => if t = 0 ∧ s.onF (Reg.ETH_P_CFG_ONE_STEP p) = true then some d else none
  | none => none

/-- The committed epoch of domain `d`. -/
def State.epoch (s : State) (d : Nat) : Epoch := Sparse.get (fun _ => {}) s.qtz.epochs d

/-- The time stamp of domain `d` at the egress plane: 48-bit seconds and 32-bit nanoseconds, in network order (R482). -/
def State.ptpStamp (s : State) (d : Nat) : List Byte :=
  let x := (s.epoch d).ns + s.now d
  beBytes 6 ((s.epoch d).sec + x / 1000000000) ++ beBytes 4 (x % 1000000000)

/-- A one-step Sync with its originTimestamp, bytes 34–43 of the message, inserted (R482). -/
def State.stamped (s : State) (d : Nat) (f : List Byte) : List Byte :=
  let o := (ethView f 0).ofs + 36
  f.take o ++ s.ptpStamp d ++ f.drop (o + 10)

/-- The egress stamp that Granite gets of an event frame that is not sent one-step (R506). -/
def State.egressStamp (s : State) (p : Nat) (f : List Byte) : List Emission :=
  match s.oneStep p f, s.eventFrame p f with
  | none, some (_, d) => [.stamp p d (s.now d)]
  | _, _ => []

/-- A one-step Sync of domain `d` is dropped, for its epoch is stale (R483). -/
def State.dropStale (s : State) (d : Nat) : State :=
  ((s.satInc (if d = 0 then Reg.QTZ_CNT_TS_STALE_A else Reg.QTZ_CNT_TS_STALE_B)).irq 0x40 4).raise FS.QTZ_EPOCH

/-- Frame `f` departs from port `p`. -/
def State.depart (s : State) (p : Nat) (f : List Byte) : State :=
  match s.oneStep p f with
  | some d => if (s.epoch d).tag = s.getF (Reg.QTZ_TB_GEN_GEN d) then s.emit (.eth p (s.stamped d f)) else s.dropStale d
  | none => (s.egressStamp p f).foldl State.emit (s.emit (.eth p f))

/-- The oldest frame of class `c` leaves port `p`. -/
def State.transmit (s : State) (p c : Nat) : State :=
  let x := s.ethPort p
  match x.queue c with
  | [] => s
  | f :: l => (s.setEthPort p (x.setQueue c l)).depart p f

/-! ## Ports up and down (R507) -/

/-- The queues of port `p` are flushed, every frame counted in LDROP. -/
def State.flushPort (s : State) (p : Nat) : State :=
  let x := s.ethPort p
  let n := ((List.range 8).map (fun c => (x.queue c).length)).sum
  (s.setEthPort p { x with queues := [] }).satInc (Reg.ETH_P_CNT0_LDROP p) n

/-- Port `p` goes down. -/
def State.portDown (s : State) (p : Nat) : State := ((s.putF (Reg.ETH_P_STAT_UP p) 0).flushPort p).raise FS.ETH_LINK

/-- ETH's start check: each port's MODE exists on it (R522). -/
def State.ethStartOk (s : State) : Bool := (List.range 8).all (fun p => decide (s.getF (Reg.ETH_P_CFG_MODE p) < if p < 4 then 4 else 3))

/-- ETH's stop takes every port down after flushing its queues (R507, R522). -/
def State.ethStopped (s : State) : State :=
  ((List.range 8).foldl (fun u p => if u.onF (Reg.ETH_P_STAT_UP p) then u.portDown p else u.flushPort p) s).flushPort 8

/-! ## CAN (R510–R512, R666) -/

/-- The first page of controller `c`, and whether it RUNs. -/
def canPage (c : Nat) : Nat := 0x5E0 + 2 * c
def State.canRuns (s : State) (c : Nat) : Bool := s.isRunning (canPage c)

/-- A running stream takes CAN frames of controller `c` with this identifier (R316). -/
def State.canStreams (s : State) (c : Nat) (f : CanFrame) : List Nat :=
  (List.range 64).filter (fun i => s.ingInst i == 8 + c && (s.ingKind i == 3 || s.ingKind i == 6 || s.ingKind i == 7) &&
    s.getF (Reg.ING_S_MATCH_ID i) == f.id && s.onF (Reg.ING_S_MATCH_IDE i) == f.ide && s.ingRuns i && !s.memSourced i)

/-- An error-free frame is received by controller `c` (R510). -/
def State.canReceive (s : State) (c : Nat) (f : CanFrame) : State :=
  if !(s.canRuns c && !(s.canCtl c).busOff && decide (f.fmt ≤ s.getF (Reg.CAN_CFG_MODE c))) then s
  else
    let l := s.canStreams c f
    if l.isEmpty then s.satInc (Reg.CAN_CNT_NOMATCH c) else l.foldl (fun u i => u.arrive i f.data) s

/-- The place of a frame in arbitration: identifier, the mailbox after the Z32's frames (R511). -/
def canRank (t : CanTx) : List Nat :=
  [if t.frame.ide then t.frame.id / 2 ^ 18 else t.frame.id, b2n t.frame.ide, t.frame.id, b2n (t.src == 100)]

/-- The frame that wins arbitration. -/
def canFirst : List CanTx → Option CanTx
  | [] => none
  | t :: l => match canFirst l with
    | none => some t
    | some u => if sooner (canRank u) (canRank t) then some u else some t

/-- A pending frame completes on the bus (R511). -/
def State.canSent (s : State) (c : Nat) : State :=
  let x := s.canCtl c
  match canFirst x.pending with
  | none => s
  | some t =>
    let s1 := (s.setCanCtl c { x with pending := x.pending.filter (fun u => u.src != t.src) }).emit (.can c t.frame t.xl)
    if t.src = 100 then s1.putF (Reg.CAN_SW_STAT_PENDING c) 0 else s1

/-- Bus-off (R512). -/
def State.canBusOff (s : State) (c : Nat) : State :=
  let x := s.canCtl c
  let z := x.pending.filter (fun u => u.src != 100)
  let s1 := s.setCanCtl c { x with pending := x.pending.filter (fun u => u.src == 100), busOff := true,
                                   recovering := s.onF (Reg.CAN_CFG_AUTO_REC c) }
  (s1.satInc (Reg.CAN_CNT_REPLACED c) z.length).raise (FS.CAN_BUSOFF c)

/-- CAN_CTRL: RECOVER starts recovery from bus-off (R512). -/
def State.wrCanCtrl (s : State) (c v : Nat) : State :=
  if bit v 0 && (s.canCtl c).busOff then s.setCanCtl c { s.canCtl c with recovering := true } else s

/-- The data of the mailbox. -/
def State.mailboxData (s : State) (c : Nat) : List Byte :=
  let n := s.getF (Reg.CAN_SW_LEN_LEN c)
  ((List.range (ceilDiv n 4)).flatMap (fun k => leBytes 4 (s.reg (Reg.CAN_SW_DATA c k)).toNat)).take n

/-- CAN_SW_TX: GO makes the mailbox frame pending or is refused (R511). -/
def State.wrCanTx (s : State) (c v : Nat) : State :=
  let s1 := s.applyWord (Reg.CAN_SW_TX c) v
  if !bit v 31 then s1
  else
    let fmt := s1.getF (Reg.CAN_SW_TX_FMT c)
    let id := s1.getF (Reg.CAN_SW_TX_ID c)
    if s1.canRuns c && decide (fmt ≤ s1.getF (Reg.CAN_CFG_MODE c)) then
      let x := s1.canCtl c
      let t : CanTx := { src := 100, frame := { fmt := fmt, ide := decide (0x800 ≤ id), id := id, data := s1.mailboxData c }, xl := [] }
      ((s1.setCanCtl c { x with pending := x.pending.filter (fun u => u.src != 100) ++ [t] }).putF
        (Reg.CAN_SW_STAT_PENDING c) 1).putF (Reg.CAN_SW_STAT_REFUSED c) 0
    else s1.putF (Reg.CAN_SW_STAT_REFUSED c) 1

/-- Time quanta of a bit, and whether a timing word is well formed (R666). -/
def bitQuanta (w : Nat) : Nat := bits w 31 24 * (1 + bits w 23 12 + bits w 11 4)
def timingOk (w : Nat) : Bool :=
  decide (1 ≤ bits w 31 24 ∧ 1 ≤ bits w 23 12 ∧ 1 ≤ bits w 11 4 ∧ 1 ≤ bits w 3 0 ∧ bits w 3 0 ≤ min (bits w 23 12) (bits w 11 4))

/-- A data phase of word `w` is at least the nominal rate and at most `top` bit/s (R666). -/
def dataRateOk (nominal w top : Nat) : Bool :=
  timingOk w && decide (bitQuanta w ≤ bitQuanta nominal) && decide (80000000 ≤ top * bitQuanta w)

/-- The start check of controller `c` (R522, R666). -/
def State.canStartOk (s : State) (c : Nat) : Bool :=
  let n := s.getF (Reg.CAN_NBT_TIMING c)
  let m := s.getF (Reg.CAN_CFG_MODE c)
  timingOk n && decide (125000 * bitQuanta n ≤ 80000000) && decide (80000000 ≤ 1000000 * bitQuanta n) &&
    (m == 0 || dataRateOk n (s.getF (Reg.CAN_DBT_TIMING c)) 8000000) &&
    (m != 2 || dataRateOk n (s.getF (Reg.CAN_XBT_TIMING c)) 20000000)

/-- A stop of controller `c` discards a pending mailbox frame (R511). -/
def State.canStopped (s : State) (c : Nat) : State :=
  let x := s.canCtl c
  (s.setCanCtl c { x with pending := x.pending.filter (fun u => u.src != 100) }).putF (Reg.CAN_SW_STAT_PENDING c) 0

/-! ## PCIe endpoint (R496–R499) -/

/-- The MSI-X table and the configuration space return to reset (R497). -/
def State.resetEndpoint (s : State) : State :=
  { s with regs := Sparse.keep (fun a => !(decide (0x5C1400 ≤ a ∧ a < 0x5C1800))) s.regs }

/-- The link comes up or falls; a fall may lose the host (R497, R536). -/
def State.linkChange (s : State) (up : Bool) (gen width : Nat) : State :=
  if up == s.onF Reg.PCIE_LINK_LINK_UP then s
  else
    let s1 := ((s.putF Reg.PCIE_LINK_LINK_UP (b2n up)).putF Reg.PCIE_LINK_GEN (if up then gen else 0)).putF Reg.PCIE_LINK_WIDTH
      (if up then width else 0)
    let s2 := if up then s1 else { s1.resetEndpoint with pcie := { s1.pcie with d3hot := false } }
    let s3 := s2.raise FS.PCIE_LINK
    if !up && s3.onF Reg.DEV_HOSTLOSS_LINK_IS_LOSS then s3.loseHost else s3

/-- A vector that is open sends the message that its PBA bit holds back (R499). -/
def State.flushVector (s : State) (v : Nat) : State :=
  if s.onF (pbaFld v) && s.vectorOpen v then (s.putF (pbaFld v) 0).emit (.msix v) else s

/-- Every open vector sends what is held back: messages may leave again (R313, R497). -/
def State.flushVectors (s : State) : State := (List.range 64).foldl (fun u v => u.flushVector v) s

/-- PCIE_EOI (R499). -/
def State.wrEoi (s : State) (v : Nat) : State := if s.vectorLevel (bits v 5 0) then s.vectorRise (bits v 5 0) else s

/-- A word of the MSI-X table: unmasking a vector sends what its PBA bit holds back (R499). -/
def State.wrMsix (s : State) (a v : Nat) : State :=
  let k := (a - Reg.PCIE_MSIX 0) / 16
  (s.applyWord a v).flushVector k

/-- The level of vectors as it was becomes the level as it is for every vector: a write of PCIE_VMAP or of interrupt enables
moves levels (R499). -/
def State.vectorEdges (s old : State) : State := (List.range 64).foldl (fun u v => u.vectorEdge old v) s

/-- PCIe's start check: WIN is 64 GiB aligned by its field's width (R522). -/
def State.pcieStopped (s : State) : State := s.linkChange false 0 0

/-! ## Sensor-side ports (R514, R515) -/

/-- UART_TX: a byte joins the transmit FIFO, or is dropped and counted (R514). -/
def State.wrUartTx (s : State) (u v : Nat) : State :=
  let l := Sparse.get (fun _ => []) s.iox.uart u
  if l.length < 256 then
    { s with iox := { s.iox with uart := Sparse.set (fun _ => []) s.iox.uart u (l ++ [v % 256]) } }
  else
    { s with iox := { s.iox with uartDrops := Sparse.modify (fun _ => 0) s.iox.uartDrops u (fun n => n + 1) } }

/-- A UART sends its next byte. -/
def State.uartSend (s : State) (u : Nat) : State :=
  match Sparse.get (fun _ => []) s.iox.uart u with
  | [] => s
  | b :: l => ({ s with iox := { s.iox with uart := Sparse.set (fun _ => []) s.iox.uart u l } }).emit (.uart u b)

/-- The count of encoder channel `c` moves by one. -/
def State.encStep (s : State) (c : Nat) (up : Bool) : State :=
  s.putF (Reg.ENC_CNT_COUNT c) (toBits 32 ((s.getF (Reg.ENC_CNT_COUNT c) : Int) + if up then 1 else -1))

/-- QUAD: A rises before B when it counts up. -/
def quadUp (a0 a b : Bool) : Bool := if a0 != a then a != b else a == b

/-- The filtered pins of encoder channel `c` take new levels (R515). -/
def State.encEdge (s : State) (c : Nat) (a b z : Bool) : State :=
  let old := Sparse.get (fun _ => 0) s.iox.enc c
  let a0 := bit old 0
  let b0 := bit old 1
  let s1 := { s with iox := { s.iox with enc := Sparse.set (fun _ => 0) s.iox.enc c (b2n a + 2 * b2n b + 4 * b2n z) } }
  let m := s.getF (Reg.ENC_CFG_MODE c)
  if !(s.isRunning 0x5F0 && (m == 1 || m == 2)) then s1
  else
    let s2 :=
      if a0 != a && b0 != b then (s1.satInc (Reg.ENC_ERR_ILLEGAL c)).raise FS.IOX_ENC
      else if m = 1 then (if a0 != a || b0 != b then s1.encStep c (quadUp a0 a b) else s1)
      else if !a0 && a then s1.encStep c b
      else s1
    if s.onF (Reg.ENC_CFG_ZRST c) && z && !bit old 2 then s2.putF (Reg.ENC_CNT_COUNT c) 0 else s2

/-- IOX's start check: dividers in range (R513, R522). -/
def State.ioxStartOk (s : State) : Bool :=
  (List.range 4).all (fun m => s.onF (Reg.SPI_CFG_DIV m) && decide (s.getF (Reg.SPI_CFG_CMD_LEN m) ≤ 8)) &&
    (List.range 2).all (fun u => s.onF (Reg.UART_CFG_INC u))

/-! ## The test port (R521) -/

/-- The bits of IDCODE, first out first. -/
def idcodeBits : List Bool := (List.range 32).map (fun i => (0x17A3245B : Nat).testBit i)

/-- The instruction that takes effect: 0 BYPASS, 1 IDCODE, 2 SAMPLE/PRELOAD, 3 EXTEST, 4 CLAMP, 5 HIGHZ; others act as BYPASS.
EXTEST, CLAMP and HIGHZ act as BYPASS while ARMED or ACTIVE, and at debug level 3 only BYPASS and IDCODE stay (R521, R640). -/
def State.tapInstr (s : State) (i : Nat) : Nat :=
  if 5 < i then 0
  else if (s.mode == .armed || s.mode == .active) && decide (3 ≤ i) then 0
  else if s.debugLevel = 3 ∧ 2 ≤ i then 0
  else i

/-- An instruction is executed with data shifted in: what is shifted out, and the boundary cells. What SAMPLE reads of the pins
is open. -/
def State.tapRun (s : State) (i : Nat) (d : List Bool) : State :=
  let k := s.tapInstr i
  let (free, s1) := s.free d.length
  let out := match k with
    | 1 => (idcodeBits ++ d).take d.length
    | 2 => (List.range d.length).map (fun j => free.testBit j)
    | 3 => (List.range d.length).map (fun j => free.testBit j)
    | _ => (false :: d).take d.length
  let cells := if k = 2 ∨ k = 3 then d else s.tap.boundary
  { s1 with tap := { instr := k, boundary := cells, out := out } }

/-! ## The collector's own frame (R596) -/

/-- In a frame of the safe state in which Flint has sent none by Φ 955, the collector sends the frame of R54 itself. -/
def State.safeFrame (s : State) : State :=
  if !(s.inSafe && !s.frame.sent54) then s
  else
    let body := leBytes 4 (0x85 * 65536 + 1) ++ leBytes 4 s.frameNo ++ leBytes 4 s.frame.tb2 ++ leBytes 4 s.frame.tb4 ++
      leBytes 4 (2 * 256) ++ List.replicate 236 0
    let s1 := s.originate 0 1 0 (s.getF Reg.FLT_WPR_DST_ETH) (body ++ leBytes 4 (crc32 body))
    { s1 with frame := { s1.frame with sent54 := true } }

/-! ## Commands -/

/-- ETH_FRAME_RECEIVE (R500, R503). -/
def execEthFrameReceive (port : Nat) (frame : List Byte) (fcsGood : Bool) (s : State) : Host.Outcome State Fault Refusal :=
  whenLive (fun s => s.guard (decide (port < 9) && s.portUp port) (fun s =>
    if !fcsGood then s.satInc (Reg.ETH_P_CNT1_FCS port)
    else if 2048 < frame.length then s
    else s.receiveFrame port frame)) s

/-- ETH_FRAME_TRANSMIT: the queue's gate is open and the frame finishes before it closes (R502). -/
def execEthFrameTransmit (port cls : Nat) (s : State) : Host.Outcome State Fault Refusal :=
  whenLive (fun s => s.guard (decide (port < 9) && decide (cls < 8) && s.portUp port && s.gateOpen port cls) (fun s =>
    s.transmit port cls)) s

/-- GCL_CYCLE_START (R502). -/
def execGclCycleStart (port : Nat) (s : State) : Host.Outcome State Fault Refusal :=
  whenLive (fun s => s.guard (decide (port < 9) && s.isRunning 0x580) (fun s => s.gateCycle port)) s

/-- GCL_ENTRY_EXPIRY: the last entry's gates hold (R502). -/
def execGclEntryExpiry (port : Nat) (s : State) : Host.Outcome State Fault Refusal :=
  whenLive (fun s => s.guard (decide (port < 9) && s.isRunning 0x580) (fun s =>
    s.setEthPort port { s.ethPort port with entry := min 255 ((s.ethPort port).entry + 1) })) s

/-- GCL_SWAP (R502). -/
def execGclSwap (req : Requester) (port bank : Nat) (s : State) : Host.Outcome State Fault Refusal :=
  let v := 2 + bank % 2
  whenLive (fun s => s.guard (decide (port < 9)) (fun s => s.access req (Reg.ETH_P_GCL port) v (fun t => t.wrGcl port v))) s

/-- ETH_LINK_DOWN (R507). -/
def execEthLinkDown (port : Nat) (s : State) : Host.Outcome State Fault Refusal :=
  whenLive (fun s => s.guard (decide (port < 8) && s.onF (Reg.ETH_P_STAT_UP port)) (fun s => s.portDown port)) s

/-- ETH_LINK_UP (R507). -/
def execEthLinkUp (port : Nat) (s : State) : Host.Outcome State Fault Refusal :=
  whenLive (fun s => s.guard (decide (port < 8) && s.isRunning 0x580 && s.onF (Reg.ETH_P_CFG_MODE port)) (fun s =>
    s.putF (Reg.ETH_P_STAT_UP port) 1)) s

/-- RECOVERY_RESET (R505). -/
def execRecoveryReset (rf : Nat) (s : State) : Host.Outcome State Fault Refusal :=
  whenLive (fun s => s.guard (decide (rf < 64)) (fun s => s.setRecFn rf {})) s

/-- CAN_FRAME_RECEIVE (R510). -/
def execCanFrameReceive (ctl : Nat) (frame : CanFrame) (s : State) : Host.Outcome State Fault Refusal :=
  whenLive (fun s => s.guard (decide (ctl < 6)) (fun s => s.canReceive ctl frame)) s

/-- CAN_FRAME_SENT (R511). -/
def execCanFrameSent (ctl : Nat) (s : State) : Host.Outcome State Fault Refusal :=
  whenLive (fun s => s.guard (decide (ctl < 6) && s.canRuns ctl && !(s.canCtl ctl).busOff) (fun s => s.canSent ctl)) s

/-- CAN_BUS_OFF (R512). -/
def execCanBusOff (ctl : Nat) (s : State) : Host.Outcome State Fault Refusal :=
  whenLive (fun s => s.guard (decide (ctl < 6) && s.canRuns ctl && !(s.canCtl ctl).busOff) (fun s => s.canBusOff ctl)) s

/-- CAN_BUS_OFF_RECOVERY (R512). -/
def execCanBusOffRecovery (ctl : Nat) (s : State) : Host.Outcome State Fault Refusal :=
  whenLive (fun s => s.guard (decide (ctl < 6) && (s.canCtl ctl).busOff && (s.canCtl ctl).recovering) (fun s =>
    s.setCanCtl ctl { s.canCtl ctl with busOff := false, recovering := false })) s

/-- CAN_RECOVER (R512). -/
def execCanRecover (req : Requester) (ctl : Nat) (s : State) : Host.Outcome State Fault Refusal :=
  whenLive (fun s => s.guard (decide (ctl < 6)) (fun s => s.access req (Reg.CAN_CTRL ctl) 1 (fun t => t.wrCanCtrl ctl 1))) s

/-- CAN_MAILBOX_GO: CAN_SW_TX is written with GO = 1 (R511). -/
def execCanMailboxGo (req : Requester) (ctl value : Nat) (s : State) : Host.Outcome State Fault Refusal :=
  let v := setBits (value % 2 ^ 32) 31 31 1
  whenLive (fun s => s.guard (decide (ctl < 6)) (fun s => s.access req (Reg.CAN_SW_TX ctl) v (fun t => t.wrCanTx ctl v))) s

/-- CAN_ERROR_PASSIVE (R512). -/
def execCanErrorPassive (ctl : Nat) (s : State) : Host.Outcome State Fault Refusal :=
  whenLive (fun s => s.guard (decide (ctl < 6) && s.canRuns ctl) (fun s =>
    s.setCanCtl ctl { s.canCtl ctl with passive := (s.canCtl ctl).passive + 1 })) s

/-- PCIE_LINK_CHANGE: the link trains only while PCIe is RUNNING (R497). -/
def execPcieLinkChange (up : Bool) (gen width : Nat) (s : State) : Host.Outcome State Fault Refusal :=
  whenLive (fun s => s.guard (!up || s.isRunning 0x5C0) (fun s => s.linkChange up gen width)) s

/-- PCIE_HOT_RESET: a hot reset, or a transition into or out of D3hot (R497). -/
def execPcieHotReset (d3hot : Bool) (s : State) : Host.Outcome State Fault Refusal :=
  whenLive (fun s => { s.resetEndpoint with pcie := { s.pcie with d3hot := d3hot } }) s

/-- PCIE_TLP_ERROR (R496). -/
def execPcieTlpError (kind : TlpError) (s : State) : Host.Outcome State Fault Refusal :=
  whenLive (fun s =>
    (match kind with
     | .poisonedWrite => s.satInc Reg.PCIE_ERR_POISONED
     | .malformed => s.satInc Reg.PCIE_ERR_MALFORMED
     | .unexpected => s.satInc Reg.PCIE_ERR_MALFORMED).raise FS.PCIE_ERR) s

/-- PCIE_EOI (R499). -/
def execPcieEoi (req : Requester) (vec : Nat) (s : State) : Host.Outcome State Fault Refusal :=
  let v := vec % 64
  whenLive (fun s => s.access req Reg.PCIE_EOI v (fun t => t.wrEoi v)) s

/-- MSIX_UNMASK: the vector control word is written with MASK = 0 (R499). -/
def execMsixUnmask (req : Requester) (vec : Nat) (s : State) : Host.Outcome State Fault Refusal :=
  whenLive (fun s => s.guard (decide (vec < 64)) (fun s =>
    s.access req (Reg.PCIE_MSIX vec + 12) 0 (fun t => t.wrMsix (Reg.PCIE_MSIX vec + 12) 0))) s

/-- UART_TX_PUSH (R514). -/
def execUartTxPush (req : Requester) (uart data : Nat) (s : State) : Host.Outcome State Fault Refusal :=
  whenLive (fun s => s.guard (decide (uart < 2)) (fun s =>
    s.access req (Reg.UART_TX uart) (data % 256) (fun t => t.wrUartTx uart data))) s

/-- UART_TX_BYTE_SENT (R514). -/
def execUartTxByteSent (uart : Nat) (s : State) : Host.Outcome State Fault Refusal :=
  whenLive (fun s => s.guard (decide (uart < 2) && s.isRunning 0x5F0) (fun s => s.uartSend uart)) s

/-- ENCODER_EDGE (R515). -/
def execEncoderEdge (chan : Nat) (a b z : Bool) (s : State) : Host.Outcome State Fault Refusal :=
  whenLive (fun s => s.guard (decide (chan < 8)) (fun s => s.encEdge chan a b z)) s

/-- TAP_INSTRUCTION (R521). -/
def execTapInstruction (instr : Nat) (data : List Bool) (s : State) : Host.Outcome State Fault Refusal :=
  whenPowered (fun s => s.tapRun instr data) s

/-- SAFE_STATE_WPR_FRAME (R596). -/
def execSafeStateWprFrame (s : State) : Host.Outcome State Fault Refusal := whenLive (fun s => s.safeFrame) s

end Sys2Proof.Machine
end

