-- ==== Sys2Proof/Machine/Odilo.lean ====
section
/-! DEFINITION. The Odilo link and the cascade (chapter 19): training, routes and presence, requests served for other
positions, time and beacons, and what becomes of requests when a port goes down. -/

namespace Sys2Proof.Machine

/-! ## Positions, routes, presence (R540, R547, R551) -/

/-- The page of Odilo port `i`. -/
def odlPage (i : Nat) : Nat := 0x600 + 0x10 * i

/-- Port `i` is RUNNING and its link is up. -/
def State.odlUp (s : State) (i : Nat) : Bool := s.isRunning (odlPage i) && s.onF (Reg.ODL_STAT_UP i)

/-- What is known of position `p`. -/
def State.odlPos (s : State) (p : Nat) : OdlPos := Sparse.get (fun _ => {}) s.odl.positions p

/-- The state with what is known of position `p` replaced. -/
def State.setOdlPos (s : State) (p : Nat) (x : OdlPos) : State :=
  { s with odl := { s.odl with positions := Sparse.set (fun _ => {}) s.odl.positions p x } }

/-- Position `p`'s bit of PRESENT and of LENDING, and its field of ODL_MODES. -/
def presentFld (p : Nat) : Fld := ⟨Reg.ODL_MEMBERS 0, p, p⟩
def lendingFld (p : Nat) : Fld := ⟨Reg.ODL_MEMBERS 0, 4 + p, 4 + p⟩
def posModeFld (p : Nat) : Fld := ⟨Reg.ODL_MODES 0, 4 * p + 3, 4 * p⟩

/-- What CASC_POS fixes in the registers: OWN_POS, the own bit of PRESENT and the route to itself (R538, R540). -/
def State.strapRegs (s : State) : State :=
  ((s.putF (Reg.ODL_MEMBERS_OWN_POS 0) s.pins.cascPos).putF (presentFld s.pins.cascPos) 1).putF (routeFld s.pins.cascPos) 3

/-- The links to position `p` over port `i`: one to the port's own peer, else as flits from it have shown (R540). -/
def State.viaHops (s : State) (p i : Nat) : Option Nat :=
  if !s.odlUp i then none
  else if s.getF (Reg.ODL_STAT_PEER_POS i) = p then some 1
  else if i = 0 then (s.odlPos p).via0 else (s.odlPos p).via1

/-- The route to position `p`: fewer hops, port 0 where both are equal (R540). -/
def State.bestRoute (s : State) (p : Nat) : Nat :=
  match s.viaHops p 0, s.viaHops p 1 with
  | none, none => 0
  | some _, none => 1
  | none, some _ => 2
  | some a, some b => if a ≤ b then 1 else 2

/-- The positions of the other members. -/
def State.others (s : State) : List Nat := [0, 1, 2, 3].filter (fun p => p != s.pins.cascPos)

/-- Routes are recomputed (R540). -/
def State.recomputeRoutes (s : State) : State := s.others.foldl (fun t p => t.putF (routeFld p) (t.bestRoute p)) s

/-- LENDING follows presence and the position's latched setting (R551). -/
def State.showLending (s : State) (p : Nat) : State := s.putF (lendingFld p) (b2n (s.onF (presentFld p) && (s.odlPos p).lends))

/-- Position `p` becomes present (R547). -/
def State.posPresent (s : State) (p : Nat) : State :=
  if s.onF (presentFld p) then s.showLending p else ((s.putF (presentFld p) 1).showLending p).irq (odlPage 0) 2

/-- TB2 follows the master while it is present, and holds over otherwise (R490, R549). -/
def State.masterGone (s : State) : State :=
  if s.pins.cascPos != 0 && s.getF Reg.QTZ_STAT_TB2_SRC == 2 then s.enterHoldover else s

/-- Position `p` is declared absent (R547, R553). -/
def State.posAbsent (s : State) (p : Nat) : State :=
  if !s.onF (presentFld p) then s
  else
    let s1 := (((s.putF (presentFld p) 0).putF (lendingFld p) 0).putF (posModeFld p) 0).setOdlPos p
      { s.odlPos p with missed := 0, heard := false }
    let s2 := (s1.irq (odlPage 0) 2).raise (FS.ODL_PEER 0)
    if p = 0 then s2.masterGone else s2

/-! ## Ports going down (R543, R553) -/

/-- The request at place `k` of the outstanding ones is taken out. -/
def State.dropOut (s : State) (k : Nat) : State := { s with odl := { s.odl with outs := s.odl.outs.eraseIdx k } }

/-- A request's failure reaches its command, unless it is no longer wanted. -/
def State.failOut (s : State) (o : OdlOut) : State := if o.wanted then s.failOwner o.owner else s

/-- A request of a port that has gone down: reissued once over another route, else it fails its command (R553). -/
def State.rehome (s : State) (i : Nat) (o : OdlOut) : State :=
  match s.routePort o.pos with
  | some q =>
    if o.again then s.failOut o
    else (s.addRequest { o with port := q, tag := none, got := [], again := true }).satInc (Reg.ODL_CNT_REISSUED i)
  | none => (s.posAbsent o.pos).failOut o

/-- Port `i` goes down for a cause: 1 PHY, 2 IDENT, 3 REPLAY, 4 LEAVE, 5 STOP. Its transition is raised; positions without
a route are absent; its requests are reissued or fail (R553). -/
def State.portFalls (s : State) (i cause : Nat) : State :=
  if !s.onF (Reg.ODL_STAT_UP i) then s
  else
    let s1 := ((s.putF (Reg.ODL_STAT_UP i) 0).putF (Reg.ODL_STAT_FAIL i) cause).satInc (Reg.ODL_CNT_DOWNS i)
    let forget (x : OdlPos) : OdlPos := if i = 0 then { x with via0 := none, new0 := none } else { x with via1 := none, new1 := none }
    let s2 := (s1.others.foldl (fun t p => t.setOdlPos p (forget (t.odlPos p))) s1).recomputeRoutes
    let mine := s2.odl.outs.filter (fun o => o.port == i)
    let o2 : Odl := { s2.odl with
      outs := s2.odl.outs.filter (fun o => o.port != i)
      masks := Sparse.set (fun _ => []) s2.odl.masks i []
      replays := Sparse.set (fun _ => 0) s2.odl.replays i 0 }
    let s3 := (({ s2 with odl := o2 }).irq (odlPage i) 1).raise (FS.ODL_LINK i)
    let s4 := (s3.others.filter (fun p => s3.getF (routeFld p) == 0)).foldl (fun t p => t.posAbsent p) s3
    (mine.foldl (fun t o => t.rehome i o) s4).takeTags

/-- A flit of port `i` fails its CRC: it is replayed; REPLAY_MAX replays in a row take the port down (R543). -/
def State.flitCrc (s : State) (i : Nat) : State :=
  let n := Sparse.get (fun _ => 0) s.odl.replays i + 1
  let s1 := ({ s with odl := { s.odl with replays := Sparse.set (fun _ => 0) s.odl.replays i n } }).satInc (Reg.ODL_CNT_REPLAYS i)
  if s.getF (Reg.ODL_CFG_REPLAY_MAX i) ≤ n then s1.portFalls i 3 else s1

/-- A flit has been accepted in order at port `i`: no replay stands. -/
def State.flitGood (s : State) (i : Nat) : State :=
  { s with odl := { s.odl with replays := Sparse.set (fun _ => 0) s.odl.replays i 0 } }

/-! ## Training (R539, R554) -/

/-- The training of port `i` begins: it is RUNNING and down. -/
def State.beginTraining (s : State) (i : Nat) : State :=
  if s.isRunning (odlPage i) && !s.onF (Reg.ODL_STAT_UP i) && !s.odl.training.contains i then
    { s with odl := { s.odl with training := s.odl.training ++ [i] } }
  else s

/-- Port `i` of this position accepts a peer that reports position `q` (R539). -/
def peerAccepted (own i q : Nat) : Bool :=
  q != own && (if i = 0 then q == own + 1 || (decide (2 ≤ own) && q == 0)
    else (decide (1 ≤ own) && q + 1 == own) || (own == 0 && decide (2 ≤ q)))

/-- The lending settings are latched when a port trains (R279, R551). -/
def State.latchLending (s : State) : State :=
  { s with odl := { s.odl with lend :=
      { base := s.getF Reg.TIER_LEND_BASE_BASE, pages := s.getF Reg.TIER_LEND_SIZE_PAGES,
        part := s.getF Reg.TIER_LEND_CTRL_PART, en := s.onF Reg.TIER_LEND_CTRL_EN } } }

/-- The training of port `i` ends with what it learned of its peer (R539). -/
def State.trained (s : State) (i : Nat) (peer : OdlPeer) : State :=
  let s1 := { s with odl := { s.odl with training := s.odl.training.filter (fun j => j != i) } }
  if !peer.up then s1.putF (Reg.ODL_STAT_FAIL i) 1
  else
    let s2 := s1.latchLending
    let l := s2.odl.lend
    let s3 := s2.emit (.odl i "IDENT" [s.pins.cascPos, l.base, l.pages, l.part, b2n l.en] [])
    if !(peer.vendorOk && decide (peer.pos < 4) && peerAccepted s.pins.cascPos i peer.pos) then
      (s3.putF (Reg.ODL_STAT_FAIL i) 2).raise (FS.ODL_IDENT i)
    else
      let s4 := ((((s3.putF (Reg.ODL_STAT_UP i) 1).putF (Reg.ODL_STAT_PEER_POS i) peer.pos).putF
        (Reg.ODL_STAT_PEER_LENDS i) (b2n peer.lends)).wrapInc (Reg.ODL_STAT_TRAININGS i)).putF (Reg.ODL_DELAY_DELAY i) peer.delay
      let s5 := ((s4.setOdlPos peer.pos { s4.odlPos peer.pos with lends := peer.lends }).showLending peer.pos).recomputeRoutes
      (s5.irq (odlPage i) 1).raise (FS.ODL_LINK i)

/-! ## Flits for another position (R540) -/

/-- The port on which a flit toward `dst` that came in at port `i` leaves: the other one, if it is up (R540). -/
def State.onward (s : State) (i : Nat) : Option Nat := if s.odlUp (1 - i) then some (1 - i) else none

/-- A flit for another position is forwarded: it competes for the slot as the port it came by, without a partition (R540, R544). -/
def State.passOn (s : State) (i : Nat) (kind : String) (fields : List Nat) (data : List Byte) : State :=
  match s.onward i with
  | some q => (s.emit (.odl q kind fields data)).granted (.odlPort q) (odiloPort i)
  | none => s

/-- The port on which an answer to position `src` leaves: its route, or the port the request came by. -/
def State.answerPort (s : State) (i src : Nat) : Nat := (s.routePort src).getD i

/-! ## Serving other positions (R279, R545) -/

/-- The lines from local address `a` lie within the lent range, and the lending partition may reach them (R279). -/
def State.lentOk (s : State) (a lines : Nat) (write : Bool) : Bool :=
  let l := s.odl.lend
  let n := 64 * lines
  l.en && decide (l.base * 0x200000 ≤ a) && decide (a + n ≤ (l.base + l.pages) * 0x200000) &&
    decide (a + n ≤ 0x4000000000) && s.memOk l.part a n write

/-- An answer leaves for another position: it takes its slot as the port that the request came by (R544). -/
def State.answer (s : State) (i src : Nat) (kind : String) (fields : List Nat) (data : List Byte) : State :=
  (s.emit (.odl (s.answerPort i src) kind fields data)).granted (.odlPort (s.answerPort i src)) (odiloPort i)

/-- RD_REQ at the lender: lines return in RD_DATA flits of four at most, or a refusal; the read is charged to the lending partition
at this device's memory ports (R279, R541). -/
def State.serveRead (s : State) (i : Nat) (r : OdlReq) : State :=
  if s.lentOk r.addr r.lines false then
    (byFour r.addr r.lines).foldl (fun t g =>
      t.answer i r.src "RD_DATA" [s.pins.cascPos, r.src, r.tag, 0] (t.read g.1 (64 * g.2)))
      (s.traffic (odiloPort i) s.odl.lend.part false r.addr (64 * r.lines))
  else s.answer i r.src "RD_DATA" [s.pins.cascPos, r.src, r.tag, 1] []

/-- One line lands with its byte enables (R542, R545); it does not lie in a tile's SRAM, whose words alone hold ECC errors. -/
def State.landLine (s : State) (a mask : Nat) (l : List Byte) : State :=
  (List.range 64).foldl (fun t k => if bit mask k then t.setByte (a + k) (l.getD k 0) else t) s

/-- WR at the lender: its lines land in order, by the masks held for its tag or whole, charged as a read is, and WR_ACK answers; or a
refusal (R279, R542, R545). -/
def State.serveWrite (s : State) (i : Nat) (r : OdlReq) (data : List Byte) : State :=
  let held := Sparse.get (fun _ => []) s.odl.masks i
  let mask := match held.find? (fun m => m.1 == r.tag) with | some m => m.2 | none => List.replicate r.lines (2 ^ 64 - 1)
  let s1 := { s with odl := { s.odl with masks := Sparse.set (fun _ => []) s.odl.masks i (held.filter (fun m => m.1 != r.tag)) } }
  if s.lentOk r.addr r.lines true then
    (((List.range r.lines).foldl (fun t j => t.landLine (r.addr + 64 * j) (mask.getD j 0) (data.drop (64 * j))) s1).traffic
      (odiloPort i) s.odl.lend.part true r.addr (64 * r.lines)).answer i r.src "WR_ACK" [s.pins.cascPos, r.src, r.tag, 0] []
  else s1.answer i r.src "WR_ACK" [s.pins.cascPos, r.src, r.tag, 1] []

/-! ## Answers to this device's requests -/

/-- The place of the outstanding request of port `i` with a tag. -/
def State.outAt (s : State) (i tag : Nat) (write : Bool) : Option Nat :=
  s.odl.outs.findIdx? (fun o => o.port == i && o.tag == some tag && o.write == write)

/-- A request is complete or has failed: its tag is free for one that waits (R545). -/
def State.endOut (s : State) (k : Nat) : State := (s.dropOut k).takeTags

/-- The device address of an offset in position `p`'s neighbour window (R56). -/
def windowAddr (p o : Nat) : Nat := 0x10000000000 + p * 0x4000000000 + o

/-- RD_DATA for this device: the lines are what the window holds; the last one completes the tag (R541). -/
def State.takeData (s : State) (i tag : Nat) (data : List Byte) (err : Bool) : State :=
  match s.outAt i tag false with
  | none => s
  | some k =>
    match s.odl.outs[k]? with
    | none => s
    | some o =>
      if err then (s.endOut k).failOut o
      else
        let got := (o.got ++ data).take (64 * o.lines)
        let s1 := if o.wanted then s.write (windowAddr o.pos (o.addr + o.got.length)) (got.drop o.got.length) else s
        if got.length = 64 * o.lines then s1.endOut k
        else { s1 with odl := { s1.odl with outs := s1.odl.outs.set k { o with got := got } } }

/-- WR_ACK for this device (R175, R280). -/
def State.takeAck (s : State) (i tag : Nat) (err : Bool) : State :=
  match s.outAt i tag true with
  | none => s
  | some k =>
    match s.odl.outs[k]? with
    | none => s
    | some o => if err then (s.endOut k).failOut o else s.endOut k

/-! ## Time and beacons (R546, R547) -/

/-- The links to the master over port `i`, if it is reached that way. -/
def State.masterHops (s : State) (i : Nat) : Option Nat := if s.pins.cascPos = 0 then none else s.viaHops 0 i

/-- The distance to the master over the route in use. -/
def State.masterDistance (s : State) : Nat :=
  if s.pins.cascPos = 0 then 0
  else match s.masterHops 0, s.masterHops 1 with
    | some a, some b => min a b
    | some a, none => a
    | none, some b => b
    | none, none => 0

/-- The peer of port `i` lies farther from the master (R546). -/
def State.peerFarther (s : State) (i : Nat) : Bool :=
  s.pins.cascPos == 0 || match s.masterHops i with | some h => decide (s.masterDistance + 1 < h) | none => true

/-- TIME flits leave toward the positions farther from the master (R546). -/
def State.sendTime (s : State) : State :=
  ([0, 1].filter (fun i => s.odlUp i && s.peerFarther i)).foldl
    (fun t i => t.emit (.odl i "TIME" [s.pins.cascPos, (s.base 2).count, (s.base 2).frac] [])) s

/-- A TIME flit from the port on the route to the master: TB2 follows it with the link's delay (R490, R546). -/
def State.takeTime (s : State) (i time rate src : Nat) : State :=
  if s.pins.cascPos != 0 && s.routePort 0 == some i && src == s.getF (Reg.ODL_STAT_PEER_POS i) && s.onF (presentFld 0) then
    let s1 := s.setBase cascBase { count := (time + s.getF (Reg.ODL_DELAY_DELAY i)) % 2 ^ 64, frac := 0, held := signed 32 rate }
    if s1.getF Reg.QTZ_STAT_TB2_SRC = 2 then s1 else s1.putF Reg.QTZ_STAT_TB2_SRC 2
  else s

/-- The master's beacon at a follower: it sets the frame number in BOOT and READY, and is compared while the device
drives (R547). -/
def State.masterBeacon (s : State) (i frame : Nat) : State :=
  match s.mode with
  | .boot => s.putF Reg.QTZ_FRAME_FRAME frame
  | .ready => s.putF Reg.QTZ_FRAME_FRAME frame
  | .armed | .active | .degraded =>
    if s.getF Reg.QTZ_FRAME_FRAME = frame % 2 ^ Reg.QTZ_FRAME_FRAME.width then s
    else (s.satInc (Reg.ODL_FRAME_CNT_FRAME_MISMATCH 0)).raise (FS.ODL_FRAME i)
  | .off | .safe | .terminal => s

/-- A BEACON that came in at port `i` (R547): presence, mode, lending, the way to its sender; it goes on to the other
port's peer. -/
def State.takeBeacon (s : State) (i : Nat) (b : OdlBeacon) : State :=
  if b.pos = s.pins.cascPos ∨ 4 ≤ b.pos then s
  else
    let x := s.odlPos b.pos
    let h := some (b.hops + 1)
    let y : OdlPos := if i = 0 then { x with lends := b.lends, missed := 0, heard := true, via0 := h, new0 := h }
      else { x with lends := b.lends, missed := 0, heard := true, via1 := h, new1 := h }
    let s1 := ((s.setOdlPos b.pos y).recomputeRoutes.posPresent b.pos).putF (posModeFld b.pos) b.mode
    let s2 := if b.pos = 0 then s1.masterBeacon i b.frame else s1
    if s2.odlUp (1 - i) && s2.getF (Reg.ODL_STAT_PEER_POS (1 - i)) != b.pos then
      s2.emit (.odl (1 - i) "BEACON" [b.pos, b.hops + 1, b.frame, b.mode, b2n b.lends] [])
    else s2

/-- Frames without a beacon are counted for the positions that are present, and ways that no beacon has confirmed in this
frame are dropped, at the tick (R540, R547). -/
def State.countBeacons (s : State) : State :=
  (s.others.foldl (fun t p =>
    let x := t.odlPos p
    if !t.onF (presentFld p) then t
    else if x.heard then t.setOdlPos p { x with missed := 0, heard := false, via0 := x.new0, via1 := x.new1, new0 := none, new1 := none }
    else t.setOdlPos p { x with missed := x.missed + 1 }) s).recomputeRoutes

/-- The beacon of this frame leaves on every port that is up; ODL_MODES holds the own mode beside the others' (R547). -/
def State.sendBeacons (s : State) : State :=
  let l := s.odl.lend
  let ups := [0, 1].filter (fun i => s.odlUp i)
  let s1 := ups.foldl (fun t i => t.emit (.odl i "BEACON"
    [s.pins.cascPos, 0, s.getF Reg.QTZ_FRAME_FRAME, modeCode s.mode, l.base, l.pages, b2n l.en] [])) s
  if ups.isEmpty then s1 else s1.putF (posModeFld s.pins.cascPos) (modeCode s.mode)

/-! ## Block behaviour (R555) -/

/-- Port `i` has become RUNNING: it trains. -/
def State.odlStarted (s : State) (i : Nat) : State := s.beginTraining i

/-- The stop of port `i` begins: LEAVE. -/
def State.odlStop (s : State) (i : Nat) : State :=
  if s.onF (Reg.ODL_STAT_UP i) then s.emit (.odl i "LEAVE" [s.pins.cascPos] []) else s

/-- The stop of port `i` takes the link down. -/
def State.odlStopped (s : State) (i : Nat) : State :=
  let s1 := s.portFalls i 5
  { s1 with odl := { s1.odl with training := s1.odl.training.filter (fun j => j != i) } }

/-- ODL_RETRAIN (R554). -/
def State.wrRetrain (s : State) (i v : Nat) : State := if bit v 0 then s.beginTraining i else s

/-- A flit arrives at port `i`, which must be up: the meaning `f` takes it. -/
def State.flit (s : State) (i : Nat) (f : State → State) : State :=
  s.guard (decide (i < 2) && s.odlUp i) (fun s => f (s.flitGood i))

/-! ## Commands -/

/-- ODL_TRAINING. -/
def execOdlTraining (port : Nat) (peer : OdlPeer) (s : State) : Host.Outcome State Fault Refusal :=
  whenLive (fun s => s.guard (decide (port < 2) && s.odl.training.contains port) (fun s => s.trained port peer)) s

/-- ODL_RD_REQ. -/
def execOdlRdReq (port : Nat) (req : OdlReq) (s : State) : Host.Outcome State Fault Refusal :=
  whenLive (fun s =>
    if !req.crcGood then s.guard (decide (port < 2) && s.odlUp port) (fun s => s.flitCrc port)
    else s.flit port (fun s =>
      if req.dst = s.pins.cascPos then s.serveRead port req
      else s.passOn port "RD_REQ" [req.src, req.dst, req.part, req.lines, req.tag, req.addr] [])) s

/-- ODL_RD_DATA. -/
def execOdlRdData (port src dst tag : Nat) (data : List Byte) (err : Bool) (s : State) : Host.Outcome State Fault Refusal :=
  whenLive (fun s => s.flit port (fun s =>
    if dst = s.pins.cascPos then s.takeData port tag data err else s.passOn port "RD_DATA" [src, dst, tag, b2n err] data)) s

/-- ODL_WR. -/
def execOdlWr (port : Nat) (req : OdlReq) (data : List Byte) (s : State) : Host.Outcome State Fault Refusal :=
  whenLive (fun s =>
    if !req.crcGood then s.guard (decide (port < 2) && s.odlUp port) (fun s => s.flitCrc port)
    else s.flit port (fun s =>
      if req.dst = s.pins.cascPos then s.serveWrite port req data
      else s.passOn port "WR" [req.src, req.dst, req.part, req.lines, req.tag, req.addr] data)) s

/-- ODL_WR_MASK. -/
def execOdlWrMask (port src dst tag : Nat) (mask : List Nat) (s : State) : Host.Outcome State Fault Refusal :=
  whenLive (fun s => s.flit port (fun s =>
    if dst = s.pins.cascPos then
      let held := (Sparse.get (fun _ => []) s.odl.masks port).filter (fun m => m.1 != tag)
      { s with odl := { s.odl with masks := Sparse.set (fun _ => []) s.odl.masks port (held ++ [(tag, mask)]) } }
    else s.passOn port "WR_MASK" [src, dst, tag] (mask.flatMap (leBytes 8)))) s

/-- ODL_WR_ACK. -/
def execOdlWrAck (port src dst tag : Nat) (err : Bool) (s : State) : Host.Outcome State Fault Refusal :=
  whenLive (fun s => s.flit port (fun s =>
    if dst = s.pins.cascPos then s.takeAck port tag err else s.passOn port "WR_ACK" [src, dst, tag, b2n err] [])) s

/-- ODL_TIME. -/
def execOdlTime (port time rate src : Nat) (s : State) : Host.Outcome State Fault Refusal :=
  whenLive (fun s => s.flit port (fun s => s.takeTime port time rate src)) s

/-- ODL_BEACON. -/
def execOdlBeacon (port : Nat) (beacon : OdlBeacon) (s : State) : Host.Outcome State Fault Refusal :=
  whenLive (fun s => s.flit port (fun s => s.takeBeacon port beacon)) s

/-- ODL_LEAVE: the peer's port is stopping: the port goes down and the position is absent at once (R547). -/
def execOdlLeave (port pos : Nat) (s : State) : Host.Outcome State Fault Refusal :=
  whenLive (fun s => s.flit port (fun s =>
    s.guard (decide (pos < 4) && pos != s.pins.cascPos) (fun s => (s.portFalls port 4).posAbsent pos))) s

/-- FLIT_CRC_ERROR. -/
def execFlitCrcError (port : Nat) (s : State) : Host.Outcome State Fault Refusal :=
  whenLive (fun s => s.guard (decide (port < 2) && s.odlUp port) (fun s => s.flitCrc port)) s

/-- ODL_LINK_DOWN: the PCS has lost lock. -/
def execOdlLinkDown (port : Nat) (s : State) : Host.Outcome State Fault Refusal :=
  whenLive (fun s => s.guard (decide (port < 2) && s.odlUp port) (fun s => s.portFalls port 1)) s

/-- BEACON_MISS: a beacon of this same frame has been applied first (R547). -/
def execBeaconMiss (pos : Nat) (s : State) : Host.Outcome State Fault Refusal :=
  whenLive (fun s =>
    let x := s.odlPos pos
    let limit := s.getF (Reg.ODL_CFG_BEACON_MISS ((s.routePort pos).getD 0))
    s.guard (decide (pos < 4) && pos != s.pins.cascPos && !x.heard && decide (limit ≤ x.missed)) (fun s => s.posAbsent pos)) s

/-- TIME_SEND. -/
def execTimeSend (s : State) : Host.Outcome State Fault Refusal := whenLive State.sendTime s

/-- ODL_RETRAIN_TIMER. -/
def execOdlRetrainTimer (port : Nat) (s : State) : Host.Outcome State Fault Refusal :=
  whenLive (fun s => s.guard (decide (port < 2)) (fun s => s.beginTraining port)) s

/-- ODL_RETRAIN. -/
def execOdlRetrain (req : Requester) (port : Nat) (s : State) : Host.Outcome State Fault Refusal :=
  whenLive (fun s => s.guard (decide (port < 2)) (fun s =>
    s.access req (Reg.ODL_RETRAIN port) 1 (fun t => t.wrRetrain port 1))) s

end Sys2Proof.Machine
end

