-- ==== Sys2Proof/Machine/Fuses.lean ====
section
/-! DEFINITION. The fuse array and what it fixes (chapter 23), the debug level and keys, and the resets of the device
(R78, R134, R598, R652, R653, R668). -/

namespace Sys2Proof.Machine

/-! ## The fuse words (R628–R631) -/

/-- An 8-bit group counts as programmed when at least 5 of its bits are 1 (R631). -/
def groupSet (v : Nat) : Bool := decide (5 ≤ popCount v 8)

/-- The lifecycle state: 0 MANUFACTURE, 1 PROVISIONED, 2 FIELD, 3 RETIRED. -/
def State.lifecycle (s : State) : Nat :=
  let w := s.fuse 72
  if groupSet (bits w 23 16) then 3 else if groupSet (bits w 15 8) then 2 else if groupSet (bits w 7 0) then 1 else 0

/-- The fused debug level: the highest programmed group (R640). -/
def State.fusedDebug (s : State) : Nat :=
  let w := s.fuse 73
  if groupSet (bits w 23 16) then 3 else if groupSet (bits w 15 8) then 2 else if groupSet (bits w 7 0) then 1 else 0

/-- The number after the highest bit set, 0 when no bit is set. -/
def bitLength (v : Nat) : Nat := (List.range 32).foldl (fun m i => if bit v i then i + 1 else m) 0

/-- Anti-rollback counter `c` (R631). -/
def State.antiRollback (s : State) (c : Nat) : Nat := bitLength (s.fuse (76 + c))

/-- The counter of an image type (R634). -/
def counterOf (kind : Nat) : Nat := if kind = 0 then 0 else if kind = 1 then 1 else 2

/-- `n` fuse words from `w`, read through `f`, are not all 0. -/
def anyWord (f : Nat → Nat) (w n : Nat) : Bool := (List.range n).any (fun i => f (w + i) != 0)

/-- Slots whose hash is not 0 and whose revocation bit is 0, as a mask, with fuses read through `f` and revocation word
`rev` (R632): ECDSA, LMS. -/
def slotMask (f : Nat → Nat) (rev : Nat) (lms : Bool) : Nat :=
  (List.range 4).foldl (fun m k =>
    let hash := if lms then anyWord f (128 + 8 * k) 8 else anyWord f (80 + 12 * k) 12
    let off := bit rev (if lms then 8 + k else k)
    if hash && !off then m + 2 ^ k else m) 0

/-- Slots usable and not off (R642). -/
def State.ecdsaSlots (s : State) : Nat := slotMask s.fuse (s.fuse 75) false &&& (15 - s.getF Reg.SEC_KEY_OFF_ECDSA_OFF)
def State.lmsSlots (s : State) : Nat := slotMask s.fuse (s.fuse 75) true &&& (15 - s.getF Reg.SEC_KEY_OFF_LMS_OFF)

/-- LMS leaf blocks that are not taken (R645), of the array as it is now. -/
def State.freeBlocks (s : State) : Nat := (List.range 128).foldl (fun n i => n + (32 - popCount (s.fuseLive (320 + i)) 32)) 0

/-- The lowest LMSBLK bit still 0. -/
def State.nextBlock (s : State) : Option Nat :=
  (List.range 4096).find? (fun b => !bit (s.fuseLive (320 + b / 32)) (b % 32))

/-- Leaves remaining (SEC_LMS). -/
def State.leavesLeft (s : State) : Nat := 64 * s.freeBlocks + (match s.sec.block with | some _ => 64 - s.sec.used | none => 0)

/-- SEC_LIFE, SEC_KEYS and SEC_LMS show what the fuses, SEC_KEY_OFF and SEC_DEBUG_SET give (R640, R642, R645). -/
def State.showSec (s : State) : State :=
  let s1 := (s.putF Reg.SEC_LIFE_LIFE s.lifecycle).putF Reg.SEC_LIFE_DEBUG_FUSE s.fusedDebug
  let s2 := s1.putF Reg.SEC_LIFE_DEBUG s1.debugLevel
  ((s2.putF Reg.SEC_KEYS_ECDSA_USABLE s2.ecdsaSlots).putF Reg.SEC_KEYS_LMS_USABLE s2.lmsSlots).putF Reg.SEC_LMS_LEFT s2.leavesLeft

/-- The fused floor and the class at reset of every source (R586, R631). -/
def State.loadFloors (s : State) : State :=
  (List.range 1024).foldl (fun t n =>
    let t1 := t.putF (floorFld n) (min 4 (bits (t.fuse (192 + n / 8)) (4 * (n % 8) + 3) (4 * (n % 8))))
    t1.putF (sevFld n) (t1.resetClass n)) s

/-- The fused P0 regions (R267). -/
def State.loadRegions (s : State) : State :=
  (List.range 4).foldl (fun t r =>
    let m := t.fuse (162 + 3 * r)
    ((((t.putF (Reg.TIER_RGN_BASE_BASE r) (t.fuse (160 + 3 * r))).putF (Reg.TIER_RGN_LIM_LIM r) (t.fuse (161 + 3 * r))).putF
      (Reg.TIER_RGN_BASE_V r) (bits m 31 31)).putF (Reg.TIER_RGN_MASK_WMASK r) (bits m 15 8)).putF
      (Reg.TIER_RGN_MASK_RMASK r) (bits m 7 0)) s

/-- The fused FMAX codes; a derated code of this power-on stands (R624, R630). -/
def State.loadFmax (s : State) : State :=
  (List.range 32).foldl (fun t i =>
    let f := 44 + bits (t.fuse (4 + i / 8)) (4 * (i % 8) + 3) (4 * (i % 8))
    let t1 := t.putF (Reg.TILE_FREQ_FMAX i) f
    if t1.getF (Reg.TILE_FREQ_FMAX_DERATED i) = 0 then t1.putF (Reg.TILE_FREQ_FMAX_DERATED i) f else t1) s

/-- CAP takes the fused sustained cap, and LEVEL its bound (R604, R605). -/
def State.loadCap (s : State) : State :=
  let c := bits (s.fuse 0) 24 16
  let s1 := (s.putF Reg.PWR_CAP_FUSED_CAP c).putF Reg.PWR_CAP_CAP c
  { s1 with pwr := { s1.pwr with cap := c, level := (450 - (c : Int)) * 10000 } }

/-- PCIE_ID's identifiers: vendor and device, then subsystem (R493, R630). -/
def State.loadPcieId (s : State) : State := s.putF Reg.PCIE_ID_IDS (s.fuse 56 + 2 ^ 32 * s.fuse 172)

/-- The MAC address (R630). -/
def State.loadMac (s : State) : State := s.putF Reg.ETH_MAC_MAC (s.fuse 173 + 2 ^ 32 * s.fuse 174)

/-- TIER MODE and its lock (R265). -/
def State.loadTierMode (s : State) : State :=
  (s.putF Reg.TIER_CFG_MODE (bits (s.fuse 74) 0 0)).putF Reg.TIER_CFG_MODE_LOCKED (bits (s.fuse 74) 8 8)

/-- The anti-rollback counters (SEC_ARB). -/
def State.loadArb (s : State) : State :=
  (List.range 4).foldl (fun t c => t.putF ⟨Reg.SEC_ARB, 8 * c + 7, 8 * c⟩ (t.antiRollback c)) s

/-- Every register that resets to a fused value takes it (R630). -/
def State.loadFuses (s : State) : State :=
  ((((((((s.loadFloors).loadRegions).loadFmax).loadCap).putF Reg.PWR_THERM_TJ_MAX (bits (s.fuse 0) 7 0)).loadPcieId).loadMac).loadTierMode).loadArb.showSec

/-! ## Programming (R632, R646) -/

/-- The bits of a fuse word that FUSE (`granite` false) or Granite's SEC_FPGM may program in the lifecycle state. -/
def State.fuseRights (s : State) (granite : Bool) (w : Nat) : Nat :=
  let life := s.lifecycle
  let early := decide (life ≤ 1)
  if 3 ≤ life then 0
  else if w = 72 then
    (if !granite && life == 0 then maskOf 7 0 else 0) ||| (if !granite && life == 1 then maskOf 15 8 else 0) |||
      (if granite || early then maskOf 23 16 else 0)
  else if w = 75 then (if granite || early then allBits else 0)
  else if w = 73 ∨ (192 ≤ w ∧ w ≤ 319) ∨ (448 ≤ w ∧ w ≤ 511) then (if !granite && early then allBits else 0)
  else if w = 74 ∨ (80 ≤ w ∧ w ≤ 174) then (if !granite && life == 0 then allBits else 0)
  else if (76 ≤ w ∧ w ≤ 79) ∨ (320 ≤ w ∧ w ≤ 447) then (if granite then allBits else 0)
  else 0

/-- The check that the table of R632 names for a word and bits. -/
def State.fuseCheck (s : State) (w b : Nat) : Bool :=
  if w = 72 ∧ bits b 7 0 ≠ 0 then
    (List.range 4).any (fun k => anyWord s.fuseLive (80 + 12 * k) 12) && (List.range 4).any (fun k => anyWord s.fuseLive (128 + 8 * k) 8)
  else if w = 75 ∧ s.lifecycle ≠ 0 then
    let rev := s.fuseLive 75 ||| b
    slotMask s.fuseLive rev false != 0 && slotMask s.fuseLive rev true != 0
  else true

/-- A pair names bits that may be programmed. -/
def State.fuseAllowed (s : State) (granite : Bool) (w b : Nat) : Bool := b % 2 ^ 32 &&& (allBits - s.fuseRights granite w) == 0

/-- SEC_FPGM: RIGHTS, CHECK, or the pulses begin (R632). -/
def State.wrFpgm (s : State) (v : Nat) : State :=
  let w := bits v 40 32
  let b := bits v 31 0
  if !s.fuseAllowed true w b then s.putF Reg.SEC_FPGM_STAT_RESULT 1
  else if !s.fuseCheck w b then s.putF Reg.SEC_FPGM_STAT_RESULT 2
  else ({ s with sec := { s.sec with prog := some (w, b) } }).secBusy

/-- The pulses of a SEC_FPGM write end: every bit reads 1, or VERIFY and some of them do (R632). -/
def State.fpgmDone (s : State) (good : Bool) : State :=
  match s.sec.prog with
  | none => s
  | some (w, b) =>
    let s1 := ({ s with sec := { s.sec with prog := none } }).secBusy
    if good then (((s1.burn w b).putF Reg.SEC_FPGM_STAT_RESULT 0).wrapInc Reg.SEC_FPGM_STAT_WORDS).showSec
    else
      let (m, s2) := s1.free 32
      ((s2.burn w (b &&& m)).putF Reg.SEC_FPGM_STAT_RESULT 3).showSec

/-- The pulses of a SEC_FPGM write are cut short: some bits are programmed. -/
def State.fpgmCut (s : State) : State :=
  match s.sec.prog with
  | none => s
  | some (w, b) =>
    let (m, s1) := s.free 32
    ({ s1 with sec := { s1.sec with prog := none } }).burn w (b &&& m)

/-- SEC_DEBUG_SET stores the higher of its value and the value written (R641). -/
def State.wrDebugSet (s : State) (v : Nat) : State :=
  (s.putF Reg.SEC_DEBUG_SET_LEVEL (max (s.getF Reg.SEC_DEBUG_SET_LEVEL) (bits v 1 0))).showSec

/-- SEC_KEY_OFF (R642). -/
def State.wrKeyOff (s : State) (v : Nat) : State := (s.applyWord Reg.SEC_KEY_OFF v).showSec

/-! ## Resets -/

/-- The word of a register that a reset of the device keeps (R584, R642, R668). -/
def keptByReset (a : Nat) : Bool :=
  decide (0x21400 ≤ a ∧ a < 0x21480) || decide (0x40000 ≤ a ∧ a < 0x50000) || a == Reg.SEC_KEY_OFF

/-- Tile `t` is fenced with CAUSE 2, which a warm reset leaves (R134). -/
def State.bootFenced (s : State) (t : Nat) : Bool := s.fenced t && s.getF (Reg.TILE_FENCE_CAUSE t) == 2

/-- Tiles that keep their fence keep it; derated codes stand (R134, R624). -/
def State.keepTiles (s old : State) : State :=
  (List.range 32).foldl (fun t i =>
    let t1 := t.putF (Reg.TILE_FREQ_FMAX_DERATED i) (old.getF (Reg.TILE_FREQ_FMAX_DERATED i))
    if old.bootFenced i then
      (((t1.putF (Reg.TILE_FENCE_FENCED i) 1).putF (Reg.TILE_FENCE_CAUSE i) 2).putF (Reg.TILE_FENCE_VERDICT i) 2).putF
        ⟨Reg.DEV_TILE_PRESENT, i, i⟩ 0
    else t1) s

/-- The level of FS_TILE_FENCED of a tile that the reset releases (R134). -/
def State.releasedFence (s : State) (n : Nat) : Bool :=
  decide (512 ≤ n ∧ n < 1024) && n % 16 == 2 && !s.bootFenced ((n - 512) / 16)

/-- The reset of R598, which RESET_N performs too (R653): the device is in OFF. Sticky bits, Quartz's counts (R668), memory,
straps, the fuse array, what is raised or broken, and modules taken out of use (R20) outlast it; a FUSE or SEC_FPGM in
progress is cut short. The words of SRAM that held an uncorrectable error still hold it (R140). -/
def State.deviceReset (s : State) : State :=
  let s1 := ((s.endOp 5).fpgmCut).quartzReset
  let base := State.reset
  let s2 : State := { base with
    pending := s1.pending, freeCtr := s1.freeCtr, sent := s1.sent, mem := s1.mem, ue := s1.ue,
    regs := Sparse.keep keptByReset s1.regs,
    pins := { s1.pins with refreshLost := false },
    dev := { base.dev with mode := .off, respGranite := s1.dev.respGranite, respCmdp := s1.dev.respCmdp, respPcie := s1.dev.respPcie },
    fc := { broken := s1.fc.broken, raised := s1.fc.raised.filter (fun n => !s1.releasedFence n) },
    qtz := s1.qtz, frame := s1.frame, tap := s1.tap,
    pwr := { base.pwr with derated := s1.pwr.derated, hubVolt := s1.pwr.hubVolt },
    tier := { base.tier with d2dLatched := s1.tier.d2dLatched.filter (fun m => !s1.tier.d2dRemoved.contains m) },
    sec := { s1.sec with images := [] } }
  ((s2.keepTiles s1).strapRegs.loadFuses).setMode .off

/-- A source still raised, or whose pair is still broken, raises again after a reset (R598). -/
def State.raiseAgain (s : State) : State :=
  let s1 := s.fc.broken.foldl (fun t n => t.react n (atLeastCritical (t.severity n)) [] 0x24) s
  s.fc.raised.foldl (fun t n => if t.fc.broken.contains n then t else t.react n (t.severity n) [] 0x24) s1

/-- The device enters BOOT from OFF (R533, R653, R671). -/
def State.enterBoot (s : State) : State := ((s.setMode .boot).wdgAtBoot).raiseAgain

/-- The conditions of BOOT: power, supplies, RESET_N, REFCLK_SYS, and TESTMODE at 0 (R653, R655, R656). -/
def State.bootable (s : State) : Bool :=
  s.pins.powered && s.pins.supplyOk && s.pins.resetReleased && s.pins.refclkSys && !s.pins.testMode

/-- BOOT follows OFF as soon as its conditions hold. -/
def State.tryBoot (s : State) : State := if s.bootable && s.mode == .off then s.enterBoot else s

/-- RESET_N or a supply falls: in any mode but TERMINAL the device goes to OFF (R653). -/
def State.toOff (s : State) : State :=
  match s.mode with
  | .terminal => s
  | .off => s
  | _ => s.deviceReset

/-! ## Commands -/

/-- SEC_FPGM (R632, R646). -/
def execSecFpgm (req : Requester) (word bits : Nat) (s : State) : Host.Outcome State Fault Refusal :=
  let v := (word % 512) * 2 ^ 32 + bits % 2 ^ 32
  whenLive (fun s => s.accessWide req Reg.SEC_FPGM v (fun t => t.wrFpgm v)) s

/-- FPGM_DONE. -/
def execFpgmDone (good : Bool) (s : State) : Host.Outcome State Fault Refusal := whenLive (fun s => s.fpgmDone good) s

/-- SEC_KEY_OFF (R642). -/
def execSecKeyOff (req : Requester) (value : Nat) (s : State) : Host.Outcome State Fault Refusal :=
  let v := value % 2 ^ 32
  whenLive (fun s => s.access req Reg.SEC_KEY_OFF v (fun t => t.wrKeyOff v)) s

/-- SEC_DEBUG_SET. -/
def execSecDebugSet (req : Requester) (level : Nat) (s : State) : Host.Outcome State Fault Refusal :=
  whenLive (fun s => s.access req Reg.SEC_DEBUG_SET (level % 4) (fun t => t.wrDebugSet level)) s

/-- SEC_RGN_TIGHT: rights are removed from a fused region until the next entry to BOOT (R641). -/
def execSecRgnTight (req : Requester) (region value : Nat) (s : State) : Host.Outcome State Fault Refusal :=
  let v := value % 2 ^ 32
  whenLive (fun s => s.guard (decide (region < 4)) (fun s =>
    s.access req (Reg.SEC_RGN_TIGHT region) v (fun t => t.applyWord (Reg.SEC_RGN_TIGHT region) v))) s

end Sys2Proof.Machine
end

