-- ==== Sys2Proof/Machine/Modes.lean ====
section
/-! DEFINITION. Mode commands, the warm reset and the watch over the host (R533, R534, R536, R537, R597, R598). -/

namespace Sys2Proof.Machine

/-- ENGAGE (R534). -/
def State.engage (s : State) : State :=
  if s.mode == .armed && !s.onF Reg.DEV_MODE_HOST_LOST && s.dev.lastWpr.valid then
    ({ s with dev := { s.dev with engagePending := true } }).putF Reg.DEV_MODE_ENG_REFUSED 0
  else s.putF Reg.DEV_MODE_ENG_REFUSED 1

/-- WARM_RESET in SAFE: accepted when every source is clear, else WR_REFUSED (R597, R598). In other modes it does nothing
(R533). -/
def State.warmReset (s : State) : State :=
  match s.mode with
  | .safe => if s.fcSumCrit = 0 then s.deviceReset.tryBoot else s.putF Reg.FC_STAT_WR_REFUSED 1
  | _ => s

/-- DEV_MODECMD (R533, R534). -/
def State.wrModeCmd (s : State) (v : Nat) : State :=
  match bits v 31 28 with
  | 1 => s.engage
  | 2 => s.warmReset
  | _ => s

/-- DEV_HOST_HB: a heartbeat; the host returns with it when the link is up; vectors that waited send (R313, R536). -/
def State.wrHostHb (s : State) : State :=
  match s.mode with
  | .off => s
  | .boot => s
  | _ =>
    let s1 := { s with dev := { s.dev with hbSince := s.qtz.cycles } }
    if s1.onF Reg.DEV_MODE_HOST_LOST && s1.onF Reg.PCIE_LINK_LINK_UP then s1.hostReturns.flushVectors else s1

/-- DEV_HOSTLOSS: a link that is down counts once LINK_IS_LOSS is 1 (R536). -/
def State.wrHostLoss (s : State) (v : Nat) : State :=
  let s1 := s.applyWord Reg.DEV_HOSTLOSS v
  if s1.onF Reg.DEV_HOSTLOSS_LINK_IS_LOSS && !s1.onF Reg.PCIE_LINK_LINK_UP then s1.loseHost else s1

/-- The device enters READY: host loss is watched from now on (R533, R536). -/
def State.enterReady (s : State) : State :=
  let s1 := s.setMode .ready
  let s2 := { s1 with dev := { s1.dev with hbSince := s1.qtz.cycles } }
  if s2.onF Reg.DEV_HOSTLOSS_LINK_IS_LOSS && !s2.onF Reg.PCIE_LINK_LINK_UP then s2.loseHost else s2

/-! ## Commands -/

/-- ENGAGE. -/
def execEngage (req : Requester) (s : State) : Host.Outcome State Fault Refusal :=
  whenLive (fun s => s.access req Reg.DEV_MODECMD 0x10000000 (fun t => t.wrModeCmd 0x10000000)) s

/-- WARM_RESET. -/
def execWarmReset (req : Requester) (s : State) : Host.Outcome State Fault Refusal :=
  whenLive (fun s => s.access req Reg.DEV_MODECMD 0x20000000 (fun t => t.wrModeCmd 0x20000000)) s

/-- HOST_HEARTBEAT: any value written is a heartbeat. -/
def execHostHeartbeat (req : Requester) (value : Nat) (s : State) : Host.Outcome State Fault Refusal :=
  whenLive (fun s => s.access req Reg.DEV_HOST_HB (value % 2 ^ 32) (fun t => t.wrHostHb)) s

/-- HB_TIMEOUT. -/
def execHbTimeout (s : State) : Host.Outcome State Fault Refusal := whenLive (fun s => s.loseHost) s

/-- GRACE_EXPIRY: Flint hands over the minimal-risk trajectory from now on (R439, R537). -/
def execGraceExpiry (s : State) : Host.Outcome State Fault Refusal :=
  whenLive (fun s => s.guard s.dev.graceSince.isSome (fun s =>
    let s1 := s.stopGrace.putF Reg.DEV_GRACE_EXPIRED 1
    { s1 with flt := { s1.flt with grace := true } })) s

end Sys2Proof.Machine
end

