-- ==== Sys2Proof/Machine/Blocks.lean ====
section
/-! DEFINITION. The block state machine (R67–R75): enable, soft reset, start, safe point and stop of every switchable block
instance, and the registers that clear counters (R83). -/

namespace Sys2Proof.Machine

/-! ## Kills that a stop makes -/

/-- The place of the first command of tile `t`'s window that `q` picks. -/
def State.firstPlace (s : State) (t : Nat) (q : Cmd → Bool) : Option Nat :=
  ((List.range (s.tile t).window.length).zip (s.tile t).window).findSome? (fun e => if q e.2.cmd then some e.1 else none)

/-- Every command that `q` picks is killed in every commit window, and with it every younger one (R183). -/
def State.killPicked (s : State) (q : Cmd → Bool) : State :=
  tiles.foldl (fun u t => match u.firstPlace t q with | some i => u.kill t i true false | none => u) s

/-- A command that needs the KV page store: ATTN_BLOCK with KSRC = PAGES, or KV_APPEND (R236). -/
def usesPages (c : Cmd) : Bool := c.op == 0x21 || (c.op == 0x20 && !c.scratchKeys)

/-- Kills are under way on no tile. -/
def State.noKills (s : State) : Bool := tiles.all (fun t => !(s.tile t).killing)

/-- No kill of a command that `q` picks is under way. -/
def State.noKillOf (s : State) (q : Cmd → Bool) : Bool := tiles.all (fun t => !((s.tile t).killing && (s.tile t).victims.any q))

/-! ## Start checks (R151, R236, R285, R315, R374, R409, R440, R441, R466, R522) -/

/-- The KVP's base is not 0 and lies in local DRAM (R236). -/
def State.kvpStartOk (s : State) : Bool := s.localBase (s.getF Reg.KVP_PT_BASE_BASE * 2 ^ 24) (2 ^ 24)

/-- The configuration check at the start of the instance of page `p`: the source of a failure, and what the check itself does. -/
def State.startCheck (s : State) (p : Nat) : Option Nat × State :=
  let fail (ok : Bool) (n : Nat) : Option Nat := if ok then none else some n
  match blockType p with
  | 0x08 => (fail s.schStartOk FS.SCH_CFG, s)
  | 0x0C => (fail (s.onF (Reg.LPC_STAT_TRAINED ((p - 0x310) / 4))) (FS.LPC_CFG ((p - 0x310) / 4)), s)
  | 0x0E => (fail s.tierStartOk FS.TIER_CFG, s)
  | 0x0F => (fail s.kvpStartOk FS.KVP_CFG, s)
  | 0x12 => (fail s.agateStart.1 FS.AGT_CFG, s.agateStart.2)
  | 0x13 => (fail s.pumiceStartOk FS.PUM_CFG, s)
  | 0x14 => (fail s.flintStartOk FS.FLT_CFG, s)
  | 0x15 => (fail s.slateStartOk FS.SLT_CFG, s)
  | 0x16 => (none, s.gntCheck)
  | 0x17 => (fail s.ethStartOk FS.ETH_CFG, s)
  | 0x19 => (fail (s.canStartOk ((p - 0x5E0) / 2)) (FS.CAN_CFG ((p - 0x5E0) / 2)), s)
  | 0x1A => (fail s.ioxStartOk FS.IOX_CFG, s)
  | _ => (none, s)

/-! ## Hooks of the states -/

/-- What an instance does as its stop begins. -/
def State.stopBegins (s : State) (p : Nat) : State :=
  match blockType p with
  | 0x08 => s.schStop
  | 0x0A => s.kill (tileOfPage p) 0 true true
  | 0x0E => s.tierStop
  | 0x0F => s.killPicked usesPages
  | 0x10 => s.listedStreams.foldl (fun u i => if u.stmStatus i = 2 then u.wantSwap i false else u) (s.killPicked (hasOp 0x28))
  | 0x11 => s.ingStop
  | 0x14 => s.flintStop
  | 0x15 => s.slateStop
  | 0x16 => s.gntStop
  | 0x1B => s.odlStop ((p - 0x600) / 16)
  | _ => s

/-- What must have ended before an instance's stop is done (R75): kills, the outstanding requests of a tile (R151), the layers and
the block that TIER finishes (R285), the kills of the KVP (R236), the swaps of the STM (R259), the epoch, frame and phase at which the
hub engines stop (R374, R440, R441), and Garnet's ramps (R467). -/
def State.stopReady (s : State) (p : Nat) : Bool :=
  match blockType p with
  | 0x08 => s.noKills
  | 0x0A => !(s.tile (tileOfPage p)).killing && s.outstanding (tileOfPage p) == 0
  | 0x0E => s.tierStopReady
  | 0x0F => s.noKillOf usesPages
  | 0x10 => s.noKillOf (hasOp 0x28) && s.listedStreams.all (fun i => s.stmStatus i != 2 && s.stmStatus i != 3 && s.stmStatus i != 5)
  | 0x12 => !s.epochOpen
  | 0x14 => s.flt.ended
  | 0x15 => s.slt.ended
  | 0x16 => s.gntHeld
  | _ => true

/-- What the end of an instance's stop brings. -/
def State.stopEnds (s : State) (p : Nat) : State :=
  match blockType p with
  | 0x0E => s.tierStopped
  | 0x12 => s.agateStopped
  | 0x13 => s.pumiceStopped
  | 0x14 => s.flintStopped
  | 0x15 => s.slateStopped
  | 0x17 => s.ethStopped
  | 0x18 => s.pcieStopped
  | 0x19 => s.canStopped ((p - 0x5E0) / 2)
  | 0x1B => s.odlStopped ((p - 0x600) / 16)
  | _ => s

/-- What entering RUNNING brings. -/
def State.startEnds (s : State) (p : Nat) : State :=
  match blockType p with
  | 0x11 => s.ingStarted
  | 0x12 => s.agateStarted
  | 0x14 => s.flintStarted
  | 0x15 => s.slateStarted
  | 0x16 => s.gntStarted
  | 0x1B => s.odlStarted ((p - 0x600) / 16)
  | _ => s

/-! ## Soft reset (R70, R73) -/

/-- Registers of a block whose reset value spec/ takes from fuses, images or straps, or that a soft reset leaves: tile
firmware version, fused and derated code, TIER MODE (R59, R624). -/
def keptBySoft (a : Nat) : Bool :=
  let o := a % 0x1000
  let p := a / 0x1000
  (decide (0x100 ≤ p ∧ p < 0x300) && ((p % 16 == 0 && o == 0x4C) || (p % 16 == 1 && o == 0x40))) || a == Reg.TIER_CFG

/-- What a block holds beyond its registers returns with them. -/
def State.resetTyped (s : State) (p : Nat) : State :=
  match blockType p with
  | 0x08 =>
    { s with sch := { s.sch with ctxs := [], models := [], dump := none,
                                 tiles := s.sch.tiles.map (fun e => (e.1, { inSlot := e.2.inSlot, preHold := e.2.preHold })) } }
  | 0x0A => s.putF (Reg.TILE_FREQ_TARGET (tileOfPage p)) 44
  | 0x0E =>
    (s.tier.pages.foldl (fun (u : State) e => u.setTierPage e.1 { frame := e.2.frame })
      { s with tier := { s.tier with objects := [], queue := [], current := none, chans := [] } }).loadRegions
  | 0x10 => { s with stm := [] }
  | 0x11 => { s with ing := State.reset.ing }
  | 0x12 => { s with agt := { s.agt with rings := [], wantBank := 0, queue := [] } }
  | 0x13 => { s with pum := State.reset.pum }
  | 0x14 => { s with flt := { s.flt with wantPath := none, wantSeed := none, resume := false } }
  | 0x15 => { s with slt := { s.slt with wantBank := 0 } }
  | 0x16 => { s with gnt := { State.reset.gnt with boundary := s.gnt.boundary } }
  | 0x17 => ({ s with eth := State.reset.eth }).guard (!s.locked 0x580) State.loadMac
  | 0x18 => s.loadPcieId
  | 0x19 => s.setCanCtl ((p - 0x5E0) / 2) {}
  | 0x1A => { s with iox := { State.reset.iox with enc := s.iox.enc } }
  | 0x1B => s.guard (p / 16 == 0x60) State.strapRegs
  | _ => s

/-- The block-specific registers of the instance of page `p` return to reset. A new size of the scratch partition leaves its
contents open (R264); an endpoint's link goes down with it. -/
def State.resetInstance (s : State) (p : Nat) : State :=
  let s1 := match blockType p with
    | 0x0E => if s.locked 0x330 then s else s.wrScWays (resetWord Reg.TIER_SC_WAYS).toNat
    | 0x18 => s.linkChange false 0 0
    | _ => s
  (s1.resetBlockRegs p keptBySoft).resetTyped p

/-- Every source of the instance of page `p` is clear in the collector (R70). -/
def State.instanceClear (s : State) (p : Nat) : Bool :=
  (List.range 1024).all (fun n => !(realSource n && instPage (sourcePage n) == instPage p && s.onF (stickyFld n)))

/-- SOFT_RESET = 1. A fenced tile ignores it (R131). -/
def State.softReset (s : State) (p : Nat) : State :=
  if blockType p = 0x0A ∧ s.fenced (tileOfPage p) then s
  else match s.blockState p with
    | .off => s.resetInstance p
    | .faulted => if s.instanceClear p then (s.enterBlock p { s.block p with state := .off }).resetInstance p else s
    | _ => s

/-! ## EN (R70) -/

/-- The instance of page `p` goes to STOPPING. -/
def State.beginStop (s : State) (p : Nat) : State :=
  (s.enterBlock p { s.block p with state := .stopping, stopPending := false, safePassed := false }).stopBegins p

/-- A written EN. -/
def State.writeEn (s : State) (p : Nat) (e : Bool) : State :=
  let b := { s.block p with en := e }
  match b.state, e with
  | .off, true => s.enterBlock p { b with state := .starting, rearm := false, stopPending := false, safePassed := false }
  | .starting, true => s.setBlock p { b with stopPending := false }
  | .starting, false => s.setBlock p { b with stopPending := true }
  | .running, false => (s.setBlock p b).beginStop p
  | .stopping, true => s.setBlock p { b with rearm := true }
  | .stopping, false => s.setBlock p { b with rearm := false }
  | _, _ => s.setBlock p b

/-- PG_CTRL of page `p` (R64, R67–R69, R72): LOCK acts on any page; SOFT_RESET, then EN, only through page index 0 of a
switchable block. DESIGN CHOICE (log entry 149): spec/ orders SOFT_RESET before EN only; a LOCK of the same write is set first, so
that soft reset leaves the page's RWL fields. -/
def State.wrPgCtrl (s : State) (p v : Nat) : State :=
  let s1 := if bit v 8 then s.putF (Reg.PG_CTRL_LOCK p) 1 else s
  if p == instPage p && !alwaysOn p then
    (if bit v 4 then s1.softReset p else s1).writeEn p (bit v 0)
  else s1

/-! ## Start and stop -/

/-- The verdict of a tile's firmware check, which ends at its safe point (R151): `v` where the row brings it. START_SAFE_POINT brings
none: where a pending stop then takes the tile out of STARTING it is a free value, else it is START_DONE's. -/
def State.firmwareOk (s : State) (p : Nat) (v : Option Bool) : Bool × State :=
  if blockType p ≠ 0x0A then (true, s)
  else match v with
    | some b => (b, s)
    | none => if (s.block p).stopPending then (let (b, s1) := s.free 1; (b == 1, s1)) else (true, s)

/-- The safe point of a start: the configuration check and a tile's firmware check have been made; a failed one faults the block and
raises its source; a stop that is pending takes it to STOPPING (R70, R71, R151). -/
def State.safePoint (s : State) (p : Nat) (v : Option Bool) : State :=
  match s.startCheck p with
  | (some n, s1) => (s1.faultBlock p).raise n
  | (none, s1) =>
    let (ok, s2) := s1.firmwareOk p v
    if !ok then (s2.faultBlock p).raise (FS.TILE_FW (tileOfPage p))
    else if (s2.block p).stopPending then s2.beginStop p else s2.setBlock p { s2.block p with safePassed := true }

/-- Start done: RUNNING, or STOPPING with a stop pending (R70). A fenced tile, or one whose firmware check fails, faults
(R131, R151). -/
def State.startEnd (s : State) (p : Nat) (pass : Bool) : State :=
  if blockType p = 0x0A ∧ s.fenced (tileOfPage p) then s.faultBlock p
  else if blockType p = 0x0A ∧ !pass then (s.faultBlock p).raise (FS.TILE_FW (tileOfPage p))
  else if (s.block p).stopPending then s.beginStop p
  else (s.enterBlock p { s.block p with state := .running, safePassed := false }).startEnds p

/-- A DISARM that waits for Garnet's OFF ends there: READY, and an ENGAGE that waits is void (R532). -/
def State.disarmEnds (s : State) : State :=
  if s.dev.op.any (fun o => o.code == 2) && s.driving then
    (({ s with dev := { s.dev with engagePending := false } }).setMode .ready).endOp 0
  else s

/-- Stop done: OFF, or STARTING with REARM_PENDING (R70). -/
def State.stopEnd (s : State) (p : Nat) : State :=
  let s1 := s.stopEnds p
  let b := s1.block p
  if b.rearm then s1.enterBlock p { b with state := .starting, rearm := false, stopPending := false, safePassed := false }
  else
    let s2 := s1.enterBlock p { b with state := .off }
    if instPage p = 0x500 then s2.disarmEnds else s2

/-! ## Counter clears (R83) -/

/-- The register words from `a`, `n` of them, read 0. -/
def State.zeroWords (s : State) (a : Nat) : Nat → State
  | 0 => s
  | n + 1 => (s.setReg a 0).zeroWords (a + 4) n

/-- TILE_CNT_CLR of tile `t`: cycle counters, checksum and ECC counts, peak. -/
def State.wrTileClear (s : State) (t v : Nat) : State :=
  let s1 := if bit v 0 then s.zeroWords (Reg.TILE_CYC_MAT t) 8 else s
  let s2 := if bit v 1 then (s1.setReg (Reg.TILE_CKCNT t) 0).setReg (Reg.TILE_ECC_CNT t) 0 else s1
  if bit v 2 then s2.putF (Reg.TILE_OUTSTANDING_PEAK t) 0 else s2

/-- The registers that a written CLR clears, as a first word and a number of words; none for a word that clears nothing. -/
def clearedBy (a : Nat) : Option (Nat × Nat) :=
  let p := a / 0x1000
  let o := a % 0x1000
  if a = Reg.DEV_ACCERR_CLR then some (Reg.DEV_ACCERR, 1)
  else if 0xC0 ≤ p ∧ p < 0x100 ∧ o = 0x4C then some (Reg.SYN_DROPS (p - 0xC0), 1)
  else if 0x338 ≤ p ∧ p < 0x340 ∧ o = 0xE4 then some (Reg.KVP_CNT (p - 0x338), 1)
  else if a = Reg.STM_CNT_CLR then some (Reg.STM_CNT, 1)
  else if a = Reg.SCH_HS_CNT_CLR then some (Reg.SCH_HS_CNT, 1)
  else if a = Reg.AGT_CNT_CLR then some (Reg.AGT_CNT0, 4)
  else if a = Reg.PUM_CNT_CLR then some (Reg.PUM_CNT0, 4)
  else if a = Reg.FLT_CNT_CLR then some (Reg.FLT_CNT0, 1)
  else if a = Reg.SLT_CNT_CLR then some (Reg.SLT_CNT0, 2)
  else if a = Reg.GNT_CNT_CLR then some (Reg.GNT_CNT0, 1)
  else if a = Reg.QTZ_CNT_CLR then some (Reg.QTZ_CNT, 1)
  else if (p = 0x600 ∨ p = 0x610) ∧ o = 0x54 then some (Reg.ODL_CNT ((p - 0x600) / 16), 1)
  else if a = Reg.GRN_TST_CLR then some (Reg.GRN_TST_CNT, 1)
  else if a = Reg.PWR_CNT_CLR then some (Reg.PWR_CNT, 1)
  else none

/-- Word `a` is TILE_CNT_CLR. -/
def isTileClear (a : Nat) : Bool := decide (0x103 ≤ a / 0x1000 ∧ a / 0x1000 < 0x300) && a / 0x1000 % 16 == 3 && a % 0x1000 == 0x60

/-- A write of word `v` to a register that clears counters. -/
def State.wrClear (s : State) (a v : Nat) : State :=
  if isTileClear a then s.wrTileClear (tileOfPage (a / 0x1000)) v
  else match clearedBy a with
    | some (b, n) => if bit v 0 then s.zeroWords b n else s
    | none => s

/-! ## Commands -/

/-- PG_CTRL of a page, as an address. -/
def ctrlWord (p : Nat) : Nat := 0x1000 * p + 8

/-- BLOCK_ENABLE. -/
def execBlockEnable (req : Requester) (page : Nat) (s : State) : Host.Outcome State Fault Refusal :=
  whenLive (fun s => s.access req (ctrlWord page) 1 (fun t => t.wrPgCtrl page 1)) s

/-- BLOCK_DISABLE. -/
def execBlockDisable (req : Requester) (page : Nat) (s : State) : Host.Outcome State Fault Refusal :=
  whenLive (fun s => s.access req (ctrlWord page) 0 (fun t => t.wrPgCtrl page 0)) s

/-- SOFT_RESET: the same write carries a value of EN (R68, R72). -/
def execSoftReset (req : Requester) (page : Nat) (en : Bool) (s : State) : Host.Outcome State Fault Refusal :=
  let v := 0x10 + b2n en
  whenLive (fun s => s.access req (ctrlWord page) v (fun t => t.wrPgCtrl page v)) s

/-- PAGE_LOCK: the same write carries a value of EN (R68). -/
def execPageLock (req : Requester) (page : Nat) (en : Bool) (s : State) : Host.Outcome State Fault Refusal :=
  let v := 0x100 + b2n en
  whenLive (fun s => s.access req (ctrlWord page) v (fun t => t.wrPgCtrl page v)) s

/-- START_SAFE_POINT. -/
def execStartSafePoint (page : Nat) (s : State) : Host.Outcome State Fault Refusal :=
  whenLive (fun s => s.guard (s.blockState page == .starting && !(s.block page).safePassed) (fun s => s.safePoint page none)) s

/-- START_DONE: the safe point has been passed by then. -/
def execStartDone (page : Nat) (pass : Bool) (s : State) : Host.Outcome State Fault Refusal :=
  whenLive (fun s => s.guard (s.blockState page == .starting) (fun s =>
    let s1 := if (s.block page).safePassed then s else s.safePoint page (some pass)
    s1.guard (s1.blockState page == .starting) (fun t => t.startEnd page pass))) s

/-- STOP_DONE. -/
def execStopDone (page : Nat) (s : State) : Host.Outcome State Fault Refusal :=
  whenLive (fun s => s.guard (s.blockState page == .stopping && s.stopReady page) (fun s => s.stopEnd page)) s

/-- COUNTER_CLEAR. -/
def execCounterClear (req : Requester) (addr value : Nat) (s : State) : Host.Outcome State Fault Refusal :=
  let v := value % 2 ^ 32
  whenLive (fun s => s.guard (isTileClear addr || (clearedBy addr).isSome) (fun s =>
    s.access req addr v (fun t => t.wrClear addr v))) s

end Sys2Proof.Machine
end

