-- ==== Sys2Proof/Machine/Views.lean ====
section
/-! DEFINITION. What a register word reads as (R64–R69, R82–R84): the stored fields, the fields that show other state, and
zero for reserved and write-only bits. -/

namespace Sys2Proof.Machine

/-- A quotient that a register shows, rounded by a rule that spec/ does not state: exact where it is exact. -/
def shownQuotient (kind num den : Nat) : Nat :=
  if num % den = 0 then num / den else num / den + Config.computed 900 [kind, num, den] 0 % 2

/-! ## The page header (R64–R69, R581) -/

/-- Sources of the instance of page `p`, in increasing number (R581). -/
def instanceSources (p : Nat) : List Nat :=
  (List.range 1024).filter (fun n => realSource n && instPage (sourcePage n) == instPage p)

/-- PG_ERRVIEW of the instance of page `p` (R65, R581). -/
def State.errView (s : State) (p : Nat) : Nat :=
  ((List.range 32).zip (instanceSources p)).foldl (fun m e => m ||| b2n (s.onF (stickyFld e.2)) * 2 ^ e.1) 0

/-- CAPS of a block type: the tiles' checksum column, block scale and compensated SCAN state (chapter 05). -/
def capsOf (bt : Nat) : Nat := if bt = 0x0A then 7 else 0

/-- A header word of a mapped page. -/
def State.headerWord (s : State) (p : Nat) (r : DirRow) (o : Nat) : Nat :=
  let b := s.block p
  match o with
  | 0x00 => r.type * 2 ^ 16 + (p - r.first) / r.each * 2 ^ 8 + 1
  | 0x04 => capsOf r.type * 2 ^ 16 + r.each * 2 ^ 8 + (p - r.first) % r.each
  | 0x08 => b2n (s.locked p) * 2 ^ 8 + b2n (r.always || b.en)
  | 0x0C => blockStateCode (s.blockState p) + b2n b.rearm * 2 ^ 4 + b2n b.busy * 2 ^ 5
  | 0x10 => s.errView p
  | 0x14 => s.getF (Reg.PG_IRQ_EN p)
  | 0x18 => s.getF (Reg.PG_IRQ_STAT p)
  | 0x1C => s.owner p
  | _ => 0

/-! ## Fields that show other state -/

/-- Units of tile `t` that may be working: matrix, vector, access engine, by the commands of its window that have not
finished. -/
def matrixOp (c : Cmd) : Bool := decide (0x10 ≤ c.op ∧ c.op < 0x28) && c.op != 0x21
def accessOp (c : Cmd) : Bool := decide (c.op ≤ 0x05) || c.op == 0x21
def State.unitBusy (s : State) (t : Nat) (q : Cmd → Bool) : Bool := (s.tile t).window.any (fun e => !e.finished && q e.cmd)

/-- TILE_STATUS and the other tile registers that show the tile's state. -/
def State.tileViews (s : State) (p o : Nat) : List (Fld × Nat) :=
  let t := tileOfPage p
  if p % 16 = 0 ∧ o = 0x40 then
    [(Reg.TILE_STATUS_TEST_SLOT t, b2n (s.tile t).inSlot), (Reg.TILE_STATUS_MAT_BUSY t, b2n (s.unitBusy t matrixOp)),
     (Reg.TILE_STATUS_AE_BUSY t, b2n (s.unitBusy t accessOp || s.outstanding t != 0)),
     (Reg.TILE_STATUS_VEC_BUSY t, b2n (s.unitBusy t (fun c => !matrixOp c && !accessOp c)))]
  else if p % 16 = 1 ∧ o = 0x4C then [(Reg.TILE_ISSUE_RATE t, s.issueRate t)]
  else if p % 16 = 2 ∧ o = 0x48 then
    [(Reg.TILE_OUTSTANDING_NOW t, min 256 (s.outstanding t))]
  else []

/-- SCH_TILE_STAT of tile `t`. -/
def State.tileStatViews (s : State) (t : Nat) : List (Fld × Nat) :=
  let x := s.tile t
  [(Reg.SCH_TILE_STAT_EVACUATED t, b2n (s.evacuated t)), (Reg.SCH_TILE_STAT_HOLDS t, b2n x.ctx.isSome),
   (Reg.SCH_TILE_STAT_CTX t, x.ctx.getD 0), (Reg.SCH_TILE_STAT_MODEL t, x.model),
   (Reg.SCH_TILE_STAT_RESIDENT t, (s.contexts.filter (fun c => (s.ctx c).resident == some t)).length)]

/-- SCH_STAT, SCH_ACCT and SCH_VT of page `8 + q`: the context that SCH_IDX names, if it is of partition `q`. -/
def State.ctxViews (s : State) (q o : Nat) : List (Fld × Nat) :=
  let c := s.getF (Reg.SCH_IDX_IDX q)
  let x := s.ctx c
  if x.part != q then []
  else match o with
    | 0x4C =>
      [(Reg.SCH_STAT_STATE q, ctxStateCode x.state), (Reg.SCH_STAT_ON_TILE q, b2n x.onTile.isSome),
       (Reg.SCH_STAT_SAVED q, b2n x.saved), (Reg.SCH_STAT_TILE q, (x.onTile.or x.resident).getD 0),
       (Reg.SCH_STAT_RESIDENT q, b2n x.resident.isSome), (Reg.SCH_STAT_CAUSE q, x.cause)]
    | 0x50 => [(Reg.SCH_ACCT_ACCT q 0, x.occupy)]
    | 0x58 => [(Reg.SCH_ACCT_ACCT q 1, x.mat)]
    | 0x60 => [(Reg.SCH_ACCT_ACCT q 2, x.vec)]
    | 0x68 => [(Reg.SCH_ACCT_ACCT q 3, x.xfer)]
    | 0x70 => [(Reg.SCH_VT_VT q, x.vt)]
    | _ => []

/-- SCH_MODEL_STAT of the model that SCH_MODEL_IDX names. -/
def State.modelViews (s : State) : List (Fld × Nat) :=
  let m := s.getF Reg.SCH_MODEL_IDX_IDX
  let x := s.model m
  [(Reg.SCH_MODEL_STAT_RES, b2n (s.hotCopy m).isSome), (Reg.SCH_MODEL_STAT_PIN, b2n (x.applied && x.pin)),
   (Reg.SCH_MODEL_STAT_USERS, (s.contexts.filter (fun c => (s.ctx c).onTile.isSome && (s.ctx c).entry.model == m)).length),
   (Reg.SCH_MODEL_STAT_AGE, if x.applied then min 65535 ((s.frameNo + 2 ^ 32 - x.age) % 2 ^ 32) else 0)]

/-- TIER_PMAP_DATA of the page that TIER_PMAP_IDX names. -/
def State.pmapViews (s : State) : List (Fld × Nat) :=
  let q := s.getF Reg.TIER_PMAP_IDX_PAGE
  let x := s.tierPage q
  let loc := if !s.dramMapped (q * 0x200000) then 3 else if s.inExchange q then 2 else b2n (s.inLpd (q * 0x200000))
  [(Reg.TIER_PMAP_DATA_HEAT, x.heat), (Reg.TIER_PMAP_DATA_OBJ, x.obj.getD 0), (Reg.TIER_PMAP_DATA_LOC, loc),
   (Reg.TIER_PMAP_DATA_TAGGED, b2n x.obj.isSome), (Reg.TIER_PMAP_DATA_PIN, b2n (s.pinned q)),
   (Reg.TIER_PMAP_DATA_FRAME, if s.unified then x.frame else q)]

/-- The masks of fused region `r` that SEC_RGN_TIGHT leaves (R641). -/
def State.regionViews (s : State) (r : Nat) : List (Fld × Nat) :=
  let left (m c : Nat) : Nat := m &&& (255 - c)
  [(Reg.TIER_RGN_MASK_WMASK r, left (s.getF (Reg.TIER_RGN_MASK_WMASK r)) (s.getF (Reg.SEC_RGN_TIGHT_WCLR r))),
   (Reg.TIER_RGN_MASK_RMASK r, left (s.getF (Reg.TIER_RGN_MASK_RMASK r)) (s.getF (Reg.SEC_RGN_TIGHT_RCLR r)))]

/-- QTZ_TB_NOW, QTZ_TB_REFF and QTZ_TB_ERR of base `b`; ERR of a base that follows nothing reads 0. -/
def State.baseViews (s : State) (b o : Nat) : List (Fld × Nat) :=
  match o with
  | 0x04 => [(Reg.QTZ_TB_NOW_NOW b, s.now b)]
  | 0x0C => [(Reg.QTZ_TB_REFF_REFF b, toBits 32 (sat32 (s.rate b)))]
  | 0x18 =>
    if s.getF (Reg.QTZ_TB_CTRL_MODE b) = 2 then
      match s.followSrc b with
      | some c => [(Reg.QTZ_TB_ERR_ERR b, toBits 32 (sat32 (s.followErr b c)))]
      | none => []
    else []
  | _ => []

/-- PWR_ACCT: LEVEL in mJ. -/
def State.acctViews (s : State) : List (Fld × Nat) :=
  let l := s.pwr.level
  let m : Int := if 0 ≤ l then (shownQuotient 0 l.toNat 1000 : Int) else -(shownQuotient 1 (-l).toNat 1000 : Int)
  [(Reg.PWR_ACCT_LEVEL, toBits 16 m)]

/-- PHASE and PM_ISSUE of tile `t`. -/
def State.powerViews (s : State) (t : Nat) : List (Fld × Nat) :=
  [(Reg.PWR_TILE_PHASE t, (s.tile t).phase), (Reg.PWR_TILE_PM_ISSUE t, s.pmIssue t)]

/-- SEC_FUSE_DATA: the array at the moment of the read; SECRET words read 0 (R628, R630). -/
def State.fuseViews (s : State) : List (Fld × Nat) :=
  let w := s.getF Reg.SEC_FUSE_IDX_WORD
  [(Reg.SEC_FUSE_DATA_DATA, if 57 ≤ w ∧ w ≤ 64 then 0 else s.fuseLive w)]

/-- DEV_GRACE.LEFT: what remains of GRACE_MS (R537). -/
def State.graceViews (s : State) : List (Fld × Nat) :=
  match s.dev.graceSince with
  | none => []
  | some c =>
    [(Reg.DEV_GRACE_LEFT, shownQuotient 2 (msCycles (s.getF Reg.DEV_HOSTLOSS_GRACE_MS) - (s.qtz.cycles - c)) (msCycles 1))]

/-- FC_LIVE word `k`: sources raised now or with a broken pair (R582, R583). -/
def State.liveWord (s : State) (k : Nat) : Nat :=
  (List.range 32).foldl (fun m j => m ||| b2n (s.raisedNow (32 * k + j)) * 2 ^ j) 0

/-- The fields of the register at `b` that show state other than a stored field. -/
def State.views (s : State) (b : Nat) : List (Fld × Nat) :=
  let p := b / 0x1000
  let o := b % 0x1000
  if b = Reg.DEV_MODE then [(Reg.DEV_MODE_MODE, modeCode s.mode)]
  else if b = Reg.DEV_GRACE then s.graceViews
  else if 0x100 ≤ p ∧ p < 0x300 then s.tileViews p o
  else if b = Reg.TIER_PMAP_DATA then s.pmapViews
  else if p = 0x331 ∧ Reg.TIER_RGN_MASK 0 ≤ b ∧ b < Reg.TIER_RGN_MASK 4 ∧ (b - Reg.TIER_RGN_MASK 0) % 0x10 = 0 then
    s.regionViews ((b - Reg.TIER_RGN_MASK 0) / 0x10)
  else if b = Reg.SCH_MODEL_STAT then s.modelViews
  else if p = 0x83 ∧ 0x80 ≤ o ∧ o < 0x100 then s.tileStatViews ((o - 0x80) / 4)
  else if 0x88 ≤ p ∧ p < 0x90 then s.ctxViews (p - 0x88) o
  else if p = 0x41 ∧ 0x400 ≤ o ∧ o < 0x600 then s.baseViews ((o - 0x400) / 0x40) (o % 0x40)
  else if b = Reg.FC_SUM then [(Reg.FC_SUM_SUM, s.fcSum)]
  else if b = Reg.FC_SUM_CRIT then [(Reg.FC_SUM_CRIT_SUM_CRIT, s.fcSumCrit)]
  else if Reg.FC_LIVE 0 ≤ b ∧ b < Reg.FC_LIVE 32 then
    [(Reg.FC_LIVE_LIVE ((b - Reg.FC_LIVE 0) / 4), s.liveWord ((b - Reg.FC_LIVE 0) / 4))]
  else if b = Reg.PWR_ACCT then s.acctViews
  else if Reg.PWR_TILE 0 ≤ b ∧ b < Reg.PWR_TILE 32 then s.powerViews ((b - Reg.PWR_TILE 0) / 4)
  else if b = Reg.SEC_FUSE_DATA then s.fuseViews
  else if 0x501 ≤ p ∧ p ≤ 0x540 ∧ o = 0x70 then [(Reg.GNT_L_STAT_STATE (p - 0x501), s.loopStateCode (p - 0x501))]
  else if 0x541 ≤ p ∧ p ≤ 0x548 ∧ 0x400 ≤ o ∧ o < 0x800 ∧ o % 0x80 = 0x14 then
    let a := 8 * (p - 0x541) + (o - 0x400) / 0x80
    [(Reg.GNT_A_STAT_LOOPS a, (s.actLoops a).length)]
  else []

/-! ## Words -/

/-- A block-specific register word as it reads (R83, R84). -/
def State.blockWord (s : State) (a : Nat) : Nat :=
  match findRow a with
  | none => 0
  | some (r, _, _, _, w) =>
    let b := a - 4 * w
    let n := (s.views b).foldl (fun n x => setBits n x.1.hi x.1.lo x.2) (s.regNat b r.words)
    (n >>> (32 * w)) % 2 ^ 32 &&& r.mask w [.ro, .rw, .rwl, .w1c, .w1s]

/-- Register word `a` as it reads: reserved pages and reserved offsets read 0 (R84). -/
def State.readWord (s : State) (a : Nat) : Nat :=
  match dirRow (a / 0x1000) with
  | none => 0
  | some r => if a % 0x1000 < 0x40 then s.headerWord (a / 0x1000) r (a % 0x1000) else s.blockWord a

end Sys2Proof.Machine
end

