-- ==== Sys2Proof/Machine/Access.lean ====
section
/-! DEFINITION. Register writes by address, register reads, and the requests of the PCIe endpoint (R76–R89, R493, R494,
R663). -/

namespace Sys2Proof.Machine

/-! ## The effect of a write -/

/-- The effect of a write of word `v` to header offset `o` of page `p` (R64, R67). -/
def State.storeHeader (s : State) (p o v : Nat) : State :=
  match o with
  | 0x08 => s.wrPgCtrl p v
  | 0x14 => (s.putF (Reg.PG_IRQ_EN p) v).pageEdge s p
  | 0x18 => (s.putF (Reg.PG_IRQ_STAT p) (s.getF (Reg.PG_IRQ_STAT p) &&& (allBits - v % 2 ^ 32))).pageEdge s p
  | 0x1C => s.putF (Reg.PG_PART_OWNER p) v
  | _ => s

/-- Word `a` belongs to a 16-byte entry of the Ethernet tables (R523). -/
def entry16 (a : Nat) : Bool :=
  let p := a / 0x1000
  (decide (0x590 ≤ p ∧ p < 0x594) || decide (0x598 ≤ p ∧ p ≤ 0x59A)) && decide (0x400 ≤ a % 0x1000)

/-- A word of a 16-byte entry: it takes effect when the high half has been written (R523). -/
def State.stageWord (s : State) (a v : Nat) : State :=
  let b := a - a % 16
  let hold (x : Nat) : Nat := Sparse.get (fun k => (s.reg k).toNat) s.eth.staged x
  if a % 16 = 12 then
    let s1 := [b, b + 4, b + 8].foldl (fun u x => u.applyWord x (hold x)) s
    { s1.applyWord a v with eth := { s1.eth with staged := s1.eth.staged.filter (fun e => e.1 - e.1 % 16 != b) } }
  else { s with eth := { s.eth with staged := Sparse.set (fun _ => 2 ^ 32) s.eth.staged a (v % 2 ^ 32) } }

/-- DEV, the fault collector, Quartz, PWR and SEC: words whose write does more than store. -/
def State.storeDevice (s : State) (a v : Nat) : State :=
  let p := a / 0x1000
  let o := a % 0x1000
  if a = Reg.DEV_MODECMD then s.wrModeCmd v
  else if a = Reg.DEV_HOST_HB then s.wrHostHb
  else if a = Reg.DEV_HOSTLOSS then s.wrHostLoss v
  else if Reg.FC_STICKY 0 ≤ a ∧ a < Reg.FC_STICKY 32 then s.wrSticky ((a - Reg.FC_STICKY 0) / 4) v
  else if Reg.FC_SEV 0 ≤ a ∧ a < Reg.FC_SEV 128 then s.wrSev ((a - Reg.FC_SEV 0) / 4) v
  else if a = Reg.QTZ_SNAP then s.wrSnap v
  else if a = Reg.QTZ_TB2_SEL then s.wrTb2Sel v
  else if a = Reg.QTZ_FRAME_ORG then s.wrFrameOrg v
  else if a = Reg.QTZ_EPOCH_TAG 0 then s.wrEpochTag 0 v
  else if a = Reg.QTZ_EPOCH_TAG 1 then s.wrEpochTag 1 v
  else if p = 0x41 ∧ 0x400 ≤ o ∧ o < 0x600 ∧ o % 0x40 = 0x10 then s.wrTbStep ((o - 0x400) / 0x40) v
  else if p = 0x42 ∧ 0x400 ≤ o ∧ o < 0x480 ∧ o % 0x40 = 0 then s.wrServoOfs ((o - 0x400) / 0x40) v
  else if 0x44 ≤ p ∧ p ≤ 0x46 ∧ 0x400 ≤ o ∧ o < 0x600 ∧ o % 0x40 = 0 then s.wrTrigCfg (8 * (p - 0x44) + (o - 0x400) / 0x40) v
  else if 0x44 ≤ p ∧ p ≤ 0x46 ∧ 0x400 ≤ o ∧ o < 0x600 ∧ o % 0x40 = 0x14 then
    s.wrTrigCmd (8 * (p - 0x44) + (o - 0x400) / 0x40) v
  else if 0x47 ≤ p ∧ p ≤ 0x49 ∧ 0x400 ≤ o ∧ o < 0x600 ∧ o % 0x40 = 0 then s.wrCapCfg (8 * (p - 0x47) + (o - 0x400) / 0x40) v
  else if 0x47 ≤ p ∧ p ≤ 0x49 ∧ 0x400 ≤ o ∧ o < 0x600 ∧ o % 0x40 = 0xC then
    s.wrCapPop (8 * (p - 0x47) + (o - 0x400) / 0x40) v
  else if a = Reg.PWR_CAP then s.wrCap v
  else if a = Reg.PWR_MODE then s.wrPwrMode v
  else if a = Reg.SEC_KEY_OFF then s.wrKeyOff v
  else if a = Reg.SEC_DEBUG_SET then s.wrDebugSet v
  else s.applyWord a v

/-- SYN, SCH, STM, TIER: words whose write does more than store. -/
def State.storeCompute (s : State) (a v : Nat) : State :=
  let p := a / 0x1000
  let o := a % 0x1000
  if a = Reg.SCH_ACCT_DUMP then s.wrAcctDump v
  else if a = Reg.SCH_TILE_CMD then s.wrTileCmd v
  else if 0x88 ≤ p ∧ p < 0x90 ∧ o = 0x40 then s.wrSchCmd (p - 0x88) v
  else if 0xC0 ≤ p ∧ p < 0x100 ∧ 0x400 ≤ o ∧ o < 0x800 then s.wrSynState (256 * (p - 0xC0) + (o - 0x400) / 4) v
  else if a = Reg.TIER_OBJ_APPLY then s.wrObjApply v
  else if a = Reg.TIER_SC_WAYS then s.wrScWays v
  else if p = 0x332 ∧ 0x800 ≤ o ∧ o < 0xA00 ∧ o % 0x20 = 8 then s.wrWwCtrl ((o - 0x800) / 0x20) v
  else if 0x340 ≤ p ∧ p < 0x380 ∧ 0x800 ≤ o ∧ o % 0x20 = 0 then s.wrStmCtrl (64 * (p - 0x340) + (o - 0x800) / 0x20) v
  else if 0x340 ≤ p ∧ p < 0x380 ∧ 0x800 ≤ o ∧ o % 0x20 = 0x18 then s.wrStmOp (64 * (p - 0x340) + (o - 0x800) / 0x20) v
  else s.applyWord a v

/-- ING, Agate, Pumice, Flint, Slate, Garnet: words whose write does more than store. -/
def State.storeEngine (s : State) (a v : Nat) : State :=
  let p := a / 0x1000
  let o := a % 0x1000
  if 0x381 ≤ p ∧ p < 0x389 ∧ 0x400 ≤ o ∧ o < 0x800 ∧ o % 0x80 = 0 then s.wrStreamCtrl (8 * (p - 0x381) + (o - 0x400) / 0x80) v
  else if 0x3B0 ≤ p ∧ p < 0x3B8 ∧ o = 0x60 then s.wrPackCtrl (p - 0x3B0) v
  else if a = Reg.AGT_XF_CTRL then s.wrXfCtrl v
  else if 0x3C1 ≤ p ∧ p < 0x3C9 ∧ 0x400 ≤ o ∧ o < 0x800 ∧ o % 0x80 = 0 then
    s.wrSensorCfg (8 * (p - 0x3C1) + (o - 0x400) / 0x80) v
  else if p = 0x3C9 ∧ 0x400 ≤ o ∧ o < 0x600 ∧ o % 0x20 = 8 then s.wrRingCfg ((o - 0x400) / 0x20) v
  else if p = 0x401 ∧ 0x400 ≤ o ∧ o < 0x600 ∧ o % 0x20 = 0 then s.wrScanner ((o - 0x400) / 0x20) v
  else if 0x404 ≤ p ∧ p < 0x408 ∧ o = 0x48 then s.wrJobCfg (p - 0x404) v
  else if a = Reg.FLT_SWAP then s.wrSwap v
  else if a = Reg.FLT_CTRL then s.wrFltCtrl v
  else if a = Reg.SLT_KO_CTRL then s.wrKeepOut v
  else if 0x501 ≤ p ∧ p ≤ 0x540 ∧ o = 0x40 then s.wrLoopCfg (p - 0x501) v
  else if 0x501 ≤ p ∧ p ≤ 0x540 ∧ o = 0x60 then s.wrLoopRc (p - 0x501) v
  else if 0x501 ≤ p ∧ p ≤ 0x540 ∧ o = 0x64 then s.wrLoopPg (p - 0x501) v
  else if 0x501 ≤ p ∧ p ≤ 0x540 ∧ 0x80 ≤ o ∧ o < 0x100 then s.wrLoopParam (p - 0x501) ((o - 0x80) / 4) v
  else if 0x541 ≤ p ∧ p ≤ 0x548 ∧ 0x400 ≤ o ∧ o < 0x800 ∧ o % 0x80 = 0 then
    s.wrActCtrl (8 * (p - 0x541) + (o - 0x400) / 0x80) v
  else if 0x549 ≤ p ∧ p ≤ 0x550 ∧ 0x400 ≤ o ∧ o < 0x800 ∧ o % 0x100 = 0 then s.wrFrameCfg (4 * (p - 0x549) + (o - 0x400) / 0x100) v
  else if p = 0x551 ∧ 0x400 ≤ o ∧ o < 0x500 ∧ o % 0x10 = 0 then s.wrSlotCfg ((o - 0x400) / 0x10) v
  else s.applyWord a v

/-- The links and the watchdogs: words whose write does more than store. -/
def State.storeLink (s : State) (a v : Nat) : State :=
  let p := a / 0x1000
  let o := a % 0x1000
  if 0x581 ≤ p ∧ p ≤ 0x589 ∧ o = 0x44 then s.wrGcl (p - 0x581) v
  else if 0x594 ≤ p ∧ p < 0x598 ∧ 0x400 ≤ o ∧ o < 0x800 then s.wrQci (32 * (p - 0x594) + (o - 0x400) / 0x20) a v
  else if entry16 a then s.stageWord a v
  else if a = Reg.PCIE_EOI then s.wrEoi v
  else if p = 0x5C1 ∧ 0x400 ≤ o ∧ o < 0x800 then s.wrMsix a v
  else if p = 0x5C2 ∧ 0x400 ≤ o ∧ o < 0x420 then (s.applyWord a v).vectorEdges s
  else if 0x5E0 ≤ p ∧ p < 0x5EC ∧ p % 2 = 0 ∧ o = 0x54 then s.wrCanCtrl ((p - 0x5E0) / 2) v
  else if 0x5E0 ≤ p ∧ p < 0x5EC ∧ p % 2 = 1 ∧ o = 0x40 then s.wrCanTx ((p - 0x5E0) / 2) v
  else if p = 0x5F2 ∧ 0x400 ≤ o ∧ o < 0x440 ∧ o % 0x20 = 4 then s.wrUartTx ((o - 0x400) / 0x20) v
  else if (p = 0x600 ∨ p = 0x610) ∧ o = 0x4C then s.wrRetrain ((p - 0x600) / 16) v
  else if 0x620 ≤ p ∧ p < 0x640 ∧ 0x400 ≤ o ∧ o < 0x600 ∧ o % 0x40 = 0 then s.wrWdgCfg (8 * (p - 0x620) + (o - 0x400) / 0x40) v
  else if 0x620 ≤ p ∧ p < 0x640 ∧ 0x400 ≤ o ∧ o < 0x600 ∧ o % 0x40 = 0xC then
    s.wrWdgKick (8 * (p - 0x620) + (o - 0x400) / 0x40) v
  else s.applyWord a v

/-- The effect of a write of word `v` to register word `a` that has passed every check. -/
def State.storeWord (s : State) (a v : Nat) : State :=
  let p := a / 0x1000
  if a % 0x1000 < 0x40 then s.storeHeader p (a % 0x1000) v
  else if isTileClear a || (clearedBy a).isSome then s.wrClear a v
  else if p < 0x80 then s.storeDevice a v
  else if p < 0x380 then s.storeCompute a v
  else if p < 0x580 then s.storeEngine a v
  else s.storeLink a v

/-- The 8-byte registers whose 8-byte write is one word (R194, R235, R284, R410, R442, R491, R523, R627, R646). -/
def atomic8 (a : Nat) : Bool :=
  let p := a / 0x1000
  let o := a % 0x1000
  if 0xC0 ≤ p ∧ p < 0x100 then o == 0x40 || decide (0x800 ≤ o)
  else if 0x338 ≤ p ∧ p < 0x340 then decide (0x80 ≤ o ∧ o < 0xE0) && o % 0x20 == 0x10
  else if 0x300 ≤ p ∧ p < 0x330 then p % 4 == 0 && decide (0x100 ≤ o ∧ o < 0x180)
  else if p = 0x402 then (decide (o < 0x100) && o % 0x10 == 0) || (decide (0x100 ≤ o ∧ o < 0x300) && o % 0x20 < 0x10)
  else if p = 0x403 then o == 0x50
  else if 0x404 ≤ p ∧ p < 0x408 then o == 0x40
  else if p = 0x480 then o == 0x48 || o == 0x50 || o == 0x58
  else if 0x590 ≤ p ∧ p < 0x594 ∨ p = 0x59A then decide (0x400 ≤ o)
  else if p = 0x51 then decide (0x400 ≤ o)
  else a == Reg.SLT_KO_BASE || a == Reg.QTZ_EPOCH_SEC 0 || a == Reg.QTZ_EPOCH_SEC 1 || a == Reg.ETH_MAC || a == Reg.PCIE_WIN ||
    a == Reg.AGE_HOURS || a == Reg.AGE_HIST || a == Reg.SEC_FPGM

/-- The effect of an 8-byte write of an atomic register. -/
def State.storeWide (s : State) (req : Requester) (a v : Nat) : State :=
  let p := a / 0x1000
  let o := a % 0x1000
  if 0xC0 ≤ p ∧ p < 0x100 then
    (if o = 0x40 then s.wrSynAdd req (p - 0xC0) v else s.setSignal (syncPortOf req) (256 * (p - 0xC0) + (o - 0x800) / 8) v)
  else if 0x338 ≤ p ∧ p < 0x340 then s.wrFlPush req (p - 0x338) ((o - 0x80) / 0x20) v
  else if a = Reg.SEC_FPGM then s.wrFpgm v
  else (s.storeWord a (v % 2 ^ 32)).storeWord (a + 4) (v / 2 ^ 32 % 2 ^ 32)

/-! ## Accesses of several words (R663) -/

/-- A word of an access: its address, whether it is an atomic 8-byte register, and what is written there. -/
abbrev RegPiece := Nat × Bool × Nat

/-- The words of one write of `size` bytes of value `v` at `a` (R80, R663). -/
def State.writePieces (s : State) (a size v : Nat) : List RegPiece :=
  if size = 8 then
    (if atomic8 a then [(a, true, v % 2 ^ 64)] else [(a, false, v % 2 ^ 32), (a + 4, false, v / 2 ^ 32 % 2 ^ 32)])
  else [(a - a % 4, false, s.mergeWord a size v)]

/-- The first cause for which a write of one word `v` at `a` is refused: a register that only an 8-byte write may change refuses it for
its size (R89, R194, R235, R646). -/
def State.checkNarrow (s : State) (req : Requester) (a v : Nat) : Option Cause :=
  if wideOnly a then some .size else s.checkWord req a v

/-- Words are checked and applied in order; the first refused word ends the access with its cause (R663). -/
def State.writeAll (s : State) (req : Requester) : List RegPiece → Option Cause × State
  | [] => (none, s)
  | (a, true, v) :: r =>
    match s.checkWord req a (v % 2 ^ 32), s.checkWord req (a + 4) (v / 2 ^ 32) with
    | some c, _ => (some c, s)
    | none, some c => (some c, s)
    | none, none => (s.storeWide req a v).writeAll req r
  | (a, false, v) :: r =>
    match s.checkNarrow req a v with
    | some c => (some c, s)
    | none => (s.storeWord a v).writeAll req r

/-- The answer to an access: refused with its first cause, or OK (R87, R88). -/
def State.conclude (req : Requester) (r : Option Cause × State) : State :=
  match r.1 with
  | some c => r.2.refuse req c
  | none => r.2.respond req 0 []

/-- A register write of `size` bytes at register-space address `a` (R80, R86–R89). -/
def State.writeAccess (s : State) (req : Requester) (a size v : Nat) : State :=
  if !sizeOk a size then s.refuse req .size else State.conclude req (s.writeAll req (s.writePieces a size v))

/-- A write transaction of the command port at word address `a`: one that starts at ING_CMDP_MSG(0) is a message, refused while
no stream takes it; all others apply word by word (R317, R526). -/
def State.portWrite (s : State) (a : Nat) (words : List Nat) : State :=
  if a = Reg.ING_CMDP_MSG 0 then
    match s.messageStream with
    | some _ => (s.cmdpMessage words).respond .cmdp 0 []
    | none => s.refuse .cmdp .busy
  else if a % 4 ≠ 0 ∨ 0x1000 < a % 0x1000 + 4 * words.length then s.refuse .cmdp .size
  else State.conclude .cmdp (s.writeAll .cmdp (((List.range words.length).zip words).map (fun e => (a + 4 * e.1, false, e.2 % 2 ^ 32))))

/-! ## Reads (R77, R80, R528, R640) -/

/-- A read of page `p` is refused: the command port outside its list, PCIe in P0's pages at the higher debug levels. -/
def State.readRefused (s : State) (req : Requester) (p : Nat) : Bool :=
  match req with
  | .granite => false
  | .cmdp => !cmdpPage p
  | .pcie => decide (2 ≤ s.debugLevel) && (dirRow p).isSome && s.owner p == 0

/-- The `n` bytes that a read at `a` returns. -/
def State.readBytes (s : State) (a n : Nat) : List Nat :=
  (List.range n).map (fun i => bits (s.readWord ((a + i) - (a + i) % 4)) (8 * ((a + i) % 4) + 7) (8 * ((a + i) % 4)))

/-! ## PCIe BAR0 (R81, R493) -/

/-- The accesses of a BAR0 request of `n` bytes at `a`: itself up to 8 bytes, else aligned 8-byte accesses. -/
def bar0Parts (a n : Nat) : Nat → List (Nat × Nat)
  | 0 => []
  | k + 1 =>
    if n = 0 then []
    else
      let m := min n (8 - a % 8)
      (a, m) :: bar0Parts (a + m) (n - m) k

/-- The accesses of a BAR0 request. -/
def bar0Accesses (a n : Nat) : List (Nat × Nat) := if n ≤ 8 then [(a, n)] else bar0Parts a n 16

/-- A read access has a legal size and alignment (R80). -/
def readSizeOk (a n : Nat) : Bool := (n == 1 || n == 2 || n == 4 || n == 8) && a % n == 0

/-- A BAR0 request: over-long ones and ones with an illegal access are refused whole, all others word by word. -/
def State.bar0 (s : State) (write : Bool) (a n : Nat) (data : List Byte) : State :=
  let l := bar0Accesses a n
  if 64 < n || l.any (fun x => if write then !sizeOk x.1 x.2 else !readSizeOk x.1 x.2) then s.refuse .pcie .size
  else if write then
    State.conclude .pcie (s.writeAll .pcie (l.flatMap (fun x => s.writePieces x.1 x.2 (leField data (x.1 - a) x.2))))
  else if l.any (fun x => s.readRefused .pcie (x.1 / 0x1000)) then s.refuse .pcie .rights
  else s.respond .pcie 0 (s.readBytes a n)

/-! ## PCIe BAR2 (R77, R494) -/

/-- Why a BAR2 request for the `n` bytes from device address `a` is refused, if it is (R88, R89, R266). -/
def State.bar2Refused (s : State) (write : Bool) (a n : Nat) : Option Cause :=
  let part := s.getF Reg.PCIE_WIN_PART
  let sram := match s.space a with | .sram _ _ => true | _ => false
  if !s.rangeMapped a n || decide (0x3F000000000 < a + n) then some .unmapped
  else if 512 < n then some .size
  else if sram && !(s.mode == .boot || s.mode == .ready) then some .tileSram
  else if write && !bit (s.reg Reg.DEV_PCIE_WMASK).toNat part then some .rights
  else if !s.reach part a n write then some .rights
  else none

/-- A BAR2 request at offset `o`: writes apply in 64-byte pieces, in order; a read meets the ECC errors of the SRAM words that it
covers (R139, R140). -/
def State.bar2 (s : State) (write : Bool) (o n : Nat) (data : List Byte) : State :=
  let a := s.getF Reg.PCIE_WIN_WIN * 2 ^ 36 + o % 2 ^ 36
  let part := s.getF Reg.PCIE_WIN_PART
  match s.bar2Refused write a n with
  | some c => s.refuse .pcie c
  | none =>
    if write then
      let d := padTo n data
      ((List.range (n / 64 + 2)).foldl (fun u i =>
        let lo := if i = 0 then a else a / 64 * 64 + 64 * i
        let hi := min (a + n) (a / 64 * 64 + 64 * (i + 1))
        if lo < hi then u.put pciePort part lo ((d.drop (lo - a)).take (hi - lo)) else u) s).respond .pcie 0 []
    else if s.isNeighbour a then
      let (l, s1) := (s.askLines pciePort part a n none).freeBytes n
      s1.respond .pcie 0 (l.map (fun b => b.toNat))
    else ((s.readsFind [(s.canon a, n)]).traffic pciePort part false a n).respond .pcie 0 ((s.fetch a n).map (fun b => b.toNat))

/-- A request of the endpoint: one that comes while the block is STOPPING completes with Unsupported Request (R497). -/
def State.pcieRequest (s : State) (f : State → State) : State :=
  match s.turnedAway .pcie with
  | some t => t
  | none => f s

/-! ## Commands -/

/-- REGISTER_WRITE: a write of 1, 2, 4 or 8 bytes at a register-space address. -/
def execRegisterWrite (req : Requester) (addr size value : Nat) (s : State) : Host.Outcome State Fault Refusal :=
  whenLive (fun s => s.guard (decide (addr < 0x10000000)) (fun s =>
    match s.turnedAway req with
    | some t => t
    | none =>
      if req == .cmdp && size == 4 then s.portWrite addr [value % 2 ^ 32] else s.writeAccess req addr size value)) s

/-- PCIE_BAR0_REQUEST. -/
def execPcieBar0Request (write : Bool) (addr len : Nat) (data : List Byte) (s : State) : Host.Outcome State Fault Refusal :=
  whenLive (fun s => s.guard (decide (0 < len ∧ addr + len ≤ 0x10000000)) (fun s =>
    s.pcieRequest (fun t => t.bar0 write addr len (padTo len data)))) s

/-- PCIE_BAR2_REQUEST. -/
def execPcieBar2Request (write : Bool) (offset len : Nat) (data : List Byte) (s : State) :
    Host.Outcome State Fault Refusal :=
  whenLive (fun s => s.guard (decide (0 < len)) (fun s => s.pcieRequest (fun t => t.bar2 write offset len data))) s

end Sys2Proof.Machine
end

