-- ==== Sys2Proof/Machine/LongOps.lean ====
section
/-! DEFINITION. The long operations of the command port (R529–R532, R632, R644, R645, R665). -/

namespace Sys2Proof.Machine

/-! ## Starting an operation (R526, R527, R529) -/

/-- A long operation starts on the OK response to its OP. -/
def State.startOp (s : State) (code : Nat) (args : List Nat) : State :=
  let s1 := { s with dev := { s.dev with op := some { code := code, args := args, start := s.qtz.cycles, frames := 0 } } }
  ((s1.putF Reg.DEV_OP_OP code).putF Reg.DEV_OP_RUNNING 1).respond .cmdp 0 []

/-- An OP: BUSY while another runs, DENIED where mode or lifecycle forbid it. -/
def State.portOp (s : State) (allowed : Bool) (f : State → State) : State :=
  match s.turnedAway .cmdp with
  | some t => t
  | none => if allowed then f s else s.respond .cmdp 5 []

/-- The operation that runs has this code. -/
def State.opIs (s : State) (code : Nat) : Bool := s.dev.op.any (fun o => o.code == code)

/-! ## ARM (R531) -/

/-- Quartz, Agate, Slate, Flint and Garnet RUN, and TB2 is not in HOLDOVER. -/
def State.armReady (s : State) : Bool :=
  [0x40, 0x3C0, 0x4C0, 0x480, 0x500].all (fun p => s.isRunning p) && s.getF Reg.QTZ_STAT_TB2_SRC != 3

/-- The pages that ARM locks: P0's, those of Agate, Slate, Flint and Garnet, and the stream pages of streams that deliver to
Agate or Garnet: IMU, WHEEL, GNSS, FEEDBACK (R316). -/
def State.armLocks (s : State) : List Nat :=
  let mapped := directory.flatMap (fun r => (List.range (r.last + 1 - r.first)).map (fun i => r.first + i))
  let streamPage (p : Nat) : Bool := decide (0x381 ≤ p ∧ p < 0x389) && (List.range 8).any (fun k =>
    let kind := s.getF (Reg.ING_S_CTRL_KIND (8 * (p - 0x381) + k))
    [2, 3, 4, 6].contains kind)
  mapped.filter (fun p => s.owner p == 0 || decide (0x3C0 ≤ p ∧ p < 0x400) || decide (0x480 ≤ p ∧ p < 0x580) || streamPage p)

/-- Steps 2 and 3 of ARM. -/
def State.armSteps (s : State) (clear : Nat) : State :=
  let s1 := s.setReg Reg.DEV_PCIE_WMASK (s.reg Reg.DEV_PCIE_WMASK &&& ~~~ BitVec.ofNat 32 (clear &&& 0xFE))
  let s2 := s1.armLocks.foldl (fun u p => u.putF (Reg.PG_CTRL_LOCK p) 1) s1
  { s2 with dev := { s2.dev with presentAtArm := s2.getF Reg.DEV_TILE_PRESENT_PRESENT } }

/-- ARM: its checks and steps; it then waits for a valid WPR. -/
def State.doArm (s : State) (clear : Nat) : State :=
  let s1 := s.startOp 1 [clear]
  if s1.armReady then s1.armSteps clear else s1.endOp 1

/-! ## DISARM (R532) -/

/-- The ego speed in the last WPR is below 0.1 m/s. -/
def State.slowEnough (s : State) : Bool :=
  let sum := s.dev.lastWpr.velocity.foldl (fun n w => (n.add ((f32 w).mul (f32 w)).1).1) Num.zero
  let x := (sum.mul (.ofInt 100)).1
  x.isFin && !(Num.ofInt 1).le x

/-- DISARM may start: ARMED, or slow enough in ACTIVE and DEGRADED. -/
def State.disarmAllowed (s : State) : Bool :=
  s.mode == .armed || ((s.mode == .active || s.mode == .degraded) && s.slowEnough)

/-- DISARM: EN = 0 to Garnet; it ends at once where Garnet is OFF. -/
def State.doDisarm (s : State) : State :=
  let s1 := (s.startOp 2 []).writeEn 0x500 false
  if s1.blockState 0x500 == .off then s1.disarmEnds else s1

/-! ## FUSE (R529, R632) -/

/-- Every pair names bits that FUSE may program and passes its check. -/
def State.fusePairsOk (s : State) (pairs : List (Nat × Nat)) : Bool :=
  pairs.all (fun p => s.fuseAllowed false p.1 p.2 && s.fuseCheck p.1 (p.2 % 2 ^ 32))

/-- FUSE: pairs that fail a check end it FAILED with nothing programmed. -/
def State.doFuse (s : State) (pairs : List (Nat × Nat)) : State :=
  let l := pairs.take 8
  if s.fusePairsOk l then (s.startOp 3 (l.flatMap (fun p => [p.1, p.2 % 2 ^ 32]))).secBusy else (s.startOp 3 []).endOp 3

/-! ## QUOTE (R644, R645) -/

/-- An LMS leaf is at hand: of the block in use, or of a block that is taken now by programming its bit. -/
def State.takeLeaf (s : State) : Option State :=
  if s.sec.block.isSome && decide (s.sec.used < 64) then some s
  else
    match s.nextBlock with
    | none => none
    | some b =>
      let s1 := s.burn (320 + b / 32) (2 ^ (b % 32))
      some ({ s1 with sec := { s1.sec with block := some b, used := 0 } }).showSec

/-- QUOTE: no leaf left ends it FAILED. -/
def State.doQuote (s : State) (nonce : List Nat) : State :=
  match (s.startOp 4 nonce).takeLeaf with
  | some t => t
  | none => (s.startOp 4 nonce).endOp 3

/-- Bytes go to the result buffer, DEV pages 4–5 from offset 0x040 (R530). -/
def State.putResult (s : State) (l : List Byte) : State :=
  (List.range (l.length / 4)).foldl (fun u i => u.setReg (Reg.DEV_RESULT i) (BitVec.ofNat 32 (leField l (4 * i) 4))) s

/-- Bytes 0x000–0x1CF of a quote. -/
def State.quoteHead (s : State) (nonce : List Nat) (leaf : Nat) : List Byte :=
  let life := s.lifecycle
  let status := modeCode s.mode * 2 ^ 20 + s.getF Reg.TIER_CFG_MODE * 2 ^ 12 + bits (s.fuse 0) 29 29 * 2 ^ 8 +
    s.debugLevel * 2 ^ 4 + life
  let sensed := (List.range 100).map (fun i => s.fuse (72 + i)) ++ (List.range 140).map (fun i => s.fuse (180 + i))
  [0x091C0001, status, s.fuse 1, s.fuse 2, s.fuse 3, s.frameNo, s.now 2, (s.reg Reg.SEC_ARB).toNat].flatMap (leBytes 4) ++
    nonce.flatMap (leBytes 4) ++
    (List.range 7).flatMap (fun c => leBytes 48 (s.getF (Reg.SEC_MEAS_DIGEST c))) ++
    (List.range 48).map (fun i => Config.digest 1 sensed i) ++ leBytes 4 leaf ++ List.replicate 12 0

/-- QUOTE ends: the quote with the signatures that the key engine made of it, and its leaf is used. -/
def State.quoteDone (s : State) (nonce : List Nat) (output : List Byte) (good : Bool) : State :=
  if good then
    let leaf := 64 * s.sec.block.getD 0 + s.sec.used
    let s1 := s.putResult (s.quoteHead nonce leaf ++ padTo 1868 output)
    (({ s1 with sec := { s1.sec with used := s1.sec.used + 1 } }).showSec).endOp 0
  else s.endOp 3

/-! ## LOGDUMP (R665) -/

/-- The first words of `n` registers from `a`, `step` apart, as they read. -/
def State.readRun (s : State) (a step n : Nat) : List Nat := (List.range n).map (fun i => s.readWord (a + step * i))

/-- The words of a log dump before its CRC. -/
def State.logWords (s : State) : List Nat :=
  [0x02800001, s.readWord Reg.QTZ_FRAME, s.now 2] ++
  [Reg.DEV_MODE, Reg.FC_STAT, Reg.DEV_ACCERR, Reg.DEV_TILE_PRESENT, Reg.SEC_BOOT, Reg.QTZ_STAT, Reg.PWR_THERM, Reg.PWR_ACCT,
   Reg.AGE_LIFE].map (fun a => s.readWord a) ++
  s.readRun Reg.ING_STOPPED 4 2 ++ s.readRun Reg.ING_ABSENT 4 2 ++ s.readRun (Reg.FC_STICKY 0) 4 32 ++
  s.readRun (Reg.FC_LIVE 0) 4 32 ++ s.readRun (Reg.WDG_FAILED 0) 4 8 ++ s.readRun (Reg.TILE_FENCE 0) 0x10000 32 ++
  s.readRun (Reg.TILE_CKCNT 0) 0x10000 32 ++ List.replicate 7 0

/-- LOGDUMP captures its values at its start. -/
def State.doLogdump (s : State) : State :=
  let t := s.startOp 5 []
  match t.dev.op with
  | some o => { t with dev := { t.dev with op := some { o with args := t.logWords } } }
  | none => t

/-- LOGDUMP ends: the captured values and their CRC. -/
def State.logDone (s : State) (words : List Nat) : State :=
  let l := words.flatMap (leBytes 4)
  (s.putResult (l ++ leBytes 4 (crc32 l))).endOp 0

/-! ## Completion -/

/-- FUSE, QUOTE or LOGDUMP reaches its own completion. -/
def State.opDone (s : State) (output : List Byte) (good : Bool) : State :=
  match s.dev.op with
  | none => s
  | some o =>
    match o.code with
    | 3 => if good then (((pairsOf o.args).foldl (fun u p => u.burn p.1 p.2) s).endOp 0).showSec else (s.endOp 3).showSec
    | 4 => s.quoteDone o.args output good
    | 5 => s.logDone o.args
    | _ => s

/-! ## OP (R526, R527, R529) -/

/-- SELFTEST waits for the next test cycle (R530). -/
def State.doSelftest (s : State) : State :=
  let t := s.startOp 6 []
  { t with test := { t.test with selftest := 1 } }

/-- The operation is permitted in the current mode and lifecycle state (R529, chapter 23). -/
def State.opAllowed (s : State) (code : Nat) : Bool :=
  match code with
  | 1 => s.mode == .ready && s.lifecycle != 0
  | 2 => s.disarmAllowed
  | 3 => s.mode == .ready && decide (s.lifecycle ≤ 1)
  | 4 => s.mode == .ready || s.driving || s.mode == .safe
  | 5 => s.mode != .boot
  | _ => s.mode == .ready

/-- OP with a code and its data words. -/
def State.portStart (s : State) (code : Nat) (words : List Nat) : State :=
  s.portOp (s.opAllowed code) (fun t =>
    match code with
    | 1 => t.doArm (words.headD 0)
    | 2 => t.doDisarm
    | 3 => t.doFuse (pairsOf words)
    | 4 => t.doQuote ((List.range 8).map (fun i => words.getD i 0))
    | 5 => t.doLogdump
    | _ => t.doSelftest)

/-! ## Commands -/

/-- ARM. -/
def execArm (clear : Nat) (s : State) : Host.Outcome State Fault Refusal := whenLive (fun s => s.portStart 1 [clear]) s

/-- ARM_NO_PLAN: ten frames without a valid WPR (R531). -/
def execArmNoPlan (s : State) : Host.Outcome State Fault Refusal :=
  whenLive (fun s => s.guard (s.opIs 1 && s.dev.op.any (fun o => decide (10 ≤ o.frames))) (fun s => s.endOp 2)) s

/-- DISARM. -/
def execDisarm (s : State) : Host.Outcome State Fault Refusal := whenLive (fun s => s.portStart 2 []) s

/-- DISARM_FAILED: SAFE outright, whatever the class of the source (R532). -/
def execDisarmFailed (s : State) : Host.Outcome State Fault Refusal :=
  whenLive (fun s => s.guard (s.opIs 2) (fun s => ((s.endOp 3).raise FS.DEV_DISARM).enterSafe)) s

/-- FUSE. -/
def execFuse (pairs : List (Nat × Nat)) (s : State) : Host.Outcome State Fault Refusal :=
  whenLive (fun s => s.portStart 3 (pairs.flatMap (fun p => [p.1, p.2]))) s

/-- QUOTE. -/
def execQuote (nonce : List Byte) (s : State) : Host.Outcome State Fault Refusal :=
  whenLive (fun s => s.portStart 4 (wordsOf (padTo 32 nonce) 0 8)) s

/-- LOGDUMP. -/
def execLogdump (s : State) : Host.Outcome State Fault Refusal := whenLive (fun s => s.portStart 5 []) s

/-- SELFTEST. -/
def execSelftest (s : State) : Host.Outcome State Fault Refusal := whenLive (fun s => s.portStart 6 []) s

/-- LONG_OP_TIMEOUT. -/
def execLongOpTimeout (s : State) : Host.Outcome State Fault Refusal :=
  whenLive (fun s => s.guard s.dev.op.isSome (fun s => s.endOp 4)) s

/-- LONG_OP_DONE. -/
def execLongOpDone (output : List Byte) (good : Bool) (s : State) : Host.Outcome State Fault Refusal :=
  whenLive (fun s => s.opDone output good) s

end Sys2Proof.Machine
end

