-- ==== Sys2Proof/Machine/Cmdp.lean ====
section
/-! DEFINITION. Command-port transactions (R524–R528). -/

namespace Sys2Proof.Machine

/-- The first two checks of a transaction (R526, R527). -/
def State.portChecked (s : State) (check : PortCheck) (f : State → State) : State :=
  match check with
  | .badCrc => (s.satInc Reg.DEV_CMDP_CNT_CRCERR).respond .cmdp 3 []
  | .badCmd => s.respond .cmdp 4 []
  | .good => f s

/-- A transaction that reads or writes: BUSY while a long operation runs (R529). -/
def State.portFree (s : State) (f : State → State) : State :=
  match s.turnedAway .cmdp with
  | some t => t
  | none => f s

/-- RD of `n` words at word address `a` (R526, R528). -/
def State.portRead (s : State) (a n : Nat) : State :=
  if a % 4 ≠ 0 ∨ 0x1000 < a % 0x1000 + 4 * n then s.refuse .cmdp .size
  else if s.readRefused .cmdp (a / 0x1000) then s.refuse .cmdp .rights
  else s.respond .cmdp 0 (s.readRun a 4 n)

/-- STAT: DEV_MODE, then DEV_OP. -/
def State.portStat (s : State) : State := s.respond .cmdp 0 [s.readWord Reg.DEV_MODE, s.readWord Reg.DEV_OP]

/-! ## A transaction as its bytes (R525) -/

/-- Data words that a request header announces: a reserved CMD carries none. -/
def headerWords (l : List Byte) : Nat :=
  let cmd := leField l 0 1
  if cmd = 0x02 ∨ cmd = 0x70 then leField l 2 1 % 16 + 1 else 0

/-- The header is malformed (BAD_CMD of R526). -/
def headerBad (l : List Byte) : Bool :=
  let cmd := leField l 0 1
  let addr := leField l 4 4
  !(cmd == 0x0B || cmd == 0x02 || cmd == 0x05 || cmd == 0x70) || leField l 1 1 != 255 - cmd || decide (16 ≤ leField l 2 1) ||
    (cmd == 0x05 && (leField l 2 1 != 0 || addr != 0)) || (cmd == 0x70 && !(decide (1 ≤ addr) && decide (addr ≤ 6))) ||
    ((cmd == 0x0B || cmd == 0x02) && decide (2 ^ 28 ≤ addr))

/-- A whole request, its CRC bytes included, takes effect if it passes every check (R525, R527). -/
def State.portRequest (s : State) (l : List Byte) : State :=
  let n := headerWords l
  let words := (List.range n).map (fun i => leField l (8 + 4 * i) 4)
  let crc := leField l (8 + 4 * n) 2
  let check := if crcMsb 16 0x1021 0xFFFF (l.take (8 + 4 * n)) != crc then PortCheck.badCrc
    else if headerBad l then .badCmd else .good
  s.portChecked check (fun s =>
    let addr := leField l 4 4
    match leField l 0 1 with
    | 0x0B => s.portFree (fun t => t.portRead addr (leField l 2 1 + 1))
    | 0x02 => s.portFree (fun t => t.portWrite addr words)
    | 0x05 => s.portFree (fun t => t.portStat)
    | _ => s.portStart addr words)

/-- An early rise of CS#: counted; a request whose CRC was not complete has no effect, another takes effect though its response
is not seen (R527). -/
def State.portAbort (s : State) (request : Option (List Byte)) : State :=
  let s1 := s.satInc Reg.DEV_CMDP_CNT_ABORTS
  match request with
  | none => s1
  | some l => if 8 ≤ l.length ∧ 8 + 4 * headerWords l + 2 ≤ l.length then s1.portRequest l else s1

/-! ## Commands -/

/-- CMDP_RD: LEN + 1 words. -/
def execCmdpRd (page offset len : Nat) (check : PortCheck) (s : State) : Host.Outcome State Fault Refusal :=
  whenLive (fun s => s.guard (decide (page < 0x10000 ∧ offset < 0x1000 ∧ len < 16)) (fun s =>
    s.portChecked check (fun s => s.portFree (fun t => t.portRead (0x1000 * page + offset) (len + 1))))) s

/-- CMDP_WR: LEN + 1 words. -/
def execCmdpWr (page offset : Nat) (words : List Nat) (check : PortCheck) (s : State) : Host.Outcome State Fault Refusal :=
  whenLive (fun s => s.guard (decide (page < 0x10000 ∧ offset < 0x1000 ∧ 1 ≤ words.length ∧ words.length ≤ 16)) (fun s =>
    s.portChecked check (fun s => s.portFree (fun t => t.portWrite (0x1000 * page + offset) words)))) s

/-- CMDP_STAT. -/
def execCmdpStat (check : PortCheck) (s : State) : Host.Outcome State Fault Refusal :=
  whenLive (fun s => s.portChecked check (fun s => s.portFree (fun t => t.portStat))) s

/-- CMDP_ABORT. -/
def execCmdpAbort (request : Option (List Byte)) (s : State) : Host.Outcome State Fault Refusal :=
  whenLive (fun s => s.portAbort request) s

end Sys2Proof.Machine
end

