-- ==== Sys2Proof/Machine/Boot.lean ====
section
/-! DEFINITION. The boot stages (R519, R628, R629, R634–R639). A stage's command acts only in BOOT, after the stage before it,
and not once the boot has failed. -/

namespace Sys2Proof.Machine

/-- Boot stage `n` is complete; stage 4's end is READY, shown as 5. `bootStage` counts the stages completed. -/
def State.setStage (s : State) (n : Nat) : State :=
  ({ s with dev := { s.dev with bootStage := n + 1 } }).putF Reg.SEC_BOOT_STAGE (if n = 4 then 5 else n)

/-- The device is in BOOT, `n` stages are complete, and the boot has not failed (R636, R638). -/
def State.atStage (s : State) (n : Nat) : Bool :=
  s.mode == .boot && s.dev.bootStage == n && !s.onF Reg.DEV_MODE_BOOT_FAIL

/-- The boot fails: the device stays in BOOT (R533, R638). -/
def State.bootFails (s : State) : State := s.putF Reg.DEV_MODE_BOOT_FAIL 1

/-! ## Stage 0 (R628, R629) -/

/-- The CRC-32 over words 0–70 that word 71 should hold. -/
def State.fuseCrc (s : State) : Nat := crc32 ((List.range 71).flatMap (fun w => leBytes 4 (s.fuse w)))

/-- The array as the two passes report it: a bit that either reads as 1 is 1, and those that differ are counted. -/
def State.sense (s : State) (first second : List Nat) : State :=
  let either (w : Nat) : Nat := (first.getD w 0 ||| second.getD w 0) % 2 ^ 32
  let differ (w : Nat) : Nat := popCount ((first.getD w 0 ^^^ second.getD w 0) % 2 ^ 32) 32
  let words := List.range 512
  let array : Sparse Nat := words.foldl (fun m w => Sparse.set (fun _ => 0) m w (either w)) []
  let live : Sparse Nat := words.foldl (fun m w => Sparse.set (fun _ => 0) m w (s.fuseLive w ||| either w)) s.sec.live
  let s1 := { s with sec := { s.sec with sensed := array, live := live } }
  s1.putF Reg.SEC_BOOT_UNSTABLE (min 255 (words.foldl (fun n w => n + differ w) 0))

/-- Stage 0: what the fuses fix takes its place; a CRC mismatch is TERMINAL. -/
def State.stage0 (s : State) (first second : List Nat) : State :=
  let s1 := ((s.sense first second).loadFuses).setStage 0
  if s1.fuseCrc = s1.fuse 71 then s1 else s1.raise FS.SEC_FUSE

/-! ## Stage 1 (R634, R635, R637) -/

/-- REASON for an image of type `kind`, in the order of R635; 1 where the flash cannot be read. -/
def State.imageReason (s : State) (kind : Nat) (i : ImageCheck) : Nat :=
  let slots := s.lifecycle == 0 ||
    (bit s.ecdsaSlots (bits i.keyIndex 1 0) && bit s.lmsSlots (bits i.keyIndex 5 4))
  if !i.flash then 1
  else if !i.header || i.kind != kind || decide (32 < i.svn) then 2
  else if !i.key || !slots then 3
  else if i.svn < s.antiRollback (counterOf kind) then 6
  else if !i.ecdsa then 4
  else if !i.lms then 5
  else 0

/-- A verified image: its digest is recorded, and its version for stage 4 (R635, R639). -/
def State.verified (s : State) (i : ImageCheck) : State :=
  ({ s with sec := { s.sec with images := s.sec.images ++ [(i.kind, i.svn, i.advance)] } }).putF (Reg.SEC_MEAS_DIGEST i.kind)
    (leNat (i.digest.take 48))

/-- The slot booted: the verified image of the higher version, slot A on a tie; `true` for B (R637). -/
def bootsB (ra rb : Nat) (a b : ImageCheck) : Bool := rb == 0 && (ra != 0 || decide (a.svn < b.svn))

/-- Granite writes the fused set point of VDD_HUB (R648). -/
def State.setHub (s : State) : State :=
  { s with pwr := { s.pwr with hubVolt := min 900 (Config.hubVoltage ((List.range 38).map (fun i => s.fuse (18 + i)))) } }

/-- Stage 1. -/
def State.stage1 (s : State) (a b : ImageCheck) : State :=
  if s.lifecycle = 3 then ((s.putF Reg.SEC_BOOT_REASON_A 7).putF Reg.SEC_BOOT_REASON_B 7).bootFails
  else
    let ra := s.imageReason 0 a
    let rb := s.imageReason 0 b
    let s1 := (s.putF Reg.SEC_BOOT_REASON_A ra).putF Reg.SEC_BOOT_REASON_B rb
    if ra ≠ 0 ∧ rb ≠ 0 then s1.bootFails
    else
      let useB := bootsB ra rb a b
      ((s1.putF Reg.SEC_BOOT_SLOT (b2n useB)).verified (if useB then b else a)).setHub.setStage 1

/-! ## Stage 2 (R636, R638) -/

/-- REASON of the slot booted. -/
def State.slotReason (s : State) (r : Nat) : State :=
  s.putF (if s.onF Reg.SEC_BOOT_SLOT then Reg.SEC_BOOT_REASON_B else Reg.SEC_BOOT_REASON_A) r

/-- Every tile runs the firmware version of the image of type 1 (R634). -/
def State.tileFirmware (s : State) (version : Nat) : State :=
  tiles.foldl (fun t i =>
    (t.putF (Reg.TILE_FW_VER_MAJOR i) (bits version 31 16)).putF (Reg.TILE_FW_VER_MINOR i) (bits version 15 0)) s

/-- Stage 2: the endpoint starts; every image of types 1–6 verifies and HBM3 is trained, or the boot fails. -/
def State.stage2 (s : State) (images : List ImageCheck) (hbm : Bool) : State :=
  let good (k : Nat) : Option ImageCheck := images.find? (fun i => i.kind == k && s.imageReason k i == 0)
  let s1 := [1, 2, 3, 4, 5, 6].foldl (fun t k => match good k with | some i => t.verified i | none => t) (s.wrPgCtrl 0x5C0 1)
  let s2 := match good 1 with | some i => s1.tileFirmware i.version | none => s1
  if !([1, 2, 3, 4, 5, 6].all (fun k => (good k).isSome)) then (s2.slotReason 8).bootFails
  else if !hbm then (s2.slotReason 9).bootFails
  else s2.setStage 2

/-! ## Stage 3 (R134, R518, R519, R624, R625) -/

/-- LPC_STAT of controller `c`; a controller with a failed channel raises FS_LPC_TRAIN when any fails (R519). -/
def State.lpcTrained (s : State) (c trained density : Nat) (ranks2 : Bool) (rate : Nat) : State :=
  let ok := bits trained (4 * c + 3) (4 * c) == 15
  let s1 := (((s.putF (Reg.LPC_STAT_TRAINED c) (b2n ok)).putF (Reg.LPC_STAT_DENSITY c) density).putF (Reg.LPC_STAT_RANKS2 c)
    (b2n ranks2)).putF (Reg.LPC_STAT_RATE c) rate
  if ok then s1 else s1.raise (FS.LPC_TRAIN c)

/-- LPDDR5X training: L, and the controllers' results. -/
def State.trainLpd (s : State) (trained density : Nat) (ranks2 : Bool) (rate : Nat) : State :=
  let l := if trained % 2 ^ 16 = 0xFFFF then 16 * (1 + b2n ranks2) * density * 2 ^ 30 / 8 else 0
  [0, 1, 2, 3].foldl (fun t c => t.lpcTrained c trained density ranks2 rate) { s with tier := { s.tier with lpdBytes := l } }

/-- The boot self-test fences the tiles that fail it and are not fenced yet (R134). -/
def State.bootTest (s : State) (fails : Nat) : State :=
  tiles.foldl (fun t i => if bit fails i && !t.fenced i then t.fence i 2 else t) s

/-- FMAX_DERATED of tile `t` at power-on from its fresh margin (R624): with less than 15 ps at the code, a lower one, which spec/ leaves to
the measurement. -/
def State.derateAtBoot (s : State) (t : Nat) : State :=
  if s.getF (Reg.AGE_UNIT_MARGIN t) < 15 then
    let (v, s1) := s.free 4
    let d := s1.getF (Reg.TILE_FREQ_FMAX_DERATED t)
    s1.putF (Reg.TILE_FREQ_FMAX_DERATED t) (max 44 (d - v))
  else s

/-- At the first boot after power-on the derated codes are formed; a reset leaves them (R624). -/
def State.formDerates (s : State) : State :=
  if s.pwr.derated then s
  else
    let t := tiles.foldl (fun t i => t.derateAtBoot i) s
    { t with pwr := { t.pwr with derated := true } }

/-- AGE_HOURS and AGE_HIST as restored from the boot flash: hours, WEAR_THEN, HOURS_THEN (R625). -/
def State.restoreAge (s : State) : Option (Nat × Nat × Nat) → State
  | none => s
  | some (h, w, t) => ((s.putF Reg.AGE_HOURS_HOURS h).putF Reg.AGE_HIST_WEAR_THEN w).putF Reg.AGE_HIST_HOURS_THEN t

/-- Stage 3. -/
def State.stage3 (s : State) (trained density : Nat) (ranks2 : Bool) (rate fails : Nat) (margins : List Nat)
    (history : Option (Nat × Nat × Nat)) : State :=
  let s1 := ((s.setStage 3).trainLpd trained density ranks2 rate).bootTest fails
  ((s1.ageAll margins).restoreAge history).formDerates

/-! ## Stage 4 (R78, R639) -/

/-- Granite writes a register word; a refused write leaves all as it is. -/
def State.setupWrite (s : State) (a v : Nat) : State :=
  match s.checkNarrow .granite a v with
  | none => s.storeWord a v
  | some _ => s

/-- A counter advances to the version of a verified image with ADVANCE: its highest bit is set, and such bits below it as Granite
sets on the way (R631, R639). -/
def State.advanceCounter (s : State) (below : List (Nat × Nat)) (i : Nat × Nat × Bool) : State :=
  let c := counterOf i.1
  let svn := i.2.1
  if i.2.2 && decide (s.antiRollback c < svn) then
    let extra := match below.find? (fun e => e.1 == c) with | some e => e.2 | none => 0
    s.burn (76 + c) (2 ^ (svn - 1) + extra % 2 ^ (svn - 1))
  else s

/-- Stage 4: owners, registers, enables, locks and counters; the device enters READY. -/
def State.stage4 (s : State) (owners : List (Nat × Nat)) (locks : List Nat) (writes : List (Nat × Nat)) (enables : List Nat)
    (advance : List (Nat × Nat)) : State :=
  let s1 := owners.foldl (fun t e => t.setupWrite (0x1000 * e.1 + 0x1C) e.2) s
  let s2 := writes.foldl (fun t e => t.setupWrite e.1 (e.2 % 2 ^ 32)) s1
  let s3 := enables.foldl (fun t p => t.setupWrite (0x1000 * p + 0x8) 1) s2
  let s4 := locks.foldl (fun t p => if (dirRow p).isSome then t.putF (Reg.PG_CTRL_LOCK p) 1 else t) s3
  let s5 := s4.sec.images.foldl (fun t i => t.advanceCounter advance i) s4
  if s5.mode == .boot then (s5.setStage 4).enterReady else s5

/-! ## Commands -/

/-- FUSE_SENSE_DONE: the array's words as the two sense passes read them. -/
def execFuseSenseDone (first second : List Nat) (s : State) : Host.Outcome State Fault Refusal :=
  whenLive (fun s => s.guard (s.atStage 0) (fun s => s.stage0 first second)) s

/-- ROM_VERIFY. -/
def execRomVerify (imageA imageB : ImageCheck) (s : State) : Host.Outcome State Fault Refusal :=
  whenLive (fun s => s.guard (s.atStage 1) (fun s => s.stage1 imageA imageB)) s

/-- FIRMWARE_LOAD. -/
def execFirmwareLoad (images : List ImageCheck) (hbmTrained : Bool) (s : State) : Host.Outcome State Fault Refusal :=
  whenLive (fun s => s.guard (s.atStage 2) (fun s => s.stage2 images hbmTrained)) s

/-- MEMORY_TRAINING: the channels trained as a mask, density in Gb, data rate, tiles that fail the boot self-test, margins in ps
and the ageing history. -/
def execMemoryTraining (trained density : Nat) (ranks2 : Bool) (rate testFails : Nat) (ageMargins : List Nat)
    (history : Option (Nat × Nat × Nat)) (s : State) : Host.Outcome State Fault Refusal :=
  whenLive (fun s => s.guard (s.atStage 3) (fun s => s.stage3 trained density ranks2 rate testFails ageMargins history)) s

/-- PARTITION_SETUP. -/
def execPartitionSetup (owners : List (Nat × Nat)) (locks : List Nat) (writes : List (Nat × Nat)) (enables : List Nat)
    (advance : List (Nat × Nat)) (s : State) : Host.Outcome State Fault Refusal :=
  whenLive (fun s => s.guard (s.atStage 4) (fun s => s.stage4 owners locks writes enables advance)) s

end Sys2Proof.Machine
end

