-- ==== Sys2Proof/Machine/Pins.lean ====
section
/-! DEFINITION. Power, supplies, reset, the system reference clock and the LPDDR5X temperature alert (R520, R649, R652–R656). -/

namespace Sys2Proof.Machine

/-- BOOT follows OFF when the levels at the pins allow it; nothing at the pins moves with it. -/
def State.released (s : State) : State := s.atPins s.tryBoot

/-- The reset that a level at the pins asks for: OFF from every mode but TERMINAL (R653). -/
def State.heldOff (s : State) : State := s.guard s.pins.powered (fun t => t.atPins t.toOff)

/-- The state without power: nothing outlasts power removal but the fuse array (chapter 23) and, outside the device, the levels
at the pins. The model's own record and counter go on. -/
def State.unpowered (s : State) : State :=
  let base := State.reset
  { base with
    pending := s.pending, freeCtr := s.freeCtr, sent := s.sent, regs := [],
    pins := { s.pins with powered := false, refreshLost := false, cascPos := 0, testMode := false },
    dev := { base.dev with mode := .off },
    sec := { base.sec with live := s.sec.live } }

/-- Power is removed: what was programming is cut short first (R530). -/
def State.powerOff (s : State) : State := ((s.endOp 5).fpgmCut).unpowered

/-- Power-on: the straps are sampled, everything else takes its reset value, and BOOT follows when its conditions hold (R584,
R652, R653, R656, R668). -/
def State.powerUp (s : State) (pos : Nat) (test : Bool) : State :=
  let u := s.unpowered
  (({ u with pins := { u.pins with powered := true, cascPos := pos % 4, testMode := test } }).strapRegs).released

/-! ## Commands -/

/-- POWER_ON: VDD_SAFE rises; the straps as they stand at the pins. -/
def execPowerOn (cascPos : Nat) (testMode : Bool) (s : State) : Host.Outcome State Fault Refusal :=
  .next (s.guard (!s.pins.powered) (fun s => s.powerUp cascPos testMode))

/-- POWER_REMOVAL ends every mode, TERMINAL among them. -/
def execPowerRemoval (s : State) : Host.Outcome State Fault Refusal := .next (s.guard s.pins.powered State.powerOff)

/-- SUPPLY_OK_FALL acts as RESET_N asserted. -/
def execSupplyOkFall (s : State) : Host.Outcome State Fault Refusal :=
  let s1 := { s with pins := { s.pins with supplyOk := false } }
  .next s1.heldOff

/-- SUPPLY_OK_RISE. -/
def execSupplyOkRise (s : State) : Host.Outcome State Fault Refusal :=
  .next ({ s with pins := { s.pins with supplyOk := true } }).released

/-- RAIL_OUT_OF_RANGE: while SUPPLY_OK is high, as its fall; the device waits for its next rise (R649). -/
def execRailOutOfRange (s : State) : Host.Outcome State Fault Refusal :=
  .next (s.guard (s.pins.powered && s.pins.supplyOk) (fun s => ({ s with pins := { s.pins with supplyOk := false } }).heldOff))

/-- RESET_N_ASSERT. -/
def execResetNAssert (s : State) : Host.Outcome State Fault Refusal :=
  let s1 := { s with pins := { s.pins with resetReleased := false } }
  .next s1.heldOff

/-- RESET_N_RELEASE. -/
def execResetNRelease (s : State) : Host.Outcome State Fault Refusal :=
  .next ({ s with pins := { s.pins with resetReleased := true } }).released

/-- REFCLK_SYS_LOSS: the device is held in OFF (R655). -/
def execRefclkSysLoss (s : State) : Host.Outcome State Fault Refusal :=
  let s1 := { s with pins := { s.pins with refclkSys := false } }
  .next s1.heldOff

/-- REFCLK_SYS_RETURN. -/
def execRefclkSysReturn (s : State) : Host.Outcome State Fault Refusal :=
  .next ({ s with pins := { s.pins with refclkSys := true } }).released

/-- LPDDR5X_TEMP_ALERT: FS_LPC_TEMP of the controller (R520). -/
def execLpddr5xTempAlert (ctl : Nat) (s : State) : Host.Outcome State Fault Refusal :=
  whenLive (fun s => s.guard (decide (ctl < 4)) (fun s => s.raise (FS.LPC_TEMP ctl))) s

end Sys2Proof.Machine
end

