-- ==== Sys2Proof/Machine/Frame.lean ====
section
/-! DEFINITION. The frame tick (R39, R478, R667) and everything that spec/ binds to it. -/

namespace Sys2Proof.Machine

/-- Every base's value is latched into QTZ_TB_TICK; TB2 and TB4 are held for the frame's records (R478, R52). -/
def State.latchTick (s : State) : State :=
  let s1 := (List.range 8).foldl (fun t b => t.putF (Reg.QTZ_TB_TICK_TICK b) (s.now b)) s
  { s1 with frame := { tb2 := s.now 2, tb4 := s.now 4, sent54 := false }, gnt := { s1.gnt with boundary := 0 } }

/-- N moves on and the frame number increments (R667). -/
def State.nextFrame (s : State) : State :=
  ({ s with qtz := { s.qtz with nextTick := nextTickAfter (s.base 4).count (s.getF Reg.QTZ_FRAME_ORG_ORG) } }).wrapInc
    Reg.QTZ_FRAME_FRAME

/-- HB changes level while the healthy state is driven (R592). -/
def State.beat (s : State) : State :=
  s.guard (s.okDriven s.mode) (fun t => t.putF Reg.FC_STAT_HB (1 - t.getF Reg.FC_STAT_HB))

/-- An accepted ENGAGE takes effect (R534). -/
def State.engageTick (s : State) : State :=
  s.guard s.dev.engagePending (fun s =>
    let s1 := { s with dev := { s.dev with engagePending := false } }
    s1.guard (s1.mode == .armed) State.enterActive)

/-- A running long operation counts its frames (R531). -/
def State.opTick (s : State) : State :=
  { s with dev := { s.dev with op := s.dev.op.map (fun o => { o with frames := o.frames + 1 }) } }

/-- A frame tick: Quartz first, then mode and window table, watch periods, Agate, Flint and the cascade. -/
def State.frameTick (s : State) : State :=
  let s1 := (s.nextFrame.latchTick.beat.opTick).engageTick
  let s2 := s1.loadWindows.wdgTick
  if s2.live then (s2.agateTick.flintTick.countBeacons).sendBeacons else s2

/-- FRAME_TICK: TB4 has reached N. -/
def execFrameTick (s : State) : Host.Outcome State Fault Refusal :=
  whenPowered (fun s => s.guard (decide (s.qtz.nextTick ≤ (s.base 4).count)) State.frameTick) s

end Sys2Proof.Machine
end

