-- ==== Sys2Proof/Machine/Clock.lean ====
section
/-! DEFINITION. What happens while no command waits: one QTZ cycle passes, and the commands that the time bases alone make due
enter the queue (the model's choice: spec/ gives the block a clock and the table no row for a cycle). -/

namespace Sys2Proof.Machine

/-- The bases' values after the cycle that wrapped in it by counting (R480). -/
def State.wraps (s old : State) : List Instr :=
  (List.range 8).filterMap (fun b => if s.now b < old.now b then some (.tbWrap b) else none)

/-- The trigger edges and pulse ends that are due (R484). -/
def State.dueTriggers (s : State) : List Instr :=
  (List.range 24).flatMap (fun o =>
    (if s.pulseEndDue o then [Instr.triggerPulseEnd o] else []) ++ (if s.edgeDue o then [Instr.triggerEdge o] else []))

/-- The watchdogs that are late, and the windows that have opened (R575). -/
def State.dueWatchdogs (s : State) : List Instr :=
  (List.range 256).flatMap (fun w =>
    if !s.wdgRuns w then []
    else if s.wdgOverdue w then [Instr.watchdogLate w]
    else if s.wdgOpenNow w && s.getF (Reg.WDG_STAT_STATE w) == 1 then [Instr.watchdogWindowOpen w] else [])

/-- The actuator outputs, loop samples and actuator frames that are due, samples in loop order (R445–R447, R464). -/
def State.dueGarnet (s : State) : List Instr :=
  if s.gntActive then
    ((List.range 64).filter (fun a => s.actState a != 0 && s.outputDue a)).map .loopOutput ++
    ((List.range 64).filter (fun i => s.loopOn i && s.sampleDue i)).map .loopSample ++
    ((List.range 32).filter (fun f => s.onF (Reg.GNT_F_CFG_EN f) && s.emitDue f)).map .actuatorFrameEmit
  else []

/-- What is due now, the frame tick first. -/
def State.due (s : State) : List Instr :=
  (if s.qtz.nextTick ≤ (s.base 4).count then [Instr.frameTick] else []) ++
  (if s.live then (if s.boundaryDue then [Instr.controlPeriodBoundary] else []) ++ s.dueGarnet ++ s.dueTriggers ++ s.dueWatchdogs
    else [])

/-- One QTZ cycle (R470). -/
def State.cycle (s : State) : State :=
  let q := s.advanceBases.qtz
  { s with qtz := { q with cycles := q.cycles + 1 } }

/-- One QTZ cycle, and what it makes due. Without power nothing counts. -/
def State.tick (s : State) : State :=
  if s.pins.powered then
    let s1 := s.cycle
    { s1 with pending := s1.pending ++ s1.wraps s ++ s1.due }
  else s

end Sys2Proof.Machine
end

