-- ==== Sys2Proof/Machine/Dispatch.lean ====
section
/-! DEFINITION. What each command does: one arm per constructor of Instr, each one call of its meaning. -/

namespace Sys2Proof.Machine

/-- The effect of a command on everything but the queue. -/
def exec (i : Instr) (s : State) : Host.Outcome State Fault Refusal :=
  match i with
  | .powerOn cascPos testMode => Sys2Proof.Machine.execPowerOn cascPos testMode s
  | .powerRemoval => Sys2Proof.Machine.execPowerRemoval s
  | .supplyOkFall => Sys2Proof.Machine.execSupplyOkFall s
  | .supplyOkRise => Sys2Proof.Machine.execSupplyOkRise s
  | .railOutOfRange => Sys2Proof.Machine.execRailOutOfRange s
  | .resetNAssert => Sys2Proof.Machine.execResetNAssert s
  | .resetNRelease => Sys2Proof.Machine.execResetNRelease s
  | .fuseSenseDone first second => Sys2Proof.Machine.execFuseSenseDone first second s
  | .romVerify imageA imageB => Sys2Proof.Machine.execRomVerify imageA imageB s
  | .firmwareLoad images hbmTrained => Sys2Proof.Machine.execFirmwareLoad images hbmTrained s
  | .memoryTraining trained density ranks2 rate testFails ageMargins history => Sys2Proof.Machine.execMemoryTraining trained density ranks2 rate testFails ageMargins history s
  | .partitionSetup owners locks writes enables advance => Sys2Proof.Machine.execPartitionSetup owners locks writes enables advance s
  | .cmdpRd page offset len check => Sys2Proof.Machine.execCmdpRd page offset len check s
  | .cmdpWr page offset words check => Sys2Proof.Machine.execCmdpWr page offset words check s
  | .cmdpStat check => Sys2Proof.Machine.execCmdpStat check s
  | .cmdpAbort request => Sys2Proof.Machine.execCmdpAbort request s
  | .arm clear => Sys2Proof.Machine.execArm clear s
  | .armNoPlan => Sys2Proof.Machine.execArmNoPlan s
  | .disarm => Sys2Proof.Machine.execDisarm s
  | .disarmFailed => Sys2Proof.Machine.execDisarmFailed s
  | .fuse pairs => Sys2Proof.Machine.execFuse pairs s
  | .quote nonce => Sys2Proof.Machine.execQuote nonce s
  | .logdump => Sys2Proof.Machine.execLogdump s
  | .selftest => Sys2Proof.Machine.execSelftest s
  | .longOpTimeout => Sys2Proof.Machine.execLongOpTimeout s
  | .engage req => Sys2Proof.Machine.execEngage req s
  | .warmReset req => Sys2Proof.Machine.execWarmReset req s
  | .hostHeartbeat req value => Sys2Proof.Machine.execHostHeartbeat req value s
  | .hbTimeout => Sys2Proof.Machine.execHbTimeout s
  | .graceExpiry => Sys2Proof.Machine.execGraceExpiry s
  | .registerWrite req addr size value => Sys2Proof.Machine.execRegisterWrite req addr size value s
  | .pcieBar0Request write addr len data => Sys2Proof.Machine.execPcieBar0Request write addr len data s
  | .pcieBar2Request write offset len data => Sys2Proof.Machine.execPcieBar2Request write offset len data s
  | .counterClear req addr value => Sys2Proof.Machine.execCounterClear req addr value s
  | .blockEnable req page => Sys2Proof.Machine.execBlockEnable req page s
  | .blockDisable req page => Sys2Proof.Machine.execBlockDisable req page s
  | .softReset req page en => Sys2Proof.Machine.execSoftReset req page en s
  | .pageLock req page en => Sys2Proof.Machine.execPageLock req page en s
  | .startSafePoint page => Sys2Proof.Machine.execStartSafePoint page s
  | .startDone page pass => Sys2Proof.Machine.execStartDone page pass s
  | .stopDone page => Sys2Proof.Machine.execStopDone page s
  | .frameTick => Sys2Proof.Machine.execFrameTick s
  | .tbWrap base => Sys2Proof.Machine.execTbWrap base s
  | .tbStep req base step => Sys2Proof.Machine.execTbStep req base step s
  | .frameOrgWrite req org => Sys2Proof.Machine.execFrameOrgWrite req org s
  | .servoSample req servo ofs => Sys2Proof.Machine.execServoSample req servo ofs s
  | .servoTimeout servo => Sys2Proof.Machine.execServoTimeout servo s
  | .tb2SelWrite req auto sel => Sys2Proof.Machine.execTb2SelWrite req auto sel s
  | .refLost => Sys2Proof.Machine.execRefLost s
  | .refRecovered => Sys2Proof.Machine.execRefRecovered s
  | .snap req => Sys2Proof.Machine.execSnap req s
  | .epochCommitTag req domain tag => Sys2Proof.Machine.execEpochCommitTag req domain tag s
  | .triggerEnable req out cfg => Sys2Proof.Machine.execTriggerEnable req out cfg s
  | .triggerEdge out => Sys2Proof.Machine.execTriggerEdge out s
  | .triggerPulseEnd out => Sys2Proof.Machine.execTriggerPulseEnd out s
  | .rearm req out => Sys2Proof.Machine.execRearm req out s
  | .captureEdge input rise => Sys2Proof.Machine.execCaptureEdge input rise s
  | .capturePop req input => Sys2Proof.Machine.execCapturePop req input s
  | .faultRaise source level ctxs => Sys2Proof.Machine.execFaultRaise source level ctxs s
  | .brokenPair source => Sys2Proof.Machine.execBrokenPair source s
  | .stickyClear req word value => Sys2Proof.Machine.execStickyClear req word value s
  | .severityWrite req word value => Sys2Proof.Machine.execSeverityWrite req word value s
  | .collectorMismatch => Sys2Proof.Machine.execCollectorMismatch s
  | .okRefreshLoss => Sys2Proof.Machine.execOkRefreshLoss s
  | .okPinMismatch => Sys2Proof.Machine.execOkPinMismatch s
  | .safeStateWprFrame => Sys2Proof.Machine.execSafeStateWprFrame s
  | .wdgKick req wdg => Sys2Proof.Machine.execWdgKick req wdg s
  | .watchdogLate wdg => Sys2Proof.Machine.execWatchdogLate wdg s
  | .watchdogEnable req wdg cfg => Sys2Proof.Machine.execWatchdogEnable req wdg cfg s
  | .chainPoll ctx => Sys2Proof.Machine.execChainPoll ctx s
  | .descriptorFetch ctx => Sys2Proof.Machine.execDescriptorFetch ctx s
  | .commitWindowEntry ctx => Sys2Proof.Machine.execCommitWindowEntry ctx s
  | .nop tile entry => Sys2Proof.Machine.execNop tile entry s
  | .load tile entry ecc => Sys2Proof.Machine.execLoad tile entry ecc s
  | .store tile entry ecc => Sys2Proof.Machine.execStore tile entry ecc s
  | .gather tile entry ecc => Sys2Proof.Machine.execGather tile entry ecc s
  | .scatter tile entry ecc => Sys2Proof.Machine.execScatter tile entry ecc s
  | .fill tile entry ecc => Sys2Proof.Machine.execFill tile entry ecc s
  | .gemm tile entry upset ecc => Sys2Proof.Machine.execGemm tile entry upset ecc s
  | .conv tile entry upset ecc => Sys2Proof.Machine.execConv tile entry upset ecc s
  | .gatherGemm tile entry upset ecc => Sys2Proof.Machine.execGatherGemm tile entry upset ecc s
  | .attnBlock tile entry upset ecc => Sys2Proof.Machine.execAttnBlock tile entry upset ecc s
  | .kvAppend tile entry ecc => Sys2Proof.Machine.execKvAppend tile entry ecc s
  | .kvShare tile entry ecc => Sys2Proof.Machine.execKvShare tile entry ecc s
  | .kvRelease tile entry ecc => Sys2Proof.Machine.execKvRelease tile entry ecc s
  | .scan tile entry upset ecc => Sys2Proof.Machine.execScan tile entry upset ecc s
  | .eltwise tile entry ecc => Sys2Proof.Machine.execEltwise tile entry ecc s
  | .reduce tile entry ecc => Sys2Proof.Machine.execReduce tile entry ecc s
  | .softmax tile entry ecc => Sys2Proof.Machine.execSoftmax tile entry ecc s
  | .norm tile entry ecc => Sys2Proof.Machine.execNorm tile entry ecc s
  | .quant tile entry ecc => Sys2Proof.Machine.execQuant tile entry ecc s
  | .dequant tile entry ecc => Sys2Proof.Machine.execDequant tile entry ecc s
  | .syncWait ctx => Sys2Proof.Machine.execSyncWait ctx s
  | .syncSignal ctx => Sys2Proof.Machine.execSyncSignal ctx s
  | .phase tile entry => Sys2Proof.Machine.execPhase tile entry s
  | .fence tile entry => Sys2Proof.Machine.execFence tile entry s
  | .link ctx => Sys2Proof.Machine.execLink ctx s
  | .commit tile => Sys2Proof.Machine.execCommit tile s
  | .killComplete tile => Sys2Proof.Machine.execKillComplete tile s
  | .scrubRead tile line ecc passDone => Sys2Proof.Machine.execScrubRead tile line ecc passDone s
  | .tileTempSample tile temp => Sys2Proof.Machine.execTileTempSample tile temp s
  | .throttleRecovery tile => Sys2Proof.Machine.execThrottleRecovery tile s
  | .tgradTimeout => Sys2Proof.Machine.execTgradTimeout s
  | .vdiffSample volts => Sys2Proof.Machine.execVdiffSample volts s
  | .clkratioDetect => Sys2Proof.Machine.execClkratioDetect s
  | .testCycleStart => Sys2Proof.Machine.execTestCycleStart s
  | .testSlotPrehold pair => Sys2Proof.Machine.execTestSlotPrehold pair s
  | .testSlotStart pair => Sys2Proof.Machine.execTestSlotStart pair s
  | .testSlotEnd pair passA passB => Sys2Proof.Machine.execTestSlotEnd pair passA passB s
  | .testSlotTimeout pair tile => Sys2Proof.Machine.execTestSlotTimeout pair tile s
  | .knownAnswerCheck source good => Sys2Proof.Machine.execKnownAnswerCheck source good s
  | .synAdd req page idx amount => Sys2Proof.Machine.execSynAdd req page idx amount s
  | .synStateWrite req obj state owner => Sys2Proof.Machine.execSynStateWrite req obj state owner s
  | .synValueWrite req obj value => Sys2Proof.Machine.execSynValueWrite req obj value s
  | .activate req part ctx => Sys2Proof.Machine.execActivate req part ctx s
  | .update req part ctx => Sys2Proof.Machine.execUpdate req part ctx s
  | .hold req part ctx => Sys2Proof.Machine.execHold req part ctx s
  | .holdDrained ctx => Sys2Proof.Machine.execHoldDrained ctx s
  | .release req part ctx => Sys2Proof.Machine.execRelease req part ctx s
  | .teardown req part ctx => Sys2Proof.Machine.execTeardown req part ctx s
  | .retire req part ctx => Sys2Proof.Machine.execRetire req part ctx s
  | .modelApply req part model => Sys2Proof.Machine.execModelApply req part model s
  | .teardownDone ctx => Sys2Proof.Machine.execTeardownDone ctx s
  | .evacuate req tile => Sys2Proof.Machine.execEvacuate req tile s
  | .admitTile req tile => Sys2Proof.Machine.execAdmitTile req tile s
  | .acctDump req => Sys2Proof.Machine.execAcctDump req s
  | .acctDumpDone => Sys2Proof.Machine.execAcctDumpDone s
  | .tileWindowStart tile phase => Sys2Proof.Machine.execTileWindowStart tile phase s
  | .contextPlace ctx => Sys2Proof.Machine.execContextPlace ctx s
  | .contextSaveDone ctx => Sys2Proof.Machine.execContextSaveDone ctx s
  | .contextRestoreDone ctx => Sys2Proof.Machine.execContextRestoreDone ctx s
  | .zeroFillDone ctx => Sys2Proof.Machine.execZeroFillDone ctx s
  | .modelLoadDone ctx => Sys2Proof.Machine.execModelLoadDone ctx s
  | .quantumExpiry tile => Sys2Proof.Machine.execQuantumExpiry tile s
  | .drainExpiry tile => Sys2Proof.Machine.execDrainExpiry tile s
  | .kvpFlPush req part tier frame page => Sys2Proof.Machine.execKvpFlPush req part tier frame page s
  | .stmEnable req stream ctrl => Sys2Proof.Machine.execStmEnable req stream ctrl s
  | .stmDisable req stream ctrl => Sys2Proof.Machine.execStmDisable req stream ctrl s
  | .stmResetWrite req stream ctrl => Sys2Proof.Machine.execStmResetWrite req stream ctrl s
  | .swapOut req stream => Sys2Proof.Machine.execSwapOut req stream s
  | .unpark req stream => Sys2Proof.Machine.execUnpark req stream s
  | .swapOutDone stream => Sys2Proof.Machine.execSwapOutDone stream s
  | .restoreDone stream => Sys2Proof.Machine.execRestoreDone stream s
  | .apply req index => Sys2Proof.Machine.execApply req index s
  | .exchangeBlockDone => Sys2Proof.Machine.execExchangeBlockDone s
  | .heatInterval => Sys2Proof.Machine.execHeatInterval s
  | .wwGo req chan => Sys2Proof.Machine.execWwGo req chan s
  | .wwStop req chan => Sys2Proof.Machine.execWwStop req chan s
  | .wwLayerStart chan => Sys2Proof.Machine.execWwLayerStart chan s
  | .wwLayerDone chan => Sys2Proof.Machine.execWwLayerDone chan s
  | .memoryRequest write addr units part port data crcError => Sys2Proof.Machine.execMemoryRequest write addr units part port data crcError s
  | .bucketRefill port => Sys2Proof.Machine.execBucketRefill port s
  | .d2dModuleFail module => Sys2Proof.Machine.execD2dModuleFail module s
  | .sampleBegin stream => Sys2Proof.Machine.execSampleBegin stream s
  | .sampleEnd stream data embedded damage => Sys2Proof.Machine.execSampleEnd stream data embedded damage s
  | .sampleDone stream sid => Sys2Proof.Machine.execSampleDone stream sid s
  | .streamEnable req stream ctrl => Sys2Proof.Machine.execStreamEnable req stream ctrl s
  | .streamDisable req stream ctrl => Sys2Proof.Machine.execStreamDisable req stream ctrl s
  | .nosignalTimeout stream => Sys2Proof.Machine.execNosignalTimeout stream s
  | .memorySampleTake stream => Sys2Proof.Machine.execMemorySampleTake stream s
  | .packGo req chan => Sys2Proof.Machine.execPackGo req chan s
  | .packStop req chan => Sys2Proof.Machine.execPackStop req chan s
  | .packRunStart chan => Sys2Proof.Machine.execPackRunStart chan s
  | .packRunDone chan => Sys2Proof.Machine.execPackRunDone chan s
  | .uartTxPush req uart data => Sys2Proof.Machine.execUartTxPush req uart data s
  | .encoderEdge chan a b z => Sys2Proof.Machine.execEncoderEdge chan a b z s
  | .tapInstruction instr data => Sys2Proof.Machine.execTapInstruction instr data s
  | .ringTake ring => Sys2Proof.Machine.execRingTake ring s
  | .agateDrain => Sys2Proof.Machine.execAgateDrain s
  | .agateCutoff => Sys2Proof.Machine.execAgateCutoff s
  | .epochCommit => Sys2Proof.Machine.execEpochCommit s
  | .transformSwapRequest req bank => Sys2Proof.Machine.execTransformSwapRequest req bank s
  | .agateRingEnable req ring cfg => Sys2Proof.Machine.execAgateRingEnable req ring cfg s
  | .sensorEnable req sensor cfg => Sys2Proof.Machine.execSensorEnable req sensor cfg s
  | .pointPacket scanner packet tcap => Sys2Proof.Machine.execPointPacket scanner packet tcap s
  | .leadTimeout => Sys2Proof.Machine.execLeadTimeout s
  | .buildStart => Sys2Proof.Machine.execBuildStart s
  | .egoWaitExpiry => Sys2Proof.Machine.execEgoWaitExpiry s
  | .buildDone => Sys2Proof.Machine.execBuildDone s
  | .jobTake ring => Sys2Proof.Machine.execJobTake ring s
  | .query job => Sys2Proof.Machine.execQuery job s
  | .rulebook job => Sys2Proof.Machine.execRulebook job s
  | .decode job => Sys2Proof.Machine.execDecode job s
  | .jobComplete job => Sys2Proof.Machine.execJobComplete job s
  | .decodePublish => Sys2Proof.Machine.execDecodePublish s
  | .slateUpdate => Sys2Proof.Machine.execSlateUpdate s
  | .keepOutSwapRequest req bank => Sys2Proof.Machine.execKeepOutSwapRequest req bank s
  | .slateInsertCutoff => Sys2Proof.Machine.execSlateInsertCutoff s
  | .slatePublish => Sys2Proof.Machine.execSlatePublish s
  | .flintOptimise => Sys2Proof.Machine.execFlintOptimise s
  | .optimiserCutoff checks => Sys2Proof.Machine.execOptimiserCutoff checks s
  | .checkCutoff => Sys2Proof.Machine.execCheckCutoff s
  | .reuseCutoff => Sys2Proof.Machine.execReuseCutoff s
  | .planHandover => Sys2Proof.Machine.execPlanHandover s
  | .leaseWrite => Sys2Proof.Machine.execLeaseWrite s
  | .wprPublish => Sys2Proof.Machine.execWprPublish s
  | .refSwap req bank => Sys2Proof.Machine.execRefSwap req bank s
  | .seedSwap req bank => Sys2Proof.Machine.execSeedSwap req bank s
  | .resume req => Sys2Proof.Machine.execResume req s
  | .controlPeriodBoundary => Sys2Proof.Machine.execControlPeriodBoundary s
  | .loopSample loop => Sys2Proof.Machine.execLoopSample loop s
  | .loopOutput act => Sys2Proof.Machine.execLoopOutput act s
  | .actuatorFrameEmit frame => Sys2Proof.Machine.execActuatorFrameEmit frame s
  | .loopEnable req loop cfg => Sys2Proof.Machine.execLoopEnable req loop cfg s
  | .recover req act => Sys2Proof.Machine.execRecover req act s
  | .manual req act manual => Sys2Proof.Machine.execManual req act manual s
  | .ethFrameReceive port frame fcsGood => Sys2Proof.Machine.execEthFrameReceive port frame fcsGood s
  | .ethFrameTransmit port cls => Sys2Proof.Machine.execEthFrameTransmit port cls s
  | .gclCycleStart port => Sys2Proof.Machine.execGclCycleStart port s
  | .gclEntryExpiry port => Sys2Proof.Machine.execGclEntryExpiry port s
  | .gclSwap req port bank => Sys2Proof.Machine.execGclSwap req port bank s
  | .ethLinkDown port => Sys2Proof.Machine.execEthLinkDown port s
  | .ethLinkUp port => Sys2Proof.Machine.execEthLinkUp port s
  | .recoveryReset rf => Sys2Proof.Machine.execRecoveryReset rf s
  | .canFrameReceive ctl frame => Sys2Proof.Machine.execCanFrameReceive ctl frame s
  | .canFrameSent ctl => Sys2Proof.Machine.execCanFrameSent ctl s
  | .canBusOff ctl => Sys2Proof.Machine.execCanBusOff ctl s
  | .canBusOffRecovery ctl => Sys2Proof.Machine.execCanBusOffRecovery ctl s
  | .canRecover req ctl => Sys2Proof.Machine.execCanRecover req ctl s
  | .canMailboxGo req ctl value => Sys2Proof.Machine.execCanMailboxGo req ctl value s
  | .pcieLinkChange up gen width => Sys2Proof.Machine.execPcieLinkChange up gen width s
  | .pcieHotReset d3hot => Sys2Proof.Machine.execPcieHotReset d3hot s
  | .pcieTlpError kind => Sys2Proof.Machine.execPcieTlpError kind s
  | .pcieEoi req vec => Sys2Proof.Machine.execPcieEoi req vec s
  | .msixUnmask req vec => Sys2Proof.Machine.execMsixUnmask req vec s
  | .odlTraining port peer => Sys2Proof.Machine.execOdlTraining port peer s
  | .odlRdReq port req => Sys2Proof.Machine.execOdlRdReq port req s
  | .odlRdData port src dst tag data err => Sys2Proof.Machine.execOdlRdData port src dst tag data err s
  | .odlWr port req data => Sys2Proof.Machine.execOdlWr port req data s
  | .odlWrMask port src dst tag mask => Sys2Proof.Machine.execOdlWrMask port src dst tag mask s
  | .odlWrAck port src dst tag err => Sys2Proof.Machine.execOdlWrAck port src dst tag err s
  | .odlTime port time rate src => Sys2Proof.Machine.execOdlTime port time rate src s
  | .odlBeacon port beacon => Sys2Proof.Machine.execOdlBeacon port beacon s
  | .odlLeave port pos => Sys2Proof.Machine.execOdlLeave port pos s
  | .flitCrcError port => Sys2Proof.Machine.execFlitCrcError port s
  | .odlLinkDown port => Sys2Proof.Machine.execOdlLinkDown port s
  | .beaconMiss pos => Sys2Proof.Machine.execBeaconMiss pos s
  | .timeSend => Sys2Proof.Machine.execTimeSend s
  | .odlRetrainTimer port => Sys2Proof.Machine.execOdlRetrainTimer port s
  | .odlRetrain req port => Sys2Proof.Machine.execOdlRetrain req port s
  | .capPeriodEnd power => Sys2Proof.Machine.execCapPeriodEnd power s
  | .capWrite req cap => Sys2Proof.Machine.execCapWrite req cap s
  | .avsRead rail good power => Sys2Proof.Machine.execAvsRead rail good power s
  | .vregFault island => Sys2Proof.Machine.execVregFault island s
  | .voltageSettled island => Sys2Proof.Machine.execVoltageSettled island s
  | .droopAlert island => Sys2Proof.Machine.execDroopAlert island s
  | .droopClear island => Sys2Proof.Machine.execDroopClear island s
  | .droopHoldExpiry island => Sys2Proof.Machine.execDroopHoldExpiry island s
  | .droopLong island => Sys2Proof.Machine.execDroopLong island s
  | .hubTempSample sensor temp => Sys2Proof.Machine.execHubTempSample sensor temp s
  | .overtempTimeout => Sys2Proof.Machine.execOvertempTimeout s
  | .ageMeasure margins => Sys2Proof.Machine.execAgeMeasure margins s
  | .ageHour => Sys2Proof.Machine.execAgeHour s
  | .secFpgm req word bits => Sys2Proof.Machine.execSecFpgm req word bits s
  | .secKeyOff req value => Sys2Proof.Machine.execSecKeyOff req value s
  | .secDebugSet req level => Sys2Proof.Machine.execSecDebugSet req level s
  | .secRgnTight req region value => Sys2Proof.Machine.execSecRgnTight req region value s
  | .longOpDone output good => Sys2Proof.Machine.execLongOpDone output good s
  | .fpgmDone good => Sys2Proof.Machine.execFpgmDone good s
  | .loopDisable req loop cfg => Sys2Proof.Machine.execLoopDisable req loop cfg s
  | .jobRingEnable req ring cfg => Sys2Proof.Machine.execJobRingEnable req ring cfg s
  | .canErrorPassive ctl => Sys2Proof.Machine.execCanErrorPassive ctl s
  | .lpddr5xTempAlert ctl => Sys2Proof.Machine.execLpddr5xTempAlert ctl s
  | .refclkSysLoss => Sys2Proof.Machine.execRefclkSysLoss s
  | .refclkSysReturn => Sys2Proof.Machine.execRefclkSysReturn s
  | .uartTxByteSent uart => Sys2Proof.Machine.execUartTxByteSent uart s
  | .faultPairInactive source => Sys2Proof.Machine.execFaultPairInactive source s
  | .watchdogWindowOpen wdg => Sys2Proof.Machine.execWatchdogWindowOpen wdg s

end Sys2Proof.Machine
end

