-- ==== Sys2Proof/Safety.lean ====
section
/-! DEFINITION. What the statements about the machine are written in: when a register write of a command is taken, and the
invariant of the mode and the pins. -/

namespace Sys2Proof.Machine

/-- Command `c`, carried out inside the device at state `s`, has the effect `u`: `exec` answers a next state, which is `u` with the
queue and the pins as they stood, and OFF and TERMINAL if the device was in them. -/
def Does (c : Instr) (s u : State) : Prop := exec c s = .next (s.inside u)

/-- A live device takes the write of word `v` to register word `a` by `req`: the access is not turned away and no check refuses
it (R76–R89, R664). -/
abbrev State.Takes (s : State) (req : Requester) (a v : Nat) : Prop :=
  s.live = true ∧ s.turnedAway req = none ∧ s.checkWord req a v = none

/-- A live device takes an 8-byte write of an atomic register (R663). -/
abbrev State.TakesWide (s : State) (req : Requester) (a v : Nat) : Prop :=
  s.live = true ∧ s.turnedAway req = none ∧ s.checkWord req a (v % 2 ^ 32) = none ∧
    s.checkWord req (a + 4) (v / 2 ^ 32 % 2 ^ 32) = none

/-- Without power a module holds nothing but its fuse array, the levels at its pins, its queue and the model's own record; and
outside OFF and TERMINAL every condition of BOOT holds (R533, R599, R652, R653, R655, R656). -/
def State.Lawful (s : State) : Prop :=
  (s.pins.powered = false → s = s.unpowered) ∧
  (s.dev.mode ≠ .off → s.dev.mode ≠ .terminal → s.bootable = true)

/-- The commands that act at the pins: power, supplies, rails, RESET_N and the system reference clock. -/
def ActsAtPins : Instr → Prop
  | .powerOn _ _ | .powerRemoval | .supplyOkFall | .supplyOkRise | .railOutOfRange | .resetNAssert | .resetNRelease
  | .refclkSysLoss | .refclkSysReturn => True
  | _ => False

/-- A fuse word as two sense passes leave it: a bit that either reads as 1 is 1 (R628). -/
def sensedWord (first second : List Nat) (w : Nat) : Nat := (first.getD w 0 ||| second.getD w 0) % 2 ^ 32

/-! ## Work on a tile's units -/

/-- What a command reads of memory outside its tile before it works: rows of LOAD and GATHER, link entries, the frames of ATTN_BLOCK
and APPEND. -/
def State.farReads (s : State) (t : Nat) (c : Cmd) : List (Nat × Nat) :=
  if c.op = 0x20 then s.attnReads t c
  else if hasKvOp 0 c then s.appendReads c
  else if hasKvOp 1 c then c.linkReads 1
  else if hasKvOp 2 c then c.linkReads (c.f 0x10 11 0)
  else s.rowReads t c

/-- Entry `i` of tile `t`'s window is command `e` of context `c` that `ok` admits, its unit is free for it, what it reads of neighbours
has arrived, and none of the errors in `ecc` that its reads meet is uncorrectable. -/
def State.Ready (s : State) (t i : Nat) (ok : Cmd → Bool) (ecc : List EccError) (c : Nat) (e : WEntry) : Prop :=
  s.live = true ∧ s.runnable t i ok = some (c, e) ∧
    (∀ r ∈ s.farReads t e.cmd, s.isNeighbour r.1 = true → s.mapped r.1 = true ∧ e.asked.contains r = true) ∧
    s.remoteBusy t e.cmd.seq = false ∧ ∀ x ∈ s.eccMet t e.cmd (s.farReads t e.cmd) ecc, x.double = false

/-- The state once a command's reads have been made: their requests wait at the memory ports, and the correctable errors that they
meet are counted and raised (R139, R143, R144, R520, R574). -/
def State.corrected (s : State) (t c : Nat) (cmd : Cmd) (ecc : List EccError) : State := s.reading t c cmd (s.farReads t cmd) ecc

/-- Command `k` completes its work: its results `f`, found in the state with correctable errors counted, are held in its window
entry. -/
def State.Works (s : State) (k : Instr) (t i : Nat) (ok : Cmd → Bool) (ecc : List EccError) (f : State → Nat → Cmd → Done × State) :
    Prop :=
  ∀ (c : Nat) (e : WEntry), s.Ready t i ok ecc c e →
    Does k s ((s.corrected t c e.cmd ecc).finish t i c e (f (s.corrected t c e.cmd ecc) c e.cmd))

/-- The commands that work on a tile's units: the tile, the window entry, the ECC errors reported, and the descriptors each admits. -/
def engineParts : Instr → Option (Nat × Nat × List EccError × (Cmd → Bool))
  | .nop t i => some (t, i, [], hasOp 0x00)
  | .load t i ecc => some (t, i, ecc, hasOp 0x01)
  | .store t i ecc => some (t, i, ecc, hasOp 0x02)
  | .gather t i ecc => some (t, i, ecc, hasOp 0x03)
  | .scatter t i ecc => some (t, i, ecc, hasOp 0x04)
  | .fill t i ecc => some (t, i, ecc, hasOp 0x05)
  | .gemm t i _ ecc => some (t, i, ecc, hasOp 0x10)
  | .conv t i _ ecc => some (t, i, ecc, hasOp 0x11)
  | .gatherGemm t i _ ecc => some (t, i, ecc, hasOp 0x12)
  | .attnBlock t i _ ecc => some (t, i, ecc, hasOp 0x20)
  | .kvAppend t i ecc => some (t, i, ecc, hasKvOp 0)
  | .kvShare t i ecc => some (t, i, ecc, hasKvOp 1)
  | .kvRelease t i ecc => some (t, i, ecc, hasKvOp 2)
  | .scan t i _ ecc => some (t, i, ecc, hasOp 0x28)
  | .eltwise t i ecc => some (t, i, ecc, hasOp 0x30)
  | .reduce t i ecc => some (t, i, ecc, hasOp 0x31)
  | .softmax t i ecc => some (t, i, ecc, hasOp 0x32)
  | .norm t i ecc => some (t, i, ecc, hasOp 0x33)
  | .quant t i ecc => some (t, i, ecc, hasOp 0x34)
  | .dequant t i ecc => some (t, i, ecc, hasOp 0x35)
  | .phase t i => some (t, i, [], hasOp 0x3A)
  | .fence t i => some (t, i, [], hasOp 0x3B)
  | _ => none

end Sys2Proof.Machine
end

