-- ==== Sys2Proof/Certificates/Slice0/Obligations.lean ====
section
/-! DEFINITION. The statements about the machine. -/

open Sys2Proof Sys2Proof.Machine

/-! ## The queue, the clock, and what every command keeps -/

/-- The command at the front of the queue is carried out with the queue's rest. -/
def Obligations.StepRunsFrontCommand : Prop :=
  ∀ (s : State) (c : Instr) (rest : List Instr), s.pending = c :: rest → step s = exec c { s with pending := rest }

/-- With no command waiting, a powered block lets one QTZ cycle pass: every time base moves on from the values before it, the
cycle count rises by one, and registers and memory stand; without power nothing counts. The step on an empty queue is the model's
choice (log entry 2). -/
def Obligations.IdleStepIsOneQuartzCycle : Prop :=
  ∀ s : State, s.pending = [] →
    (s.pins.powered = false → step s = .next s) ∧
    (s.pins.powered = true → ∃ t, step s = .next t ∧ t.qtz.cycles = s.qtz.cycles + 1 ∧ t.mem = s.mem ∧ t.regs = s.regs ∧
      t.dev = s.dev ∧ t.pins = s.pins ∧ ∀ b ∈ baseNumbers, t.base b = s.advanced b)

/-- No command ends a run, and none touches the queue: each answers a next state whose queue is the one it was given. -/
def Obligations.EveryCommandAnswersAndLeavesTheQueue : Prop :=
  ∀ (c : Instr) (s : State), ∃ t, exec c s = .next t ∧ t.pending = s.pending

/-- The model's invariant of mode, power and pins holds after power-on. -/
def Obligations.ResetIsLawful : Prop := State.reset.Lawful

/-- Every step keeps the invariant of mode, power and pins: a module without power holds nothing but its fuses, and outside OFF and
TERMINAL power, SUPPLY_OK, RESET_N and REFCLK_SYS are all there. -/
def Obligations.StepKeepsLawful : Prop :=
  ∀ s t : State, s.Lawful → step s = .next t → t.Lawful

/-- TERMINAL is left only by removing power (R599): whatever command is carried out, a device in TERMINAL is in TERMINAL after it
unless the command is POWER_REMOVAL. OFF is left only through the pins: POWER_ON, SUPPLY_OK, RESET_N or REFCLK_SYS. -/
def Obligations.OffAndTerminalAreLeftOnlyAtThePins : Prop :=
  (∀ (c : Instr) (s t : State), s.pins.powered = true → s.dev.mode = .terminal → c ≠ .powerRemoval → exec c s = .next t →
    t.dev.mode = .terminal) ∧
  (∀ (c : Instr) (s t : State), s.dev.mode = .off → ¬ ActsAtPins c → exec c s = .next t → t.dev.mode = .off)

/-- The straps and the power stand until power is removed (R656): no other command changes CASC_POS or TESTMODE as sampled. Without
power only what happens at the pins has an effect. -/
def Obligations.StrapsStandAndNothingActsWithoutPower : Prop :=
  (∀ (c : Instr) (s t : State), s.pins.powered = true → c ≠ .powerRemoval → exec c s = .next t →
    t.pins.powered = true ∧ t.pins.cascPos = s.pins.cascPos ∧ t.pins.testMode = s.pins.testMode) ∧
  (∀ (c : Instr) (s : State), s.pins.powered = false → ¬ ActsAtPins c → exec c s = .next s)

/-! ## Power, supplies, RESET_N and the system reference clock -/

/-- What power-on makes: the straps are sampled, memory and sticky bits are clear, the fuse array stands, and BOOT follows when the
levels at the pins allow it; what power removal leaves: OFF, no register and no memory. -/
def Obligations.PowerOnAndRemovalComplete : Prop :=
  (∀ (s : State) (pos : Nat) (test : Bool), s.pins.powered = false → ∃ t, exec (.powerOn pos test) s = .next t ∧
    t.pins.powered = true ∧ t.pins.cascPos = pos % 4 ∧ t.pins.testMode = test ∧ t.mem = [] ∧ t.sec.live = s.sec.live ∧
    (∀ n < 1024, t.getF (stickyFld n) = 0) ∧
    t.dev.mode = (if s.pins.supplyOk && s.pins.resetReleased && s.pins.refclkSys && !test then .boot else .off)) ∧
  (∀ s : State, s.pins.powered = true → ∃ t, exec .powerRemoval s = .next t ∧ t.pins.powered = false ∧ t.dev.mode = .off ∧
    t.mem = [] ∧ t.regs = [] ∧ t.sec.sensed = [])

/-- SUPPLY_OK falling, a rail out of range, RESET_N asserted and the loss of REFCLK_SYS take a device to OFF from every mode but
TERMINAL, which only notes the level; memory outlasts it. SUPPLY_OK rising, RESET_N released and the return of REFCLK_SYS: from OFF the
device enters BOOT when it was the last condition of BOOT that lacked and no source is raised or broken, and otherwise only the level is
noted. -/
def Obligations.LevelsAtThePinsHoldOffAndReleaseBoot : Prop :=
  (∀ s : State, s.pins.powered = true →
    (∃ t, exec .supplyOkFall s = .next t ∧ t.pins.supplyOk = false ∧ t.mem = s.mem ∧
      (s.dev.mode ≠ .terminal → t.dev.mode = .off) ∧ (s.dev.mode = .terminal → t.regs = s.regs ∧ t.dev = s.dev)) ∧
    (s.pins.supplyOk = true → ∃ t, exec .railOutOfRange s = .next t ∧ t.pins.supplyOk = false ∧ t.mem = s.mem ∧
      (s.dev.mode ≠ .terminal → t.dev.mode = .off) ∧ (s.dev.mode = .terminal → t.regs = s.regs ∧ t.dev = s.dev)) ∧
    (∃ t, exec .resetNAssert s = .next t ∧ t.pins.resetReleased = false ∧ t.mem = s.mem ∧
      (s.dev.mode ≠ .terminal → t.dev.mode = .off) ∧ (s.dev.mode = .terminal → t.regs = s.regs ∧ t.dev = s.dev)) ∧
    (∃ t, exec .refclkSysLoss s = .next t ∧ t.pins.refclkSys = false ∧ t.mem = s.mem ∧
      (s.dev.mode ≠ .terminal → t.dev.mode = .off) ∧ (s.dev.mode = .terminal → t.regs = s.regs ∧ t.dev = s.dev))) ∧
  (∀ (c : Instr) (s u : State),
    (c = .supplyOkRise ∧ u = { s with pins := { s.pins with supplyOk := true } } ∨
     c = .resetNRelease ∧ u = { s with pins := { s.pins with resetReleased := true } } ∨
     c = .refclkSysReturn ∧ u = { s with pins := { s.pins with refclkSys := true } }) →
    (s.dev.mode = .off → u.bootable = true → s.fc.raised = [] → s.fc.broken = [] → ∃ t, exec c s = .next t ∧
      t.dev.mode = .boot ∧ t.pins = u.pins ∧ t.mem = s.mem) ∧
    (s.dev.mode ≠ .off ∨ u.bootable = false → exec c s = .next u))

/-- RESET_N asserted keeps every sticky bit, Quartz's frame number and counts, and what is raised or broken but for tiles whose fence it
releases (R598, R653, R668). -/
def Obligations.ResetKeepsStickyBits : Prop :=
  ∀ s t : State, s.pins.powered = true → exec .resetNAssert s = .next t →
    (∀ n < 1024, t.getF (stickyFld n) = s.getF (stickyFld n)) ∧
    t.getF Reg.QTZ_FRAME_FRAME = s.getF Reg.QTZ_FRAME_FRAME ∧ (∀ b, (t.base b).count = (s.base b).count) ∧
    t.fc.broken = s.fc.broken

/-! ## Boot -/

/-- Boot stages 0 to 2: the fuses as sensed are the OR of the two passes and stage 0 is complete when their CRC is right; the ROM boots
the slot of the higher verified version, slot A on a tie, or fails the boot; the firmware load completes stage 2 when every image
verifies and HBM3 is trained, or fails the boot. -/
def Obligations.BootStagesZeroToTwoComplete : Prop :=
  (∀ (s : State) (first second : List Nat), s.live = true → s.atStage 0 = true →
    crc32 ((List.range 71).flatMap (fun w => leBytes 4 (sensedWord first second w))) = sensedWord first second 71 →
    ∃ t, exec (.fuseSenseDone first second) s = .next t ∧ t.dev.bootStage = 1 ∧ t.dev.mode = .boot ∧ t.mem = s.mem ∧
      ∀ w < 512, t.fuse w = sensedWord first second w) ∧
  (∀ (s : State) (a b : ImageCheck), s.live = true → s.atStage 1 = true → s.lifecycle ≠ 3 →
    (s.imageReason 0 a = 0 ∨ s.imageReason 0 b = 0) →
    ∃ t, exec (.romVerify a b) s = .next t ∧ t.dev.bootStage = 2 ∧ t.mem = s.mem ∧
      t.onF Reg.SEC_BOOT_SLOT = bootsB (s.imageReason 0 a) (s.imageReason 0 b) a b) ∧
  (∀ (s : State) (a b : ImageCheck), s.live = true → s.atStage 1 = true → s.lifecycle ≠ 3 →
    s.imageReason 0 a ≠ 0 → s.imageReason 0 b ≠ 0 →
    ∃ t, exec (.romVerify a b) s = .next t ∧ t.dev.bootStage = 1 ∧ t.onF Reg.DEV_MODE_BOOT_FAIL = true ∧ t.dev.mode = .boot ∧
      t.getF Reg.SEC_BOOT_REASON_A = s.imageReason 0 a % 16 ∧ t.getF Reg.SEC_BOOT_REASON_B = s.imageReason 0 b % 16) ∧
  (∀ (s : State) (images : List ImageCheck), s.live = true → s.atStage 2 = true →
    (∀ k ∈ [1, 2, 3, 4, 5, 6], ∃ i ∈ images, i.kind = k ∧ s.imageReason k i = 0) →
    ∃ t, exec (.firmwareLoad images true) s = .next t ∧ t.dev.bootStage = 3 ∧ t.mem = s.mem) ∧
  (∀ (s : State) (images : List ImageCheck) (hbm : Bool), s.live = true → s.atStage 2 = true →
    (hbm = false ∨ ∃ k ∈ [1, 2, 3, 4, 5, 6], ∀ i ∈ images, i.kind = k → s.imageReason k i ≠ 0) →
    ∃ t, exec (.firmwareLoad images hbm) s = .next t ∧ t.dev.bootStage = 2 ∧ t.onF Reg.DEV_MODE_BOOT_FAIL = true)

/-- Boot stages 3 and 4: training fixes the LPDDR5X capacity from density, ranks and the channels trained; partition setup ends in
READY. -/
def Obligations.BootStagesThreeAndFourComplete : Prop :=
  (∀ (s : State) (trained density : Nat) (ranks2 : Bool) (rate testFails : Nat) (margins : List Nat)
      (history : Option (Nat × Nat × Nat)), s.live = true → s.atStage 3 = true →
    Does (.memoryTraining trained density ranks2 rate testFails margins history) s
      (s.stage3 trained density ranks2 rate testFails margins history)) ∧
  (∀ (s : State) (density : Nat) (ranks2 : Bool) (rate : Nat) (margins : List Nat) (history : Option (Nat × Nat × Nat)),
    s.live = true → s.atStage 3 = true →
    ∃ t, exec (.memoryTraining 0xFFFF density ranks2 rate 0 margins history) s = .next t ∧ t.dev.bootStage = 4 ∧
      t.tier.lpdBytes = 16 * (1 + b2n ranks2) * density * 2 ^ 30 / 8 ∧ t.mem = s.mem) ∧
  (∀ (s : State) (owners : List (Nat × Nat)) (locks : List Nat) (writes : List (Nat × Nat)) (enables : List Nat)
      (advance : List (Nat × Nat)), s.live = true → s.atStage 4 = true →
    Does (.partitionSetup owners locks writes enables advance) s (s.stage4 owners locks writes enables advance)) ∧
  (∀ s : State, s.live = true → s.atStage 4 = true → (∀ i ∈ s.sec.images, i.2.2 = false) →
    ∃ t, exec (.partitionSetup [] [] [] [] []) s = .next t ∧ t.dev.bootStage = 5 ∧ t.dev.mode = .ready ∧ t.mem = s.mem)

/-! ## The command port and the long operations -/

/-- The command port: a good read answers the words, a good STAT the mode and the operation, a write goes word by word; a bad CRC and
a bad command answer their status and change nothing but the count; an aborted transaction is counted. -/
def Obligations.CommandPortAnswers : Prop :=
  (∀ (s : State) (page offset len : Nat), s.live = true → s.turnedAway .cmdp = none → page < 0x10000 → offset % 4 = 0 →
    len < 16 → offset + 4 * (len + 1) ≤ 0x1000 → cmdpPage page = true →
    Does (.cmdpRd page offset len .good) s (s.respond .cmdp 0 (s.readRun (0x1000 * page + offset) 4 (len + 1)))) ∧
  (∀ (s : State) (page offset : Nat) (words : List Nat), s.live = true → s.turnedAway .cmdp = none → page < 0x10000 →
    offset % 4 = 0 → 1 ≤ words.length → words.length ≤ 16 → offset + 4 * words.length ≤ 0x1000 →
    0x1000 * page + offset ≠ Reg.ING_CMDP_MSG 0 →
    Does (.cmdpWr page offset words .good) s (State.conclude .cmdp (s.writeAll .cmdp
      (((List.range words.length).zip words).map (fun e => (0x1000 * page + offset + 4 * e.1, false, e.2 % 2 ^ 32)))))) ∧
  (∀ s : State, s.live = true → s.turnedAway .cmdp = none →
    Does (.cmdpStat .good) s (s.respond .cmdp 0 [s.readWord Reg.DEV_MODE, s.readWord Reg.DEV_OP])) ∧
  (∀ s : State, s.live = true →
    Does (.cmdpStat .badCrc) s ((s.satInc Reg.DEV_CMDP_CNT_CRCERR).respond .cmdp 3 []) ∧
    Does (.cmdpStat .badCmd) s (s.respond .cmdp 4 []) ∧
    ∃ t, exec (.cmdpAbort none) s = .next t ∧ t.getF Reg.DEV_CMDP_CNT_ABORTS = min (s.getF Reg.DEV_CMDP_CNT_ABORTS + 1) 255 ∧
      t.mem = s.mem ∧ t.dev = s.dev)

/-- While a long operation runs, every transaction of the command port is answered BUSY, counted, and has no other effect (R529). -/
def Obligations.PortIsBusyWhileAnOperationRuns : Prop :=
  ∀ (s : State) (c : Instr), s.live = true → s.dev.op.isSome = true →
    (c = .cmdpStat .good ∨ c = .disarm ∨ c = .logdump ∨ c = .selftest ∨ (∃ x, c = .arm x) ∨ (∃ x, c = .fuse x) ∨ (∃ x, c = .quote x) ∨
      (∃ page offset len, c = .cmdpRd page offset len .good ∧ page < 0x10000 ∧ offset < 0x1000 ∧ len < 16)) →
    Does c s ((s.satInc Reg.DEV_CMDP_CNT_BUSYS).respond .cmdp 1 [])

/-- A long operation that mode and lifecycle permit starts: ARM with its checks met locks its pages and waits for a plan, FUSE with
pairs that pass programs, QUOTE with a leaf at hand signs, LOGDUMP captures, SELFTEST waits for the next test cycle; one that they
forbid answers DENIED and changes nothing else. -/
def Obligations.LongOperationsStart : Prop :=
  (∀ (s : State) (clear : Nat), s.live = true → s.dev.op = none → s.opAllowed 1 = true → s.armReady = true →
    ∃ t, exec (.arm clear) s = .next t ∧ t.opIs 1 = true ∧ t.dev.mode = s.dev.mode ∧ t.mem = s.mem ∧
      (∀ p ∈ s.armLocks, t.locked p = true)) ∧
  (∀ (s : State) (clear : Nat), s.live = true → s.dev.op = none → s.opAllowed 1 = true → s.armReady = false →
    ∃ t, exec (.arm clear) s = .next t ∧ t.dev.op = none ∧ t.getF Reg.DEV_OP_RESULT = 1) ∧
  (∀ s : State, s.live = true → s.dev.op = none → s.opAllowed 2 = true → Does .disarm s s.doDisarm) ∧
  (∀ (s : State) (pairs : List (Nat × Nat)), s.live = true → s.dev.op = none → s.opAllowed 3 = true →
    s.fusePairsOk (pairs.take 8) = true → ∃ t, exec (.fuse pairs) s = .next t ∧ t.opIs 3 = true ∧ t.mem = s.mem ∧
      t.sec.live = s.sec.live) ∧
  (∀ (s : State) (nonce : List Byte), s.live = true → s.dev.op = none → s.opAllowed 4 = true → s.sec.block.isSome = true →
    s.sec.used < 64 → ∃ t, exec (.quote nonce) s = .next t ∧ t.opIs 4 = true ∧ t.mem = s.mem) ∧
  (∀ s : State, s.live = true → s.dev.op = none → s.opAllowed 5 = true → ∃ t, exec .logdump s = .next t ∧ t.opIs 5 = true ∧
      t.mem = s.mem) ∧
  (∀ s : State, s.live = true → s.dev.op = none → s.opAllowed 6 = true → ∃ t, exec .selftest s = .next t ∧ t.opIs 6 = true ∧
      t.test.selftest = 1 ∧ t.mem = s.mem) ∧
  (∀ (s : State) (c : Instr) (k : Nat), s.live = true → s.dev.op = none → s.opAllowed k = false →
    (k = 2 ∧ c = .disarm ∨ k = 5 ∧ c = .logdump ∨ k = 6 ∧ c = .selftest ∨ (k = 1 ∧ ∃ x, c = .arm x) ∨ (k = 3 ∧ ∃ x, c = .fuse x) ∨
      (k = 4 ∧ ∃ x, c = .quote x)) → Does c s (s.respond .cmdp 5 []))

/-- A long operation ends: ARM without a plan after ten frames with NO_PLAN, an overdue one with TIMEOUT, DISARM that fails with SAFE,
and FUSE, QUOTE and LOGDUMP by themselves. -/
def Obligations.LongOperationsEnd : Prop :=
  (∀ (s : State) (o : LongOp), s.live = true → s.dev.op = some o → o.code = 1 → 10 ≤ o.frames →
    ∃ t, exec .armNoPlan s = .next t ∧ t.dev.op = none ∧ t.getF Reg.DEV_OP_RESULT = 2 ∧ t.mem = s.mem ∧
      t.dev.mode = s.dev.mode) ∧
  (∀ (s : State) (o : LongOp), s.live = true → s.dev.op = some o →
    ∃ t, exec .longOpTimeout s = .next t ∧ t.dev.op = none ∧ t.getF Reg.DEV_OP_RESULT = 4 ∧ t.getF Reg.DEV_OP_RUNNING = 0 ∧
      t.mem = s.mem ∧ t.dev.mode = s.dev.mode) ∧
  (∀ s : State, s.live = true → s.opIs 2 = true →
    Does .disarmFailed s (((s.endOp 3).raise FS.DEV_DISARM).enterSafe)) ∧
  (∀ (s : State) (o : LongOp) (output : List Byte) (good : Bool), s.live = true → s.dev.op = some o →
    (o.code = 3 ∨ o.code = 4 ∨ o.code = 5) →
    ∃ t, exec (.longOpDone output good) s = .next t ∧ t.dev.op = none ∧ t.mem = s.mem ∧ t.dev.mode = s.dev.mode)

/-- A programmed fuse bit never returns to 0 (R628): the end of a long operation, of a SEC_FPGM write and of a timeout leave every
bit of the array that was 1 at 1. -/
def Obligations.FuseBitsNeverClear : Prop :=
  ∀ (s t : State) (c : Instr) (w i : Nat),
    ((∃ o g, c = .longOpDone o g) ∨ (∃ g, c = .fpgmDone g) ∨ c = .longOpTimeout ∨ c = .resetNAssert ∨ c = .powerRemoval) →
    exec c s = .next t → (s.fuseLive w).testBit i = true → (t.fuseLive w).testBit i = true

/-! ## Modes and the host -/

/-- ENGAGE, WARM_RESET, the heartbeat and the host's loss. -/
def Obligations.ModeCommandsComplete : Prop :=
  (∀ (s : State) (req : Requester), s.Takes req Reg.DEV_MODECMD 0x10000000 → s.dev.mode = .armed →
    s.onF Reg.DEV_MODE_HOST_LOST = false → s.dev.lastWpr.valid = true →
    ∃ t, exec (.engage req) s = .next t ∧ t.dev.engagePending = true ∧ t.onF Reg.DEV_MODE_ENG_REFUSED = false ∧
      t.dev.mode = .armed ∧ t.mem = s.mem) ∧
  (∀ (s : State) (req : Requester), s.Takes req Reg.DEV_MODECMD 0x10000000 →
    (s.dev.mode ≠ .armed ∨ s.onF Reg.DEV_MODE_HOST_LOST = true ∨ s.dev.lastWpr.valid = false) →
    ∃ t, exec (.engage req) s = .next t ∧ t.dev.engagePending = s.dev.engagePending ∧
      t.onF Reg.DEV_MODE_ENG_REFUSED = true ∧ t.dev.mode = s.dev.mode) ∧
  (∀ (s : State) (req : Requester), s.Takes req Reg.DEV_MODECMD 0x20000000 → s.dev.mode = .safe → s.fcSumCrit = 0 →
    Does (.warmReset req) s (s.deviceReset.tryBoot.respond req 0 [])) ∧
  (∀ (s : State) (req : Requester), s.Takes req Reg.DEV_MODECMD 0x20000000 → s.dev.mode = .safe → s.fcSumCrit ≠ 0 →
    ∃ t, exec (.warmReset req) s = .next t ∧ t.dev.mode = .safe ∧ t.onF Reg.FC_STAT_WR_REFUSED = true ∧ t.mem = s.mem) ∧
  (∀ (s : State) (req : Requester), s.Takes req Reg.DEV_MODECMD 0x20000000 → s.dev.mode ≠ .safe →
    Does (.warmReset req) s (s.respond req 0 [])) ∧
  (∀ (s : State) (req : Requester) (v : Nat), s.Takes req Reg.DEV_HOST_HB (v % 2 ^ 32) → s.dev.mode ≠ .boot →
    s.onF Reg.DEV_MODE_HOST_LOST = false →
    ∃ t, exec (.hostHeartbeat req v) s = .next t ∧ t.dev.hbSince = s.qtz.cycles ∧ t.regs = s.regs ∧ t.mem = s.mem) ∧
  (∀ s : State, s.live = true → Does .hbTimeout s s.loseHost) ∧
  (∀ s : State, s.live = true → s.dev.graceSince.isSome = true →
    ∃ t, exec .graceExpiry s = .next t ∧ t.dev.graceSince = none ∧ t.flt.grace = true ∧ t.onF Reg.DEV_GRACE_EXPIRED = true ∧
      t.getF Reg.DEV_GRACE_LEFT = 0 ∧ t.mem = s.mem)

/-! ## Register access and blocks -/

/-- A register write, a BAR0 request and a BAR2 request: what a request that is not turned away does. -/
def Obligations.RegisterAccessesComplete : Prop :=
  (∀ (s : State) (req : Requester) (addr size value : Nat), s.live = true → s.turnedAway req = none → addr < 0x10000000 →
    ¬ (req = .cmdp ∧ size = 4) → sizeOk addr size = true →
    Does (.registerWrite req addr size value) s (State.conclude req (s.writeAll req (s.writePieces addr size value)))) ∧
  (∀ (s : State) (req : Requester) (addr size value : Nat), s.live = true → s.turnedAway req = none → addr < 0x10000000 →
    ¬ (req = .cmdp ∧ size = 4) → sizeOk addr size = false →
    Does (.registerWrite req addr size value) s (s.refuse req .size)) ∧
  (∀ (s : State) (addr value : Nat), s.live = true → s.turnedAway .cmdp = none → addr < 0x10000000 →
    Does (.registerWrite .cmdp addr 4 value) s (s.portWrite addr [value % 2 ^ 32])) ∧
  (∀ (s : State) (a n : Nat) (data : List Byte), s.live = true → s.turnedAway .pcie = none → 0 < n → n ≤ 64 →
    a + n ≤ 0x10000000 → (∀ x ∈ bar0Accesses a n, readSizeOk x.1 x.2 = true ∧ s.readRefused .pcie (x.1 / 0x1000) = false) →
    Does (.pcieBar0Request false a n data) s (s.respond .pcie 0 (s.readBytes a n))) ∧
  (∀ (s : State) (a n : Nat) (data : List Byte), s.live = true → s.turnedAway .pcie = none → 0 < n → n ≤ 64 →
    a + n ≤ 0x10000000 → (∀ x ∈ bar0Accesses a n, sizeOk x.1 x.2 = true) →
    Does (.pcieBar0Request true a n data) s (State.conclude .pcie (s.writeAll .pcie
      ((bar0Accesses a n).flatMap (fun x => s.writePieces x.1 x.2 (leField (padTo n data) (x.1 - a) x.2)))))) ∧
  (∀ (s : State) (write : Bool) (o n : Nat) (data : List Byte) (c : Cause), s.live = true →
    s.turnedAway .pcie = none → 0 < n → s.bar2Refused write (s.getF Reg.PCIE_WIN_WIN * 2 ^ 36 + o % 2 ^ 36) n = some c →
    Does (.pcieBar2Request write o n data) s (s.refuse .pcie c)) ∧
  (∀ (s : State) (o n A : Nat) (data : List Byte), s.live = true → s.turnedAway .pcie = none → 0 < n →
    A = s.getF Reg.PCIE_WIN_WIN * 2 ^ 36 + o % 2 ^ 36 → s.bar2Refused false A n = none → s.isNeighbour A = false →
    Does (.pcieBar2Request false o n data) s
      (((s.readsFind [(s.canon A, n)]).traffic pciePort (s.getF Reg.PCIE_WIN_PART) false A n).respond .pcie 0
        ((s.fetch A n).map (fun b => b.toNat)))) ∧
  (∀ (s : State) (o n : Nat) (data : List Byte), s.live = true → s.turnedAway .pcie = none → 0 < n →
    s.bar2Refused true (s.getF Reg.PCIE_WIN_WIN * 2 ^ 36 + o % 2 ^ 36) n = none →
    Does (.pcieBar2Request true o n data) s (s.bar2 true o n data))

/-- A register write leaves every bit that no writable field holds as it was: read-only bits and unimplemented bits stand, and so do
fields whose new value is illegal (R83, R84). -/
def Obligations.ReadOnlyBitsStand : Prop :=
  ∀ (s : State) (a v i : Nat), i < 32 →
    (match findRow a with | some (r, _, _, _, w) => (r.mask w [.rw, .rwl, .w1c, .w1s]).testBit i = false | none => True) →
    ((s.applyWord a v).reg a).toNat.testBit i = (s.reg a).toNat.testBit i

/-- Block commands: an OFF block that is enabled is STARTING, a STARTING one that is disabled has its stop pending, a RUNNING one begins
its stop, a locked page reads LOCK = 1; a written clear zeroes its counters; start and stop end as R70 says. -/
def Obligations.BlockCommandsComplete : Prop :=
  (∀ (s : State) (req : Requester) (p : Nat), s.Takes req (ctrlWord p) 1 → instPage p = p → alwaysOn p = false →
    (s.block p).state = .off → ∃ t, exec (.blockEnable req p) s = .next t ∧ (t.block p).state = .starting ∧
      (t.block p).en = true ∧ t.regs = s.regs ∧ t.mem = s.mem) ∧
  (∀ (s : State) (req : Requester) (p : Nat), s.Takes req (ctrlWord p) 0 → instPage p = p → alwaysOn p = false →
    (s.block p).state = .starting → ∃ t, exec (.blockDisable req p) s = .next t ∧ (t.block p).state = .starting ∧
      (t.block p).stopPending = true ∧ t.regs = s.regs ∧ t.mem = s.mem) ∧
  (∀ (s : State) (req : Requester) (p : Nat), s.Takes req (ctrlWord p) 0 → instPage p = p → alwaysOn p = false →
    (s.block p).state = .running →
    Does (.blockDisable req p) s (((s.setBlock p { s.block p with en := false }).beginStop p).respond req 0 [])) ∧
  (∀ (s : State) (req : Requester) (p : Nat) (en : Bool), s.Takes req (ctrlWord p) (0x10 + b2n en) → instPage p = p →
    alwaysOn p = false → Does (.softReset req p en) s (((s.softReset p).writeEn p en).respond req 0 [])) ∧
  (∀ (s : State) (req : Requester) (p : Nat) (en : Bool), s.Takes req (ctrlWord p) (0x100 + b2n en) →
    alwaysOn p = true ∨ instPage p ≠ p → ∃ t, exec (.pageLock req p en) s = .next t ∧ t.locked p = true ∧
      t.blocks = s.blocks ∧ t.mem = s.mem) ∧
  (∀ (s : State) (req : Requester) (p : Nat) (en : Bool), s.Takes req (ctrlWord p) (0x100 + b2n en) → instPage p = p →
    alwaysOn p = false →
    Does (.pageLock req p en) s (((s.putF (Reg.PG_CTRL_LOCK p) 1).writeEn p en).respond req 0 [])) ∧
  (∀ (s : State) (req : Requester) (addr v b n : Nat), s.Takes req addr (v % 2 ^ 32) → isTileClear addr = false →
    clearedBy addr = some (b, n) → v % 2 = 1 →
    ∃ t, exec (.counterClear req addr v) s = .next t ∧ (∀ i < n, t.reg (b + 4 * i) = 0) ∧ t.mem = s.mem ∧
      ∀ a, (∀ i < n, a ≠ b + 4 * i) → t.reg a = s.reg a) ∧
  (∀ (s : State) (p : Nat), s.live = true → s.blockState p = .starting → (s.block p).safePassed = false →
    Does (.startSafePoint p) s (s.safePoint p none)) ∧
  (∀ (s : State) (p : Nat) (pass : Bool), s.live = true → s.blockState p = .starting → (s.block p).safePassed = true →
    Does (.startDone p pass) s (s.startEnd p pass)) ∧
  (∀ (s : State) (p : Nat), s.live = true → s.blockState p = .stopping → s.stopReady p = true →
    Does (.stopDone p) s (s.stopEnd p))

/-! ## Quartz -/

/-- The commands on the time bases: a wrap counts in GEN, a step moves its base by the signed amount, FRAME_ORG moves the next tick, SNAP
latches every base with the frame number, and a committed epoch holds the second, the nanoseconds and the tag. A servo that times out is
LOST with its run at 0; a selected source is followed on position 0; the system reference's loss and return show in QTZ_STAT. -/
def Obligations.TimeBaseAndServoCommandsComplete : Prop :=
  (∀ (s : State) (b : Nat), s.pins.powered = true → b < 8 → ∃ t, exec (.tbWrap b) s = .next t ∧
    t.getF (Reg.QTZ_TB_GEN_GEN b) = (s.getF (Reg.QTZ_TB_GEN_GEN b) + 1) % 2 ^ 16 ∧ t.qtz = s.qtz ∧ t.mem = s.mem ∧ t.dev = s.dev) ∧
  (∀ (s : State) (req : Requester) (b v : Nat), b < 8 → s.Takes req (Reg.QTZ_TB_STEP b) (v % 2 ^ 32) →
    ∃ t, exec (.tbStep req b v) s = .next t ∧ (t.base b).count = toBits 64 ((s.base b).count + signed 32 v) ∧
      (t.base b).frac = (s.base b).frac ∧ t.getF (Reg.QTZ_TB_GEN_GEN b) = (s.getF (Reg.QTZ_TB_GEN_GEN b) + 1) % 2 ^ 16 ∧
      (∀ k, k ≠ b → t.base k = s.base k) ∧ t.mem = s.mem) ∧
  (∀ (s : State) (req : Requester) (v : Nat), s.Takes req Reg.QTZ_FRAME_ORG (v % 2 ^ 32) → bits v 19 0 ≤ 999999 →
    ∃ t, exec (.frameOrgWrite req v) s = .next t ∧ t.getF Reg.QTZ_FRAME_ORG_ORG = bits v 19 0 ∧
      t.qtz.nextTick % 1000000 = bits v 19 0 ∧ (s.base 4).count < t.qtz.nextTick ∧
      t.qtz.nextTick ≤ (s.base 4).count + 1000000 ∧ t.getF Reg.QTZ_FRAME_FRAME = s.getF Reg.QTZ_FRAME_FRAME) ∧
  (∀ (s : State) (req : Requester) (v : Nat), s.Takes req Reg.QTZ_FRAME_ORG (v % 2 ^ 32) → 999999 < bits v 19 0 →
    Does (.frameOrgWrite req v) s (s.respond req 0 [])) ∧
  (∀ (s : State) (req : Requester), s.Takes req Reg.QTZ_SNAP 1 → ∃ t, exec (.snap req) s = .next t ∧
    (∀ b < 8, t.getF (Reg.QTZ_TB_SNAP_SNAP b) = s.now b) ∧ t.getF Reg.QTZ_SNAP_FRAME_FRAME = s.getF Reg.QTZ_FRAME_FRAME ∧
    t.qtz = s.qtz ∧ t.mem = s.mem) ∧
  (∀ (s : State) (req : Requester) (d tag : Nat), d < 2 → s.Takes req (Reg.QTZ_EPOCH_TAG d) (tag % 2 ^ 32) →
    ∃ t, exec (.epochCommitTag req d tag) s = .next t ∧
      Sparse.get (fun _ => ({} : Epoch)) t.qtz.epochs d =
        { sec := s.getF (Reg.QTZ_EPOCH_SEC_SEC d), ns := s.getF (Reg.QTZ_EPOCH_NS_NS d), tag := bits tag 15 0 } ∧ t.mem = s.mem) ∧
  (∀ (s : State) (req : Requester) (d v : Nat), d < 2 → s.Takes req (Reg.QTZ_SV_OFS d) (v % 2 ^ 32) →
    Does (.servoSample req d v) s ((s.servoSample d (signed 32 v)).respond req 0 [])) ∧
  (∀ (s : State) (d : Nat), s.pins.powered = true → d < 2 →
    Does (.servoTimeout d) s ((s.setServo d { s.servo d with run := 0 }).servoState d 0)) ∧
  (∀ (s : State) (req : Requester) (auto : Bool) (sel : Nat), s.Takes req Reg.QTZ_TB2_SEL (b2n auto * 2 ^ 31 + sel) →
    s.pins.cascPos = 0 → sel < 2 → ∃ t, exec (.tb2SelWrite req auto sel) s = .next t ∧
      t.getF Reg.QTZ_STAT_TB2_SRC = sel ∧ t.mem = s.mem ∧ t.qtz = s.qtz) ∧
  (∀ s : State, s.live = true → s.onF Reg.QTZ_STAT_REF_LOST = false →
    Does .refLost s ((s.putF Reg.QTZ_STAT_REF_LOST 1).raise FS.QTZ_REF)) ∧
  (∀ s : State, s.pins.powered = true → ∃ t, exec .refRecovered s = .next t ∧ t.onF Reg.QTZ_STAT_REF_LOST = false ∧
    t.mem = s.mem ∧ t.qtz = s.qtz)

/-- A servo sample that is no step moves the integrator by o × 2^KI_SH and sets the held rate to the integrator plus o × 2^KP_SH, both
saturated to 32 bits (R474), while the servo's state does not change. -/
def Obligations.ServoIntegratesItsSample : Prop :=
  ∀ (s : State) (d : Nat) (o : Int), d < 2 → s.getF (Reg.QTZ_SV_STEP_STEP_NS d) = 0 → s.getF (Reg.QTZ_SV_STAT_STATE d) = 1 →
    (s.servo d).run < 7 →
    ((s.servoSample d o).base d).held = sat32 (sat32 (signed 32 (s.getF (Reg.QTZ_SV_INT_I d)) + o * 2 ^ s.getF (Reg.QTZ_SV_CFG_KI_SH d)) +
      o * 2 ^ s.getF (Reg.QTZ_SV_CFG_KP_SH d)) ∧
    signed 32 ((s.servoSample d o).getF (Reg.QTZ_SV_INT_I d)) =
      sat32 (signed 32 (s.getF (Reg.QTZ_SV_INT_I d)) + o * 2 ^ s.getF (Reg.QTZ_SV_CFG_KI_SH d)) ∧
    ((s.servoSample d o).base d).count = (s.base d).count

/-- Triggers and captures: an enabled output is scheduled or refused, a due edge starts its pulse and counts unless a re-arm suppressed
it, a pulse ends, a captured edge joins its FIFO while there is room, and a pop removes the oldest. -/
def Obligations.TriggerAndCaptureCommandsComplete : Prop :=
  (∀ (s : State) (req : Requester) (o v : Nat), o < 24 → s.Takes req (Reg.QTZ_TR_CFG o) (setBits (v % 2 ^ 32) 31 31 1) →
    s.onF (Reg.QTZ_TR_CFG_EN o) = false →
    Does (.triggerEnable req o v) s
      (((s.applyWord (Reg.QTZ_TR_CFG o) (setBits (v % 2 ^ 32) 31 31 1)).trigStart o).respond req 0 [])) ∧
  (∀ (s : State) (o : Nat), s.live = true → o < 24 → s.edgeDue o = true → (s.trigger o).suppress = false →
    ∃ t, exec (.triggerEdge o) s = .next t ∧ t.onF (Reg.QTZ_TR_STAT_ACTIVE o) = true ∧
      t.getF (Reg.QTZ_TR_STAT_EDGES o) = (s.getF (Reg.QTZ_TR_STAT_EDGES o) + 1) % 2 ^ 16 ∧
      (t.trigger o).next = (s.trigger o).next + 1 ∧ (t.trigger o).level = s.trigLevel o true ∧ t.mem = s.mem) ∧
  (∀ (s : State) (o : Nat), s.live = true → o < 24 → s.edgeDue o = true → (s.trigger o).suppress = true →
    ∃ t, exec (.triggerEdge o) s = .next t ∧ (t.trigger o).next = (s.trigger o).next + 1 ∧ (t.trigger o).suppress = false ∧
      (t.trigger o).level = (s.trigger o).level ∧ t.regs = s.regs ∧ t.mem = s.mem) ∧
  (∀ (s : State) (o : Nat), s.live = true → o < 24 → s.edgeDue o = true → (s.trigger o).level = false →
    ((s.driveEdge o).trigger o).level = true → Does (.triggerEdge o) s ((s.driveEdge o).risen o)) ∧
  (∀ (s : State) (o : Nat), s.live = true → o < 24 → s.pulseEndDue o = true →
    ∃ t, exec (.triggerPulseEnd o) s = .next t ∧ t.onF (Reg.QTZ_TR_STAT_ACTIVE o) = false ∧
      (t.trigger o).level = s.trigLevel o false ∧ t.mem = s.mem) ∧
  (∀ (s : State) (req : Requester) (o : Nat), o < 24 → s.Takes req (Reg.QTZ_TR_CMD o) 1 →
    ∃ t, exec (.rearm req o) s = .next t ∧ (t.trigger o).suppress = true ∧
      t.getF (Reg.QTZ_TR_STAT_REARMS o) = min (s.getF (Reg.QTZ_TR_STAT_REARMS o) + 1) 255 ∧ t.mem = s.mem) ∧
  (∀ (s : State) (i : Nat) (rise : Bool), s.live = true → i < 24 → s.onF (Reg.QTZ_CAP_CFG_EN i) = true →
    bit (s.getF (Reg.QTZ_CAP_CFG_EDGE i)) (if rise then 0 else 1) = true → (s.capture i).length < 8 →
    ∃ t, exec (.captureEdge i rise) s = .next t ∧
      t.capture i = s.capture i ++ [⟨s.now (s.getF (Reg.QTZ_CAP_CFG_BASE i)), rise⟩] ∧
      t.getF (Reg.QTZ_CAP_CNT_EDGES i) = (s.getF (Reg.QTZ_CAP_CNT_EDGES i) + 1) % 2 ^ 16 ∧ t.mem = s.mem) ∧
  (∀ (s : State) (i : Nat) (rise : Bool), s.live = true → i < 24 → s.onF (Reg.QTZ_CAP_CFG_EN i) = true →
    bit (s.getF (Reg.QTZ_CAP_CFG_EDGE i)) (if rise then 0 else 1) = true → 8 ≤ (s.capture i).length →
    Does (.captureEdge i rise) s (((((s.wrapInc (Reg.QTZ_CAP_CNT_EDGES i)).satInc (Reg.QTZ_CAP_CNT_OVF i)).irq (0x47 + i / 8)
      (2 ^ (i % 8))).raise FS.QTZ_CAPOVF))) ∧
  (∀ (s : State) (req : Requester) (i : Nat), i < 24 → s.Takes req (Reg.QTZ_CAP_POP i) 1 →
    ∃ t, exec (.capturePop req i) s = .next t ∧ t.capture i = (s.capture i).tail ∧ (∀ k, k ≠ i → t.capture k = s.capture k) ∧
      t.mem = s.mem)

/-- The frame tick that is due: the frame number counts up, the next tick lies ahead of TB4 by at most one frame, congruent to
FRAME_ORG, every time base is latched and TB2 and TB4 are held for the frame's records (R52, R478), and a tick that is not due
changes nothing (R39, R667). -/
def Obligations.FrameTickComplete : Prop :=
  (∀ s : State, s.pins.powered = true → s.qtz.nextTick ≤ (s.base 4).count → Does .frameTick s s.frameTick) ∧
  (∀ s : State, s.getF Reg.QTZ_FRAME_ORG_ORG < 1000000 →
    s.nextFrame.getF Reg.QTZ_FRAME_FRAME = (s.getF Reg.QTZ_FRAME_FRAME + 1) % 2 ^ 32 ∧
    s.nextFrame.qtz.nextTick % 1000000 = s.getF Reg.QTZ_FRAME_ORG_ORG ∧ (s.base 4).count < s.nextFrame.qtz.nextTick ∧
    s.nextFrame.qtz.nextTick ≤ (s.base 4).count + 1000000) ∧
  (∀ s : State, (∀ b < 8, s.latchTick.getF (Reg.QTZ_TB_TICK_TICK b) = s.now b) ∧ s.latchTick.frame.tb2 = s.now 2 ∧
    s.latchTick.frame.tb4 = s.now 4 ∧ s.latchTick.mem = s.mem ∧ s.latchTick.qtz = s.qtz) ∧
  (∀ s : State, s.pins.powered = true → (s.base 4).count < s.qtz.nextTick → Does .frameTick s s)

/-! ## The fault collector and the watchdogs -/

/-- Raises, broken pairs and their end. -/
def Obligations.FaultCommandsComplete : Prop :=
  (∀ (s : State) (n : Nat) (level : Bool) (ctxs : List Nat), s.live = true → realSource n = true → s.severity n = .note →
    (n < 39 ∨ 63 ≤ n) → ∃ t, exec (.faultRaise n level ctxs) s = .next t ∧ t.getF (stickyFld n) = 1 ∧
      (level = true → n ∈ t.fc.raised) ∧ t.dev = s.dev ∧ t.sch = s.sch ∧ t.mem = s.mem ∧
      ∀ k < 1024, k ≠ n → t.getF (stickyFld k) = s.getF (stickyFld k)) ∧
  (∀ (s : State) (n : Nat) (ctxs : List Nat), s.live = true →
    Does (.faultRaise n false ctxs) s ((s.countLink n).raise n (s.carried n ctxs) (tearCause n))) ∧
  (∀ (s : State) (n : Nat), s.live = true → realSource n = true → s.fc.broken.contains n = false →
    ∃ t, exec (.brokenPair n) s = .next t ∧ n ∈ t.fc.broken) ∧
  (∀ (s : State) (n : Nat), s.live = true → (n < 512 ∨ 1024 ≤ n ∨ n % 16 ≠ 2) →
    ∃ t, exec (.faultPairInactive n) s = .next t ∧ n ∉ t.fc.raised ∧ n ∉ t.fc.broken ∧ t.regs = s.regs ∧ t.mem = s.mem ∧
      t.dev = s.dev) ∧
  (∀ s : State, s.live = true → ∃ t, exec .collectorMismatch s = .next t ∧ t.dev.mode = .terminal ∧
      (∀ n < 1024, t.getF (stickyFld n) = s.getF (stickyFld n))) ∧
  (∀ s : State, s.live = true → ∃ t, exec .okRefreshLoss s = .next t ∧ t.pins.refreshLost = true ∧ t.dev.mode = s.dev.mode ∧
      t.onF Reg.FC_STAT_OK = false ∧ t.onF Reg.FC_STAT_HB = false ∧ t.mem = s.mem) ∧
  (∀ s : State, s.live = true → Does .okPinMismatch s (s.raise FS.FC_OKPIN))

/-- A written 1 clears the sticky bit of a source that is not raised and whose pair is not broken, and no other (R584). -/
def Obligations.StickyClearClearsOnlyQuietSources : Prop :=
  ∀ (s : State) (req : Requester) (k v : Nat), k < 32 → s.Takes req (Reg.FC_STICKY k) (v % 2 ^ 32) →
    ∃ t, exec (.stickyClear req k v) s = .next t ∧ t.mem = s.mem ∧ t.fc = s.fc ∧ ∀ n < 1024, t.getF (stickyFld n) =
      if n / 32 = k ∧ v.testBit (n % 32) = true ∧ s.raisedNow n = false then 0 else s.getF (stickyFld n)

/-- A written severity is stored as the higher of the class written and the fused floor; a reserved code leaves the field (R586). -/
def Obligations.SeverityNeverFallsBelowItsFloor : Prop :=
  ∀ (s : State) (req : Requester) (w v : Nat), w < 128 → s.Takes req (Reg.FC_SEV w) (v % 2 ^ 32) →
    ∃ t, exec (.severityWrite req w v) s = .next t ∧ t.mem = s.mem ∧ t.fc = s.fc ∧ ∀ n < 1024, t.getF (sevFld n) =
      if n / 8 = w ∧ bits v (4 * (n % 8) + 2) (4 * (n % 8)) ≤ 4 then
        max (bits v (4 * (n % 8) + 2) (4 * (n % 8))) (s.getF (floorFld n))
      else s.getF (sevFld n)

/-- The reactions of the classes: NOTE only sticks, CORRECTED raises interrupt bit 0, and a source that is raised already reacts no
more (R584, R588). -/
def Obligations.NoteAndCorrectedOnlyReport : Prop :=
  ∀ (s : State) (n : Nat) (ctxs : List Nat) (cause : Nat), realSource n = true →
    (s.raisedNow n = true → s.raise n ctxs cause = s.stick n) ∧
    (s.severity n = .note → s.raise n ctxs cause = s.stick n) ∧
    (s.raisedNow n = false → s.severity n = .corrected → s.raise n ctxs cause = (s.stick n).irq 0x20 1)

/-- Watchdogs: a kick taken, a failure, a start, and the opening of a window. -/
def Obligations.WatchdogCommandsComplete : Prop :=
  (∀ (s : State) (req : Requester) (w : Nat), 6 ≤ w → w < 256 → s.Takes req (Reg.WDG_KICK w) 1 →
    Does (.wdgKick req w) s ((s.kick w).respond req 0 [])) ∧
  (∀ (s : State) (req : Requester) (w : Nat), w < 6 → s.Takes req (Reg.WDG_KICK w) 1 → Does (.wdgKick req w) s (s.respond req 0 [])) ∧
  (∀ (s : State) (w : Nat), w < 256 → s.wdgRuns w = true → s.wdgOverdue w = true → Does (.watchdogLate w) s (s.wdgFail w false)) ∧
  (∀ (s : State) (req : Requester) (w v : Nat), w < 256 → s.Takes req (Reg.WDG_CFG w) (setBits (v % 2 ^ 32) 31 31 1) →
    s.onF (Reg.WDG_CFG_EN w) = false → ∃ t, exec (.watchdogEnable req w v) s = .next t ∧ (t.watch w).primed = true ∧
      (t.getF (Reg.WDG_STAT_STATE w) = 1 ∨ t.getF (Reg.WDG_STAT_STATE w) = 2) ∧ t.mem = s.mem ∧
      ∀ k, k ≠ w → t.watch k = s.watch k) ∧
  (∀ (s : State) (w : Nat), w < 256 → s.wdgRuns w = true → s.wdgOpenNow w = true →
    ∃ t, exec (.watchdogWindowOpen w) s = .next t ∧ t.getF (Reg.WDG_STAT_STATE w) = 2 ∧ t.mem = s.mem ∧ t.wdg = s.wdg)

/-- A good kick in INTERVAL mode, in or after its OPEN and by its CLOSE, begins a new interval and counts; one before OPEN fails the
watchdog as EARLY (R575, R577). -/
def Obligations.IntervalKickIsJudgedByItsWindow : Prop :=
  ∀ (s : State) (w : Nat), 6 ≤ w → w < 256 → s.wdgRuns w = true → s.wdgInterval w = true → s.wdgOverdue w = false →
    (s.watch w).kickCycle ≠ some s.qtz.cycles →
    ((s.watch w).kicked = false ∨ (s.watch w).since + s.getF (Reg.WDG_OPEN_OPEN w) ≤ s.tb4Count →
      ((s.kick w).watch w).since = s.tb4Count ∧ ((s.kick w).watch w).kicked = true ∧
      (s.kick w).getF (Reg.WDG_STAT_KICKS w) = (s.getF (Reg.WDG_STAT_KICKS w) + 1) % 2 ^ 16 ∧ (s.kick w).dev = s.dev) ∧
    ((s.watch w).kicked = true → s.tb4Count < (s.watch w).since + s.getF (Reg.WDG_OPEN_OPEN w) →
      s.kick w = (s.putF (Reg.WDG_LAST_LAST w) s.tb4Count).wdgFail w true)

/-! ## The units of a tile -/

/-- The commands that work on a tile's units hold their results in the window. LOAD holds each memory row for its tile-local row, STORE
each tile-local row for its memory row, FILL its pattern, GATHER and SCATTER the rows their indices name while every one may be reached,
NOP nothing; a CONV whose geometry block is refused fails its command; the matrix, vector, attention, key-value and stream commands hold
what their rows give; FENCE works only as the oldest entry. -/
def Obligations.EngineCommandsComplete : Prop :=
  ∀ (s : State) (t i : Nat) (upset : Upset) (ecc : List EccError),
    s.Works (.nop t i) t i (hasOp 0x00) [] (fun u _ _ => ({}, u)) ∧
    s.Works (.load t i ecc) t i (hasOp 0x01) ecc (fun u _ c =>
      ({ outs := (List.range (c.word 0x1C)).map (fun r =>
          (c.loc 0x18 + r * c.word 0x28, u.fetch (c.mem + r * c.word 0x24) (c.word 0x20))) }, u)) ∧
    s.Works (.store t i ecc) t i (hasOp 0x02) ecc (fun u _ c =>
      ({ writes := (List.range (c.word 0x1C)).map (fun r =>
          (c.mem + r * c.word 0x24, u.local t (c.loc 0x18 + r * c.word 0x28) (c.word 0x20))) }, u)) ∧
    s.Works (.gather t i ecc) t i (hasOp 0x03) ecc (fun u x c => (runGather u (u.ctx x).part t c, u)) ∧
    s.Works (.fill t i ecc) t i (hasOp 0x05) ecc (fun u _ c => (runFill c, u)) ∧
    ((∀ c e, s.Ready t i (hasOp 0x04) ecc c e → (runScatter s (s.ctx c).part t e.cmd).verdict ≠ .region) →
      s.Works (.scatter t i ecc) t i (hasOp 0x04) ecc (fun u x c => (runScatter u (u.ctx x).part t c, u))) ∧
    s.Works (.gemm t i upset ecc) t i (hasOp 0x10) ecc
      (fun u _ c => (runMatrix c (u.matrixProduct t c (u.rowGemm t c)) upset, u)) ∧
    ((∀ c e, s.Ready t i (hasOp 0x11) ecc c e → s.bodyCheck c t e.cmd = none) →
      s.Works (.conv t i upset ecc) t i (hasOp 0x11) ecc
        (fun u _ c => (runMatrix c (u.matrixProduct t c (u.rowConv t c)) upset, u))) ∧
    (∀ c e status, s.Ready t i (hasOp 0x11) ecc c e → s.bodyCheck c t e.cmd = some status →
      Does (.conv t i upset ecc) s (s.failCommand c e.cmd status (FS.TILE_DESC t))) ∧
    s.Works (.gatherGemm t i upset ecc) t i (hasOp 0x12) ecc
      (fun u _ c => (if u.tableRowsOk t c then runMatrix c (u.matrixProduct t c (u.rowTable t c)) upset
        else { verdict := .region }, u)) ∧
    s.Works (.eltwise t i ecc) t i (hasOp 0x30) ecc (fun u _ c => (runVector u t c, u)) ∧
    s.Works (.reduce t i ecc) t i (hasOp 0x31) ecc (fun u _ c => (runVector u t c, u)) ∧
    s.Works (.softmax t i ecc) t i (hasOp 0x32) ecc (fun u _ c => (runVector u t c, u)) ∧
    s.Works (.norm t i ecc) t i (hasOp 0x33) ecc (fun u _ c => (runVector u t c, u)) ∧
    s.Works (.quant t i ecc) t i (hasOp 0x34) ecc (fun u _ c => (runVector u t c, u)) ∧
    s.Works (.dequant t i ecc) t i (hasOp 0x35) ecc (fun u _ c => (runVector u t c, u)) ∧
    s.Works (.attnBlock t i upset ecc) t i (hasOp 0x20) ecc (fun u x c => (u.runAttn (u.ctx x).part t c upset, u)) ∧
    s.Works (.kvAppend t i ecc) t i (hasKvOp 0) ecc (fun u x c => u.runAppend (u.ctx x).part t c) ∧
    s.Works (.kvShare t i ecc) t i (hasKvOp 1) ecc (fun u x c => u.runShare (u.ctx x).part t c) ∧
    s.Works (.kvRelease t i ecc) t i (hasKvOp 2) ecc (fun u x c => u.runRelease (u.ctx x).part t c) ∧
    s.Works (.scan t i upset ecc) t i (hasOp 0x28) ecc (fun u _ c =>
      u.runScan t c (match (s.tile t).window[i]? with | some e => e.fresh | none => false) upset) ∧
    s.Works (.phase t i) t i (hasOp 0x3A) [] (fun u _ c => ({ post := [.phase (c.f 0x10 5 0) (c.word 0x14)] }, u)) ∧
    s.Works (.fence t 0) t 0 (hasOp 0x3B) [] (fun u _ _ => ({}, u))

/-- Work that does not fail is held in the window until the commit: the entry holds the results, every other entry, every other tile,
every context and all of memory stand (R177, R180). -/
def Obligations.FinishedWorkWaitsForItsCommit : Prop :=
  ∀ (s : State) (t i c : Nat) (e : WEntry) (d : Done), (d.verdict = .passed ∨ d.verdict = .checksum) →
    (∀ w ∈ d.writes, s.isNeighbour w.1 = false) →
    ∃ u, s.finish t i c e (d, s) = u ∧ u.tile t = { s.tile t with window := (s.tile t).window.set i (e.done d) } ∧
      (∀ k, k ≠ t → u.tile k = s.tile k) ∧ u.mem = s.mem ∧ u.sch = s.sch ∧ u.odl = s.odl

/-- A command whose reads of its tile or of memory meet an uncorrectable error is recorded with status 0x11 and its context is torn down
with that cause; it holds no results (R140, R520). -/
def Obligations.UncorrectableErrorEndsTheContext : Prop :=
  ∀ (s : State) (k : Instr) (t i : Nat) (ecc : List EccError) (ok : Cmd → Bool) (c : Nat) (e : WEntry),
    engineParts k = some (t, i, ecc, ok) → s.live = true → s.runnable t i ok = some (c, e) → (e.cmd.op = 0x3B → i = 0) →
    (e.cmd.op = 0x11 → s.bodyCheck c t e.cmd = none) → s.remoteBusy t e.cmd.seq = false →
    (∀ r ∈ s.farReads t e.cmd, s.isNeighbour r.1 = true → s.mapped r.1 = true ∧ e.asked.contains r = true) →
    (∃ x ∈ s.eccMet t e.cmd (s.farReads t e.cmd) ecc, x.double = true) →
    Does k s (((s.record c e.cmd 0x11 0).reading t c e.cmd (s.farReads t e.cmd) ecc).endContext c 0x11)

/-! ## The dispatcher and the sync objects -/

/-- The dispatcher: a slot that is read is queued or polled for, the front command enters the window of its tile or is refused, a wait
that holds completes, a signal acts once the window is empty, and LINK moves the chain. -/
def Obligations.DispatcherCommandsComplete : Prop :=
  (∀ (s : State) (x : Nat), s.live = true → s.isRunning 0x80 = true → (s.ctx x).polling = false →
    Does (.descriptorFetch x) s (s.readSlot x)) ∧
  (∀ (s : State) (x : Nat), s.live = true → s.isRunning 0x80 = true → (s.ctx x).polling = true →
    Does (.chainPoll x) s ((s.setCtx x { s.ctx x with polling := false }).readSlot x)) ∧
  (∀ (s : State) (x t : Nat) (cmd : Cmd), s.live = true → s.frontReady x = some cmd → (s.ctx x).onTile = some t →
    inDispatcher cmd.op = false → s.tileTakes t = true → (s.ctx x).prep = [] → s.blocksRun cmd = true → s.isRunning 0x80 = true →
    (cmd.op ≠ 0x28 → Does (.commitWindowEntry x) s (s.enter x t cmd)) ∧
    (cmd.op = 0x28 → s.scanRefused x cmd.stream = true →
      Does (.commitWindowEntry x) s (s.failCommand x cmd 0x18 FS.STM_REFUSED)) ∧
    (cmd.op = 0x28 → s.scanRefused x cmd.stream = false → (s.scanReady cmd.stream t).1 = true →
      Does (.commitWindowEntry x) s ((s.scanReady cmd.stream t).2.enter x t cmd)) ∧
    (cmd.op = 0x28 → s.scanRefused x cmd.stream = false → (s.scanReady cmd.stream t).1 = false →
      Does (.commitWindowEntry x) s (s.scanReady cmd.stream t).2)) ∧
  (∀ (s : State) (x : Nat) (cmd : Cmd), s.live = true → s.frontReady x = some cmd → cmd.op = 0x38 → s.isRunning 0x80 = true →
    Does (.syncWait x) s (((s.commitRecord x cmd 0 0).reportKick x cmd).popFront x)) ∧
  (∀ (s : State) (x : Nat) (cmd : Cmd) (u : State), s.live = true → s.frontReady x = some cmd → cmd.op = 0x39 →
    s.windowEmpty x = true → s.isRunning 0x80 = true →
    u = ((s.commitRecord x cmd 0 0).reportKick x cmd).granted (.sync (bits (cmd.half 0x10) 13 0)) ((s.ctx x).onTile.getD 0) →
    (bits (cmd.half 0x10) 15 14 ≠ 1 →
      Does (.syncSignal x) s ((u.syncSet (bits (cmd.half 0x10) 13 0) (cmd.long 0x18)).popFront x)) ∧
    (bits (cmd.half 0x10) 15 14 = 1 → s.addOverflows (bits (cmd.half 0x10) 13 0) (cmd.long 0x18) = false →
      Does (.syncSignal x) s ((u.syncAdd (bits (cmd.half 0x10) 13 0) (cmd.long 0x18)).popFront x))) ∧
  (∀ (s : State) (x : Nat) (cmd : Cmd) (u : State), s.live = true → s.frontReady x = some cmd → cmd.op = 0x39 →
    s.windowEmpty x = true → s.isRunning 0x80 = true → bits (cmd.half 0x10) 15 14 = 1 →
    u = ((s.commitRecord x cmd 0x12 0).reportKick x cmd).granted (.sync (bits (cmd.half 0x10) 13 0)) ((s.ctx x).onTile.getD 0) →
    s.addOverflows (bits (cmd.half 0x10) 13 0) (cmd.long 0x18) = true →
    Does (.syncSignal x) s ((u.syncAdd (bits (cmd.half 0x10) 13 0) (cmd.long 0x18)).overflowEnds x)) ∧
  (∀ (s : State) (x : Nat) (cmd : Cmd) (u : State), s.live = true → s.frontReady x = some cmd → cmd.op = 0x3F →
    s.isRunning 0x80 = true → u = (s.commitRecord x cmd 0 0).reportKick x cmd →
    Does (.link x) s ((u.setCtx x { u.ctx x with next := bits (cmd.long 0x10) 47 0, buffer := [] }).popFront x))

/-- COMMIT, the end of a kill, and the scrubber: a finished entry commits, a checksum failure ends the attempt, killed commands return
to the front of the queue, and a pass of the scrubber counts. -/
def Obligations.CommitKillAndScrubComplete : Prop :=
  (∀ (s : State) (t c : Nat) (e : WEntry) (r : List WEntry), s.live = true → (s.tile t).ctx = some c →
    (s.tile t).window = e :: r → e.finished = true → s.tileWorks t = true → s.remoteBusy t e.cmd.seq = false →
    (e.verdict ≠ .checksum → Does (.commit t) s (s.commitEntry t c e)) ∧
    (e.verdict = .checksum → Does (.commit t) s (s.checkedFail t c))) ∧
  (∀ (s : State) (t : Nat), s.live = true → (s.tile t).killing = true → (s.tile t).ctx = none →
    ∃ u, exec (.killComplete t) s = .next u ∧ u.tile t = { s.tile t with killing := false, victims := [], killFor := none } ∧ u.mem = s.mem ∧
      u.regs = s.regs) ∧
  (∀ (s : State) (t c : Nat) (u : State), s.live = true → (s.tile t).killing = true → (s.tile t).ctx = some c →
    ((s.ctx c).state = .active ∨ (s.ctx c).state = .held) → (s.tile t).rerunFirst = false →
    u = ((((s.setTile t { s.tile t with killing := false, victims := [], killFor := none }).setCtx c
      { s.ctx c with queue := (s.tile t).victims ++ (s.ctx c).queue }).chargeUnits t c).settle t) →
    Does (.killComplete t) s (if (s.tile t).leaving then u.leaveTile c else u)) ∧
  (∀ (s : State) (t c : Nat) (cmd : Cmd) (r : List Cmd) (u : State), s.live = true → (s.tile t).killing = true →
    (s.tile t).ctx = some c → ((s.ctx c).state = .active ∨ (s.ctx c).state = .held) → (s.tile t).rerunFirst = true →
    (s.tile t).leaving = false → (s.tile t).victims = cmd :: r →
    u = (s.setTile t { s.tile t with killing := false, victims := [], killFor := none }).setCtx c
      { s.ctx c with queue := cmd :: r ++ (s.ctx c).queue } →
    u.tileWorks t = true → u.blocksRun cmd = true →
    Does (.killComplete t) s (((u.toWindow c t cmd).chargeUnits t c).settle t)) ∧
  (∀ (s : State) (t line : Nat), s.live = true → t < 32 → ∃ u, exec (.scrubRead t line [] true) s = .next u ∧
    u.getF (Reg.TILE_SCRUB_PASSES t) = (s.getF (Reg.TILE_SCRUB_PASSES t) + 1) % 2 ^ (Reg.TILE_SCRUB_PASSES t).width ∧
    u.mem = s.mem ∧ u.sch = s.sch) ∧
  (∀ (s : State) (t line : Nat) (e : EccError), s.live = true → t < 32 → e.mem = false → e.offset / 64 = line →
    Does (.scrubRead t line [e] false) s (s.eccFound t [] e))

/-- Writes of the sync object registers. -/
def Obligations.SyncObjectWritesComplete : Prop :=
  (∀ (s : State) (req : Requester) (p idx n : Nat), p < 64 → idx < 256 → 0 < n → n < 2 ^ 32 →
    s.TakesWide req (Reg.SYN_ADD p) (idx + n * 2 ^ 32) →
    Does (.synAdd req p idx n) s ((s.signal (syncPortOf req) (256 * p + idx) n).respond req 0 [])) ∧
  (∀ (s : State) (req : Requester) (p idx : Nat), p < 64 → idx < 256 → s.TakesWide req (Reg.SYN_ADD p) idx →
    Does (.synAdd req p idx 0) s (s.respond req 0 [])) ∧
  (∀ (s : State) (req : Requester) (i v : Nat), i < 16384 → v < 2 ^ 64 → s.TakesWide req (Reg.SYN_VALUE i) v →
    Does (.synValueWrite req i v) s ((s.setSignal (syncPortOf req) i v).respond req 0 [])) ∧
  (∀ (s : State) (req : Requester) (i owner : Nat), i < 16384 → owner < 4096 →
    s.Takes req (Reg.SYN_STATE i) (2 ^ 30 + owner * 2 ^ 16) → s.syncState i ≠ 1 →
    ∃ u, exec (.synStateWrite req i 1 owner) s = .next u ∧ u.syncState i = 1 ∧ u.syncValue i = 0 ∧
      u.getF (Reg.SYN_STATE_OWNER_CTX i) = owner) ∧
  (∀ (s : State) (req : Requester) (i owner : Nat), i < 16384 → owner < 4096 →
    s.Takes req (Reg.SYN_STATE i) (owner * 2 ^ 16) → s.syncState i ≠ 0 →
    ∃ u, exec (.synStateWrite req i 0 owner) s = .next u ∧ u.syncState i = 0 ∧ u.syncValue i = s.syncValue i) ∧
  (∀ (s : State) (req : Requester) (i owner : Nat), i < 16384 → owner < 4096 →
    s.Takes req (Reg.SYN_STATE i) (2 ^ 30 + owner * 2 ^ 16) → s.syncState i = 1 →
    Does (.synStateWrite req i 1 owner) s (s.respond req 0 []))

/-- ADD adds its amount; one that would carry past 2^64 − 1 is not applied and poisons the object; a signal to an object that is not
LIVE is dropped and counted; every other object stands (R191, R192). -/
def Obligations.SignalsAddPoisonOrDrop : Prop :=
  ∀ (s : State) (i n : Nat), i < 16384 → n < 2 ^ 64 →
    (s.syncState i = 1 → s.syncValue i + n < 2 ^ 64 →
      (s.syncAdd i n).syncValue i = s.syncValue i + n ∧ (s.syncAdd i n).syncState i = 1) ∧
    (s.syncState i = 1 → 2 ^ 64 ≤ s.syncValue i + n →
      (s.syncAdd i n).syncValue i = s.syncValue i ∧ (s.syncAdd i n).syncState i = 2) ∧
    (s.syncState i ≠ 1 → (s.syncAdd i n).syncValue i = s.syncValue i ∧ (s.syncAdd i n).syncState i = s.syncState i ∧
      (s.syncAdd i n).getF (Reg.SYN_DROPS_COUNT (i / 256)) = min (s.getF (Reg.SYN_DROPS_COUNT (i / 256)) + 1) (2 ^ 16 - 1)) ∧
    (∀ k, k < 16384 → k ≠ i → (s.syncAdd i n).syncValue k = s.syncValue k ∧ (s.syncAdd i n).syncState k = s.syncState k)


/-! ## Power, temperature, ageing and tests -/

/-- Temperature and voltage samples: a tile that is not much hotter than its neighbours shows its reading and keeps its issue rate; a
tile more than 30 °C hotter than one loses 1/64 of it, not below 16/64, and regains it within 25 °C of all. -/
def Obligations.TemperatureAndVoltageCommandsComplete : Prop :=
  (∀ (s : State) (t temp : Nat), s.live = true → t < 32 → (s.checkReading (signed 16 temp)).2 = false →
    (∀ n ∈ meshNeighbours t, signed 16 temp ≤ s.tileTemp n + 120) → signed 16 temp ≤ s.tjThr →
    ∃ u, exec (.tileTempSample t temp) s = .next u ∧ u.tileTemp t = signed 16 temp ∧
      (∀ n < 32, n ≠ t → u.tileTemp n = s.tileTemp n) ∧
      (∀ n < 32, u.getF (Reg.TILE_ISSUE_THERMAL n) = s.getF (Reg.TILE_ISSUE_THERMAL n)) ∧ u.mem = s.mem ∧ u.sch = s.sch ∧
      u.dev = s.dev) ∧
  (∀ (s : State) (t temp : Nat), s.live = true → t < 32 → (s.checkReading (signed 16 temp)).2 = false →
    (∃ n ∈ meshNeighbours t, s.tileTemp n + 120 < signed 16 temp) → signed 16 temp ≤ s.tjThr →
    s.getF (Reg.TILE_ISSUE_THERMAL t) ≠ 64 →
    ∃ u, exec (.tileTempSample t temp) s = .next u ∧ u.tileTemp t = signed 16 temp ∧
      u.getF (Reg.TILE_ISSUE_THERMAL t) = max 16 (s.getF (Reg.TILE_ISSUE_THERMAL t) - 1) ∧ u.mem = s.mem ∧ u.dev = s.dev) ∧
  (∀ (s : State) (t : Nat), s.live = true → t < 32 → (∀ n ∈ meshNeighbours t, s.tileTemp t ≤ s.tileTemp n + 100) →
    ∃ u, exec (.throttleRecovery t) s = .next u ∧
      u.getF (Reg.TILE_ISSUE_THERMAL t) = min 64 (s.getF (Reg.TILE_ISSUE_THERMAL t) + 1) ∧ u.mem = s.mem ∧ u.pwr = s.pwr) ∧
  (∀ (s : State) (t n : Nat), s.live = true → t < 32 → n ∈ meshNeighbours t → s.tileTemp n + 160 < s.tileTemp t →
    Does .tgradTimeout s (s.raise FS.PWR_TGRAD)) ∧
  (∀ (s : State) (volts : List Nat), s.live = true →
    ∃ v : State, (∀ n < 8, v.getF (Reg.PWR_ISL_V_MEAS n) = volts.getD n 0 % 2 ^ (Reg.PWR_ISL_V_MEAS n).width) ∧
      (∀ p, p ∈ v.pwr.vdiffOver ↔ p ∈ islandPairs ∧ (volts.getD p.1 0 + 250 < volts.getD p.2 0 ∨
        volts.getD p.2 0 + 250 < volts.getD p.1 0)) ∧ v.mem = s.mem ∧ v.dev = s.dev ∧
      ((∀ p ∈ v.pwr.vdiffOver, p ∉ s.pwr.vdiffOver) → Does (.vdiffSample volts) s v) ∧
      ((∃ p ∈ v.pwr.vdiffOver, p ∈ s.pwr.vdiffOver) → Does (.vdiffSample volts) s (v.raise FS.PWR_VDIFF))) ∧
  (∀ s : State, s.live = true → Does .clkratioDetect s (s.raise FS.PWR_CLKRATIO)) ∧
  (∀ (s : State) (k temp : Nat), s.live = true → k < 16 → (s.checkReading (signed 16 temp)).2 = false →
    ∃ u, exec (.hubTempSample k temp) s = .next u ∧ u.hubTemp k = signed 16 temp ∧ (∀ n, n ≠ k → u.hubTemp n = s.hubTemp n) ∧
      u.mem = s.mem ∧ u.dev = s.dev) ∧
  (∀ (s : State) (n : Nat), s.live = true → n < 48 → s.tjMax < s.sensorTemp n →
    Does .overtempTimeout s (s.raise FS.PWR_OVERTEMP)) ∧
  (∀ (s : State) (k : Nat), s.live = true → k < 4 → Does (.lpddr5xTempAlert k) s (s.raise (FS.LPC_TEMP k)))

/-- Caps, rails, regulators, droops and ageing. -/
def Obligations.PowerAndAgeingCommandsComplete : Prop :=
  (∀ (s : State) (power : PowerSample), s.live = true → ∃ u, exec (.capPeriodEnd power) s = .next u ∧ u.mem = s.mem ∧
    u.pwr.repeatOn = s.onF Reg.PWR_MODE_REPEAT ∧ u.pwr.cap = s.getF Reg.PWR_CAP_CAP ∧ u.tier = s.tier) ∧
  (∀ (s : State) (req : Requester) (cap : Nat), cap < 512 → s.Takes req Reg.PWR_CAP cap →
    ∃ u, exec (.capWrite req cap) s = .next u ∧ u.getF Reg.PWR_CAP_CAP =
      (if s.getF Reg.PWR_CAP_FUSED_CAP < cap then s.getF Reg.PWR_CAP_FUSED_CAP
       else if cap < 60 then s.getF Reg.PWR_CAP_CAP else cap) ∧
      u.getF Reg.PWR_CAP_FUSED_CAP = s.getF Reg.PWR_CAP_FUSED_CAP ∧ u.mem = s.mem ∧ u.pwr = s.pwr) ∧
  (∀ (s : State) (i : Nat), s.live = true → i < 8 → Does (.vregFault i) s (s.raise FS.PWR_VREG)) ∧
  defaultSeverity FS.PWR_VREG = .critical ∧
  (∀ (s : State) (i : Nat), s.live = true → i < 8 → ∃ u, exec (.voltageSettled i) s = .next u ∧
    (s.islandsDown = [] → u.onF (Reg.PWR_ISL_STAT_SETTLING i) = false ∧ ∀ n < 8, u.islandSet n = s.islandSet n) ∧
    (∀ t ∈ islandTiles i, u.getF (Reg.TILE_FREQ_TARGET t) =
      min (s.goal t) (s.getF (Reg.TILE_FREQ_FMAX_DERATED t)) % 2 ^ (Reg.TILE_FREQ_TARGET t).width) ∧
    (∀ t < 32, t ∉ islandTiles i → u.getF (Reg.TILE_FREQ_TARGET t) = s.getF (Reg.TILE_FREQ_TARGET t)) ∧ u.mem = s.mem ∧
    u.pwr = { s.pwr with islRising := s.pwr.islRising.filter (fun n => n != i) }) ∧
  (∀ (s : State) (i : Nat), s.live = true → i < 8 → ∃ u, exec (.droopAlert i) s = .next u ∧
    u.onF (Reg.PWR_ISL_STAT_DROOP i) = true ∧ (u.droop i).rate = s.getF Reg.PWR_CFG_DROOP_RATE ∧ (u.droop i).rising = none ∧
    (∀ k, k ≠ i → u.droop k = s.droop k) ∧ u.mem = s.mem) ∧
  (∀ (s : State) (i : Nat), s.live = true → i < 8 → ∃ u, exec (.droopClear i) s = .next u ∧
    u.onF (Reg.PWR_ISL_STAT_DROOP i) = false ∧ u.pwr = s.pwr ∧ u.mem = s.mem) ∧
  (∀ (s : State) (i : Nat), s.live = true → i < 8 → s.onF (Reg.PWR_ISL_STAT_DROOP i) = false → (s.droop i).rising = none →
    ∃ u, exec (.droopHoldExpiry i) s = .next u ∧ (u.droop i).rising = some s.qtz.cycles ∧ (u.droop i).rate = (s.droop i).rate ∧
      u.regs = s.regs ∧ u.mem = s.mem) ∧
  (∀ (s : State) (i : Nat), s.live = true → i < 8 → s.onF (Reg.PWR_ISL_STAT_DROOP i) = true →
    Does (.droopLong i) s (s.raise FS.PWR_DROOP)) ∧
  (∀ (s : State) (margins : List Nat), s.live = true → ∃ u, exec (.ageMeasure margins) s = .next u ∧
    (∀ n < 40, u.getF (Reg.AGE_UNIT_MARGIN n) = min (margins.getD n 0) 65535) ∧
    (∀ n < 40, u.getF (Reg.AGE_UNIT_WEAR n) ≤ u.getF Reg.AGE_WEAR_MAX_WEAR) ∧ u.mem = s.mem ∧ u.pwr = s.pwr) ∧
  (∀ s : State, s.live = true → (∀ t < 32, 15 ≤ s.getF (Reg.AGE_UNIT_MARGIN t)) →
    s.getF Reg.AGE_LIFE_REM_H < s.getF Reg.AGE_CFG_LIFE_NOTE → ∃ u, exec .ageHour s = .next u ∧
    u.getF Reg.AGE_HOURS_HOURS = (s.getF Reg.AGE_HOURS_HOURS + 1) % 2 ^ Reg.AGE_HOURS_HOURS.width ∧
    (∀ t < 32, u.getF (Reg.TILE_FREQ_FMAX_DERATED t) = s.getF (Reg.TILE_FREQ_FMAX_DERATED t)) ∧ u.mem = s.mem)

/-- A rail that fails three telemetry reads in a row raises FS_PWR_AVS, and a period's power counts it at its last good reading plus
20 W (200 tenths of a watt) until a read succeeds (R602). -/
def Obligations.RailsFailAtTheThirdRead : Prop :=
  ∀ (s : State) (rail : Nat) (r : Rail), s.live = true → Sparse.get (fun _ => ({} : Rail)) s.pwr.rails rail = r →
    (∀ p, ∃ u, exec (.avsRead rail true p) s = .next u ∧
      Sparse.get (fun _ => ({} : Rail)) u.pwr.rails rail = { good := p, fails := 0 } ∧ u.regs = s.regs) ∧
    (∀ p, ∃ v : State, Sparse.get (fun _ => ({} : Rail)) v.pwr.rails rail = { good := r.good, fails := r.fails + 1 } ∧ v.mem = s.mem ∧
      v.regs = s.regs ∧ Does (.avsRead rail false p) s (if r.fails + 1 = 3 then v.raise FS.PWR_AVS else v)) ∧
    (∀ power, ∃ u, exec (.capPeriodEnd power) s = .next u ∧ u.getF Reg.PWR_MEAS_NONTILE =
      (s.pwr.rails.map (fun x => x.2.good + if 3 ≤ x.2.fails then 200 else 0)).sum % 2 ^ Reg.PWR_MEAS_NONTILE.width) ∧
    defaultSeverity FS.PWR_AVS = .critical

/-- Test slots: a cycle takes its phase, tiles are held at 1.10 GHz or above before their slot, a tile that runs enters its slot with
its running commands killed, and one that neither runs nor is fenced skips it. -/
def Obligations.TestCommandsComplete : Prop :=
  (∀ s : State, s.live = true → ∃ u, exec .testCycleStart s = .next u ∧ u.test.phase = s.getF Reg.GRN_TST_CFG_TST_PHASE ∧
    (s.test.selftest = 1 → u.test.selftest = 2 ∧ u.test.passed = true) ∧ u.regs = s.regs ∧ u.mem = s.mem) ∧
  (∀ (s : State) (k : Nat), s.live = true → k < 16 → ∃ u, exec (.testSlotPrehold k) s = .next u ∧
    (u.tile k).preHold = true ∧ (u.tile (k + 16)).preHold = true ∧ 44 ≤ u.goal k ∧ 44 ≤ u.goal (k + 16) ∧ u.mem = s.mem) ∧
  (∀ (s : State) (k : Nat), s.live = true → k < 16 → s.fenced k = false → s.fenced (k + 16) = false →
    s.isRunning (tilePage k) = false → s.isRunning (tilePage (k + 16)) = false →
    ∃ u, exec (.testSlotStart k) s = .next u ∧ (u.tile k).preHold = false ∧ (u.tile k).inSlot = (s.tile k).inSlot ∧
      u.test.passed = false ∧ u.mem = s.mem) ∧
  (∀ (s : State) (k : Nat), s.live = true → k < 16 →
    (∀ t ∈ pairTiles k, s.fenced t = true ∨ s.isRunning (tilePage t) = true) →
    Does (.testSlotStart k) s ((((s.setTile k { s.tile k with inSlot := true }).kill k 0 true true).slotStart (k + 16)))) ∧
  (∀ (s : State) (k : Nat), s.live = true → k < 15 → (s.tile k).inSlot = true → (s.tile (k + 16)).inSlot = true →
    s.fenced k = false → s.fenced (k + 16) = false →
    ∃ u, exec (.testSlotEnd k true true) s = .next u ∧ (u.tile k).inSlot = false ∧ (u.tile (k + 16)).inSlot = false ∧
      u.getF Reg.GRN_TST_CNT_PASSES = (s.getF Reg.GRN_TST_CNT_PASSES + 2) % 2 ^ Reg.GRN_TST_CNT_PASSES.width ∧
      u.fenced k = false ∧ u.fenced (k + 16) = false ∧ u.mem = s.mem) ∧
  (∀ (s : State) (k t : Nat), s.live = true → k < 15 → t ∈ pairTiles k → (s.tile t).inSlot = true →
    Does (.testSlotTimeout k t) s (s.slotEnd t false)) ∧
  (∀ (s : State) (n : Nat), s.live = true → n ∈ katSources →
    Does (.knownAnswerCheck n false) s (s.raise n).testFailed) ∧
  (∀ (s : State) (n : Nat), Does (.knownAnswerCheck n true) s s)

/-- A periodic test failure on a tile that is not fenced fences it with CAUSE = 3 and VERDICT = CONFIRMED, and raises
FS_TILE_TESTFAIL (R133). -/
def Obligations.FailedPeriodicTestFencesTheTile : Prop :=
  ∀ (s : State) (t : Nat), t < 32 → (s.tile t).inSlot = true → s.fenced t = false →
    ∃ v : State, s.slotEnd t false = v.raise (FS.TILE_TESTFAIL t) ∧ v.fenced t = true ∧ v.getF (Reg.TILE_FENCE_CAUSE t) = 3 ∧
      v.getF (Reg.TILE_FENCE_VERDICT t) = 2 ∧ defaultSeverity (FS.TILE_TESTFAIL t) = .critical


/-! ## The scheduler -/

/-- Operations on contexts and models through SCH_CMD of Pp: an ACTIVATE whose entry is in order makes the context ACTIVE, UPDATE takes
SHARE, TILES and the watchdog again, HOLD, RELEASE and TEARDOWN act on contexts in a state that allows them, RETIRE frees a TORN one,
and MODEL_APPLY answers its result. -/
def Obligations.SchedulerOperationsComplete : Prop :=
  (∀ (s : State) (req : Requester) (p c : Nat), p < 8 → c < 4096 → s.Takes req (Reg.SCH_CMD p) (1 * 2 ^ 28 + c) →
    s.schReach (s.ctxAddr c) 64 false = true → (s.ctx c).state = .free → rowPart (s.ctxRow c) = p →
    s.ctxRowOk (s.ctxRow c) p = true →
    ∃ u, exec (.activate req p c) s = .next u ∧ (u.ctx c).state = .active ∧ (u.ctx c).part = p ∧
      (u.ctx c).entry = entryOf (s.ctxRow c) ∧ (u.ctx c).seq = leField (s.ctxRow c) 8 2 ∧ (u.ctx c).queue = [] ∧
      (∀ k, k ≠ c → u.ctx k = s.ctx k) ∧ u.getF (Reg.SCH_RES_RESULT p) = 0 ∧ u.getF (Reg.SCH_RES_ARG p) = c ∧ u.mem = s.mem) ∧
  (∀ (s : State) (req : Requester) (p c : Nat), p < 8 → c < 4096 → s.Takes req (Reg.SCH_CMD p) (2 * 2 ^ 28 + c) →
    ((s.ctx c).state = .active ∨ (s.ctx c).state = .held) → (s.ctx c).part = p → s.schReach (s.ctxAddr c) 64 false = true →
    rowPart (s.ctxRow c) = p →
    ∃ u, exec (.update req p c) s = .next u ∧
      ((entryOf (s.ctxRow c)).weight ≠ 0 → (entryOf (s.ctxRow c)).tiles ≠ 0 →
        u.ctx c = { s.ctx c with entry := { (s.ctx c).entry with
          weight := (entryOf (s.ctxRow c)).weight, tiles := (entryOf (s.ctxRow c)).tiles, wdg := (entryOf (s.ctxRow c)).wdg } }) ∧
      (u.ctx c).entry.wdg = (entryOf (s.ctxRow c)).wdg ∧
      (∀ k, k ≠ c → u.ctx k = s.ctx k) ∧ u.getF (Reg.SCH_RES_RESULT p) = 0 ∧ u.mem = s.mem) ∧
  (∀ (s : State) (req : Requester) (p c : Nat), p < 8 → c < 4096 → s.Takes req (Reg.SCH_CMD p) (3 * 2 ^ 28 + c) →
    ((s.ctx c).state = .active ∨ (s.ctx c).state = .held) → (s.ctx c).part = p →
    Does (.hold req p c) s (((s.holdCtx c 0x20).schResult p 3 0 c).respond req 0 [])) ∧
  (∀ (s : State) (req : Requester) (p c : Nat), p < 8 → c < 4096 → s.Takes req (Reg.SCH_CMD p) (4 * 2 ^ 28 + c) →
    (s.ctx c).state = .held → (s.ctx c).part = p →
    Does (.release req p c) s (((((s.setCtx c { s.ctx c with state := .active, closing := false, polling := false }).raiseVt
      c).freshWait c).schResult p 4 0 c).respond req 0 [])) ∧
  (∀ (s : State) (req : Requester) (p c : Nat), p < 8 → c < 4096 → s.Takes req (Reg.SCH_CMD p) (5 * 2 ^ 28 + c) →
    (s.ctx c).state ≠ .free → (s.ctx c).part = p →
    Does (.teardown req p c) s (((s.endContext c 0x20).schResult p 5 0 c).respond req 0 [])) ∧
  (∀ (s : State) (req : Requester) (p c : Nat), p < 8 → c < 4096 → s.Takes req (Reg.SCH_CMD p) (6 * 2 ^ 28 + c) →
    (s.ctx c).state = .torn → (s.ctx c).part = p → ∃ u, exec (.retire req p c) s = .next u ∧ u.ctx c = {} ∧
      (∀ k, k ≠ c → u.ctx k = s.ctx k) ∧ u.getF (Reg.SCH_RES_RESULT p) = 0 ∧ u.mem = s.mem) ∧
  (∀ (s : State) (req : Requester) (p m : Nat), p < 8 → m < 256 → s.Takes req (Reg.SCH_CMD p) (7 * 2 ^ 28 + m) →
    Does (.modelApply req p m) s (((s.applyModel p m).2.schResult p 7 (s.applyModel p m).1 m).respond req 0 []))

/-- An operation that the context's state does not allow answers STATE and changes nothing but the result register (R289). -/
def Obligations.ForbiddenOperationsOnlyAnswer : Prop :=
  ∀ (s : State) (req : Requester) (p c n : Nat) (k : Instr), p < 8 → c < 4096 → s.Takes req (Reg.SCH_CMD p) (n * 2 ^ 28 + c) →
    ((s.ctx c).state = .free ∨ (s.ctx c).part = p) →
    (k = .hold req p c ∧ n = 3 ∧ (s.ctx c).state ≠ .active ∧ (s.ctx c).state ≠ .held ∨
     k = .release req p c ∧ n = 4 ∧ (s.ctx c).state ≠ .held ∨
     k = .teardown req p c ∧ n = 5 ∧ (s.ctx c).state = .free ∨
     k = .retire req p c ∧ n = 6 ∧ (s.ctx c).state ≠ .torn) →
    ∃ u, exec k s = .next u ∧ u.getF (Reg.SCH_RES_RESULT p) = 1 ∧ u.getF (Reg.SCH_RES_OP p) = n ∧ u.getF (Reg.SCH_RES_ARG p) = c ∧
      u.sch = s.sch ∧ u.mem = s.mem ∧ ∀ a, a ≠ Reg.SCH_RES p → u.reg a = s.reg a

/-- Events of the scheduler: holds, teardowns, evacuations, the accounting dump, windows, placements, saves, restores, zero fills, model
loads, quanta and drains. -/
def Obligations.SchedulingEventsComplete : Prop :=
  (∀ (s : State) (c : Nat), s.live = true → (s.ctx c).closing = true → s.windowEmpty c = true →
    ∃ u, exec (.holdDrained c) s = .next u ∧ (u.ctx c).state = .held ∧ (u.ctx c).closing = false ∧ (u.ctx c).onTile = none ∧
      (u.ctx c).resident = (s.ctx c).resident ∧ (∀ k, k ≠ c → u.ctx k = s.ctx k) ∧ u.mem = s.mem) ∧
  (∀ (s : State) (c : Nat), s.live = true → (s.ctx c).state = .tearing → (s.ctx c).onTile = none → (s.ctx c).saving = false →
    (s.parkStreams c).streamsBusy c = false → Does (.teardownDone c) s ((s.parkStreams c).finishTeardown c)) ∧
  (∀ (s : State) (req : Requester) (t : Nat), t < 32 → s.Takes req Reg.SCH_TILE_CMD (2 ^ 30 + t) →
    Does (.evacuate req t) s ((((s.setTile t { s.tile t with closed := true }).kill t 0 true true).saveResidents t).respond
      req 0 [])) ∧
  (∀ (s : State) (req : Requester) (t : Nat), t < 32 → s.Takes req Reg.SCH_TILE_CMD (2 ^ 31 + t) →
    ∃ u, exec (.admitTile req t) s = .next u ∧ u.tile t = { s.tile t with closed := false } ∧
      (∀ k, k ≠ t → u.tile k = s.tile k) ∧ u.mem = s.mem ∧ u.regs = s.regs) ∧
  (∀ (s : State) (req : Requester), s.Takes req Reg.SCH_ACCT_DUMP 1 → ∃ u, exec (.acctDump req) s = .next u ∧
    (u.block 0x80).busy = true ∧ u.sch.dump = some ((List.range 4096).map (fun c =>
      ((s.ctx c).occupy, (s.ctx c).mat, (s.ctx c).vec, (s.ctx c).xfer))) ∧ u.mem = s.mem ∧ ∀ c, u.ctx c = s.ctx c) ∧
  (∀ (s : State) (l : List (Nat × Nat × Nat × Nat)) (b : List Byte), s.live = true → s.sch.dump = some l →
    b = l.flatMap (fun r => leBytes 8 r.1 ++ leBytes 8 r.2.1 ++ leBytes 8 r.2.2.1 ++ leBytes 8 r.2.2.2) →
    ∃ u, exec .acctDumpDone s = .next u ∧ u.sch.dump = none ∧ (u.block 0x80).busy = false ∧
      (s.schReach (s.getF Reg.SCH_ACCT_BASE_BASE * 2 ^ 17) b.length true = true →
        u.mem = (s.store (s.getF Reg.SCH_ACCT_BASE_BASE * 2 ^ 17) b).mem) ∧
      (s.schReach (s.getF Reg.SCH_ACCT_BASE_BASE * 2 ^ 17) b.length true = false → u.mem = s.mem)) ∧
  (∀ (s : State) (t phase : Nat), s.live = true → t < 32 → s.isRunning 0x80 = true → (∀ c ∈ s.contexts, s.wantsTile c = false) →
    Does (.tileWindowStart t phase) s (s.setTile t { s.tile t with owner := s.windowOwner t phase })) ∧
  (∀ (s : State) (c t : Nat), s.live = true → s.isRunning 0x80 = true → s.wantsTile c = true → s.choose c = some t →
    s.yields c t = false → Does (.contextPlace c) s (s.placeOn c t)) ∧
  (∀ (s : State) (c t : Nat), s.live = true → (s.ctx c).resident = some t → (s.ctx c).saving = true →
    (s.ctx c).onTile ≠ some t → s.streamsOn c t = false → ∃ u, exec (.contextSaveDone c) s = .next u ∧
      (u.ctx c).saved = true ∧ (u.ctx c).saving = false ∧ (u.ctx c).resident = none) ∧
  (∀ (s : State) (c t : Nat) (r : List Preparation), s.live = true → (s.ctx c).onTile = some t → (s.ctx c).prep = .restore :: r →
    s.memOk (s.ctx c).part (s.ctx c).entry.save (64 + s.bodyBytes c) false = true →
    s.saveGood c (s.fetch (s.ctx c).entry.save (64 + s.bodyBytes c)) = true →
    ∃ u, exec (.contextRestoreDone c) s = .next u ∧ (u.ctx c).resident = some t ∧ (u.ctx c).onTile = some t) ∧
  (∀ (s : State) (c t : Nat) (r : List Preparation), s.live = true → (s.ctx c).onTile = some t → (s.ctx c).prep = .zeroFill :: r →
    ∃ u, exec (.zeroFillDone c) s = .next u ∧ (u.ctx c).resident = some t ∧ (u.ctx c).onTile = some t) ∧
  (∀ (s : State) (c t : Nat) (r : List Preparation), s.live = true → (s.ctx c).onTile = some t → (s.ctx c).prep = .modelLoad :: r →
    ∃ u, exec (.modelLoadDone c) s = .next u ∧ (u.tile t).model = (s.ctx c).entry.model ∧ (u.ctx c).prep = r) ∧
  (∀ (s : State) (t : Nat), s.live = true → s.isRunning 0x80 = true → (s.tile t).ctx = none →
    ∃ u, exec (.quantumExpiry t) s = .next u ∧ u.sch = s.sch ∧ u.regs = s.regs ∧ u.mem = s.mem) ∧
  (∀ (s : State) (t c : Nat), s.live = true → s.isRunning 0x80 = true → (s.tile t).ctx = some c →
    (∀ d ∈ s.contexts, d ≠ c → (s.ctx d).part = (s.ctx c).part → s.wantsTile d = false) →
    ∃ u, exec (.quantumExpiry t) s = .next u ∧
      (u.ctx c).occupy = ((s.ctx c).occupy + s.getF Reg.SCH_CFG_QUANTUM * 10000) % 2 ^ 64 ∧
      (u.ctx c).vt = ((s.ctx c).vt + s.getF Reg.SCH_CFG_QUANTUM * 10000 * 65536 / max (s.ctx c).entry.weight 1) % 2 ^ 64 ∧
      u.tile t = s.tile t ∧ (∀ k, k ≠ c → u.ctx k = s.ctx k) ∧ u.regs = s.regs ∧ u.mem = s.mem) ∧
  (∀ (s : State) (t c : Nat) (u : State), s.live = true → s.isRunning 0x80 = true → (s.tile t).ctx = some c →
    u = s.chargeOccupy c (s.getF Reg.SCH_CFG_QUANTUM * 10000) →
    ((∀ d ∈ u.contexts, d ≠ c → (u.ctx d).part = (u.ctx c).part → u.wantsTile d = true → (u.ctx c).vt ≤ (u.ctx d).vt) →
      Does (.quantumExpiry t) s u) ∧
    ((∃ d ∈ u.contexts, d ≠ c ∧ (u.ctx d).part = (u.ctx c).part ∧ u.wantsTile d = true ∧ (u.ctx d).vt < (u.ctx c).vt) →
      Does (.quantumExpiry t) s ((u.setTile t { u.tile t with draining := true }).settle t))) ∧
  (∀ (s : State) (t : Nat), s.live = true → (s.tile t).draining = true → Does (.drainExpiry t) s (s.kill t 0 true true))

/-- Free lists and recurrent-state streams: a pushed frame and page, EN = 1 on an UNUSED stream, EN = 0, a RESET, a swap-out asked for
and done, UNPARK, and a restore whose image is good. -/
def Obligations.StreamAndFreeListCommandsComplete : Prop :=
  (∀ (s : State) (req : Requester) (p k frame page : Nat), p < 8 → k < 3 → frame < 2 ^ 34 → page < 2 ^ 20 →
    s.TakesWide req (Reg.KVP_FL_PUSH p k) (frame * 2 ^ 20 + page) →
    Does (.kvpFlPush req p k frame page) s ((s.wrFlPush req p k (frame * 2 ^ 20 + page)).respond req 0 [])) ∧
  (∀ (s : State) (req : Requester) (i v : Nat), i < 4096 → s.Takes req (Reg.STM_CTRL i) (setBits (v % 2 ^ 32) 31 31 1) →
    s.stmStatus i = 0 → ∃ u, exec (.stmEnable req i v) s = .next u ∧ u.stmStatus i = 1 ∧ u.getF (Reg.STM_GEN_GEN i) = 0 ∧
      u.getF (Reg.STM_STAT_LAST_SEG i) = 0xFFFF ∧ u.stream i = {} ∧ u.mem = s.mem) ∧
  (∀ (s : State) (req : Requester) (i v : Nat), i < 4096 → s.Takes req (Reg.STM_CTRL i) (setBits (v % 2 ^ 32) 31 31 0) →
    s.stmStatus i ≠ 0 → ∃ u, exec (.stmDisable req i v) s = .next u ∧ u.stmStatus i = 0 ∧ u.stream i = {} ∧ u.mem = s.mem) ∧
  (∀ (s : State) (req : Requester) (i v w : Nat), i < 4096 →
    w = setBits (setBits (v % 2 ^ 32) 31 31 (s.getF (Reg.STM_CTRL_EN i))) 0 0 1 → s.Takes req (Reg.STM_CTRL i) w →
    s.onF (Reg.STM_CTRL_EN i) = true → s.stmStatus i ≠ 0 →
    Does (.stmResetWrite req i v) s (((s.applyWord (Reg.STM_CTRL i) w).noteReset i).respond req 0 [])) ∧
  (∀ (s : State) (req : Requester) (i : Nat), i < 4096 → s.Takes req (Reg.STM_OP i) 1 → s.stmW i = 0 →
    Does (.swapOut req i) s ((s.wantSwap i false).respond req 0 [])) ∧
  (∀ (s : State) (req : Requester) (i : Nat), i < 4096 → s.Takes req (Reg.STM_OP i) 2 → s.stmStatus i = 6 →
    ∃ u, exec (.unpark req i) s = .next u ∧ u.stmStatus i = (if (s.stream i).imageWritten then 4 else 1) ∧
      u.stream i = s.stream i ∧ u.mem = s.mem) ∧
  (∀ (s : State) (i : Nat) (l : List Byte) (u : State), s.live = true → i < 4096 → s.stmStatus i = 3 →
    l = s.stmImage i (s.stmCopy (s.getF (Reg.STM_HOME_TILE i)) i (s.bankSel i)) →
    s.memOk (s.stmPart i) (s.stmPtr i) l.length true = true →
    u = (s.readsFind ((s.stmPieces i (s.bankSel i)).map (fun p => (sramAddr (s.getF (Reg.STM_HOME_TILE i)) p.1, p.2)))).put
      swapPort (s.stmPart i) (s.stmPtr i) l →
    Does (.swapOutDone i) s (((u.setStream i { s.stream i with imageWritten := true, park := false }).setStatus i
      (if (s.stream i).park then 6 else 4)).satInc Reg.STM_CNT_SWAPS)) ∧
  (∀ (s : State) (i : Nat) (l : List Byte) (v : State), s.live = true → i < 4096 → s.stmStatus i = 3 →
    l = s.stmImage i (s.stmCopy (s.getF (Reg.STM_HOME_TILE i)) i (s.bankSel i)) →
    s.memOk (s.stmPart i) (s.stmPtr i) l.length true = true →
    v = s.readsFind ((s.stmPieces i (s.bankSel i)).map (fun p => (sramAddr (s.getF (Reg.STM_HOME_TILE i)) p.1, p.2))) →
    v.isNeighbour (s.stmPtr i) = false →
    ∃ u, exec (.swapOutDone i) s = .next u ∧ u.stmStatus i = (if (s.stream i).park then 6 else 4) ∧
      (u.stream i).imageWritten = true ∧ (u.stream i).park = false ∧ u.mem = (v.store (s.stmPtr i) l).mem ∧
      u.getF Reg.STM_CNT_SWAPS = min (v.getF Reg.STM_CNT_SWAPS + 1) (2 ^ Reg.STM_CNT_SWAPS.width - 1)) ∧
  (∀ (s : State) (i : Nat) (l : List Byte), s.live = true → i < 4096 → s.stmStatus i = 5 → (s.stream i).park = false →
    s.blockState 0x340 ≠ .stopping →
    l = s.fetch (s.stmPtr i) (s.imageBytes i) → s.memOk (s.stmPart i) (s.stmPtr i) l.length false = true →
    s.imageGood i l = true → ∃ u, exec (.restoreDone i) s = .next u ∧ u.stmStatus i = 2 ∧
      u.getF Reg.STM_CNT_RESTORES = min (s.getF Reg.STM_CNT_RESTORES + 1) (2 ^ Reg.STM_CNT_RESTORES.width - 1) ∧ u.stream i = s.stream i)


/-! ## Memory tiers -/

/-- The tiering unit: APPLY of an object, an exchange's blocks, the heat interval, weight-window channels, requests at the memory ports,
bucket refills, and a die-to-die module that fails. Of requests that ask together a resource grants the one of the most critical
partition, and among those the first at or above its pointer, which moves to one above the port granted (R195); the way over the mesh
runs along the row and then along the column (R14). -/
def Obligations.TierCommandsComplete : Prop :=
  (∀ (s : State) (req : Requester) (i : Nat), i < 65536 → s.Takes req Reg.TIER_OBJ_APPLY i → s.isRunning 0x330 = true →
    (s.memOk (s.owner 0x330) (s.objAddr i) 16 false = true → bit (leField (s.objRow i) 0 8) 63 = false →
      Does (.apply req i) s (((((s.removeObject i).promote).exchangeNext).objResult i 6).respond req 0 [])) ∧
    (s.memOk (s.owner 0x330) (s.objAddr i) 16 false = true → bit (leField (s.objRow i) 0 8) 63 = true →
      objRowOk (s.objRow i) = false →
      ∃ u, exec (.apply req i) s = .next u ∧ u.getF Reg.TIER_OBJ_STAT_RESULT = 5 ∧ u.getF Reg.TIER_OBJ_STAT_INDEX = i ∧
        u.tier = s.tier ∧ u.mem = s.mem) ∧
    (s.memOk (s.owner 0x330) (s.objAddr i) 16 false = false →
      ∃ u, exec (.apply req i) s = .next u ∧ u.getF Reg.TIER_OBJ_STAT_RESULT = 3 ∧ u.getF Reg.TIER_OBJ_STAT_INDEX = i ∧
        u.tier = s.tier ∧ u.mem = s.mem) ∧
    Does (.apply req i) s ((s.wrObjApply i).respond req 0 [])) ∧
  (∀ (s : State) (x : Exchange) (n : Nat) (u : State), s.live = true → s.tier.current = some (x, n) → u = s.exchangeTraffic x n →
    (n + 1 < 32 → s.isRunning 0x330 = true →
      Does .exchangeBlockDone s ({ u with tier := { u.tier with current := some (x, n + 1) } }).drainPorts) ∧
    (n + 1 < 32 → s.isRunning 0x330 = false →
      Does .exchangeBlockDone s ({ u with tier := { u.tier with current := none } }).drainPorts) ∧
    (32 ≤ n + 1 → Does .exchangeBlockDone s
      ((((({ u with tier := { u.tier with current := none } }).swapFrames x).promote).exchangeNext).drainPorts))) ∧
  (∀ s : State, s.live = true → s.unified = true → s.isRunning 0x330 = true →
    Does .heatInterval s (((s.coolPages.promote).heatPairs (s.coolPages.getF Reg.TIER_HEAT_MAX_SWAPS)).exchangeNext)) ∧
  (∀ (s : State) (req : Requester) (k : Nat) (l : List Byte) (u : State), k < 16 → s.Takes req (Reg.TIER_WW_CTRL k) 1 →
    s.wwState k ≠ 1 → s.isRunning 0x330 = true → l = s.fetch (s.getF (Reg.TIER_WW_DESC_DESC k) * 64) 64 →
    u = ((s.setChan k { desc := l }).putF (Reg.TIER_WW_DONE_DONE k) 0).traffic weightPort (wwPart l) false
      (s.getF (Reg.TIER_WW_DESC_DESC k) * 64) 64 →
    s.memOk (wwPart l) (s.getF (Reg.TIER_WW_DESC_DESC k) * 64) 64 false = true → u.wwCheck l (u.wwLayer l 0) 0 = none →
    ∃ v, exec (.wwGo req k) s = .next v ∧ v.wwState k = 1 ∧ v.getF (Reg.TIER_WW_DONE_DONE k) = 0 ∧ (v.chan k).g = 0 ∧
      (v.chan k).loading = false ∧ (∀ j, j ≠ k → v.chan j = s.chan j) ∧ v.mem = s.mem) ∧
  (∀ (s : State) (req : Requester) (k : Nat), k < 16 → s.Takes req (Reg.TIER_WW_CTRL k) 2 → s.wwState k = 1 →
    ∃ u, exec (.wwStop req k) s = .next u ∧ u.wwState k = (if (s.chan k).loading then 1 else 3) ∧
      ((s.chan k).loading = true → (u.chan k).stopping = true) ∧ (∀ j, j ≠ k → u.chan j = s.chan j) ∧ u.mem = s.mem) ∧
  (∀ (s : State) (k : Nat) (e : List Byte), s.live = true → k < 16 → s.wwState k = 1 → s.isRunning 0x330 = true →
    (s.chan k).loading = false → (s.chan k).stopping = false → e = s.wwLayer (s.chan k).desc (s.chan k).g →
    s.wwCheck (s.chan k).desc e (s.chan k).g = none →
    ((s.chan k).g < wwSlots (s.chan k).desc ∨
      (s.chan k).g - wwSlots (s.chan k).desc + 1 ≤ s.syncValue (wwRelease (s.chan k).desc)) →
    ∃ u, exec (.wwLayerStart k) s = .next u ∧ u.chan k = { s.chan k with loading := true, layer := e } ∧
      (∀ j, j ≠ k → u.chan j = s.chan j) ∧ u.mem = s.mem) ∧
  (∀ (s : State) (k : Nat), s.live = true → k < 16 → s.wwState k = 1 → (s.chan k).loading = true →
    s.linesBusy (layerSrc (s.chan k).layer) (layerLen (s.chan k).layer) = false →
    ∃ u, exec (.wwLayerDone k) s = .next u ∧ (u.chan k).g = (s.chan k).g + 1 ∧ (u.chan k).loading = false ∧
      u.getF (Reg.TIER_WW_DONE_DONE k) = (s.getF (Reg.TIER_WW_DONE_DONE k) + 1) % 2 ^ 64) ∧
  (∀ (s : State) (write : Bool) (a n p port A q : Nat) (data d : List Byte) (crc : Nat), s.live = true → 0 < n →
    A = a - a % 64 → q = (if port = granitePort then 0 else p % 8) → d = padTo (64 * n) data →
    s.rangeMapped A (64 * n) = true → A + 64 * n ≤ 0x3F000000000 → (port = granitePort ∨ s.memOk q A (64 * n) write = true) →
    (2 ≤ crc → Does (.memoryRequest write a n p port data crc) s (s.raise FS.NOC_E2E)) ∧
    (crc < 2 → s.isNeighbour A = true → Does (.memoryRequest write a n p port data crc) s
      (if write then s.sendLines port q A d none else s.askLines port q A (64 * n) none)) ∧
    (crc < 2 → s.isNeighbour A = false → s.portOf A = none →
      Does (.memoryRequest write a n p port data crc) s (if write then s.store A d else s)) ∧
    (crc < 2 → s.isNeighbour A = false → s.portOf A ≠ none →
      Does (.memoryRequest write a n p port data crc) s ((requestsOf A (64 * n)).foldl (fun u r => u.enqueue
        { write := write, addr := r.1, units := r.2, part := q,
          data := if write then (d.drop (r.1 - A)).take (64 * r.2) else [], port := port }) s).drainPorts)) ∧
  (∀ (s : State) (a n p : Nat) (write : Bool) (data : List Byte) (crc : Nat), s.live = true → 0 < n →
    s.rangeMapped (a - a % 64) (64 * n) = false →
    Does (.memoryRequest write a n p granitePort data crc) s (s.refuse .granite .unmapped)) ∧
  (∀ (s : State) (port : Nat), s.live = true → port < 12 → Does (.bucketRefill port) s (s.refill port)) ∧
  (∀ (s : State) (m : Nat), s.live = true → m < 4 → m ∈ s.tier.d2dLatched → m ∉ s.tier.d2dRemoved →
    Does (.d2dModuleFail m) s ((s.loseModule m).raise FS.D2D_DOWN)) ∧
  (∀ (s : State) (r : Resource) (key : MemReq → Nat × Nat) (l : List MemReq) (x : MemReq), s.winner r key l = some x →
    x ∈ l ∧ ∀ y ∈ l, (key x).1 ≤ (key y).1 ∧
      ((key y).1 = (key x).1 → turn (s.pointer r) (key x).2 ≤ turn (s.pointer r) (key y).2)) ∧
  (∀ (s : State) (r q : Resource) (port : Nat), (s.granted r port).pointer r = port + 1 ∧
    (q.number ≠ r.number → (s.granted r port).pointer q = s.pointer q)) ∧
  (∀ a b : Nat, a < 32 → b < 32 → (meshRoute a b).head? = some a ∧ (meshRoute a b).getLast? = some b ∧
    (meshRoute a b)[max (a % 8) (b % 8) - min (a % 8) (b % 8)]? = some (8 * (a / 8) + b % 8) ∧
    (meshRoute a b).length = (max (a % 8) (b % 8) - min (a % 8) (b % 8)) + (max (a / 8) (b / 8) - min (a / 8) (b / 8)) + 1)

/-- Whatever its result, an APPLY answers it in TIER_OBJ_STAT, and none of the results moves a page to another frame by itself: frames
change only as an exchange ends (R270, R271). -/
def Obligations.ApplyMovesNoPageByItself : Prop :=
  ∀ (s : State) (i : Nat), i < 65536 → s.isRunning 0x330 = true →
    (s.wrObjApply i).getF Reg.TIER_OBJ_STAT_INDEX = i ∧ (s.wrObjApply i).getF Reg.TIER_OBJ_STAT_RESULT ≤ 6 ∧
    ∀ p, ((s.wrObjApply i).tierPage p).frame = (s.tierPage p).frame


/-! ## Sensor ingress and the fusion engine -/

/-- Ingress streams and packing channels: a sample that begins takes the next SID and its capture time, one that ends is taken, one whose
bytes have landed is signalled, EN starts, refuses or stops a stream, GO and STOP, and a run of a packing channel. -/
def Obligations.IngressCommandsComplete : Prop :=
  (∀ (s : State) (i : Nat), s.live = true → i < 64 → s.ingRuns i = true → s.memSourced i = false → s.edgeKind i = false →
    (s.ingKind i ≠ 0 ∨ (s.ingStream i).begun = []) →
    ∃ u b, exec (.sampleBegin i) s = .next u ∧ (u.ingStream i).begun = (s.ingStream i).begun ++ [b] ∧
      b.sid = s.getF (Reg.ING_S_SID_SID i) ∧ b.tcap = s.tb3 ∧
      u.getF (Reg.ING_S_SID_SID i) = (s.getF (Reg.ING_S_SID_SID i) + 1) % 2 ^ 32 ∧ (∀ k, k ≠ i → u.ingStream k = s.ingStream k) ∧
      u.mem = s.mem) ∧
  (∀ (s : State) (i : Nat), s.live = true → i < 64 → s.ingRuns i = true → s.memSourced i = false → s.ingKind i = 0 →
    (s.ingStream i).begun ≠ [] → Does (.sampleBegin i) s (s.stopStream i 2)) ∧
  (∀ (s : State) (i : Nat), s.live = true → s.edgeKind i = true → Does (.sampleBegin i) s s) ∧
  (∀ (s : State) (i : Nat) (data embedded : List Byte) (damage : SampleDamage), s.live = true → i < 64 → s.memSourced i = false →
    (s.ingKind i ≠ 2 → s.ingRuns i = true → Does (.sampleEnd i data embedded damage) s (s.endSample i data embedded damage)) ∧
    (s.ingKind i = 2 → Does (.sampleEnd i data embedded damage) s (s.endBurst i data damage))) ∧
  (∀ (s : State) (i sid : Nat) (u : State), s.live = true → i < 64 → s.ingRuns i = true → s.inTurn i sid = true →
    u = s.setIngStream i { s.ingStream i with writing := (s.ingStream i).writing.filter (fun n => n != sid) } →
    Does (.sampleDone i sid) s ((u.ingSignal i (s.getF (Reg.ING_S_OBJ1_DONE_OBJ i)) 1).finishSample i ((s.ingStream i).index sid))) ∧
  (∀ (s : State) (req : Requester) (i v : Nat) (u : State), i < 64 →
    s.Takes req (Reg.ING_S_CTRL i) (setBits (v % 2 ^ 32) 31 31 1) → s.getF (Reg.ING_S_STAT_STATE i) = 0 →
    u = s.applyWord (Reg.ING_S_CTRL i) (setBits (v % 2 ^ 32) 31 31 1) → u.ingRefused i = true →
    Does (.streamEnable req i v) s
      ((((u.putF (Reg.ING_S_CTRL_EN i) 0).putF (Reg.ING_S_STAT_CAUSE i) 6).raise FS.ING_CFG).respond req 0 [])) ∧
  (∀ (s : State) (req : Requester) (i v : Nat), i < 64 → s.Takes req (Reg.ING_S_CTRL i) (setBits (v % 2 ^ 32) 31 31 1) →
    s.getF (Reg.ING_S_STAT_STATE i) = 0 → s.isRunning 0x380 = true →
    (s.applyWord (Reg.ING_S_CTRL i) (setBits (v % 2 ^ 32) 31 31 1)).ingRefused i = false →
    ∃ u, exec (.streamEnable req i v) s = .next u ∧ u.getF (Reg.ING_S_STAT_STATE i) = 1 ∧ u.getF (Reg.ING_S_STAT_CAUSE i) = 0 ∧
      (u.ingStream i).begun = [] ∧ (u.ingStream i).writing = [] ∧ u.mem = s.mem) ∧
  (∀ (s : State) (req : Requester) (i v : Nat), i < 64 → s.Takes req (Reg.ING_S_CTRL i) (setBits (v % 2 ^ 32) 31 31 0) →
    s.getF (Reg.ING_S_STAT_STATE i) ≠ 0 → ∃ u, exec (.streamDisable req i v) s = .next u ∧
      u.getF (Reg.ING_S_STAT_STATE i) = 0 ∧ u.ingStream i = {} ∧ (∀ k, k ≠ i → u.ingStream k = s.ingStream k) ∧ u.mem = s.mem) ∧
  (∀ (s : State) (i : Nat), s.live = true → i < 64 → s.ingRuns i = true → s.onF (Reg.ING_S_TRIG_TIMEOUT i) = true →
    s.onF (Reg.ING_S_STAT_NOSIGNAL i) = false →
    Does (.nosignalTimeout i) s (((s.putF (Reg.ING_S_STAT_NOSIGNAL i) 1).reportAbsent i true).raise FS.ING_NOSIG)) ∧
  (∀ (s : State) (i : Nat), s.live = true → i < 64 → s.ingRuns i = true → s.memSourced i = true →
    (s.ingStream i).taken < (s.syncValue (s.getF (Reg.ING_S_OBJ2_IN_OBJ i)) + 2 ^ 64 - (s.ingStream i).in0) % 2 ^ 64 →
    Does (.memorySampleTake i) s (s.takeMemory i)) ∧
  (∀ (s : State) (req : Requester) (k : Nat), k < 8 → s.Takes req (Reg.PK_CTRL k) 1 → ∃ u, exec (.packGo req k) s = .next u ∧
    u.getF (Reg.PK_STAT_STATE k) = 1 ∧ u.getF (Reg.PK_STAT_ERR k) = 0 ∧ (u.pack k).run = 0 ∧ (u.pack k).list = none ∧
    (u.pack k).trig0 = s.syncValue (s.getF (Reg.PK_OBJ_TRIG_OBJ k)) ∧ u.mem = s.mem) ∧
  (∀ (s : State) (req : Requester) (k : Nat), k < 8 → s.Takes req (Reg.PK_CTRL k) 2 → s.getF (Reg.PK_STAT_STATE k) = 1 →
    (s.pack k).list = none → ∃ u, exec (.packStop req k) s = .next u ∧ u.getF (Reg.PK_STAT_STATE k) = 0 ∧ u.pack k = {} ∧
      u.mem = s.mem) ∧
  (∀ (s : State) (k : Nat), s.live = true → k < 8 → s.isRunning 0x380 = true → s.getF (Reg.PK_STAT_STATE k) = 1 →
    (s.pack k).list = none →
    (s.pack k).run < (s.syncValue (s.getF (Reg.PK_OBJ_TRIG_OBJ k)) + 2 ^ 64 - (s.pack k).trig0) % 2 ^ 64 →
    Does (.packRunStart k) s (s.packStart k)) ∧
  (∀ (s : State) (k : Nat) (l : List Byte) (u : State), s.live = true → k < 8 → s.isRunning 0x380 = true →
    (s.pack k).list = some l →
    u = (s.writePackRows k 0 (s.packPlan k l)).setPack k { s.pack k with list := none, run := (s.pack k).run + 1 } →
    Does (.packRunDone k) s ((u.putF (Reg.PK_STAT_ROWS k) (s.packPlan k l).length).signal ingressPort
      ((u.putF (Reg.PK_STAT_ROWS k) (s.packPlan k l).length).getF (Reg.PK_OBJ_DONE_OBJ k)) 1))

/-- Agate: a ring's record is taken, the drain, the cut-off at Φ 200, the commit of an epoch, a transform swap asked for, and the enables
of rings and sensors. -/
def Obligations.AgateCommandsComplete : Prop :=
  (∀ (s : State) (r : Nat), s.live = true → r < 16 → s.isRunning 0x3C0 = true → s.onF (Reg.AGT_R_CFG_EN r) = true →
    (s.agtRing r).put0 + (s.agtRing r).taken < s.syncValue (s.getF (Reg.AGT_R_CFG_PUT_OBJ r)) →
    Does (.ringTake r) s (s.takeRing r)) ∧
  (∀ s : State, s.live = true → s.agateWorks = true → s.agt.opened = true → s.agt.cut = false →
    (s.agt.lateDone = true → Does .agateDrain s s.drainRecs) ∧ (s.agt.lateDone = false → Does .agateDrain s s.doLate.drainRecs)) ∧
  (∀ s : State, s.live = true → s.agateWorks = true → s.agt.opened = true → s.agt.cut = false →
    ∃ u, exec .agateCutoff s = .next u ∧ u.agt.cut = true ∧ u.agt.cuts = ((s.frameNo, s.tb3) :: s.agt.cuts).take 40 ∧
      u.getF Reg.QTZ_C200_C = s.tb3 ∧ u.agt.tracks = s.agt.tracks ∧ u.mem = s.mem) ∧
  (∀ (s : State) (n c : Nat) (r : List (Nat × Nat)), s.live = true → s.agt.cuts = (n, c) :: r → s.agateWorks = true →
    s.agt.cut = true → s.agt.mark ≠ some n → Does .epochCommit s s.commitEpoch) ∧
  (∀ (s : State) (req : Requester) (bank : Nat), bank < 2 → s.Takes req Reg.AGT_XF_CTRL (2 + bank) →
    ∃ u, exec (.transformSwapRequest req bank) s = .next u ∧ u.agt.wantBank = bank ∧
      u.getF Reg.AGT_XF_STAT_PENDING = 1 ∧ u.agt.active = s.agt.active ∧ u.mem = s.mem) ∧
  (∀ (s : State) (req : Requester) (r v : Nat) (u : State), r < 16 →
    s.Takes req (Reg.AGT_R_CFG r) (setBits (v % 2 ^ 32) 31 31 1) → s.onF (Reg.AGT_R_CFG_EN r) = false →
    u = s.applyWord (Reg.AGT_R_CFG r) (setBits (v % 2 ^ 32) 31 31 1) → u.onF (Reg.AGT_R_CFG_EN r) = true →
    (u.ringObjectsOk r = false →
      Does (.agateRingEnable req r v) s (((u.putF (Reg.AGT_R_CFG_EN r) 0).raiseNote FS.AGT_CFG).respond req 0 [])) ∧
    (u.ringObjectsOk r = true → ∃ t, exec (.agateRingEnable req r v) s = .next t ∧
      t.agtRing r = { put0 := u.syncValue (u.getF (Reg.AGT_R_CFG_PUT_OBJ r)), taken := 0 } ∧
      t.onF (Reg.AGT_R_CFG_EN r) = true ∧ t.getF (Reg.AGT_R_STAT_TAKEN r) = 0 ∧ t.mem = s.mem)) ∧
  (∀ (s : State) (req : Requester) (i v : Nat), i < 64 → v < 2 ^ 32 → s.Takes req (Reg.AGT_S_CFG i) v →
    ∃ u, exec (.sensorEnable req i v) s = .next u ∧ u.getF (Reg.AGT_S_STAT_STATE i) = (if v.testBit 31 then 1 else 0) ∧
      u.agt = s.agt ∧ u.mem = s.mem)


/-! ## Point clouds, occupancy and plans -/

/-- Pumice: a packet of a scanner is taken or discarded, a build starts on the ego state it waited for or with an extrapolated one and is
done, jobs are taken, run on their unit and complete, decoded boxes are published, and a job ring that is enabled samples its object. -/
def Obligations.PumiceCommandsComplete : Prop :=
  (∀ (s : State) (k : Nat) (packet : List Byte) (tcap : Nat), s.live = true → s.isRunning 0x400 = true → k ∈ s.scanners →
    (packetOk packet = false → Does (.pointPacket k packet tcap) s (s.badPacket.raise FS.PUM_PKT)) ∧
    (packetOk packet = true → Does (.pointPacket k packet tcap) s (s.takePacket k packet (tcap % 2 ^ 32)))) ∧
  (∀ s : State, s.live = true → s.isRunning 0x400 = true → ∃ u, exec .leadTimeout s = .next u ∧ u.pum.leadLate = true ∧
    u.regs = s.regs ∧ u.mem = s.mem ∧ u.pum.frames = s.pum.frames) ∧
  (∀ (s : State) (f : PumFrame), s.live = true → s.nextBuild = some f → s.egoHeld f = true →
    ∃ u, exec .buildStart s = .next u ∧ u.pum.building = some ⟨f, false, s.pum.egos, s.agt.active, s.agt.previous⟩ ∧
      u.pum.frames = s.pum.frames.tail ∧ u.mem = s.mem ∧ u.regs = s.regs) ∧
  (∀ (s : State) (f : PumFrame), s.live = true → s.nextBuild = some f → s.egoHeld f = false →
    Does .egoWaitExpiry s ((s.startBuild f true).raise FS.PUM_EGO)) ∧
  (∀ (s : State) (g : PumBuild), s.live = true → s.isRunning 0x400 = true → s.pum.building = some g → Does .buildDone s (s.buildDone g)) ∧
  (∀ (s : State) (r : Nat), s.live = true → r < 4 → s.isRunning 0x400 = true → s.onF (Reg.PUM_J_CFG_EN r) = true →
    (s.jobRing r).put0 + (s.jobRing r).taken < s.syncValue (s.getF (Reg.PUM_J_CFG_PUT_OBJ r)) → Does (.jobTake r) s (s.takeJob r)) ∧
  (∀ (s : State) (i : Nat) (j : PumJob) (b : PumBuilt), s.live = true → s.jobRunError j = 0 → s.builtOf j = some b →
    (s.jobReady i 1 = some j → Does (.query i) s
      ((s.runQuery j b).2.setJobs ((s.runQuery j b).2.pum.jobs.set i { (s.runQuery j b).1 with ran := true }))) ∧
    (s.jobReady i 2 = some j → Does (.rulebook i) s
      ((s.runRulebook j b).2.setJobs ((s.runRulebook j b).2.pum.jobs.set i { (s.runRulebook j b).1 with ran := true }))) ∧
    (s.jobReady i 3 = some j → Does (.decode i) s
      ((s.runDecode j b).2.setJobs ((s.runDecode j b).2.pum.jobs.set i { (s.runDecode j b).1 with ran := true })))) ∧
  (∀ (s : State) (i : Nat) (j : PumJob), s.live = true → s.pum.jobs[i]? = some j → j.ran = true → j.due = none →
    Does (.jobComplete i) s (s.completeJob i)) ∧
  (∀ (s : State) (i : Nat), s.live = true →
    s.pum.jobs.findIdx? (fun j => j.due.any (fun t => !older s.tb3 t)) = some i → Does .decodePublish s s.publish) ∧
  (∀ (s : State) (req : Requester) (r v : Nat) (u : State), r < 4 →
    s.Takes req (Reg.PUM_J_CFG r) (setBits (v % 2 ^ 32) 31 31 1) → s.onF (Reg.PUM_J_CFG_EN r) = false →
    u = s.applyWord (Reg.PUM_J_CFG r) (setBits (v % 2 ^ 32) 31 31 1) → u.onF (Reg.PUM_J_CFG_EN r) = true →
    ∃ t, exec (.jobRingEnable req r v) s = .next t ∧
      t.jobRing r = { put0 := u.syncValue (u.getF (Reg.PUM_J_CFG_PUT_OBJ r)), taken := 0 } ∧
      t.getF (Reg.PUM_J_STAT_TAKEN r) = 0 ∧ t.mem = s.mem)

/-- Slate and Flint: the frame's steps in the order of their deadlines, bank swaps asked for, and RESUME. Without a plan at the end of
the check the lease of the frame before is taken; the plan goes to Garnet once. -/
def Obligations.SlateAndFlintCommandsComplete : Prop :=
  (∀ s : State, s.live = true → s.isRunning 0x4C0 = true → Does .slateUpdate s s.slateUpdate) ∧
  (∀ (s : State) (req : Requester) (bank : Nat), bank < 2 → s.Takes req Reg.SLT_KO_CTRL (2 + bank) →
    ∃ u, exec (.keepOutSwapRequest req bank) s = .next u ∧ u.slt.wantBank = bank ∧ u.getF Reg.SLT_STAT_KO_PENDING = 1 ∧
      u.slt.keepOut = s.slt.keepOut ∧ u.mem = s.mem) ∧
  (∀ s : State, s.live = true → s.slt.work.isSome = true → s.slt.left ≠ [] → Does .slateInsertCutoff s s.insertCutoff) ∧
  (∀ s : State, s.live = true → s.isRunning 0x4C0 = true → s.slt.work.isSome = true → Does .slatePublish s s.slatePublish) ∧
  (∀ s : State, s.live = true → s.flintWorks = true → ∃ u, exec .flintOptimise s = .next u ∧ u.flt.started = true ∧
    u.flt.t0 = s.qtz.nextTick % 2 ^ 32 ∧ u.flt.snap = s.slt.published ∧ u.mem = s.mem) ∧
  (∀ (s : State) (checks : List Nat), s.live = true → s.flintWorks = true → s.flt.started = true → s.flt.before = true →
    s.flt.grace = false → Does (.optimiserCutoff checks) s (s.optimiserStop checks)) ∧
  (∀ s : State, s.live = true → s.flintWorks = true → s.flt.started = true → s.flt.before = true → s.flt.grace = false →
    Does .checkCutoff s s.checkStop) ∧
  (∀ s : State, s.live = true → s.flintWorks = true → s.flt.started = true → s.flt.before = true → s.flt.grace = false →
    s.flt.plan = none → ∃ u, exec .reuseCutoff s = .next u ∧ u.flt.plan = s.leasePlan ∧ u.flt.noPlan = true ∧ u.regs = s.regs ∧
      u.mem = s.mem) ∧
  (∀ s : State, s.live = true → s.flintWorks = true → s.flt.started = true → s.flt.before = true →
    s.flt.handedNow = false → (s.flt.grace = true ∧ s.leasePlan.isSome = true ∨ s.flt.grace = false ∧ s.flt.plan.isSome = true) →
    Does .planHandover s s.handOver) ∧
  (∀ (s : State) (w : List Nat) (winner : Nat), s.live = true → s.flintWorks = true → s.flt.started = true →
    s.flt.before = true → s.flt.handedNow = false → s.flt.grace = false → s.flt.plan = some (w, winner) → s.flt.noPlan = false →
    s.wdgRuns 2 = false → ∃ u, exec .planHandover s = .next u ∧
      u.gnt.next = some { frame := s.frameNo, t0 := s.flt.t0, knots := w } ∧ u.flt.handedNow = true ∧
      u.getF Reg.FLT_FRAME_FRAME = s.frameNo ∧ u.mem = s.mem) ∧
  (∀ s : State, s.live = true → s.flintWorks = true → s.flt.started = true → Does .leaseWrite s s.writeLease) ∧
  (∀ s : State, s.live = true → s.flintWorks = true → s.flt.started = true → Does .wprPublish s s.publishWpr) ∧
  (∀ (s : State) (req : Requester) (bank : Nat), bank < 2 → s.Takes req Reg.FLT_SWAP (2 + bank) →
    ∃ u, exec (.refSwap req bank) s = .next u ∧ u.flt.wantPath = some bank ∧ u.flt.wantSeed = s.flt.wantSeed ∧ u.regs = s.regs) ∧
  (∀ (s : State) (req : Requester) (bank : Nat), bank < 2 → s.Takes req Reg.FLT_SWAP (8 + 4 * bank) →
    ∃ u, exec (.seedSwap req bank) s = .next u ∧ u.flt.wantSeed = some bank ∧ u.flt.wantPath = s.flt.wantPath ∧ u.regs = s.regs) ∧
  (∀ (s : State) (req : Requester), s.Takes req Reg.FLT_CTRL 1 → s.onF Reg.DEV_MODE_HOST_LOST = false →
    ∃ u, exec (.resume req) s = .next u ∧ u.flt.resume = true ∧ u.regs = s.regs ∧ u.mem = s.mem)


/-! ## Garnet -/

/-- Garnet: a control period begins and a plan handed over is adopted on the first of a frame, a loop samples, an actuator forms its
output, a frame is emitted and counted, and the writes that enable and disable loops and ask for MANUAL and RECOVER. -/
def Obligations.GarnetCommandsComplete : Prop :=
  (∀ s : State, s.live = true → s.boundaryDue = true → Does .controlPeriodBoundary s s.controlBoundary) ∧
  (∀ (s : State) (x : Traj), s.live = true → s.boundaryDue = true → s.gnt.boundary = 0 → s.gntActive = true → s.gnt.next = some x →
    s.wdgRuns 5 = false → ∃ u, exec .controlPeriodBoundary s = .next u ∧ u.gnt.boundary = 1 ∧ u.gnt.plan = some x ∧
      u.gnt.next = none ∧ u.getF Reg.GNT_PLAN_T0_T0 = x.t0 % 2 ^ 32 ∧ u.mem = s.mem) ∧
  (∀ s : State, s.live = true → s.boundaryDue = true → s.gnt.boundary ≠ 0 → ∃ u, exec .controlPeriodBoundary s = .next u ∧
    u.gnt.boundary = s.gnt.boundary + 1 ∧ u.gnt.plan = s.gnt.plan ∧ u.gnt.next = s.gnt.next ∧ u.regs = s.regs ∧ u.mem = s.mem) ∧
  (∀ (s : State) (i : Nat), s.live = true → i < 64 → s.gntActive = true → s.loopOn i = true → s.sampleDue i = true →
    Does (.loopSample i) s (s.sampleLoop i)) ∧
  (∀ (s : State) (a : Nat), s.live = true → a < 64 → s.gntActive = true → s.outputDue a = true →
    Does (.loopOutput a) s (s.outputAct a)) ∧
  (∀ (s : State) (f : Nat), s.live = true → f < 32 → s.gntActive = true → s.onF (Reg.GNT_F_CFG_EN f) = true → s.emitDue f = true →
    Does (.actuatorFrameEmit f) s (s.emitActFrame f)) ∧
  (∀ (s : State) (req : Requester) (i v : Nat) (w : Nat), i < 64 → w = setBits (v % 2 ^ 32) 31 31 1 →
    s.Takes req (Reg.GNT_L_CFG i) w → s.loopOn i = false →
    Does (.loopEnable req i v) s (((s.applyWord (Reg.GNT_L_CFG i) w).enableLoop i).respond req 0 [])) ∧
  (∀ (s : State) (req : Requester) (i v : Nat) (w : Nat), i < 64 → w = setBits (v % 2 ^ 32) 31 31 0 →
    s.Takes req (Reg.GNT_L_CFG i) w → Does (.loopDisable req i v) s ((s.wrLoopCfg i w).respond req 0 [])) ∧
  (∀ (s : State) (req : Requester) (i v : Nat), i < 64 → s.Takes req (Reg.GNT_L_CFG i) (setBits (v % 2 ^ 32) 31 31 0) →
    s.loopOn i = true → s.gntActive = false → ∃ u, exec (.loopDisable req i v) s = .next u ∧
      u.getF (Reg.GNT_L_STAT_FE_CNT i) = 0 ∧ u.gnt = s.gnt ∧ u.mem = s.mem ∧
      u.reg (Reg.GNT_L_CFG i) = (s.applyWord (Reg.GNT_L_CFG i) (setBits (v % 2 ^ 32) 31 31 0)).reg (Reg.GNT_L_CFG i)) ∧
  (∀ (s : State) (req : Requester) (a : Nat), a < 64 →
    s.Takes req (Reg.GNT_A_CTRL a) (2 ^ 31 + s.getF (Reg.GNT_A_CTRL_MANUAL a)) → s.actState a = 4 → s.isRunning 0x500 = true →
    s.inSafe = false → ∃ u, exec (.recover req a) s = .next u ∧ (u.gntAct a).recover = true ∧ u.actState a = 4 ∧
      (∀ k, k ≠ a → u.gntAct k = s.gntAct k) ∧ u.mem = s.mem) ∧
  (∀ (s : State) (req : Requester) (a : Nat) (m : Bool), a < 64 → s.Takes req (Reg.GNT_A_CTRL a) (b2n m) →
    Does (.manual req a m) s ((s.applyWord (Reg.GNT_A_CTRL a) (b2n m)).respond req 0 []))

/-- The output register holds the value that an actuator forms, u_prev follows it, an actuator that ramps reaches SAFE_HELD exactly when its
output stands at SAFE_VAL, and no other actuator and no memory changes (R452, R461). -/
def Obligations.OutputsAreHeldAndRampsEnd : Prop :=
  ∀ (s : State) (a : Nat) (u : Sys2Proof.Machine.Num) (sel : Option Nat), a < 64 →
    s.formOutput a ((s.actLoops a).filter (fun m => (s.gntLoop m).done)) (periodF32 (s.gntAct a).plog2) = some (u, sel) →
    (s.outputAct a).getF (Reg.GNT_A_OUT_U a) = toF32 u % 2 ^ 32 ∧ ((s.outputAct a).gntAct a).uPrev = toF32 u ∧
    (s.actState a = 3 →
      ((s.outputAct a).actState a = 4 ↔ u.leq (f32 (s.getF (Reg.GNT_A_SAFE_SAFE_VAL a))) = true ∧
        (f32 (s.getF (Reg.GNT_A_SAFE_SAFE_VAL a))).leq u = true)) ∧
    (∀ k, k ≠ a → (s.outputAct a).gntAct k = s.gntAct k) ∧ (s.outputAct a).mem = s.mem


/-! ## Links -/

/-- Ethernet, its gates, serial links, encoders and the test port. A one-step Sync leaves with its time stamp while its domain's epoch is
current, and is dropped and counted while it is not (R482, R483, R506; which bytes it takes is the model's, log entry 145). -/
def Obligations.EthernetAndSerialCommandsComplete : Prop :=
  (∀ (s : State) (p : Nat) (frame : List Byte), s.live = true → p < 9 → s.portUp p = true →
    (∃ u, exec (.ethFrameReceive p frame false) s = .next u ∧
      u.getF (Reg.ETH_P_CNT1_FCS p) = min (s.getF (Reg.ETH_P_CNT1_FCS p) + 1) (2 ^ (Reg.ETH_P_CNT1_FCS p).width - 1) ∧
      u.eth = s.eth ∧ u.ing = s.ing ∧ u.mem = s.mem) ∧
    (frame.length ≤ 2048 → Does (.ethFrameReceive p frame true) s (s.receiveFrame p frame))) ∧
  (∀ (s : State) (p k : Nat) (f : List Byte) (l : List (List Byte)), s.live = true → p < 9 → k < 8 → s.portUp p = true →
    s.gateOpen p k = true → (s.ethPort p).queue k = f :: l →
      (s.oneStep p f = none → ∃ u, exec (.ethFrameTransmit p k) s = .next u ∧
        u.ethPort p = (s.ethPort p).setQueue k l ∧ (∀ q, q ≠ p → u.ethPort q = s.ethPort q) ∧
        u.sent = s.sent ++ .eth p f :: s.egressStamp p f ∧ u = { s with eth := u.eth, sent := u.sent }) ∧
      (∀ d, s.oneStep p f = some d → (s.epoch d).tag = s.getF (Reg.QTZ_TB_GEN_GEN d) →
        ∃ u, exec (.ethFrameTransmit p k) s = .next u ∧ u.ethPort p = (s.ethPort p).setQueue k l ∧
        u.sent = s.sent ++ [.eth p (s.stamped d f)] ∧ u = { s with eth := u.eth, sent := u.sent }) ∧
      (∀ d, s.oneStep p f = some d → (s.epoch d).tag ≠ s.getF (Reg.QTZ_TB_GEN_GEN d) →
        Does (.ethFrameTransmit p k) s ((s.setEthPort p ((s.ethPort p).setQueue k l)).dropStale d))) ∧
  (∀ (s : State) (p : Nat), s.live = true → p < 9 → s.isRunning 0x580 = true →
    (∃ u, exec (.gclCycleStart p) s = .next u ∧ (u.ethPort p).entry = 0 ∧ (u.ethPort p).swap = none ∧
      (∀ b < 2, (s.ethPort p).swap = some b → u.getF (Reg.ETH_P_STAT_GCL_BANK p) = b) ∧ u.mem = s.mem) ∧
    (∃ u, exec (.gclEntryExpiry p) s = .next u ∧ (u.ethPort p).entry = min 255 ((s.ethPort p).entry + 1) ∧ u.regs = s.regs ∧
      u.mem = s.mem)) ∧
  (∀ (s : State) (req : Requester) (p bank : Nat), p < 9 → bank < 2 → s.Takes req (Reg.ETH_P_GCL p) (2 + bank) →
    ∃ u, exec (.gclSwap req p bank) s = .next u ∧ (u.ethPort p).swap = some bank ∧ (u.ethPort p).entry = (s.ethPort p).entry ∧
      u.regs = s.regs ∧ u.mem = s.mem) ∧
  (∀ (s : State) (p : Nat), s.live = true → p < 8 → s.onF (Reg.ETH_P_STAT_UP p) = true →
    Does (.ethLinkDown p) s (((s.putF (Reg.ETH_P_STAT_UP p) 0).flushPort p).raise FS.ETH_LINK)) ∧
  (∀ (s : State) (p : Nat), s.live = true → p < 8 → s.isRunning 0x580 = true → s.onF (Reg.ETH_P_CFG_MODE p) = true →
    ∃ u, exec (.ethLinkUp p) s = .next u ∧ u.onF (Reg.ETH_P_STAT_UP p) = true ∧ u.eth = s.eth ∧ u.mem = s.mem) ∧
  (∀ (s : State) (r : Nat), s.live = true → r < 64 → ∃ u, exec (.recoveryReset r) s = .next u ∧ u.recFn r = {} ∧
    (∀ k, k ≠ r → u.recFn k = s.recFn k) ∧ u.regs = s.regs ∧ u.mem = s.mem) ∧
  (∀ (s : State) (req : Requester) (k b : Nat), k < 2 → b < 256 → s.Takes req (Reg.UART_TX k) b →
    ∃ u, exec (.uartTxPush req k b) s = .next u ∧ u.regs = s.regs ∧ u.mem = s.mem ∧
      Sparse.get (fun _ => []) u.iox.uart k =
        (if (Sparse.get (fun _ => []) s.iox.uart k).length < 256 then Sparse.get (fun _ => []) s.iox.uart k ++ [b]
         else Sparse.get (fun _ => []) s.iox.uart k)) ∧
  (∀ (s : State) (k : Nat) (b : Nat) (l : List Nat), s.live = true → k < 2 → s.isRunning 0x5F0 = true →
    Sparse.get (fun _ => []) s.iox.uart k = b :: l → ∃ u, exec (.uartTxByteSent k) s = .next u ∧
      Sparse.get (fun _ => []) u.iox.uart k = l ∧ u.regs = s.regs ∧ u.mem = s.mem) ∧
  (∀ (s : State) (k : Nat) (a b z : Bool), s.live = true → k < 8 → Does (.encoderEdge k a b z) s (s.encEdge k a b z)) ∧
  (∀ (s : State) (n : Nat) (data : List Bool), s.pins.powered = true → ∃ u, exec (.tapInstruction n data) s = .next u ∧
    u.tap.instr = s.tapInstr n ∧ u.tap.out.length = data.length ∧ u.regs = s.regs ∧ u.mem = s.mem ∧ u.dev = s.dev) ∧
  (∀ s : State, s.live = true → s.inSafe = true → s.frame.sent54 = false → ∃ u, exec .safeStateWprFrame s = .next u ∧
    u.frame.sent54 = true ∧ u.mem = s.mem ∧ u.dev = s.dev)

/-- CAN, PCIe and the security controller's registers. -/
def Obligations.CanPcieAndSecurityCommandsComplete : Prop :=
  (∀ (s : State) (k : Nat) (f : CanFrame), s.live = true → k < 6 → s.canRuns k = true → (s.canCtl k).busOff = false →
    f.fmt ≤ s.getF (Reg.CAN_CFG_MODE k) →
    (s.canStreams k f ≠ [] → Does (.canFrameReceive k f) s ((s.canStreams k f).foldl (fun u i => u.arrive i f.data) s)) ∧
    (s.canStreams k f = [] → ∃ u, exec (.canFrameReceive k f) s = .next u ∧
      u.getF (Reg.CAN_CNT_NOMATCH k) = min (s.getF (Reg.CAN_CNT_NOMATCH k) + 1) (2 ^ (Reg.CAN_CNT_NOMATCH k).width - 1) ∧
      u.can = s.can ∧ u.ing = s.ing ∧ u.mem = s.mem)) ∧
  (∀ (s : State) (k : Nat) (x : CanTx), s.live = true → k < 6 → s.canRuns k = true → (s.canCtl k).busOff = false →
    canFirst (s.canCtl k).pending = some x → ∃ u, exec (.canFrameSent k) s = .next u ∧
      (u.canCtl k).pending = (s.canCtl k).pending.filter (fun y => y.src != x.src) ∧
      (∀ j, j ≠ k → u.canCtl j = s.canCtl j) ∧ u.mem = s.mem) ∧
  (∀ (s : State) (k : Nat), s.live = true → k < 6 → s.canRuns k = true → (s.canCtl k).busOff = false →
    Does (.canBusOff k) s (s.canBusOff k)) ∧
  (∀ (s : State) (k : Nat), s.live = true → k < 6 → (s.canCtl k).busOff = true → (s.canCtl k).recovering = true →
    ∃ u, exec (.canBusOffRecovery k) s = .next u ∧ u.canCtl k = { s.canCtl k with busOff := false, recovering := false } ∧
      u.regs = s.regs ∧ u.mem = s.mem) ∧
  (∀ (s : State) (req : Requester) (k : Nat), k < 6 → s.Takes req (Reg.CAN_CTRL k) 1 → (s.canCtl k).busOff = true →
    ∃ u, exec (.canRecover req k) s = .next u ∧ u.canCtl k = { s.canCtl k with recovering := true } ∧ u.regs = s.regs) ∧
  (∀ (s : State) (req : Requester) (k v w : Nat), k < 6 → w = setBits (v % 2 ^ 32) 31 31 1 → s.Takes req (Reg.CAN_SW_TX k) w →
    Does (.canMailboxGo req k v) s ((s.wrCanTx k w).respond req 0 [])) ∧
  (∀ (s : State) (k : Nat), s.live = true → k < 6 → s.canRuns k = true → ∃ u, exec (.canErrorPassive k) s = .next u ∧
    u.canCtl k = { s.canCtl k with passive := (s.canCtl k).passive + 1 } ∧ u.regs = s.regs ∧ u.mem = s.mem) ∧
  (∀ (s : State) (up : Bool) (gen width : Nat), s.live = true → (up = false ∨ s.isRunning 0x5C0 = true) →
    s.onF Reg.PCIE_LINK_LINK_UP ≠ up → Does (.pcieLinkChange up gen width) s (s.linkChange up gen width)) ∧
  (∀ (s : State) (d : Bool), s.live = true → ∃ u, exec (.pcieHotReset d) s = .next u ∧ u.pcie.d3hot = d ∧
    (∀ a, (a < 0x5C1400 ∨ 0x5C1800 ≤ a) → u.reg a = s.reg a) ∧ (∀ a, 0x5C1400 ≤ a → a < 0x5C1800 → u.reg a = resetWord a) ∧
    u.mem = s.mem ∧ u.dev = s.dev) ∧
  (∀ s : State, s.live = true →
    Does (.pcieTlpError .poisonedWrite) s ((s.satInc Reg.PCIE_ERR_POISONED).raise FS.PCIE_ERR) ∧
    Does (.pcieTlpError .malformed) s ((s.satInc Reg.PCIE_ERR_MALFORMED).raise FS.PCIE_ERR) ∧
    Does (.pcieTlpError .unexpected) s ((s.satInc Reg.PCIE_ERR_MALFORMED).raise FS.PCIE_ERR)) ∧
  (∀ (s : State) (req : Requester) (k : Nat), k < 64 → s.Takes req Reg.PCIE_EOI k → s.vectorLevel k = true →
    Does (.pcieEoi req k) s ((s.vectorRise k).respond req 0 [])) ∧
  (∀ (s : State) (req : Requester) (k : Nat), k < 64 → s.Takes req (Reg.PCIE_MSIX k + 12) 0 →
    Does (.msixUnmask req k) s (((s.applyWord (Reg.PCIE_MSIX k + 12) 0).flushVector k).respond req 0 [])) ∧
  (∀ (s : State) (req : Requester) (w b : Nat), w < 512 → b < 2 ^ 32 → s.TakesWide req Reg.SEC_FPGM (w * 2 ^ 32 + b) →
    s.fuseAllowed true w b = true → s.fuseCheck w b = true → ∃ u, exec (.secFpgm req w b) s = .next u ∧
      u.sec.prog = some (w, b) ∧ u.sec.live = s.sec.live ∧ u.mem = s.mem) ∧
  (∀ (s : State) (w b : Nat), s.live = true → s.sec.prog = some (w, b) → w < 512 → b < 2 ^ 32 →
    ∃ u, exec (.fpgmDone true) s = .next u ∧ u.sec.prog = none ∧ u.getF Reg.SEC_FPGM_STAT_RESULT = 0 ∧
      u.fuseLive w = s.fuseLive w ||| b ∧ u.mem = s.mem) ∧
  (∀ (s : State) (req : Requester) (v : Nat), v < 2 ^ 32 → s.Takes req Reg.SEC_KEY_OFF v →
    Does (.secKeyOff req v) s (((s.applyWord Reg.SEC_KEY_OFF v).showSec).respond req 0 [])) ∧
  (∀ (s : State) (req : Requester) (level : Nat), level < 4 → s.Takes req Reg.SEC_DEBUG_SET level →
    ∃ u, exec (.secDebugSet req level) s = .next u ∧
      u.getF Reg.SEC_DEBUG_SET_LEVEL = max (s.getF Reg.SEC_DEBUG_SET_LEVEL) level ∧ u.mem = s.mem ∧ u.sec = s.sec) ∧
  (∀ (s : State) (req : Requester) (r v : Nat), r < 4 → v < 2 ^ 32 → s.Takes req (Reg.SEC_RGN_TIGHT r) v →
    Does (.secRgnTight req r v) s ((s.applyWord (Reg.SEC_RGN_TIGHT r) v).respond req 0 []))


/-! ## The cascade -/

/-- Odilo: training, flits for this module and for the next, time, beacons, losses and retraining. -/
def Obligations.OdiloCommandsComplete : Prop :=
  (∀ (s : State) (i : Nat) (peer : OdlPeer), s.live = true → i < 2 → i ∈ s.odl.training →
    Does (.odlTraining i peer) s (s.trained i peer)) ∧
  (∀ (s : State) (i : Nat) (r : OdlReq) (data : List Byte), s.live = true → i < 2 → s.odlUp i = true →
    (r.crcGood = false → Does (.odlRdReq i r) s (s.flitCrc i) ∧ Does (.odlWr i r data) s (s.flitCrc i)) ∧
    (r.crcGood = true → r.dst = s.pins.cascPos →
      Does (.odlRdReq i r) s ((s.flitGood i).serveRead i r) ∧ Does (.odlWr i r data) s ((s.flitGood i).serveWrite i r data)) ∧
    (r.crcGood = true → r.dst ≠ s.pins.cascPos →
      Does (.odlRdReq i r) s ((s.flitGood i).passOn i "RD_REQ" [r.src, r.dst, r.part, r.lines, r.tag, r.addr] []) ∧
      Does (.odlWr i r data) s ((s.flitGood i).passOn i "WR" [r.src, r.dst, r.part, r.lines, r.tag, r.addr] data))) ∧
  (∀ (s : State) (i src tag : Nat) (data : List Byte) (err : Bool) (mask : List Nat), s.live = true → i < 2 → s.odlUp i = true →
    Does (.odlRdData i src s.pins.cascPos tag data err) s ((s.flitGood i).takeData i tag data err) ∧
    Does (.odlWrAck i src s.pins.cascPos tag err) s ((s.flitGood i).takeAck i tag err) ∧
    (∃ u, exec (.odlWrMask i src s.pins.cascPos tag mask) s = .next u ∧ (tag, mask) ∈ Sparse.get (fun _ => []) u.odl.masks i ∧
      u.mem = s.mem)) ∧
  (∀ (s : State) (i src dst tag : Nat) (data : List Byte) (err : Bool) (mask : List Nat), s.live = true → i < 2 →
    s.odlUp i = true → dst ≠ s.pins.cascPos →
    Does (.odlRdData i src dst tag data err) s ((s.flitGood i).passOn i "RD_DATA" [src, dst, tag, b2n err] data) ∧
    Does (.odlWrAck i src dst tag err) s ((s.flitGood i).passOn i "WR_ACK" [src, dst, tag, b2n err] []) ∧
    Does (.odlWrMask i src dst tag mask) s ((s.flitGood i).passOn i "WR_MASK" [src, dst, tag] (mask.flatMap (leBytes 8)))) ∧
  (∀ (s : State) (i time rate src : Nat), s.live = true → i < 2 → s.odlUp i = true →
    Does (.odlTime i time rate src) s ((s.flitGood i).takeTime i time rate src)) ∧
  (∀ (s : State) (i : Nat) (b : OdlBeacon), s.live = true → i < 2 → s.odlUp i = true →
    Does (.odlBeacon i b) s ((s.flitGood i).takeBeacon i b)) ∧
  (∀ (s : State) (i p : Nat), s.live = true → i < 2 → s.odlUp i = true → p < 4 → p ≠ s.pins.cascPos →
    Does (.odlLeave i p) s (((s.flitGood i).portFalls i 4).posAbsent p)) ∧
  (∀ (s : State) (i : Nat), s.live = true → i < 2 → s.odlUp i = true →
    Does (.flitCrcError i) s (s.flitCrc i) ∧ Does (.odlLinkDown i) s (s.portFalls i 1)) ∧
  (∀ (s : State) (p : Nat), s.live = true → p < 4 → p ≠ s.pins.cascPos → (s.odlPos p).heard = false →
    s.getF (Reg.ODL_CFG_BEACON_MISS ((s.routePort p).getD 0)) ≤ (s.odlPos p).missed → Does (.beaconMiss p) s (s.posAbsent p)) ∧
  (∀ s : State, s.live = true → Does .timeSend s s.sendTime) ∧
  (∀ (s : State) (i : Nat), s.live = true → i < 2 → s.isRunning (odlPage i) = true → s.onF (Reg.ODL_STAT_UP i) = false →
    i ∉ s.odl.training → ∃ u, exec (.odlRetrainTimer i) s = .next u ∧ i ∈ u.odl.training ∧ u.regs = s.regs ∧ u.mem = s.mem) ∧
  (∀ (s : State) (req : Requester) (i : Nat), i < 2 → s.Takes req (Reg.ODL_RETRAIN i) 1 → s.isRunning (odlPage i) = true →
    s.onF (Reg.ODL_STAT_UP i) = false → ∃ u, exec (.odlRetrain req i) s = .next u ∧ i ∈ u.odl.training ∧ u.regs = s.regs ∧
      u.mem = s.mem)

/-! ## Refused accesses -/

/-- Every refused access increments its count in DEV_ACCERR and sets the bit of its cause, and each time a count increments
FS_DEV_ACCERR, whose class is NOTE by default, is raised; a count at its limit does not increment, and then nothing is raised (R88). -/
def Obligations.RefusedAccessesAreCounted : Prop :=
  (∀ (s : State) (req : Requester) (c : Cause) (b : Fld), causeFld c = some b → ∃ v : State, v.onF b = true ∧
    (s.getF (accCount req) < 255 → v.getF (accCount req) = s.getF (accCount req) + 1 ∧
      s.refuse req c = (v.raise FS.DEV_ACCERR).respond req (refusedStatus req) []) ∧
    (s.getF (accCount req) = 255 → v.getF (accCount req) = 255 ∧ s.refuse req c = v.respond req (refusedStatus req) []) ∧
    v.mem = s.mem ∧ v.sch = s.sch ∧ ∀ a, a ≠ Reg.DEV_ACCERR → v.reg a = s.reg a) ∧
  defaultSeverity FS.DEV_ACCERR = .note

/-- A SHARE whose increment would bring REFCNT to 65,535 is refused with KV_REFSAT: it holds no result, and no count changes (R226). -/
def Obligations.ShareAtSaturationIsRefused : Prop :=
  ∀ (s : State) (p t : Nat) (c : Cmd), s.rowOk p t (s.linkAt (c.linkAddr 0)).addr 16 true = true →
    (s.linkAt (c.linkAddr 0)).v = false → s.pageUsable p (c.f 0x30 19 0) = true →
    c.f 0x24 6 0 ≤ s.pageHwm (c.f 0x30 19 0) % 128 → s.pageLayout (c.f 0x30 19 0) = c.kvLayout →
    (s.refCount (c.f 0x30 19 0) + 1 = 65535 → s.runShare p t c = ({ verdict := .kv 0x13 }, s)) ∧
    (s.refCount (c.f 0x30 19 0) + 1 < 65535 → (s.runShare p t c).1.verdict = .passed ∧
      (s.runShare p t c).2.refCount (c.f 0x30 19 0) = s.refCount (c.f 0x30 19 0) + 1 ∧
      ∀ n < 2 ^ 20, n ≠ c.f 0x30 19 0 → (s.runShare p t c).2.refCount n = s.refCount n)
end

