-- ==== Sys2Proof/Laws/Store.lean ====
section
/-! SUPPORT. The laws of sparse stores: a read after a write, the canonical form, and that equal reads mean equal stores. -/

namespace Sys2Proof.Machine

variable {α : Type}

theorem Sparse.get_erase (d : Nat → α) (l : Sparse α) (k j : Nat) :
    Sparse.get d (Sparse.erase l k) j = if j = k then d j else Sparse.get d l j := by
  induction l with
  | nil => simp [Sparse.erase, Sparse.get]
  | cons e r ih =>
    obtain ⟨i, v⟩ := e
    by_cases h : k = i
    · subst h
      rw [Sparse.erase, if_pos rfl, ih]
      by_cases hj : j = k <;> simp [Sparse.get, hj]
    · rw [Sparse.erase, if_neg h]
      by_cases hj : j = i
      · subst hj; simp [Sparse.get, Ne.symm h]
      · simp [Sparse.get, hj, ih]

theorem Sparse.get_insert (d : Nat → α) (l : Sparse α) (k : Nat) (v : α) (j : Nat) (h : ∀ e ∈ l, e.1 ≠ k) :
    Sparse.get d (Sparse.insert l k v) j = if j = k then v else Sparse.get d l j := by
  induction l with
  | nil => simp [Sparse.insert, Sparse.get]
  | cons e r ih =>
    obtain ⟨i, u⟩ := e
    have hi : i ≠ k := h (i, u) (by simp)
    by_cases hk : k < i
    · rw [Sparse.insert, if_pos hk]; rfl
    · rw [Sparse.insert, if_neg hk]
      by_cases hj : j = i
      · subst hj; simp [Sparse.get, hi]
      · simp [Sparse.get, hj, ih (fun e he => h e (by simp [he]))]

theorem Sparse.mem_erase {l : Sparse α} {k : Nat} {e : Nat × α} (h : e ∈ Sparse.erase l k) : e ∈ l ∧ e.1 ≠ k := by
  induction l with
  | nil => simp [Sparse.erase] at h
  | cons f r ih =>
    obtain ⟨i, v⟩ := f
    by_cases hk : k = i
    · rw [Sparse.erase, if_pos hk] at h
      exact ⟨List.mem_cons_of_mem _ (ih h).1, (ih h).2⟩
    · rw [Sparse.erase, if_neg hk] at h
      rcases List.mem_cons.mp h with rfl | h
      · exact ⟨by simp, Ne.symm hk⟩
      · exact ⟨List.mem_cons_of_mem _ (ih h).1, (ih h).2⟩

/-- What a number reads as after a write. -/
theorem Sparse.get_set [DecidableEq α] (d : Nat → α) (l : Sparse α) (k : Nat) (v : α) (j : Nat) :
    Sparse.get d (Sparse.set d l k v) j = if j = k then v else Sparse.get d l j := by
  unfold Sparse.set
  split
  · next h => rw [Sparse.get_erase]; by_cases hj : j = k <;> simp [hj, h]
  · rw [Sparse.get_insert d _ k v j (fun e he => (Sparse.mem_erase he).2), Sparse.get_erase]
    by_cases hj : j = k <;> simp [hj]

@[simp] theorem Sparse.get_set_same [DecidableEq α] (d : Nat → α) (l : Sparse α) (k : Nat) (v : α) :
    Sparse.get d (Sparse.set d l k v) k = v := by simp [Sparse.get_set]

theorem Sparse.get_set_ne [DecidableEq α] (d : Nat → α) (l : Sparse α) {k j : Nat} (v : α) (h : j ≠ k) :
    Sparse.get d (Sparse.set d l k v) j = Sparse.get d l j := by simp [Sparse.get_set, h]

/-- The bound of a store moves down. -/
theorem Sparse.wfFrom_weaken [DecidableEq α] {d : Nat → α} {l : Sparse α} {c : Nat} {b : Option Nat}
    (h : Sparse.wfFrom d (some c) l = true) (hb : ∀ x, b = some x → x ≤ c) : Sparse.wfFrom d b l = true := by
  cases l with
  | nil => rfl
  | cons e r =>
    obtain ⟨i, v⟩ := e
    simp only [Sparse.wfFrom, Bool.and_eq_true, decide_eq_true_eq] at h ⊢
    refine ⟨⟨?_, h.1.2⟩, h.2⟩
    cases b with
    | none => rfl
    | some x => simpa using Nat.lt_of_le_of_lt (hb x rfl) h.1.1

theorem Sparse.wfFrom_erase [DecidableEq α] {d : Nat → α} {l : Sparse α} {b : Option Nat} (k : Nat)
    (h : Sparse.wfFrom d b l = true) : Sparse.wfFrom d b (Sparse.erase l k) = true := by
  induction l generalizing b with
  | nil => rfl
  | cons e r ih =>
    obtain ⟨i, v⟩ := e
    simp only [Sparse.wfFrom, Bool.and_eq_true, decide_eq_true_eq] at h
    by_cases hk : k = i
    · rw [Sparse.erase, if_pos hk]
      refine Sparse.wfFrom_weaken (ih h.2) ?_
      intro x hx; subst hx
      have := h.1.1; simp at this; omega
    · rw [Sparse.erase, if_neg hk]
      simp only [Sparse.wfFrom, Bool.and_eq_true, decide_eq_true_eq]
      exact ⟨h.1, ih h.2⟩

theorem Sparse.wfFrom_insert [DecidableEq α] {d : Nat → α} {l : Sparse α} {b : Option Nat} {k : Nat} {v : α}
    (h : Sparse.wfFrom d b l = true) (hb : ∀ x, b = some x → x < k) (hv : v ≠ d k) (hk : ∀ e ∈ l, e.1 ≠ k) :
    Sparse.wfFrom d b (Sparse.insert l k v) = true := by
  induction l generalizing b with
  | nil =>
    simp only [Sparse.insert, Sparse.wfFrom, Bool.and_eq_true, decide_eq_true_eq, and_true]
    cases b with
    | none => exact ⟨rfl, hv⟩
    | some x => exact ⟨by simpa using hb x rfl, hv⟩
  | cons e r ih =>
    obtain ⟨i, u⟩ := e
    simp only [Sparse.wfFrom, Bool.and_eq_true, decide_eq_true_eq] at h
    have hne : i ≠ k := hk (i, u) (by simp)
    by_cases hlt : k < i
    · rw [Sparse.insert, if_pos hlt]
      simp only [Sparse.wfFrom, Bool.and_eq_true, decide_eq_true_eq]
      refine ⟨⟨?_, hv⟩, ⟨by simpa using hlt, h.1.2⟩, h.2⟩
      cases b with
      | none => rfl
      | some x => simpa using hb x rfl
    · rw [Sparse.insert, if_neg hlt]
      simp only [Sparse.wfFrom, Bool.and_eq_true, decide_eq_true_eq]
      refine ⟨h.1, ih h.2 ?_ (fun e he => hk e (by simp [he]))⟩
      intro x hx; cases hx; omega

/-- A write keeps the canonical form. -/
theorem Sparse.wf_set [DecidableEq α] {d : Nat → α} {l : Sparse α} (k : Nat) (v : α) (h : Sparse.wf d l = true) :
    Sparse.wf d (Sparse.set d l k v) = true := by
  unfold Sparse.set
  split
  · exact Sparse.wfFrom_erase k h
  · next hv =>
    exact Sparse.wfFrom_insert (Sparse.wfFrom_erase k h) (by simp) hv (fun e he => (Sparse.mem_erase he).2)

/-- Below the bound of a store everything reads as unlisted. -/
theorem Sparse.get_below [DecidableEq α] {d : Nat → α} {l : Sparse α} {c j : Nat} (h : Sparse.wfFrom d (some c) l = true)
    (hj : j ≤ c) : Sparse.get d l j = d j := by
  induction l generalizing c with
  | nil => rfl
  | cons e r ih =>
    obtain ⟨i, v⟩ := e
    simp only [Sparse.wfFrom, Bool.and_eq_true, decide_eq_true_eq] at h
    have hi : c < i := by simpa using h.1.1
    rw [Sparse.get, if_neg (by omega), ih h.2 (by omega)]

/-- Stores in canonical form that read alike are equal. -/
theorem Sparse.ext [DecidableEq α] {d : Nat → α} {l m : Sparse α} (b : Option Nat) (hl : Sparse.wfFrom d b l = true)
    (hm : Sparse.wfFrom d b m = true) (h : ∀ k, Sparse.get d l k = Sparse.get d m k) : l = m := by
  induction l generalizing b m with
  | nil =>
    cases m with
    | nil => rfl
    | cons e r =>
      obtain ⟨i, v⟩ := e
      simp only [Sparse.wfFrom, Bool.and_eq_true, decide_eq_true_eq] at hm
      have := h i
      simp [Sparse.get] at this
      exact absurd this.symm hm.1.2
  | cons e r ih =>
    obtain ⟨i, v⟩ := e
    simp only [Sparse.wfFrom, Bool.and_eq_true, decide_eq_true_eq] at hl
    cases m with
    | nil =>
      have := h i
      simp [Sparse.get] at this
      exact absurd this hl.1.2
    | cons f t =>
      obtain ⟨j, u⟩ := f
      simp only [Sparse.wfFrom, Bool.and_eq_true, decide_eq_true_eq] at hm
      have hij : i = j := by
        rcases Nat.lt_trichotomy i j with hlt | heq | hgt
        · have h1 := h i
          rw [Sparse.get, if_pos rfl, Sparse.get, if_neg (by omega), Sparse.get_below hm.2 (by omega)] at h1
          exact absurd h1 hl.1.2
        · exact heq
        · have h1 := h j
          rw [Sparse.get, if_neg (by omega), Sparse.get, if_pos rfl, Sparse.get_below hl.2 (by omega)] at h1
          exact absurd h1.symm hm.1.2
      subst hij
      have huv : v = u := by have := h i; simpa [Sparse.get] using this
      subst huv
      rw [ih (some i) hl.2 hm.2 ?_]
      intro k
      by_cases hk : k ≤ i
      · rw [Sparse.get_below hl.2 hk, Sparse.get_below hm.2 hk]
      · have := h k
        rwa [Sparse.get, if_neg (by omega), Sparse.get, if_neg (by omega)] at this

end Sys2Proof.Machine
end

