-- ==== Sys2Proof/Laws/State.lean ====
section
/-! SUPPORT. What each basic update of the state leaves alone, field by field, and that memory and the register file keep their
canonical form. -/

namespace Sys2Proof.Machine

/-! ### setReg -/

@[simp] theorem State.setReg_pending (s : State) (a : Nat) (v : Word) : (s.setReg a v).pending = s.pending := rfl
@[simp] theorem State.setReg_freeCtr (s : State) (a : Nat) (v : Word) : (s.setReg a v).freeCtr = s.freeCtr := rfl
@[simp] theorem State.setReg_sent (s : State) (a : Nat) (v : Word) : (s.setReg a v).sent = s.sent := rfl
@[simp] theorem State.setReg_arb (s : State) (a : Nat) (v : Word) : (s.setReg a v).arb = s.arb := rfl
@[simp] theorem State.setReg_ue (s : State) (a : Nat) (v : Word) : (s.setReg a v).ue = s.ue := rfl
@[simp] theorem State.setReg_mem (s : State) (a : Nat) (v : Word) : (s.setReg a v).mem = s.mem := rfl
@[simp] theorem State.setReg_blocks (s : State) (a : Nat) (v : Word) : (s.setReg a v).blocks = s.blocks := rfl
@[simp] theorem State.setReg_pins (s : State) (a : Nat) (v : Word) : (s.setReg a v).pins = s.pins := rfl
@[simp] theorem State.setReg_dev (s : State) (a : Nat) (v : Word) : (s.setReg a v).dev = s.dev := rfl
@[simp] theorem State.setReg_fc (s : State) (a : Nat) (v : Word) : (s.setReg a v).fc = s.fc := rfl
@[simp] theorem State.setReg_qtz (s : State) (a : Nat) (v : Word) : (s.setReg a v).qtz = s.qtz := rfl
@[simp] theorem State.setReg_sch (s : State) (a : Nat) (v : Word) : (s.setReg a v).sch = s.sch := rfl
@[simp] theorem State.setReg_tier (s : State) (a : Nat) (v : Word) : (s.setReg a v).tier = s.tier := rfl
@[simp] theorem State.setReg_pcie (s : State) (a : Nat) (v : Word) : (s.setReg a v).pcie = s.pcie := rfl
@[simp] theorem State.setReg_wdg (s : State) (a : Nat) (v : Word) : (s.setReg a v).wdg = s.wdg := rfl
@[simp] theorem State.setReg_test (s : State) (a : Nat) (v : Word) : (s.setReg a v).test = s.test := rfl
@[simp] theorem State.setReg_frame (s : State) (a : Nat) (v : Word) : (s.setReg a v).frame = s.frame := rfl
@[simp] theorem State.setReg_pwr (s : State) (a : Nat) (v : Word) : (s.setReg a v).pwr = s.pwr := rfl
@[simp] theorem State.setReg_stm (s : State) (a : Nat) (v : Word) : (s.setReg a v).stm = s.stm := rfl
@[simp] theorem State.setReg_odl (s : State) (a : Nat) (v : Word) : (s.setReg a v).odl = s.odl := rfl
@[simp] theorem State.setReg_agt (s : State) (a : Nat) (v : Word) : (s.setReg a v).agt = s.agt := rfl
@[simp] theorem State.setReg_pum (s : State) (a : Nat) (v : Word) : (s.setReg a v).pum = s.pum := rfl
@[simp] theorem State.setReg_eth (s : State) (a : Nat) (v : Word) : (s.setReg a v).eth = s.eth := rfl
@[simp] theorem State.setReg_can (s : State) (a : Nat) (v : Word) : (s.setReg a v).can = s.can := rfl
@[simp] theorem State.setReg_iox (s : State) (a : Nat) (v : Word) : (s.setReg a v).iox = s.iox := rfl
@[simp] theorem State.setReg_tap (s : State) (a : Nat) (v : Word) : (s.setReg a v).tap = s.tap := rfl
@[simp] theorem State.setReg_sec (s : State) (a : Nat) (v : Word) : (s.setReg a v).sec = s.sec := rfl
@[simp] theorem State.setReg_slt (s : State) (a : Nat) (v : Word) : (s.setReg a v).slt = s.slt := rfl
@[simp] theorem State.setReg_flt (s : State) (a : Nat) (v : Word) : (s.setReg a v).flt = s.flt := rfl
@[simp] theorem State.setReg_gnt (s : State) (a : Nat) (v : Word) : (s.setReg a v).gnt = s.gnt := rfl
@[simp] theorem State.setReg_ing (s : State) (a : Nat) (v : Word) : (s.setReg a v).ing = s.ing := rfl

/-! ### setByte -/

@[simp] theorem State.setByte_pending (s : State) (a : Nat) (b : Byte) : (s.setByte a b).pending = s.pending := rfl
@[simp] theorem State.setByte_freeCtr (s : State) (a : Nat) (b : Byte) : (s.setByte a b).freeCtr = s.freeCtr := rfl
@[simp] theorem State.setByte_sent (s : State) (a : Nat) (b : Byte) : (s.setByte a b).sent = s.sent := rfl
@[simp] theorem State.setByte_arb (s : State) (a : Nat) (b : Byte) : (s.setByte a b).arb = s.arb := rfl
@[simp] theorem State.setByte_ue (s : State) (a : Nat) (b : Byte) : (s.setByte a b).ue = s.ue := rfl
@[simp] theorem State.setByte_regs (s : State) (a : Nat) (b : Byte) : (s.setByte a b).regs = s.regs := rfl
@[simp] theorem State.setByte_blocks (s : State) (a : Nat) (b : Byte) : (s.setByte a b).blocks = s.blocks := rfl
@[simp] theorem State.setByte_pins (s : State) (a : Nat) (b : Byte) : (s.setByte a b).pins = s.pins := rfl
@[simp] theorem State.setByte_dev (s : State) (a : Nat) (b : Byte) : (s.setByte a b).dev = s.dev := rfl
@[simp] theorem State.setByte_fc (s : State) (a : Nat) (b : Byte) : (s.setByte a b).fc = s.fc := rfl
@[simp] theorem State.setByte_qtz (s : State) (a : Nat) (b : Byte) : (s.setByte a b).qtz = s.qtz := rfl
@[simp] theorem State.setByte_sch (s : State) (a : Nat) (b : Byte) : (s.setByte a b).sch = s.sch := rfl
@[simp] theorem State.setByte_tier (s : State) (a : Nat) (b : Byte) : (s.setByte a b).tier = s.tier := rfl
@[simp] theorem State.setByte_pcie (s : State) (a : Nat) (b : Byte) : (s.setByte a b).pcie = s.pcie := rfl
@[simp] theorem State.setByte_wdg (s : State) (a : Nat) (b : Byte) : (s.setByte a b).wdg = s.wdg := rfl
@[simp] theorem State.setByte_test (s : State) (a : Nat) (b : Byte) : (s.setByte a b).test = s.test := rfl
@[simp] theorem State.setByte_frame (s : State) (a : Nat) (b : Byte) : (s.setByte a b).frame = s.frame := rfl
@[simp] theorem State.setByte_pwr (s : State) (a : Nat) (b : Byte) : (s.setByte a b).pwr = s.pwr := rfl
@[simp] theorem State.setByte_stm (s : State) (a : Nat) (b : Byte) : (s.setByte a b).stm = s.stm := rfl
@[simp] theorem State.setByte_odl (s : State) (a : Nat) (b : Byte) : (s.setByte a b).odl = s.odl := rfl
@[simp] theorem State.setByte_agt (s : State) (a : Nat) (b : Byte) : (s.setByte a b).agt = s.agt := rfl
@[simp] theorem State.setByte_pum (s : State) (a : Nat) (b : Byte) : (s.setByte a b).pum = s.pum := rfl
@[simp] theorem State.setByte_eth (s : State) (a : Nat) (b : Byte) : (s.setByte a b).eth = s.eth := rfl
@[simp] theorem State.setByte_can (s : State) (a : Nat) (b : Byte) : (s.setByte a b).can = s.can := rfl
@[simp] theorem State.setByte_iox (s : State) (a : Nat) (b : Byte) : (s.setByte a b).iox = s.iox := rfl
@[simp] theorem State.setByte_tap (s : State) (a : Nat) (b : Byte) : (s.setByte a b).tap = s.tap := rfl
@[simp] theorem State.setByte_sec (s : State) (a : Nat) (b : Byte) : (s.setByte a b).sec = s.sec := rfl
@[simp] theorem State.setByte_slt (s : State) (a : Nat) (b : Byte) : (s.setByte a b).slt = s.slt := rfl
@[simp] theorem State.setByte_flt (s : State) (a : Nat) (b : Byte) : (s.setByte a b).flt = s.flt := rfl
@[simp] theorem State.setByte_gnt (s : State) (a : Nat) (b : Byte) : (s.setByte a b).gnt = s.gnt := rfl
@[simp] theorem State.setByte_ing (s : State) (a : Nat) (b : Byte) : (s.setByte a b).ing = s.ing := rfl

/-! ### emit -/

@[simp] theorem State.emit_pending (s : State) (e : Emission) : (s.emit e).pending = s.pending := rfl
@[simp] theorem State.emit_freeCtr (s : State) (e : Emission) : (s.emit e).freeCtr = s.freeCtr := rfl
@[simp] theorem State.emit_arb (s : State) (e : Emission) : (s.emit e).arb = s.arb := rfl
@[simp] theorem State.emit_ue (s : State) (e : Emission) : (s.emit e).ue = s.ue := rfl
@[simp] theorem State.emit_mem (s : State) (e : Emission) : (s.emit e).mem = s.mem := rfl
@[simp] theorem State.emit_regs (s : State) (e : Emission) : (s.emit e).regs = s.regs := rfl
@[simp] theorem State.emit_blocks (s : State) (e : Emission) : (s.emit e).blocks = s.blocks := rfl
@[simp] theorem State.emit_pins (s : State) (e : Emission) : (s.emit e).pins = s.pins := rfl
@[simp] theorem State.emit_dev (s : State) (e : Emission) : (s.emit e).dev = s.dev := rfl
@[simp] theorem State.emit_fc (s : State) (e : Emission) : (s.emit e).fc = s.fc := rfl
@[simp] theorem State.emit_qtz (s : State) (e : Emission) : (s.emit e).qtz = s.qtz := rfl
@[simp] theorem State.emit_sch (s : State) (e : Emission) : (s.emit e).sch = s.sch := rfl
@[simp] theorem State.emit_tier (s : State) (e : Emission) : (s.emit e).tier = s.tier := rfl
@[simp] theorem State.emit_pcie (s : State) (e : Emission) : (s.emit e).pcie = s.pcie := rfl
@[simp] theorem State.emit_wdg (s : State) (e : Emission) : (s.emit e).wdg = s.wdg := rfl
@[simp] theorem State.emit_test (s : State) (e : Emission) : (s.emit e).test = s.test := rfl
@[simp] theorem State.emit_frame (s : State) (e : Emission) : (s.emit e).frame = s.frame := rfl
@[simp] theorem State.emit_pwr (s : State) (e : Emission) : (s.emit e).pwr = s.pwr := rfl
@[simp] theorem State.emit_stm (s : State) (e : Emission) : (s.emit e).stm = s.stm := rfl
@[simp] theorem State.emit_odl (s : State) (e : Emission) : (s.emit e).odl = s.odl := rfl
@[simp] theorem State.emit_agt (s : State) (e : Emission) : (s.emit e).agt = s.agt := rfl
@[simp] theorem State.emit_pum (s : State) (e : Emission) : (s.emit e).pum = s.pum := rfl
@[simp] theorem State.emit_eth (s : State) (e : Emission) : (s.emit e).eth = s.eth := rfl
@[simp] theorem State.emit_can (s : State) (e : Emission) : (s.emit e).can = s.can := rfl
@[simp] theorem State.emit_iox (s : State) (e : Emission) : (s.emit e).iox = s.iox := rfl
@[simp] theorem State.emit_tap (s : State) (e : Emission) : (s.emit e).tap = s.tap := rfl
@[simp] theorem State.emit_sec (s : State) (e : Emission) : (s.emit e).sec = s.sec := rfl
@[simp] theorem State.emit_slt (s : State) (e : Emission) : (s.emit e).slt = s.slt := rfl
@[simp] theorem State.emit_flt (s : State) (e : Emission) : (s.emit e).flt = s.flt := rfl
@[simp] theorem State.emit_gnt (s : State) (e : Emission) : (s.emit e).gnt = s.gnt := rfl
@[simp] theorem State.emit_ing (s : State) (e : Emission) : (s.emit e).ing = s.ing := rfl

/-! ### setBlock -/

@[simp] theorem State.setBlock_pending (s : State) (p : Nat) (b : Block) : (s.setBlock p b).pending = s.pending := rfl
@[simp] theorem State.setBlock_freeCtr (s : State) (p : Nat) (b : Block) : (s.setBlock p b).freeCtr = s.freeCtr := rfl
@[simp] theorem State.setBlock_sent (s : State) (p : Nat) (b : Block) : (s.setBlock p b).sent = s.sent := rfl
@[simp] theorem State.setBlock_arb (s : State) (p : Nat) (b : Block) : (s.setBlock p b).arb = s.arb := rfl
@[simp] theorem State.setBlock_ue (s : State) (p : Nat) (b : Block) : (s.setBlock p b).ue = s.ue := rfl
@[simp] theorem State.setBlock_mem (s : State) (p : Nat) (b : Block) : (s.setBlock p b).mem = s.mem := rfl
@[simp] theorem State.setBlock_regs (s : State) (p : Nat) (b : Block) : (s.setBlock p b).regs = s.regs := rfl
@[simp] theorem State.setBlock_pins (s : State) (p : Nat) (b : Block) : (s.setBlock p b).pins = s.pins := rfl
@[simp] theorem State.setBlock_dev (s : State) (p : Nat) (b : Block) : (s.setBlock p b).dev = s.dev := rfl
@[simp] theorem State.setBlock_fc (s : State) (p : Nat) (b : Block) : (s.setBlock p b).fc = s.fc := rfl
@[simp] theorem State.setBlock_qtz (s : State) (p : Nat) (b : Block) : (s.setBlock p b).qtz = s.qtz := rfl
@[simp] theorem State.setBlock_sch (s : State) (p : Nat) (b : Block) : (s.setBlock p b).sch = s.sch := rfl
@[simp] theorem State.setBlock_tier (s : State) (p : Nat) (b : Block) : (s.setBlock p b).tier = s.tier := rfl
@[simp] theorem State.setBlock_pcie (s : State) (p : Nat) (b : Block) : (s.setBlock p b).pcie = s.pcie := rfl
@[simp] theorem State.setBlock_wdg (s : State) (p : Nat) (b : Block) : (s.setBlock p b).wdg = s.wdg := rfl
@[simp] theorem State.setBlock_test (s : State) (p : Nat) (b : Block) : (s.setBlock p b).test = s.test := rfl
@[simp] theorem State.setBlock_frame (s : State) (p : Nat) (b : Block) : (s.setBlock p b).frame = s.frame := rfl
@[simp] theorem State.setBlock_pwr (s : State) (p : Nat) (b : Block) : (s.setBlock p b).pwr = s.pwr := rfl
@[simp] theorem State.setBlock_stm (s : State) (p : Nat) (b : Block) : (s.setBlock p b).stm = s.stm := rfl
@[simp] theorem State.setBlock_odl (s : State) (p : Nat) (b : Block) : (s.setBlock p b).odl = s.odl := rfl
@[simp] theorem State.setBlock_agt (s : State) (p : Nat) (b : Block) : (s.setBlock p b).agt = s.agt := rfl
@[simp] theorem State.setBlock_pum (s : State) (p : Nat) (b : Block) : (s.setBlock p b).pum = s.pum := rfl
@[simp] theorem State.setBlock_eth (s : State) (p : Nat) (b : Block) : (s.setBlock p b).eth = s.eth := rfl
@[simp] theorem State.setBlock_can (s : State) (p : Nat) (b : Block) : (s.setBlock p b).can = s.can := rfl
@[simp] theorem State.setBlock_iox (s : State) (p : Nat) (b : Block) : (s.setBlock p b).iox = s.iox := rfl
@[simp] theorem State.setBlock_tap (s : State) (p : Nat) (b : Block) : (s.setBlock p b).tap = s.tap := rfl
@[simp] theorem State.setBlock_sec (s : State) (p : Nat) (b : Block) : (s.setBlock p b).sec = s.sec := rfl
@[simp] theorem State.setBlock_slt (s : State) (p : Nat) (b : Block) : (s.setBlock p b).slt = s.slt := rfl
@[simp] theorem State.setBlock_flt (s : State) (p : Nat) (b : Block) : (s.setBlock p b).flt = s.flt := rfl
@[simp] theorem State.setBlock_gnt (s : State) (p : Nat) (b : Block) : (s.setBlock p b).gnt = s.gnt := rfl
@[simp] theorem State.setBlock_ing (s : State) (p : Nat) (b : Block) : (s.setBlock p b).ing = s.ing := rfl

/-! ### setCtx -/

@[simp] theorem State.setCtx_pending (s : State) (c : Nat) (x : Ctx) : (s.setCtx c x).pending = s.pending := rfl
@[simp] theorem State.setCtx_freeCtr (s : State) (c : Nat) (x : Ctx) : (s.setCtx c x).freeCtr = s.freeCtr := rfl
@[simp] theorem State.setCtx_sent (s : State) (c : Nat) (x : Ctx) : (s.setCtx c x).sent = s.sent := rfl
@[simp] theorem State.setCtx_arb (s : State) (c : Nat) (x : Ctx) : (s.setCtx c x).arb = s.arb := rfl
@[simp] theorem State.setCtx_ue (s : State) (c : Nat) (x : Ctx) : (s.setCtx c x).ue = s.ue := rfl
@[simp] theorem State.setCtx_mem (s : State) (c : Nat) (x : Ctx) : (s.setCtx c x).mem = s.mem := rfl
@[simp] theorem State.setCtx_regs (s : State) (c : Nat) (x : Ctx) : (s.setCtx c x).regs = s.regs := rfl
@[simp] theorem State.setCtx_blocks (s : State) (c : Nat) (x : Ctx) : (s.setCtx c x).blocks = s.blocks := rfl
@[simp] theorem State.setCtx_pins (s : State) (c : Nat) (x : Ctx) : (s.setCtx c x).pins = s.pins := rfl
@[simp] theorem State.setCtx_dev (s : State) (c : Nat) (x : Ctx) : (s.setCtx c x).dev = s.dev := rfl
@[simp] theorem State.setCtx_fc (s : State) (c : Nat) (x : Ctx) : (s.setCtx c x).fc = s.fc := rfl
@[simp] theorem State.setCtx_qtz (s : State) (c : Nat) (x : Ctx) : (s.setCtx c x).qtz = s.qtz := rfl
@[simp] theorem State.setCtx_tier (s : State) (c : Nat) (x : Ctx) : (s.setCtx c x).tier = s.tier := rfl
@[simp] theorem State.setCtx_pcie (s : State) (c : Nat) (x : Ctx) : (s.setCtx c x).pcie = s.pcie := rfl
@[simp] theorem State.setCtx_wdg (s : State) (c : Nat) (x : Ctx) : (s.setCtx c x).wdg = s.wdg := rfl
@[simp] theorem State.setCtx_test (s : State) (c : Nat) (x : Ctx) : (s.setCtx c x).test = s.test := rfl
@[simp] theorem State.setCtx_frame (s : State) (c : Nat) (x : Ctx) : (s.setCtx c x).frame = s.frame := rfl
@[simp] theorem State.setCtx_pwr (s : State) (c : Nat) (x : Ctx) : (s.setCtx c x).pwr = s.pwr := rfl
@[simp] theorem State.setCtx_stm (s : State) (c : Nat) (x : Ctx) : (s.setCtx c x).stm = s.stm := rfl
@[simp] theorem State.setCtx_odl (s : State) (c : Nat) (x : Ctx) : (s.setCtx c x).odl = s.odl := rfl
@[simp] theorem State.setCtx_agt (s : State) (c : Nat) (x : Ctx) : (s.setCtx c x).agt = s.agt := rfl
@[simp] theorem State.setCtx_pum (s : State) (c : Nat) (x : Ctx) : (s.setCtx c x).pum = s.pum := rfl
@[simp] theorem State.setCtx_eth (s : State) (c : Nat) (x : Ctx) : (s.setCtx c x).eth = s.eth := rfl
@[simp] theorem State.setCtx_can (s : State) (c : Nat) (x : Ctx) : (s.setCtx c x).can = s.can := rfl
@[simp] theorem State.setCtx_iox (s : State) (c : Nat) (x : Ctx) : (s.setCtx c x).iox = s.iox := rfl
@[simp] theorem State.setCtx_tap (s : State) (c : Nat) (x : Ctx) : (s.setCtx c x).tap = s.tap := rfl
@[simp] theorem State.setCtx_sec (s : State) (c : Nat) (x : Ctx) : (s.setCtx c x).sec = s.sec := rfl
@[simp] theorem State.setCtx_slt (s : State) (c : Nat) (x : Ctx) : (s.setCtx c x).slt = s.slt := rfl
@[simp] theorem State.setCtx_flt (s : State) (c : Nat) (x : Ctx) : (s.setCtx c x).flt = s.flt := rfl
@[simp] theorem State.setCtx_gnt (s : State) (c : Nat) (x : Ctx) : (s.setCtx c x).gnt = s.gnt := rfl
@[simp] theorem State.setCtx_ing (s : State) (c : Nat) (x : Ctx) : (s.setCtx c x).ing = s.ing := rfl

/-! ### setTile -/

@[simp] theorem State.setTile_pending (s : State) (t : Nat) (x : Tile) : (s.setTile t x).pending = s.pending := rfl
@[simp] theorem State.setTile_freeCtr (s : State) (t : Nat) (x : Tile) : (s.setTile t x).freeCtr = s.freeCtr := rfl
@[simp] theorem State.setTile_sent (s : State) (t : Nat) (x : Tile) : (s.setTile t x).sent = s.sent := rfl
@[simp] theorem State.setTile_arb (s : State) (t : Nat) (x : Tile) : (s.setTile t x).arb = s.arb := rfl
@[simp] theorem State.setTile_ue (s : State) (t : Nat) (x : Tile) : (s.setTile t x).ue = s.ue := rfl
@[simp] theorem State.setTile_mem (s : State) (t : Nat) (x : Tile) : (s.setTile t x).mem = s.mem := rfl
@[simp] theorem State.setTile_regs (s : State) (t : Nat) (x : Tile) : (s.setTile t x).regs = s.regs := rfl
@[simp] theorem State.setTile_blocks (s : State) (t : Nat) (x : Tile) : (s.setTile t x).blocks = s.blocks := rfl
@[simp] theorem State.setTile_pins (s : State) (t : Nat) (x : Tile) : (s.setTile t x).pins = s.pins := rfl
@[simp] theorem State.setTile_dev (s : State) (t : Nat) (x : Tile) : (s.setTile t x).dev = s.dev := rfl
@[simp] theorem State.setTile_fc (s : State) (t : Nat) (x : Tile) : (s.setTile t x).fc = s.fc := rfl
@[simp] theorem State.setTile_qtz (s : State) (t : Nat) (x : Tile) : (s.setTile t x).qtz = s.qtz := rfl
@[simp] theorem State.setTile_tier (s : State) (t : Nat) (x : Tile) : (s.setTile t x).tier = s.tier := rfl
@[simp] theorem State.setTile_pcie (s : State) (t : Nat) (x : Tile) : (s.setTile t x).pcie = s.pcie := rfl
@[simp] theorem State.setTile_wdg (s : State) (t : Nat) (x : Tile) : (s.setTile t x).wdg = s.wdg := rfl
@[simp] theorem State.setTile_test (s : State) (t : Nat) (x : Tile) : (s.setTile t x).test = s.test := rfl
@[simp] theorem State.setTile_frame (s : State) (t : Nat) (x : Tile) : (s.setTile t x).frame = s.frame := rfl
@[simp] theorem State.setTile_pwr (s : State) (t : Nat) (x : Tile) : (s.setTile t x).pwr = s.pwr := rfl
@[simp] theorem State.setTile_stm (s : State) (t : Nat) (x : Tile) : (s.setTile t x).stm = s.stm := rfl
@[simp] theorem State.setTile_odl (s : State) (t : Nat) (x : Tile) : (s.setTile t x).odl = s.odl := rfl
@[simp] theorem State.setTile_agt (s : State) (t : Nat) (x : Tile) : (s.setTile t x).agt = s.agt := rfl
@[simp] theorem State.setTile_pum (s : State) (t : Nat) (x : Tile) : (s.setTile t x).pum = s.pum := rfl
@[simp] theorem State.setTile_eth (s : State) (t : Nat) (x : Tile) : (s.setTile t x).eth = s.eth := rfl
@[simp] theorem State.setTile_can (s : State) (t : Nat) (x : Tile) : (s.setTile t x).can = s.can := rfl
@[simp] theorem State.setTile_iox (s : State) (t : Nat) (x : Tile) : (s.setTile t x).iox = s.iox := rfl
@[simp] theorem State.setTile_tap (s : State) (t : Nat) (x : Tile) : (s.setTile t x).tap = s.tap := rfl
@[simp] theorem State.setTile_sec (s : State) (t : Nat) (x : Tile) : (s.setTile t x).sec = s.sec := rfl
@[simp] theorem State.setTile_slt (s : State) (t : Nat) (x : Tile) : (s.setTile t x).slt = s.slt := rfl
@[simp] theorem State.setTile_flt (s : State) (t : Nat) (x : Tile) : (s.setTile t x).flt = s.flt := rfl
@[simp] theorem State.setTile_gnt (s : State) (t : Nat) (x : Tile) : (s.setTile t x).gnt = s.gnt := rfl
@[simp] theorem State.setTile_ing (s : State) (t : Nat) (x : Tile) : (s.setTile t x).ing = s.ing := rfl

/-! ### setModel -/

@[simp] theorem State.setModel_pending (s : State) (m : Nat) (x : Model) : (s.setModel m x).pending = s.pending := rfl
@[simp] theorem State.setModel_freeCtr (s : State) (m : Nat) (x : Model) : (s.setModel m x).freeCtr = s.freeCtr := rfl
@[simp] theorem State.setModel_sent (s : State) (m : Nat) (x : Model) : (s.setModel m x).sent = s.sent := rfl
@[simp] theorem State.setModel_arb (s : State) (m : Nat) (x : Model) : (s.setModel m x).arb = s.arb := rfl
@[simp] theorem State.setModel_ue (s : State) (m : Nat) (x : Model) : (s.setModel m x).ue = s.ue := rfl
@[simp] theorem State.setModel_mem (s : State) (m : Nat) (x : Model) : (s.setModel m x).mem = s.mem := rfl
@[simp] theorem State.setModel_regs (s : State) (m : Nat) (x : Model) : (s.setModel m x).regs = s.regs := rfl
@[simp] theorem State.setModel_blocks (s : State) (m : Nat) (x : Model) : (s.setModel m x).blocks = s.blocks := rfl
@[simp] theorem State.setModel_pins (s : State) (m : Nat) (x : Model) : (s.setModel m x).pins = s.pins := rfl
@[simp] theorem State.setModel_dev (s : State) (m : Nat) (x : Model) : (s.setModel m x).dev = s.dev := rfl
@[simp] theorem State.setModel_fc (s : State) (m : Nat) (x : Model) : (s.setModel m x).fc = s.fc := rfl
@[simp] theorem State.setModel_qtz (s : State) (m : Nat) (x : Model) : (s.setModel m x).qtz = s.qtz := rfl
@[simp] theorem State.setModel_tier (s : State) (m : Nat) (x : Model) : (s.setModel m x).tier = s.tier := rfl
@[simp] theorem State.setModel_pcie (s : State) (m : Nat) (x : Model) : (s.setModel m x).pcie = s.pcie := rfl
@[simp] theorem State.setModel_wdg (s : State) (m : Nat) (x : Model) : (s.setModel m x).wdg = s.wdg := rfl
@[simp] theorem State.setModel_test (s : State) (m : Nat) (x : Model) : (s.setModel m x).test = s.test := rfl
@[simp] theorem State.setModel_frame (s : State) (m : Nat) (x : Model) : (s.setModel m x).frame = s.frame := rfl
@[simp] theorem State.setModel_pwr (s : State) (m : Nat) (x : Model) : (s.setModel m x).pwr = s.pwr := rfl
@[simp] theorem State.setModel_stm (s : State) (m : Nat) (x : Model) : (s.setModel m x).stm = s.stm := rfl
@[simp] theorem State.setModel_odl (s : State) (m : Nat) (x : Model) : (s.setModel m x).odl = s.odl := rfl
@[simp] theorem State.setModel_agt (s : State) (m : Nat) (x : Model) : (s.setModel m x).agt = s.agt := rfl
@[simp] theorem State.setModel_pum (s : State) (m : Nat) (x : Model) : (s.setModel m x).pum = s.pum := rfl
@[simp] theorem State.setModel_eth (s : State) (m : Nat) (x : Model) : (s.setModel m x).eth = s.eth := rfl
@[simp] theorem State.setModel_can (s : State) (m : Nat) (x : Model) : (s.setModel m x).can = s.can := rfl
@[simp] theorem State.setModel_iox (s : State) (m : Nat) (x : Model) : (s.setModel m x).iox = s.iox := rfl
@[simp] theorem State.setModel_tap (s : State) (m : Nat) (x : Model) : (s.setModel m x).tap = s.tap := rfl
@[simp] theorem State.setModel_sec (s : State) (m : Nat) (x : Model) : (s.setModel m x).sec = s.sec := rfl
@[simp] theorem State.setModel_slt (s : State) (m : Nat) (x : Model) : (s.setModel m x).slt = s.slt := rfl
@[simp] theorem State.setModel_flt (s : State) (m : Nat) (x : Model) : (s.setModel m x).flt = s.flt := rfl
@[simp] theorem State.setModel_gnt (s : State) (m : Nat) (x : Model) : (s.setModel m x).gnt = s.gnt := rfl
@[simp] theorem State.setModel_ing (s : State) (m : Nat) (x : Model) : (s.setModel m x).ing = s.ing := rfl

/-! ### setBase -/

@[simp] theorem State.setBase_pending (s : State) (b : Nat) (x : TimeBase) : (s.setBase b x).pending = s.pending := rfl
@[simp] theorem State.setBase_freeCtr (s : State) (b : Nat) (x : TimeBase) : (s.setBase b x).freeCtr = s.freeCtr := rfl
@[simp] theorem State.setBase_sent (s : State) (b : Nat) (x : TimeBase) : (s.setBase b x).sent = s.sent := rfl
@[simp] theorem State.setBase_arb (s : State) (b : Nat) (x : TimeBase) : (s.setBase b x).arb = s.arb := rfl
@[simp] theorem State.setBase_ue (s : State) (b : Nat) (x : TimeBase) : (s.setBase b x).ue = s.ue := rfl
@[simp] theorem State.setBase_mem (s : State) (b : Nat) (x : TimeBase) : (s.setBase b x).mem = s.mem := rfl
@[simp] theorem State.setBase_regs (s : State) (b : Nat) (x : TimeBase) : (s.setBase b x).regs = s.regs := rfl
@[simp] theorem State.setBase_blocks (s : State) (b : Nat) (x : TimeBase) : (s.setBase b x).blocks = s.blocks := rfl
@[simp] theorem State.setBase_pins (s : State) (b : Nat) (x : TimeBase) : (s.setBase b x).pins = s.pins := rfl
@[simp] theorem State.setBase_dev (s : State) (b : Nat) (x : TimeBase) : (s.setBase b x).dev = s.dev := rfl
@[simp] theorem State.setBase_fc (s : State) (b : Nat) (x : TimeBase) : (s.setBase b x).fc = s.fc := rfl
@[simp] theorem State.setBase_sch (s : State) (b : Nat) (x : TimeBase) : (s.setBase b x).sch = s.sch := rfl
@[simp] theorem State.setBase_tier (s : State) (b : Nat) (x : TimeBase) : (s.setBase b x).tier = s.tier := rfl
@[simp] theorem State.setBase_pcie (s : State) (b : Nat) (x : TimeBase) : (s.setBase b x).pcie = s.pcie := rfl
@[simp] theorem State.setBase_wdg (s : State) (b : Nat) (x : TimeBase) : (s.setBase b x).wdg = s.wdg := rfl
@[simp] theorem State.setBase_test (s : State) (b : Nat) (x : TimeBase) : (s.setBase b x).test = s.test := rfl
@[simp] theorem State.setBase_frame (s : State) (b : Nat) (x : TimeBase) : (s.setBase b x).frame = s.frame := rfl
@[simp] theorem State.setBase_pwr (s : State) (b : Nat) (x : TimeBase) : (s.setBase b x).pwr = s.pwr := rfl
@[simp] theorem State.setBase_stm (s : State) (b : Nat) (x : TimeBase) : (s.setBase b x).stm = s.stm := rfl
@[simp] theorem State.setBase_odl (s : State) (b : Nat) (x : TimeBase) : (s.setBase b x).odl = s.odl := rfl
@[simp] theorem State.setBase_agt (s : State) (b : Nat) (x : TimeBase) : (s.setBase b x).agt = s.agt := rfl
@[simp] theorem State.setBase_pum (s : State) (b : Nat) (x : TimeBase) : (s.setBase b x).pum = s.pum := rfl
@[simp] theorem State.setBase_eth (s : State) (b : Nat) (x : TimeBase) : (s.setBase b x).eth = s.eth := rfl
@[simp] theorem State.setBase_can (s : State) (b : Nat) (x : TimeBase) : (s.setBase b x).can = s.can := rfl
@[simp] theorem State.setBase_iox (s : State) (b : Nat) (x : TimeBase) : (s.setBase b x).iox = s.iox := rfl
@[simp] theorem State.setBase_tap (s : State) (b : Nat) (x : TimeBase) : (s.setBase b x).tap = s.tap := rfl
@[simp] theorem State.setBase_sec (s : State) (b : Nat) (x : TimeBase) : (s.setBase b x).sec = s.sec := rfl
@[simp] theorem State.setBase_slt (s : State) (b : Nat) (x : TimeBase) : (s.setBase b x).slt = s.slt := rfl
@[simp] theorem State.setBase_flt (s : State) (b : Nat) (x : TimeBase) : (s.setBase b x).flt = s.flt := rfl
@[simp] theorem State.setBase_gnt (s : State) (b : Nat) (x : TimeBase) : (s.setBase b x).gnt = s.gnt := rfl
@[simp] theorem State.setBase_ing (s : State) (b : Nat) (x : TimeBase) : (s.setBase b x).ing = s.ing := rfl

/-! ### setTrigger -/

@[simp] theorem State.setTrigger_pending (s : State) (o : Nat) (x : Trigger) : (s.setTrigger o x).pending = s.pending := rfl
@[simp] theorem State.setTrigger_freeCtr (s : State) (o : Nat) (x : Trigger) : (s.setTrigger o x).freeCtr = s.freeCtr := rfl
@[simp] theorem State.setTrigger_sent (s : State) (o : Nat) (x : Trigger) : (s.setTrigger o x).sent = s.sent := rfl
@[simp] theorem State.setTrigger_arb (s : State) (o : Nat) (x : Trigger) : (s.setTrigger o x).arb = s.arb := rfl
@[simp] theorem State.setTrigger_ue (s : State) (o : Nat) (x : Trigger) : (s.setTrigger o x).ue = s.ue := rfl
@[simp] theorem State.setTrigger_mem (s : State) (o : Nat) (x : Trigger) : (s.setTrigger o x).mem = s.mem := rfl
@[simp] theorem State.setTrigger_regs (s : State) (o : Nat) (x : Trigger) : (s.setTrigger o x).regs = s.regs := rfl
@[simp] theorem State.setTrigger_blocks (s : State) (o : Nat) (x : Trigger) : (s.setTrigger o x).blocks = s.blocks := rfl
@[simp] theorem State.setTrigger_pins (s : State) (o : Nat) (x : Trigger) : (s.setTrigger o x).pins = s.pins := rfl
@[simp] theorem State.setTrigger_dev (s : State) (o : Nat) (x : Trigger) : (s.setTrigger o x).dev = s.dev := rfl
@[simp] theorem State.setTrigger_fc (s : State) (o : Nat) (x : Trigger) : (s.setTrigger o x).fc = s.fc := rfl
@[simp] theorem State.setTrigger_sch (s : State) (o : Nat) (x : Trigger) : (s.setTrigger o x).sch = s.sch := rfl
@[simp] theorem State.setTrigger_tier (s : State) (o : Nat) (x : Trigger) : (s.setTrigger o x).tier = s.tier := rfl
@[simp] theorem State.setTrigger_pcie (s : State) (o : Nat) (x : Trigger) : (s.setTrigger o x).pcie = s.pcie := rfl
@[simp] theorem State.setTrigger_wdg (s : State) (o : Nat) (x : Trigger) : (s.setTrigger o x).wdg = s.wdg := rfl
@[simp] theorem State.setTrigger_test (s : State) (o : Nat) (x : Trigger) : (s.setTrigger o x).test = s.test := rfl
@[simp] theorem State.setTrigger_frame (s : State) (o : Nat) (x : Trigger) : (s.setTrigger o x).frame = s.frame := rfl
@[simp] theorem State.setTrigger_pwr (s : State) (o : Nat) (x : Trigger) : (s.setTrigger o x).pwr = s.pwr := rfl
@[simp] theorem State.setTrigger_stm (s : State) (o : Nat) (x : Trigger) : (s.setTrigger o x).stm = s.stm := rfl
@[simp] theorem State.setTrigger_odl (s : State) (o : Nat) (x : Trigger) : (s.setTrigger o x).odl = s.odl := rfl
@[simp] theorem State.setTrigger_agt (s : State) (o : Nat) (x : Trigger) : (s.setTrigger o x).agt = s.agt := rfl
@[simp] theorem State.setTrigger_pum (s : State) (o : Nat) (x : Trigger) : (s.setTrigger o x).pum = s.pum := rfl
@[simp] theorem State.setTrigger_eth (s : State) (o : Nat) (x : Trigger) : (s.setTrigger o x).eth = s.eth := rfl
@[simp] theorem State.setTrigger_can (s : State) (o : Nat) (x : Trigger) : (s.setTrigger o x).can = s.can := rfl
@[simp] theorem State.setTrigger_iox (s : State) (o : Nat) (x : Trigger) : (s.setTrigger o x).iox = s.iox := rfl
@[simp] theorem State.setTrigger_tap (s : State) (o : Nat) (x : Trigger) : (s.setTrigger o x).tap = s.tap := rfl
@[simp] theorem State.setTrigger_sec (s : State) (o : Nat) (x : Trigger) : (s.setTrigger o x).sec = s.sec := rfl
@[simp] theorem State.setTrigger_slt (s : State) (o : Nat) (x : Trigger) : (s.setTrigger o x).slt = s.slt := rfl
@[simp] theorem State.setTrigger_flt (s : State) (o : Nat) (x : Trigger) : (s.setTrigger o x).flt = s.flt := rfl
@[simp] theorem State.setTrigger_gnt (s : State) (o : Nat) (x : Trigger) : (s.setTrigger o x).gnt = s.gnt := rfl
@[simp] theorem State.setTrigger_ing (s : State) (o : Nat) (x : Trigger) : (s.setTrigger o x).ing = s.ing := rfl

/-! ### setServo -/

@[simp] theorem State.setServo_pending (s : State) (d : Nat) (x : Servo) : (s.setServo d x).pending = s.pending := rfl
@[simp] theorem State.setServo_freeCtr (s : State) (d : Nat) (x : Servo) : (s.setServo d x).freeCtr = s.freeCtr := rfl
@[simp] theorem State.setServo_sent (s : State) (d : Nat) (x : Servo) : (s.setServo d x).sent = s.sent := rfl
@[simp] theorem State.setServo_arb (s : State) (d : Nat) (x : Servo) : (s.setServo d x).arb = s.arb := rfl
@[simp] theorem State.setServo_ue (s : State) (d : Nat) (x : Servo) : (s.setServo d x).ue = s.ue := rfl
@[simp] theorem State.setServo_mem (s : State) (d : Nat) (x : Servo) : (s.setServo d x).mem = s.mem := rfl
@[simp] theorem State.setServo_regs (s : State) (d : Nat) (x : Servo) : (s.setServo d x).regs = s.regs := rfl
@[simp] theorem State.setServo_blocks (s : State) (d : Nat) (x : Servo) : (s.setServo d x).blocks = s.blocks := rfl
@[simp] theorem State.setServo_pins (s : State) (d : Nat) (x : Servo) : (s.setServo d x).pins = s.pins := rfl
@[simp] theorem State.setServo_dev (s : State) (d : Nat) (x : Servo) : (s.setServo d x).dev = s.dev := rfl
@[simp] theorem State.setServo_fc (s : State) (d : Nat) (x : Servo) : (s.setServo d x).fc = s.fc := rfl
@[simp] theorem State.setServo_sch (s : State) (d : Nat) (x : Servo) : (s.setServo d x).sch = s.sch := rfl
@[simp] theorem State.setServo_tier (s : State) (d : Nat) (x : Servo) : (s.setServo d x).tier = s.tier := rfl
@[simp] theorem State.setServo_pcie (s : State) (d : Nat) (x : Servo) : (s.setServo d x).pcie = s.pcie := rfl
@[simp] theorem State.setServo_wdg (s : State) (d : Nat) (x : Servo) : (s.setServo d x).wdg = s.wdg := rfl
@[simp] theorem State.setServo_test (s : State) (d : Nat) (x : Servo) : (s.setServo d x).test = s.test := rfl
@[simp] theorem State.setServo_frame (s : State) (d : Nat) (x : Servo) : (s.setServo d x).frame = s.frame := rfl
@[simp] theorem State.setServo_pwr (s : State) (d : Nat) (x : Servo) : (s.setServo d x).pwr = s.pwr := rfl
@[simp] theorem State.setServo_stm (s : State) (d : Nat) (x : Servo) : (s.setServo d x).stm = s.stm := rfl
@[simp] theorem State.setServo_odl (s : State) (d : Nat) (x : Servo) : (s.setServo d x).odl = s.odl := rfl
@[simp] theorem State.setServo_agt (s : State) (d : Nat) (x : Servo) : (s.setServo d x).agt = s.agt := rfl
@[simp] theorem State.setServo_pum (s : State) (d : Nat) (x : Servo) : (s.setServo d x).pum = s.pum := rfl
@[simp] theorem State.setServo_eth (s : State) (d : Nat) (x : Servo) : (s.setServo d x).eth = s.eth := rfl
@[simp] theorem State.setServo_can (s : State) (d : Nat) (x : Servo) : (s.setServo d x).can = s.can := rfl
@[simp] theorem State.setServo_iox (s : State) (d : Nat) (x : Servo) : (s.setServo d x).iox = s.iox := rfl
@[simp] theorem State.setServo_tap (s : State) (d : Nat) (x : Servo) : (s.setServo d x).tap = s.tap := rfl
@[simp] theorem State.setServo_sec (s : State) (d : Nat) (x : Servo) : (s.setServo d x).sec = s.sec := rfl
@[simp] theorem State.setServo_slt (s : State) (d : Nat) (x : Servo) : (s.setServo d x).slt = s.slt := rfl
@[simp] theorem State.setServo_flt (s : State) (d : Nat) (x : Servo) : (s.setServo d x).flt = s.flt := rfl
@[simp] theorem State.setServo_gnt (s : State) (d : Nat) (x : Servo) : (s.setServo d x).gnt = s.gnt := rfl
@[simp] theorem State.setServo_ing (s : State) (d : Nat) (x : Servo) : (s.setServo d x).ing = s.ing := rfl

/-! ### setWatch -/

@[simp] theorem State.setWatch_pending (s : State) (w : Nat) (x : Watch) : (s.setWatch w x).pending = s.pending := rfl
@[simp] theorem State.setWatch_freeCtr (s : State) (w : Nat) (x : Watch) : (s.setWatch w x).freeCtr = s.freeCtr := rfl
@[simp] theorem State.setWatch_sent (s : State) (w : Nat) (x : Watch) : (s.setWatch w x).sent = s.sent := rfl
@[simp] theorem State.setWatch_arb (s : State) (w : Nat) (x : Watch) : (s.setWatch w x).arb = s.arb := rfl
@[simp] theorem State.setWatch_ue (s : State) (w : Nat) (x : Watch) : (s.setWatch w x).ue = s.ue := rfl
@[simp] theorem State.setWatch_mem (s : State) (w : Nat) (x : Watch) : (s.setWatch w x).mem = s.mem := rfl
@[simp] theorem State.setWatch_regs (s : State) (w : Nat) (x : Watch) : (s.setWatch w x).regs = s.regs := rfl
@[simp] theorem State.setWatch_blocks (s : State) (w : Nat) (x : Watch) : (s.setWatch w x).blocks = s.blocks := rfl
@[simp] theorem State.setWatch_pins (s : State) (w : Nat) (x : Watch) : (s.setWatch w x).pins = s.pins := rfl
@[simp] theorem State.setWatch_dev (s : State) (w : Nat) (x : Watch) : (s.setWatch w x).dev = s.dev := rfl
@[simp] theorem State.setWatch_fc (s : State) (w : Nat) (x : Watch) : (s.setWatch w x).fc = s.fc := rfl
@[simp] theorem State.setWatch_qtz (s : State) (w : Nat) (x : Watch) : (s.setWatch w x).qtz = s.qtz := rfl
@[simp] theorem State.setWatch_sch (s : State) (w : Nat) (x : Watch) : (s.setWatch w x).sch = s.sch := rfl
@[simp] theorem State.setWatch_tier (s : State) (w : Nat) (x : Watch) : (s.setWatch w x).tier = s.tier := rfl
@[simp] theorem State.setWatch_pcie (s : State) (w : Nat) (x : Watch) : (s.setWatch w x).pcie = s.pcie := rfl
@[simp] theorem State.setWatch_test (s : State) (w : Nat) (x : Watch) : (s.setWatch w x).test = s.test := rfl
@[simp] theorem State.setWatch_frame (s : State) (w : Nat) (x : Watch) : (s.setWatch w x).frame = s.frame := rfl
@[simp] theorem State.setWatch_pwr (s : State) (w : Nat) (x : Watch) : (s.setWatch w x).pwr = s.pwr := rfl
@[simp] theorem State.setWatch_stm (s : State) (w : Nat) (x : Watch) : (s.setWatch w x).stm = s.stm := rfl
@[simp] theorem State.setWatch_odl (s : State) (w : Nat) (x : Watch) : (s.setWatch w x).odl = s.odl := rfl
@[simp] theorem State.setWatch_agt (s : State) (w : Nat) (x : Watch) : (s.setWatch w x).agt = s.agt := rfl
@[simp] theorem State.setWatch_pum (s : State) (w : Nat) (x : Watch) : (s.setWatch w x).pum = s.pum := rfl
@[simp] theorem State.setWatch_eth (s : State) (w : Nat) (x : Watch) : (s.setWatch w x).eth = s.eth := rfl
@[simp] theorem State.setWatch_can (s : State) (w : Nat) (x : Watch) : (s.setWatch w x).can = s.can := rfl
@[simp] theorem State.setWatch_iox (s : State) (w : Nat) (x : Watch) : (s.setWatch w x).iox = s.iox := rfl
@[simp] theorem State.setWatch_tap (s : State) (w : Nat) (x : Watch) : (s.setWatch w x).tap = s.tap := rfl
@[simp] theorem State.setWatch_sec (s : State) (w : Nat) (x : Watch) : (s.setWatch w x).sec = s.sec := rfl
@[simp] theorem State.setWatch_slt (s : State) (w : Nat) (x : Watch) : (s.setWatch w x).slt = s.slt := rfl
@[simp] theorem State.setWatch_flt (s : State) (w : Nat) (x : Watch) : (s.setWatch w x).flt = s.flt := rfl
@[simp] theorem State.setWatch_gnt (s : State) (w : Nat) (x : Watch) : (s.setWatch w x).gnt = s.gnt := rfl
@[simp] theorem State.setWatch_ing (s : State) (w : Nat) (x : Watch) : (s.setWatch w x).ing = s.ing := rfl

/-! ### setStream -/

@[simp] theorem State.setStream_pending (s : State) (i : Nat) (x : Stream) : (s.setStream i x).pending = s.pending := rfl
@[simp] theorem State.setStream_freeCtr (s : State) (i : Nat) (x : Stream) : (s.setStream i x).freeCtr = s.freeCtr := rfl
@[simp] theorem State.setStream_sent (s : State) (i : Nat) (x : Stream) : (s.setStream i x).sent = s.sent := rfl
@[simp] theorem State.setStream_arb (s : State) (i : Nat) (x : Stream) : (s.setStream i x).arb = s.arb := rfl
@[simp] theorem State.setStream_ue (s : State) (i : Nat) (x : Stream) : (s.setStream i x).ue = s.ue := rfl
@[simp] theorem State.setStream_mem (s : State) (i : Nat) (x : Stream) : (s.setStream i x).mem = s.mem := rfl
@[simp] theorem State.setStream_regs (s : State) (i : Nat) (x : Stream) : (s.setStream i x).regs = s.regs := rfl
@[simp] theorem State.setStream_blocks (s : State) (i : Nat) (x : Stream) : (s.setStream i x).blocks = s.blocks := rfl
@[simp] theorem State.setStream_pins (s : State) (i : Nat) (x : Stream) : (s.setStream i x).pins = s.pins := rfl
@[simp] theorem State.setStream_dev (s : State) (i : Nat) (x : Stream) : (s.setStream i x).dev = s.dev := rfl
@[simp] theorem State.setStream_fc (s : State) (i : Nat) (x : Stream) : (s.setStream i x).fc = s.fc := rfl
@[simp] theorem State.setStream_qtz (s : State) (i : Nat) (x : Stream) : (s.setStream i x).qtz = s.qtz := rfl
@[simp] theorem State.setStream_sch (s : State) (i : Nat) (x : Stream) : (s.setStream i x).sch = s.sch := rfl
@[simp] theorem State.setStream_tier (s : State) (i : Nat) (x : Stream) : (s.setStream i x).tier = s.tier := rfl
@[simp] theorem State.setStream_pcie (s : State) (i : Nat) (x : Stream) : (s.setStream i x).pcie = s.pcie := rfl
@[simp] theorem State.setStream_wdg (s : State) (i : Nat) (x : Stream) : (s.setStream i x).wdg = s.wdg := rfl
@[simp] theorem State.setStream_test (s : State) (i : Nat) (x : Stream) : (s.setStream i x).test = s.test := rfl
@[simp] theorem State.setStream_frame (s : State) (i : Nat) (x : Stream) : (s.setStream i x).frame = s.frame := rfl
@[simp] theorem State.setStream_pwr (s : State) (i : Nat) (x : Stream) : (s.setStream i x).pwr = s.pwr := rfl
@[simp] theorem State.setStream_odl (s : State) (i : Nat) (x : Stream) : (s.setStream i x).odl = s.odl := rfl
@[simp] theorem State.setStream_agt (s : State) (i : Nat) (x : Stream) : (s.setStream i x).agt = s.agt := rfl
@[simp] theorem State.setStream_pum (s : State) (i : Nat) (x : Stream) : (s.setStream i x).pum = s.pum := rfl
@[simp] theorem State.setStream_eth (s : State) (i : Nat) (x : Stream) : (s.setStream i x).eth = s.eth := rfl
@[simp] theorem State.setStream_can (s : State) (i : Nat) (x : Stream) : (s.setStream i x).can = s.can := rfl
@[simp] theorem State.setStream_iox (s : State) (i : Nat) (x : Stream) : (s.setStream i x).iox = s.iox := rfl
@[simp] theorem State.setStream_tap (s : State) (i : Nat) (x : Stream) : (s.setStream i x).tap = s.tap := rfl
@[simp] theorem State.setStream_sec (s : State) (i : Nat) (x : Stream) : (s.setStream i x).sec = s.sec := rfl
@[simp] theorem State.setStream_slt (s : State) (i : Nat) (x : Stream) : (s.setStream i x).slt = s.slt := rfl
@[simp] theorem State.setStream_flt (s : State) (i : Nat) (x : Stream) : (s.setStream i x).flt = s.flt := rfl
@[simp] theorem State.setStream_gnt (s : State) (i : Nat) (x : Stream) : (s.setStream i x).gnt = s.gnt := rfl
@[simp] theorem State.setStream_ing (s : State) (i : Nat) (x : Stream) : (s.setStream i x).ing = s.ing := rfl

/-! ### setCanCtl -/

@[simp] theorem State.setCanCtl_pending (s : State) (c : Nat) (x : CanCtl) : (s.setCanCtl c x).pending = s.pending := rfl
@[simp] theorem State.setCanCtl_freeCtr (s : State) (c : Nat) (x : CanCtl) : (s.setCanCtl c x).freeCtr = s.freeCtr := rfl
@[simp] theorem State.setCanCtl_sent (s : State) (c : Nat) (x : CanCtl) : (s.setCanCtl c x).sent = s.sent := rfl
@[simp] theorem State.setCanCtl_arb (s : State) (c : Nat) (x : CanCtl) : (s.setCanCtl c x).arb = s.arb := rfl
@[simp] theorem State.setCanCtl_ue (s : State) (c : Nat) (x : CanCtl) : (s.setCanCtl c x).ue = s.ue := rfl
@[simp] theorem State.setCanCtl_mem (s : State) (c : Nat) (x : CanCtl) : (s.setCanCtl c x).mem = s.mem := rfl
@[simp] theorem State.setCanCtl_regs (s : State) (c : Nat) (x : CanCtl) : (s.setCanCtl c x).regs = s.regs := rfl
@[simp] theorem State.setCanCtl_blocks (s : State) (c : Nat) (x : CanCtl) : (s.setCanCtl c x).blocks = s.blocks := rfl
@[simp] theorem State.setCanCtl_pins (s : State) (c : Nat) (x : CanCtl) : (s.setCanCtl c x).pins = s.pins := rfl
@[simp] theorem State.setCanCtl_dev (s : State) (c : Nat) (x : CanCtl) : (s.setCanCtl c x).dev = s.dev := rfl
@[simp] theorem State.setCanCtl_fc (s : State) (c : Nat) (x : CanCtl) : (s.setCanCtl c x).fc = s.fc := rfl
@[simp] theorem State.setCanCtl_qtz (s : State) (c : Nat) (x : CanCtl) : (s.setCanCtl c x).qtz = s.qtz := rfl
@[simp] theorem State.setCanCtl_sch (s : State) (c : Nat) (x : CanCtl) : (s.setCanCtl c x).sch = s.sch := rfl
@[simp] theorem State.setCanCtl_tier (s : State) (c : Nat) (x : CanCtl) : (s.setCanCtl c x).tier = s.tier := rfl
@[simp] theorem State.setCanCtl_pcie (s : State) (c : Nat) (x : CanCtl) : (s.setCanCtl c x).pcie = s.pcie := rfl
@[simp] theorem State.setCanCtl_wdg (s : State) (c : Nat) (x : CanCtl) : (s.setCanCtl c x).wdg = s.wdg := rfl
@[simp] theorem State.setCanCtl_test (s : State) (c : Nat) (x : CanCtl) : (s.setCanCtl c x).test = s.test := rfl
@[simp] theorem State.setCanCtl_frame (s : State) (c : Nat) (x : CanCtl) : (s.setCanCtl c x).frame = s.frame := rfl
@[simp] theorem State.setCanCtl_pwr (s : State) (c : Nat) (x : CanCtl) : (s.setCanCtl c x).pwr = s.pwr := rfl
@[simp] theorem State.setCanCtl_stm (s : State) (c : Nat) (x : CanCtl) : (s.setCanCtl c x).stm = s.stm := rfl
@[simp] theorem State.setCanCtl_odl (s : State) (c : Nat) (x : CanCtl) : (s.setCanCtl c x).odl = s.odl := rfl
@[simp] theorem State.setCanCtl_agt (s : State) (c : Nat) (x : CanCtl) : (s.setCanCtl c x).agt = s.agt := rfl
@[simp] theorem State.setCanCtl_pum (s : State) (c : Nat) (x : CanCtl) : (s.setCanCtl c x).pum = s.pum := rfl
@[simp] theorem State.setCanCtl_eth (s : State) (c : Nat) (x : CanCtl) : (s.setCanCtl c x).eth = s.eth := rfl
@[simp] theorem State.setCanCtl_iox (s : State) (c : Nat) (x : CanCtl) : (s.setCanCtl c x).iox = s.iox := rfl
@[simp] theorem State.setCanCtl_tap (s : State) (c : Nat) (x : CanCtl) : (s.setCanCtl c x).tap = s.tap := rfl
@[simp] theorem State.setCanCtl_sec (s : State) (c : Nat) (x : CanCtl) : (s.setCanCtl c x).sec = s.sec := rfl
@[simp] theorem State.setCanCtl_slt (s : State) (c : Nat) (x : CanCtl) : (s.setCanCtl c x).slt = s.slt := rfl
@[simp] theorem State.setCanCtl_flt (s : State) (c : Nat) (x : CanCtl) : (s.setCanCtl c x).flt = s.flt := rfl
@[simp] theorem State.setCanCtl_gnt (s : State) (c : Nat) (x : CanCtl) : (s.setCanCtl c x).gnt = s.gnt := rfl
@[simp] theorem State.setCanCtl_ing (s : State) (c : Nat) (x : CanCtl) : (s.setCanCtl c x).ing = s.ing := rfl

/-! ### heal -/

@[simp] theorem State.heal_pending (s : State) (a n : Nat) : (s.heal a n).pending = s.pending := rfl
@[simp] theorem State.heal_freeCtr (s : State) (a n : Nat) : (s.heal a n).freeCtr = s.freeCtr := rfl
@[simp] theorem State.heal_sent (s : State) (a n : Nat) : (s.heal a n).sent = s.sent := rfl
@[simp] theorem State.heal_arb (s : State) (a n : Nat) : (s.heal a n).arb = s.arb := rfl
@[simp] theorem State.heal_mem (s : State) (a n : Nat) : (s.heal a n).mem = s.mem := rfl
@[simp] theorem State.heal_regs (s : State) (a n : Nat) : (s.heal a n).regs = s.regs := rfl
@[simp] theorem State.heal_blocks (s : State) (a n : Nat) : (s.heal a n).blocks = s.blocks := rfl
@[simp] theorem State.heal_pins (s : State) (a n : Nat) : (s.heal a n).pins = s.pins := rfl
@[simp] theorem State.heal_dev (s : State) (a n : Nat) : (s.heal a n).dev = s.dev := rfl
@[simp] theorem State.heal_fc (s : State) (a n : Nat) : (s.heal a n).fc = s.fc := rfl
@[simp] theorem State.heal_qtz (s : State) (a n : Nat) : (s.heal a n).qtz = s.qtz := rfl
@[simp] theorem State.heal_sch (s : State) (a n : Nat) : (s.heal a n).sch = s.sch := rfl
@[simp] theorem State.heal_tier (s : State) (a n : Nat) : (s.heal a n).tier = s.tier := rfl
@[simp] theorem State.heal_pcie (s : State) (a n : Nat) : (s.heal a n).pcie = s.pcie := rfl
@[simp] theorem State.heal_wdg (s : State) (a n : Nat) : (s.heal a n).wdg = s.wdg := rfl
@[simp] theorem State.heal_test (s : State) (a n : Nat) : (s.heal a n).test = s.test := rfl
@[simp] theorem State.heal_frame (s : State) (a n : Nat) : (s.heal a n).frame = s.frame := rfl
@[simp] theorem State.heal_pwr (s : State) (a n : Nat) : (s.heal a n).pwr = s.pwr := rfl
@[simp] theorem State.heal_stm (s : State) (a n : Nat) : (s.heal a n).stm = s.stm := rfl
@[simp] theorem State.heal_odl (s : State) (a n : Nat) : (s.heal a n).odl = s.odl := rfl
@[simp] theorem State.heal_agt (s : State) (a n : Nat) : (s.heal a n).agt = s.agt := rfl
@[simp] theorem State.heal_pum (s : State) (a n : Nat) : (s.heal a n).pum = s.pum := rfl
@[simp] theorem State.heal_eth (s : State) (a n : Nat) : (s.heal a n).eth = s.eth := rfl
@[simp] theorem State.heal_can (s : State) (a n : Nat) : (s.heal a n).can = s.can := rfl
@[simp] theorem State.heal_iox (s : State) (a n : Nat) : (s.heal a n).iox = s.iox := rfl
@[simp] theorem State.heal_tap (s : State) (a n : Nat) : (s.heal a n).tap = s.tap := rfl
@[simp] theorem State.heal_sec (s : State) (a n : Nat) : (s.heal a n).sec = s.sec := rfl
@[simp] theorem State.heal_slt (s : State) (a n : Nat) : (s.heal a n).slt = s.slt := rfl
@[simp] theorem State.heal_flt (s : State) (a n : Nat) : (s.heal a n).flt = s.flt := rfl
@[simp] theorem State.heal_gnt (s : State) (a n : Nat) : (s.heal a n).gnt = s.gnt := rfl
@[simp] theorem State.heal_ing (s : State) (a n : Nat) : (s.heal a n).ing = s.ing := rfl

/-! ### granted -/

@[simp] theorem State.granted_pending (s : State) (r : Resource) (p : Nat) : (s.granted r p).pending = s.pending := rfl
@[simp] theorem State.granted_freeCtr (s : State) (r : Resource) (p : Nat) : (s.granted r p).freeCtr = s.freeCtr := rfl
@[simp] theorem State.granted_sent (s : State) (r : Resource) (p : Nat) : (s.granted r p).sent = s.sent := rfl
@[simp] theorem State.granted_ue (s : State) (r : Resource) (p : Nat) : (s.granted r p).ue = s.ue := rfl
@[simp] theorem State.granted_mem (s : State) (r : Resource) (p : Nat) : (s.granted r p).mem = s.mem := rfl
@[simp] theorem State.granted_regs (s : State) (r : Resource) (p : Nat) : (s.granted r p).regs = s.regs := rfl
@[simp] theorem State.granted_blocks (s : State) (r : Resource) (p : Nat) : (s.granted r p).blocks = s.blocks := rfl
@[simp] theorem State.granted_pins (s : State) (r : Resource) (p : Nat) : (s.granted r p).pins = s.pins := rfl
@[simp] theorem State.granted_dev (s : State) (r : Resource) (p : Nat) : (s.granted r p).dev = s.dev := rfl
@[simp] theorem State.granted_fc (s : State) (r : Resource) (p : Nat) : (s.granted r p).fc = s.fc := rfl
@[simp] theorem State.granted_qtz (s : State) (r : Resource) (p : Nat) : (s.granted r p).qtz = s.qtz := rfl
@[simp] theorem State.granted_sch (s : State) (r : Resource) (p : Nat) : (s.granted r p).sch = s.sch := rfl
@[simp] theorem State.granted_tier (s : State) (r : Resource) (p : Nat) : (s.granted r p).tier = s.tier := rfl
@[simp] theorem State.granted_pcie (s : State) (r : Resource) (p : Nat) : (s.granted r p).pcie = s.pcie := rfl
@[simp] theorem State.granted_wdg (s : State) (r : Resource) (p : Nat) : (s.granted r p).wdg = s.wdg := rfl
@[simp] theorem State.granted_test (s : State) (r : Resource) (p : Nat) : (s.granted r p).test = s.test := rfl
@[simp] theorem State.granted_frame (s : State) (r : Resource) (p : Nat) : (s.granted r p).frame = s.frame := rfl
@[simp] theorem State.granted_pwr (s : State) (r : Resource) (p : Nat) : (s.granted r p).pwr = s.pwr := rfl
@[simp] theorem State.granted_stm (s : State) (r : Resource) (p : Nat) : (s.granted r p).stm = s.stm := rfl
@[simp] theorem State.granted_odl (s : State) (r : Resource) (p : Nat) : (s.granted r p).odl = s.odl := rfl
@[simp] theorem State.granted_agt (s : State) (r : Resource) (p : Nat) : (s.granted r p).agt = s.agt := rfl
@[simp] theorem State.granted_pum (s : State) (r : Resource) (p : Nat) : (s.granted r p).pum = s.pum := rfl
@[simp] theorem State.granted_eth (s : State) (r : Resource) (p : Nat) : (s.granted r p).eth = s.eth := rfl
@[simp] theorem State.granted_can (s : State) (r : Resource) (p : Nat) : (s.granted r p).can = s.can := rfl
@[simp] theorem State.granted_iox (s : State) (r : Resource) (p : Nat) : (s.granted r p).iox = s.iox := rfl
@[simp] theorem State.granted_tap (s : State) (r : Resource) (p : Nat) : (s.granted r p).tap = s.tap := rfl
@[simp] theorem State.granted_sec (s : State) (r : Resource) (p : Nat) : (s.granted r p).sec = s.sec := rfl
@[simp] theorem State.granted_slt (s : State) (r : Resource) (p : Nat) : (s.granted r p).slt = s.slt := rfl
@[simp] theorem State.granted_flt (s : State) (r : Resource) (p : Nat) : (s.granted r p).flt = s.flt := rfl
@[simp] theorem State.granted_gnt (s : State) (r : Resource) (p : Nat) : (s.granted r p).gnt = s.gnt := rfl
@[simp] theorem State.granted_ing (s : State) (r : Resource) (p : Nat) : (s.granted r p).ing = s.ing := rfl

/-! ### setPortQueue -/

@[simp] theorem State.setPortQueue_pending (s : State) (p : Nat) (l : List MemReq) : (s.setPortQueue p l).pending = s.pending := rfl
@[simp] theorem State.setPortQueue_freeCtr (s : State) (p : Nat) (l : List MemReq) : (s.setPortQueue p l).freeCtr = s.freeCtr := rfl
@[simp] theorem State.setPortQueue_sent (s : State) (p : Nat) (l : List MemReq) : (s.setPortQueue p l).sent = s.sent := rfl
@[simp] theorem State.setPortQueue_arb (s : State) (p : Nat) (l : List MemReq) : (s.setPortQueue p l).arb = s.arb := rfl
@[simp] theorem State.setPortQueue_ue (s : State) (p : Nat) (l : List MemReq) : (s.setPortQueue p l).ue = s.ue := rfl
@[simp] theorem State.setPortQueue_mem (s : State) (p : Nat) (l : List MemReq) : (s.setPortQueue p l).mem = s.mem := rfl
@[simp] theorem State.setPortQueue_regs (s : State) (p : Nat) (l : List MemReq) : (s.setPortQueue p l).regs = s.regs := rfl
@[simp] theorem State.setPortQueue_blocks (s : State) (p : Nat) (l : List MemReq) : (s.setPortQueue p l).blocks = s.blocks := rfl
@[simp] theorem State.setPortQueue_pins (s : State) (p : Nat) (l : List MemReq) : (s.setPortQueue p l).pins = s.pins := rfl
@[simp] theorem State.setPortQueue_dev (s : State) (p : Nat) (l : List MemReq) : (s.setPortQueue p l).dev = s.dev := rfl
@[simp] theorem State.setPortQueue_fc (s : State) (p : Nat) (l : List MemReq) : (s.setPortQueue p l).fc = s.fc := rfl
@[simp] theorem State.setPortQueue_qtz (s : State) (p : Nat) (l : List MemReq) : (s.setPortQueue p l).qtz = s.qtz := rfl
@[simp] theorem State.setPortQueue_sch (s : State) (p : Nat) (l : List MemReq) : (s.setPortQueue p l).sch = s.sch := rfl
@[simp] theorem State.setPortQueue_pcie (s : State) (p : Nat) (l : List MemReq) : (s.setPortQueue p l).pcie = s.pcie := rfl
@[simp] theorem State.setPortQueue_wdg (s : State) (p : Nat) (l : List MemReq) : (s.setPortQueue p l).wdg = s.wdg := rfl
@[simp] theorem State.setPortQueue_test (s : State) (p : Nat) (l : List MemReq) : (s.setPortQueue p l).test = s.test := rfl
@[simp] theorem State.setPortQueue_frame (s : State) (p : Nat) (l : List MemReq) : (s.setPortQueue p l).frame = s.frame := rfl
@[simp] theorem State.setPortQueue_pwr (s : State) (p : Nat) (l : List MemReq) : (s.setPortQueue p l).pwr = s.pwr := rfl
@[simp] theorem State.setPortQueue_stm (s : State) (p : Nat) (l : List MemReq) : (s.setPortQueue p l).stm = s.stm := rfl
@[simp] theorem State.setPortQueue_odl (s : State) (p : Nat) (l : List MemReq) : (s.setPortQueue p l).odl = s.odl := rfl
@[simp] theorem State.setPortQueue_agt (s : State) (p : Nat) (l : List MemReq) : (s.setPortQueue p l).agt = s.agt := rfl
@[simp] theorem State.setPortQueue_pum (s : State) (p : Nat) (l : List MemReq) : (s.setPortQueue p l).pum = s.pum := rfl
@[simp] theorem State.setPortQueue_eth (s : State) (p : Nat) (l : List MemReq) : (s.setPortQueue p l).eth = s.eth := rfl
@[simp] theorem State.setPortQueue_can (s : State) (p : Nat) (l : List MemReq) : (s.setPortQueue p l).can = s.can := rfl
@[simp] theorem State.setPortQueue_iox (s : State) (p : Nat) (l : List MemReq) : (s.setPortQueue p l).iox = s.iox := rfl
@[simp] theorem State.setPortQueue_tap (s : State) (p : Nat) (l : List MemReq) : (s.setPortQueue p l).tap = s.tap := rfl
@[simp] theorem State.setPortQueue_sec (s : State) (p : Nat) (l : List MemReq) : (s.setPortQueue p l).sec = s.sec := rfl
@[simp] theorem State.setPortQueue_slt (s : State) (p : Nat) (l : List MemReq) : (s.setPortQueue p l).slt = s.slt := rfl
@[simp] theorem State.setPortQueue_flt (s : State) (p : Nat) (l : List MemReq) : (s.setPortQueue p l).flt = s.flt := rfl
@[simp] theorem State.setPortQueue_gnt (s : State) (p : Nat) (l : List MemReq) : (s.setPortQueue p l).gnt = s.gnt := rfl
@[simp] theorem State.setPortQueue_ing (s : State) (p : Nat) (l : List MemReq) : (s.setPortQueue p l).ing = s.ing := rfl

/-! ### setGntLoop -/

@[simp] theorem State.setGntLoop_pending (s : State) (i : Nat) (x : GntLoop) : (s.setGntLoop i x).pending = s.pending := rfl
@[simp] theorem State.setGntLoop_freeCtr (s : State) (i : Nat) (x : GntLoop) : (s.setGntLoop i x).freeCtr = s.freeCtr := rfl
@[simp] theorem State.setGntLoop_sent (s : State) (i : Nat) (x : GntLoop) : (s.setGntLoop i x).sent = s.sent := rfl
@[simp] theorem State.setGntLoop_arb (s : State) (i : Nat) (x : GntLoop) : (s.setGntLoop i x).arb = s.arb := rfl
@[simp] theorem State.setGntLoop_ue (s : State) (i : Nat) (x : GntLoop) : (s.setGntLoop i x).ue = s.ue := rfl
@[simp] theorem State.setGntLoop_mem (s : State) (i : Nat) (x : GntLoop) : (s.setGntLoop i x).mem = s.mem := rfl
@[simp] theorem State.setGntLoop_regs (s : State) (i : Nat) (x : GntLoop) : (s.setGntLoop i x).regs = s.regs := rfl
@[simp] theorem State.setGntLoop_blocks (s : State) (i : Nat) (x : GntLoop) : (s.setGntLoop i x).blocks = s.blocks := rfl
@[simp] theorem State.setGntLoop_pins (s : State) (i : Nat) (x : GntLoop) : (s.setGntLoop i x).pins = s.pins := rfl
@[simp] theorem State.setGntLoop_dev (s : State) (i : Nat) (x : GntLoop) : (s.setGntLoop i x).dev = s.dev := rfl
@[simp] theorem State.setGntLoop_fc (s : State) (i : Nat) (x : GntLoop) : (s.setGntLoop i x).fc = s.fc := rfl
@[simp] theorem State.setGntLoop_qtz (s : State) (i : Nat) (x : GntLoop) : (s.setGntLoop i x).qtz = s.qtz := rfl
@[simp] theorem State.setGntLoop_sch (s : State) (i : Nat) (x : GntLoop) : (s.setGntLoop i x).sch = s.sch := rfl
@[simp] theorem State.setGntLoop_tier (s : State) (i : Nat) (x : GntLoop) : (s.setGntLoop i x).tier = s.tier := rfl
@[simp] theorem State.setGntLoop_pcie (s : State) (i : Nat) (x : GntLoop) : (s.setGntLoop i x).pcie = s.pcie := rfl
@[simp] theorem State.setGntLoop_wdg (s : State) (i : Nat) (x : GntLoop) : (s.setGntLoop i x).wdg = s.wdg := rfl
@[simp] theorem State.setGntLoop_test (s : State) (i : Nat) (x : GntLoop) : (s.setGntLoop i x).test = s.test := rfl
@[simp] theorem State.setGntLoop_frame (s : State) (i : Nat) (x : GntLoop) : (s.setGntLoop i x).frame = s.frame := rfl
@[simp] theorem State.setGntLoop_pwr (s : State) (i : Nat) (x : GntLoop) : (s.setGntLoop i x).pwr = s.pwr := rfl
@[simp] theorem State.setGntLoop_stm (s : State) (i : Nat) (x : GntLoop) : (s.setGntLoop i x).stm = s.stm := rfl
@[simp] theorem State.setGntLoop_odl (s : State) (i : Nat) (x : GntLoop) : (s.setGntLoop i x).odl = s.odl := rfl
@[simp] theorem State.setGntLoop_agt (s : State) (i : Nat) (x : GntLoop) : (s.setGntLoop i x).agt = s.agt := rfl
@[simp] theorem State.setGntLoop_pum (s : State) (i : Nat) (x : GntLoop) : (s.setGntLoop i x).pum = s.pum := rfl
@[simp] theorem State.setGntLoop_eth (s : State) (i : Nat) (x : GntLoop) : (s.setGntLoop i x).eth = s.eth := rfl
@[simp] theorem State.setGntLoop_can (s : State) (i : Nat) (x : GntLoop) : (s.setGntLoop i x).can = s.can := rfl
@[simp] theorem State.setGntLoop_iox (s : State) (i : Nat) (x : GntLoop) : (s.setGntLoop i x).iox = s.iox := rfl
@[simp] theorem State.setGntLoop_tap (s : State) (i : Nat) (x : GntLoop) : (s.setGntLoop i x).tap = s.tap := rfl
@[simp] theorem State.setGntLoop_sec (s : State) (i : Nat) (x : GntLoop) : (s.setGntLoop i x).sec = s.sec := rfl
@[simp] theorem State.setGntLoop_slt (s : State) (i : Nat) (x : GntLoop) : (s.setGntLoop i x).slt = s.slt := rfl
@[simp] theorem State.setGntLoop_flt (s : State) (i : Nat) (x : GntLoop) : (s.setGntLoop i x).flt = s.flt := rfl
@[simp] theorem State.setGntLoop_ing (s : State) (i : Nat) (x : GntLoop) : (s.setGntLoop i x).ing = s.ing := rfl

/-! ### setGntAct -/

@[simp] theorem State.setGntAct_pending (s : State) (a : Nat) (x : GntAct) : (s.setGntAct a x).pending = s.pending := rfl
@[simp] theorem State.setGntAct_freeCtr (s : State) (a : Nat) (x : GntAct) : (s.setGntAct a x).freeCtr = s.freeCtr := rfl
@[simp] theorem State.setGntAct_sent (s : State) (a : Nat) (x : GntAct) : (s.setGntAct a x).sent = s.sent := rfl
@[simp] theorem State.setGntAct_arb (s : State) (a : Nat) (x : GntAct) : (s.setGntAct a x).arb = s.arb := rfl
@[simp] theorem State.setGntAct_ue (s : State) (a : Nat) (x : GntAct) : (s.setGntAct a x).ue = s.ue := rfl
@[simp] theorem State.setGntAct_mem (s : State) (a : Nat) (x : GntAct) : (s.setGntAct a x).mem = s.mem := rfl
@[simp] theorem State.setGntAct_regs (s : State) (a : Nat) (x : GntAct) : (s.setGntAct a x).regs = s.regs := rfl
@[simp] theorem State.setGntAct_blocks (s : State) (a : Nat) (x : GntAct) : (s.setGntAct a x).blocks = s.blocks := rfl
@[simp] theorem State.setGntAct_pins (s : State) (a : Nat) (x : GntAct) : (s.setGntAct a x).pins = s.pins := rfl
@[simp] theorem State.setGntAct_dev (s : State) (a : Nat) (x : GntAct) : (s.setGntAct a x).dev = s.dev := rfl
@[simp] theorem State.setGntAct_fc (s : State) (a : Nat) (x : GntAct) : (s.setGntAct a x).fc = s.fc := rfl
@[simp] theorem State.setGntAct_qtz (s : State) (a : Nat) (x : GntAct) : (s.setGntAct a x).qtz = s.qtz := rfl
@[simp] theorem State.setGntAct_sch (s : State) (a : Nat) (x : GntAct) : (s.setGntAct a x).sch = s.sch := rfl
@[simp] theorem State.setGntAct_tier (s : State) (a : Nat) (x : GntAct) : (s.setGntAct a x).tier = s.tier := rfl
@[simp] theorem State.setGntAct_pcie (s : State) (a : Nat) (x : GntAct) : (s.setGntAct a x).pcie = s.pcie := rfl
@[simp] theorem State.setGntAct_wdg (s : State) (a : Nat) (x : GntAct) : (s.setGntAct a x).wdg = s.wdg := rfl
@[simp] theorem State.setGntAct_test (s : State) (a : Nat) (x : GntAct) : (s.setGntAct a x).test = s.test := rfl
@[simp] theorem State.setGntAct_frame (s : State) (a : Nat) (x : GntAct) : (s.setGntAct a x).frame = s.frame := rfl
@[simp] theorem State.setGntAct_pwr (s : State) (a : Nat) (x : GntAct) : (s.setGntAct a x).pwr = s.pwr := rfl
@[simp] theorem State.setGntAct_stm (s : State) (a : Nat) (x : GntAct) : (s.setGntAct a x).stm = s.stm := rfl
@[simp] theorem State.setGntAct_odl (s : State) (a : Nat) (x : GntAct) : (s.setGntAct a x).odl = s.odl := rfl
@[simp] theorem State.setGntAct_agt (s : State) (a : Nat) (x : GntAct) : (s.setGntAct a x).agt = s.agt := rfl
@[simp] theorem State.setGntAct_pum (s : State) (a : Nat) (x : GntAct) : (s.setGntAct a x).pum = s.pum := rfl
@[simp] theorem State.setGntAct_eth (s : State) (a : Nat) (x : GntAct) : (s.setGntAct a x).eth = s.eth := rfl
@[simp] theorem State.setGntAct_can (s : State) (a : Nat) (x : GntAct) : (s.setGntAct a x).can = s.can := rfl
@[simp] theorem State.setGntAct_iox (s : State) (a : Nat) (x : GntAct) : (s.setGntAct a x).iox = s.iox := rfl
@[simp] theorem State.setGntAct_tap (s : State) (a : Nat) (x : GntAct) : (s.setGntAct a x).tap = s.tap := rfl
@[simp] theorem State.setGntAct_sec (s : State) (a : Nat) (x : GntAct) : (s.setGntAct a x).sec = s.sec := rfl
@[simp] theorem State.setGntAct_slt (s : State) (a : Nat) (x : GntAct) : (s.setGntAct a x).slt = s.slt := rfl
@[simp] theorem State.setGntAct_flt (s : State) (a : Nat) (x : GntAct) : (s.setGntAct a x).flt = s.flt := rfl
@[simp] theorem State.setGntAct_ing (s : State) (a : Nat) (x : GntAct) : (s.setGntAct a x).ing = s.ing := rfl

/-! ### emitMet -/

@[simp] theorem State.emitMet_pending (s : State) (f : Nat) : (s.emitMet f).pending = s.pending := rfl
@[simp] theorem State.emitMet_freeCtr (s : State) (f : Nat) : (s.emitMet f).freeCtr = s.freeCtr := rfl
@[simp] theorem State.emitMet_sent (s : State) (f : Nat) : (s.emitMet f).sent = s.sent := rfl
@[simp] theorem State.emitMet_arb (s : State) (f : Nat) : (s.emitMet f).arb = s.arb := rfl
@[simp] theorem State.emitMet_ue (s : State) (f : Nat) : (s.emitMet f).ue = s.ue := rfl
@[simp] theorem State.emitMet_mem (s : State) (f : Nat) : (s.emitMet f).mem = s.mem := rfl
@[simp] theorem State.emitMet_regs (s : State) (f : Nat) : (s.emitMet f).regs = s.regs := rfl
@[simp] theorem State.emitMet_blocks (s : State) (f : Nat) : (s.emitMet f).blocks = s.blocks := rfl
@[simp] theorem State.emitMet_pins (s : State) (f : Nat) : (s.emitMet f).pins = s.pins := rfl
@[simp] theorem State.emitMet_dev (s : State) (f : Nat) : (s.emitMet f).dev = s.dev := rfl
@[simp] theorem State.emitMet_fc (s : State) (f : Nat) : (s.emitMet f).fc = s.fc := rfl
@[simp] theorem State.emitMet_qtz (s : State) (f : Nat) : (s.emitMet f).qtz = s.qtz := rfl
@[simp] theorem State.emitMet_sch (s : State) (f : Nat) : (s.emitMet f).sch = s.sch := rfl
@[simp] theorem State.emitMet_tier (s : State) (f : Nat) : (s.emitMet f).tier = s.tier := rfl
@[simp] theorem State.emitMet_pcie (s : State) (f : Nat) : (s.emitMet f).pcie = s.pcie := rfl
@[simp] theorem State.emitMet_wdg (s : State) (f : Nat) : (s.emitMet f).wdg = s.wdg := rfl
@[simp] theorem State.emitMet_test (s : State) (f : Nat) : (s.emitMet f).test = s.test := rfl
@[simp] theorem State.emitMet_frame (s : State) (f : Nat) : (s.emitMet f).frame = s.frame := rfl
@[simp] theorem State.emitMet_pwr (s : State) (f : Nat) : (s.emitMet f).pwr = s.pwr := rfl
@[simp] theorem State.emitMet_stm (s : State) (f : Nat) : (s.emitMet f).stm = s.stm := rfl
@[simp] theorem State.emitMet_odl (s : State) (f : Nat) : (s.emitMet f).odl = s.odl := rfl
@[simp] theorem State.emitMet_agt (s : State) (f : Nat) : (s.emitMet f).agt = s.agt := rfl
@[simp] theorem State.emitMet_pum (s : State) (f : Nat) : (s.emitMet f).pum = s.pum := rfl
@[simp] theorem State.emitMet_eth (s : State) (f : Nat) : (s.emitMet f).eth = s.eth := rfl
@[simp] theorem State.emitMet_can (s : State) (f : Nat) : (s.emitMet f).can = s.can := rfl
@[simp] theorem State.emitMet_iox (s : State) (f : Nat) : (s.emitMet f).iox = s.iox := rfl
@[simp] theorem State.emitMet_tap (s : State) (f : Nat) : (s.emitMet f).tap = s.tap := rfl
@[simp] theorem State.emitMet_sec (s : State) (f : Nat) : (s.emitMet f).sec = s.sec := rfl
@[simp] theorem State.emitMet_slt (s : State) (f : Nat) : (s.emitMet f).slt = s.slt := rfl
@[simp] theorem State.emitMet_flt (s : State) (f : Nat) : (s.emitMet f).flt = s.flt := rfl
@[simp] theorem State.emitMet_ing (s : State) (f : Nat) : (s.emitMet f).ing = s.ing := rfl

/-! ### Register words and fields -/

/-- Words written in a row change the register file alone. -/
theorem State.setRegNat_eq (s : State) (a n v : Nat) : s.setRegNat a n v = { s with regs := (s.setRegNat a n v).regs } := by
  induction n generalizing s a v with
  | zero => rfl
  | succ n ih =>
    rw [State.setRegNat]
    generalize hu : s.setReg a (BitVec.ofNat 32 v) = u
    rw [ih u]
    subst hu
    rfl

/-- A field written changes the register file alone. -/
theorem State.putF_eq (s : State) (f : Fld) (v : Nat) : s.putF f v = { s with regs := (s.putF f v).regs } := by
  exact State.setRegNat_eq ..

@[simp] theorem State.putF_pending (s : State) (f : Fld) (v : Nat) : (s.putF f v).pending = s.pending := by rw [State.putF_eq]
@[simp] theorem State.putF_freeCtr (s : State) (f : Fld) (v : Nat) : (s.putF f v).freeCtr = s.freeCtr := by rw [State.putF_eq]
@[simp] theorem State.putF_sent (s : State) (f : Fld) (v : Nat) : (s.putF f v).sent = s.sent := by rw [State.putF_eq]
@[simp] theorem State.putF_arb (s : State) (f : Fld) (v : Nat) : (s.putF f v).arb = s.arb := by rw [State.putF_eq]
@[simp] theorem State.putF_ue (s : State) (f : Fld) (v : Nat) : (s.putF f v).ue = s.ue := by rw [State.putF_eq]
@[simp] theorem State.putF_mem (s : State) (f : Fld) (v : Nat) : (s.putF f v).mem = s.mem := by rw [State.putF_eq]
@[simp] theorem State.putF_blocks (s : State) (f : Fld) (v : Nat) : (s.putF f v).blocks = s.blocks := by rw [State.putF_eq]
@[simp] theorem State.putF_pins (s : State) (f : Fld) (v : Nat) : (s.putF f v).pins = s.pins := by rw [State.putF_eq]
@[simp] theorem State.putF_dev (s : State) (f : Fld) (v : Nat) : (s.putF f v).dev = s.dev := by rw [State.putF_eq]
@[simp] theorem State.putF_fc (s : State) (f : Fld) (v : Nat) : (s.putF f v).fc = s.fc := by rw [State.putF_eq]
@[simp] theorem State.putF_qtz (s : State) (f : Fld) (v : Nat) : (s.putF f v).qtz = s.qtz := by rw [State.putF_eq]
@[simp] theorem State.putF_sch (s : State) (f : Fld) (v : Nat) : (s.putF f v).sch = s.sch := by rw [State.putF_eq]
@[simp] theorem State.putF_tier (s : State) (f : Fld) (v : Nat) : (s.putF f v).tier = s.tier := by rw [State.putF_eq]
@[simp] theorem State.putF_pcie (s : State) (f : Fld) (v : Nat) : (s.putF f v).pcie = s.pcie := by rw [State.putF_eq]
@[simp] theorem State.putF_wdg (s : State) (f : Fld) (v : Nat) : (s.putF f v).wdg = s.wdg := by rw [State.putF_eq]
@[simp] theorem State.putF_test (s : State) (f : Fld) (v : Nat) : (s.putF f v).test = s.test := by rw [State.putF_eq]
@[simp] theorem State.putF_frame (s : State) (f : Fld) (v : Nat) : (s.putF f v).frame = s.frame := by rw [State.putF_eq]
@[simp] theorem State.putF_pwr (s : State) (f : Fld) (v : Nat) : (s.putF f v).pwr = s.pwr := by rw [State.putF_eq]
@[simp] theorem State.putF_stm (s : State) (f : Fld) (v : Nat) : (s.putF f v).stm = s.stm := by rw [State.putF_eq]
@[simp] theorem State.putF_odl (s : State) (f : Fld) (v : Nat) : (s.putF f v).odl = s.odl := by rw [State.putF_eq]
@[simp] theorem State.putF_agt (s : State) (f : Fld) (v : Nat) : (s.putF f v).agt = s.agt := by rw [State.putF_eq]
@[simp] theorem State.putF_pum (s : State) (f : Fld) (v : Nat) : (s.putF f v).pum = s.pum := by rw [State.putF_eq]
@[simp] theorem State.putF_eth (s : State) (f : Fld) (v : Nat) : (s.putF f v).eth = s.eth := by rw [State.putF_eq]
@[simp] theorem State.putF_can (s : State) (f : Fld) (v : Nat) : (s.putF f v).can = s.can := by rw [State.putF_eq]
@[simp] theorem State.putF_iox (s : State) (f : Fld) (v : Nat) : (s.putF f v).iox = s.iox := by rw [State.putF_eq]
@[simp] theorem State.putF_tap (s : State) (f : Fld) (v : Nat) : (s.putF f v).tap = s.tap := by rw [State.putF_eq]
@[simp] theorem State.putF_sec (s : State) (f : Fld) (v : Nat) : (s.putF f v).sec = s.sec := by rw [State.putF_eq]
@[simp] theorem State.putF_slt (s : State) (f : Fld) (v : Nat) : (s.putF f v).slt = s.slt := by rw [State.putF_eq]
@[simp] theorem State.putF_flt (s : State) (f : Fld) (v : Nat) : (s.putF f v).flt = s.flt := by rw [State.putF_eq]
@[simp] theorem State.putF_gnt (s : State) (f : Fld) (v : Nat) : (s.putF f v).gnt = s.gnt := by rw [State.putF_eq]
@[simp] theorem State.putF_ing (s : State) (f : Fld) (v : Nat) : (s.putF f v).ing = s.ing := by rw [State.putF_eq]

/-! ### Memory -/

/-- Bytes written change memory alone. -/
theorem State.write_eq (s : State) (a : Nat) (l : List Byte) : s.write a l = { s with mem := (s.write a l).mem } := by
  induction l generalizing s a with
  | nil => rfl
  | cons b bs ih =>
    rw [State.write]
    generalize hu : s.setByte a b = u
    rw [ih u]
    subst hu
    rfl

@[simp] theorem State.write_pending (s : State) (a : Nat) (l : List Byte) : (s.write a l).pending = s.pending := by rw [State.write_eq]
@[simp] theorem State.write_freeCtr (s : State) (a : Nat) (l : List Byte) : (s.write a l).freeCtr = s.freeCtr := by rw [State.write_eq]
@[simp] theorem State.write_sent (s : State) (a : Nat) (l : List Byte) : (s.write a l).sent = s.sent := by rw [State.write_eq]
@[simp] theorem State.write_arb (s : State) (a : Nat) (l : List Byte) : (s.write a l).arb = s.arb := by rw [State.write_eq]
@[simp] theorem State.write_ue (s : State) (a : Nat) (l : List Byte) : (s.write a l).ue = s.ue := by rw [State.write_eq]
@[simp] theorem State.write_regs (s : State) (a : Nat) (l : List Byte) : (s.write a l).regs = s.regs := by rw [State.write_eq]
@[simp] theorem State.write_blocks (s : State) (a : Nat) (l : List Byte) : (s.write a l).blocks = s.blocks := by rw [State.write_eq]
@[simp] theorem State.write_pins (s : State) (a : Nat) (l : List Byte) : (s.write a l).pins = s.pins := by rw [State.write_eq]
@[simp] theorem State.write_dev (s : State) (a : Nat) (l : List Byte) : (s.write a l).dev = s.dev := by rw [State.write_eq]
@[simp] theorem State.write_fc (s : State) (a : Nat) (l : List Byte) : (s.write a l).fc = s.fc := by rw [State.write_eq]
@[simp] theorem State.write_qtz (s : State) (a : Nat) (l : List Byte) : (s.write a l).qtz = s.qtz := by rw [State.write_eq]
@[simp] theorem State.write_sch (s : State) (a : Nat) (l : List Byte) : (s.write a l).sch = s.sch := by rw [State.write_eq]
@[simp] theorem State.write_tier (s : State) (a : Nat) (l : List Byte) : (s.write a l).tier = s.tier := by rw [State.write_eq]
@[simp] theorem State.write_pcie (s : State) (a : Nat) (l : List Byte) : (s.write a l).pcie = s.pcie := by rw [State.write_eq]
@[simp] theorem State.write_wdg (s : State) (a : Nat) (l : List Byte) : (s.write a l).wdg = s.wdg := by rw [State.write_eq]
@[simp] theorem State.write_test (s : State) (a : Nat) (l : List Byte) : (s.write a l).test = s.test := by rw [State.write_eq]
@[simp] theorem State.write_frame (s : State) (a : Nat) (l : List Byte) : (s.write a l).frame = s.frame := by rw [State.write_eq]
@[simp] theorem State.write_pwr (s : State) (a : Nat) (l : List Byte) : (s.write a l).pwr = s.pwr := by rw [State.write_eq]
@[simp] theorem State.write_stm (s : State) (a : Nat) (l : List Byte) : (s.write a l).stm = s.stm := by rw [State.write_eq]
@[simp] theorem State.write_odl (s : State) (a : Nat) (l : List Byte) : (s.write a l).odl = s.odl := by rw [State.write_eq]
@[simp] theorem State.write_agt (s : State) (a : Nat) (l : List Byte) : (s.write a l).agt = s.agt := by rw [State.write_eq]
@[simp] theorem State.write_pum (s : State) (a : Nat) (l : List Byte) : (s.write a l).pum = s.pum := by rw [State.write_eq]
@[simp] theorem State.write_eth (s : State) (a : Nat) (l : List Byte) : (s.write a l).eth = s.eth := by rw [State.write_eq]
@[simp] theorem State.write_can (s : State) (a : Nat) (l : List Byte) : (s.write a l).can = s.can := by rw [State.write_eq]
@[simp] theorem State.write_iox (s : State) (a : Nat) (l : List Byte) : (s.write a l).iox = s.iox := by rw [State.write_eq]
@[simp] theorem State.write_tap (s : State) (a : Nat) (l : List Byte) : (s.write a l).tap = s.tap := by rw [State.write_eq]
@[simp] theorem State.write_sec (s : State) (a : Nat) (l : List Byte) : (s.write a l).sec = s.sec := by rw [State.write_eq]
@[simp] theorem State.write_slt (s : State) (a : Nat) (l : List Byte) : (s.write a l).slt = s.slt := by rw [State.write_eq]
@[simp] theorem State.write_flt (s : State) (a : Nat) (l : List Byte) : (s.write a l).flt = s.flt := by rw [State.write_eq]
@[simp] theorem State.write_gnt (s : State) (a : Nat) (l : List Byte) : (s.write a l).gnt = s.gnt := by rw [State.write_eq]
@[simp] theorem State.write_ing (s : State) (a : Nat) (l : List Byte) : (s.write a l).ing = s.ing := by rw [State.write_eq]

/-- Memory is in canonical form: strictly rising addresses, no entry equal to what an unlisted address reads as. -/
theorem State.setByte_wf {s : State} (a : Nat) (b : Byte) (h : Memory.wf s.mem = true) : Memory.wf (s.setByte a b).mem = true :=
  Sparse.wf_set a b h

theorem State.write_wf {s : State} (a : Nat) (l : List Byte) (h : Memory.wf s.mem = true) : Memory.wf (s.write a l).mem = true := by
  induction l generalizing s a with
  | nil => exact h
  | cons b bs ih => exact ih (a + 1) (State.setByte_wf a b h)

theorem State.writeNat_wf {s : State} (a n v : Nat) (h : Memory.wf s.mem = true) : Memory.wf (s.writeNat a n v).mem = true :=
  State.write_wf a _ h

theorem State.store_wf {s : State} (a : Nat) (l : List Byte) (h : Memory.wf s.mem = true) : Memory.wf (s.store a l).mem = true :=
  State.write_wf _ l h

/-- The register file is in canonical form. -/
theorem State.setReg_wf {s : State} (a : Nat) (v : Word) (h : Sparse.wf resetWord s.regs = true) :
    Sparse.wf resetWord (s.setReg a v).regs = true := Sparse.wf_set a v h

theorem State.setRegNat_wf {s : State} (a n v : Nat) (h : Sparse.wf resetWord s.regs = true) :
    Sparse.wf resetWord (s.setRegNat a n v).regs = true := by
  induction n generalizing s a v with
  | zero => exact h
  | succ n ih => exact ih (a + 4) (v / 2 ^ 32) (State.setReg_wf a _ h)

theorem State.putF_wf {s : State} (f : Fld) (v : Nat) (h : Sparse.wf resetWord s.regs = true) :
    Sparse.wf resetWord (s.putF f v).regs = true := State.setRegNat_wf _ _ _ h

/-- A byte reads as written, and every other byte as before. -/
theorem State.byte_setByte (s : State) (a : Nat) (b : Byte) (c : Nat) :
    (s.setByte a b).byte c = if c = a then b else s.byte c := Sparse.get_set ..

/-- Bytes written in a row: outside them every byte reads as before. -/
theorem State.byte_write_outside (s : State) (a : Nat) (l : List Byte) (c : Nat) (h : c < a ∨ a + l.length ≤ c) :
    (s.write a l).byte c = s.byte c := by
  induction l generalizing s a with
  | nil => rfl
  | cons b bs ih =>
    rw [State.write, ih _ _ (by simp at h; omega), State.byte_setByte, if_neg (by simp at h; omega)]

/-- Bytes written in a row read back. -/
theorem State.byte_write_inside (s : State) (a : Nat) (l : List Byte) (i : Nat) (h : i < l.length) :
    (s.write a l).byte (a + i) = l[i] := by
  induction l generalizing s a i with
  | nil => simp at h
  | cons b bs ih =>
    cases i with
    | zero => rw [State.write, State.byte_write_outside _ _ _ _ (by omega)]; simp [State.byte_setByte]
    | succ i =>
      have := ih (s.setByte a b) (a + 1) i (by simpa using h)
      rw [State.write]
      simpa [Nat.add_assoc, Nat.add_comm 1 i] using this

/-- What a register word reads as after a write of one word. -/
theorem State.reg_setReg (s : State) (a : Nat) (v : Word) (b : Nat) :
    (s.setReg a v).reg b = if b = a then v else s.reg b := Sparse.get_set ..

end Sys2Proof.Machine
end

