-- ==== Sys2Proof/Laws/Ops.lean ====
section
/-! SUPPORT. The laws of the operations that every meaning uses: bit fields, register fields, the frames of a command, a
checked register write, and the levels at the pins. -/

namespace Sys2Proof.Machine

/-! ## Bit fields -/

/-- A field of a number lies below its width. -/
theorem bits_lt (x hi lo : Nat) : bits x hi lo < 2 ^ (hi + 1 - lo) := Nat.mod_lt _ (by positivity)

/-- A field does not see the bits above it. -/
theorem bits_mod (x hi lo m : Nat) (h : hi < m) : bits (x % 2 ^ m) hi lo = bits x hi lo := by
  apply Nat.eq_of_testBit_eq
  intro i
  simp only [bits, Nat.testBit_mod_two_pow, Nat.testBit_shiftRight]
  by_cases hi' : i < hi + 1 - lo
  · simp [hi', show lo + i < m by omega]
  · simp [hi']

/-- A number is its low part, the field, and the part above. -/
theorem setBits_split (x hi lo v : Nat) (h : lo ≤ hi) :
    setBits x hi lo v = x % 2 ^ lo + 2 ^ lo * (v % 2 ^ (hi + 1 - lo) + 2 ^ (hi + 1 - lo) * (x / 2 ^ (hi + 1))) := by
  have e : (2:Nat) ^ (hi + 1) = 2 ^ lo * 2 ^ (hi + 1 - lo) := by rw [← pow_add]; congr 1; omega
  have h1 : x = x % 2 ^ lo + 2 ^ lo * (x / 2 ^ lo % 2 ^ (hi + 1 - lo) + 2 ^ (hi + 1 - lo) * (x / 2 ^ (hi + 1))) := by
    rw [e, ← Nat.div_div_eq_div_mul, Nat.mod_add_div, Nat.mod_add_div]
  simp only [setBits, bits, Nat.shiftRight_eq_div_pow]
  have h2 : x / 2 ^ lo % 2 ^ (hi + 1 - lo) * 2 ^ lo ≤ x := by
    calc _ ≤ x / 2 ^ lo * 2 ^ lo := Nat.mul_le_mul_right _ (Nat.mod_le _ _)
      _ ≤ x := Nat.div_mul_le_self _ _
  generalize hq : x / 2 ^ lo % 2 ^ (hi + 1 - lo) = q at *
  generalize hr : x / 2 ^ (hi + 1) = r at *
  generalize hw : (2:Nat) ^ (hi + 1 - lo) = w at *
  generalize hl : (2:Nat) ^ lo = l at *
  have h4 : x - q * l = x % l + l * (w * r) := by
    have : l * (q + w * r) = q * l + l * (w * r) := by ring
    omega
  rw [h4]; ring

/-- A field that is written reads as the low bits of what was written. -/
theorem bits_setBits (x hi lo v : Nat) (h : lo ≤ hi) : bits (setBits x hi lo v) hi lo = v % 2 ^ (hi + 1 - lo) := by
  rw [setBits_split x hi lo v h, bits, Nat.shiftRight_eq_div_pow, Nat.add_mul_div_left _ _ (by positivity),
    Nat.div_eq_of_lt (Nat.mod_lt _ (by positivity)), Nat.zero_add, Nat.add_mul_mod_self_left, Nat.mod_mod]

/-- The bits of a number with a field written. -/
theorem testBit_setBits (x hi lo v i : Nat) (h : lo ≤ hi) :
    (setBits x hi lo v).testBit i = if lo ≤ i ∧ i ≤ hi then v.testBit (i - lo) else x.testBit i := by
  have hv := Nat.mod_lt v (show 0 < 2 ^ (hi + 1 - lo) by positivity)
  have hx := Nat.mod_lt x (show 0 < 2 ^ lo by positivity)
  rw [setBits_split x hi lo v h, Nat.add_comm, Nat.testBit_two_pow_mul_add _ hx, Nat.add_comm (v % _),
    Nat.testBit_two_pow_mul_add _ hv, Nat.testBit_mod_two_pow, Nat.testBit_mod_two_pow, Nat.testBit_div_two_pow]
  by_cases h1 : i < lo
  · simp [h1]
  · by_cases h2 : i ≤ hi
    · simp [h1, show lo ≤ i by omega, h2, show i - lo < hi + 1 - lo by omega]
    · simp [h1, h2, show ¬ (i - lo < hi + 1 - lo) by omega]
      congr 1; omega

/-- A field beside the one written reads as before. -/
theorem bits_setBits_ne (x hi lo v hi' lo' : Nat) (h : lo ≤ hi) (hd : hi' < lo ∨ hi < lo') :
    bits (setBits x hi lo v) hi' lo' = bits x hi' lo' := by
  apply Nat.eq_of_testBit_eq
  intro i
  simp only [bits, Nat.testBit_mod_two_pow, Nat.testBit_shiftRight, testBit_setBits x hi lo v _ h]
  by_cases hi1 : i < hi' + 1 - lo'
  · have : ¬ (lo ≤ lo' + i ∧ lo' + i ≤ hi) := by omega
    simp [hi1, this]
  · simp [hi1]

/-! ## Register words and fields -/

/-- Words read in a row form a number below their width. -/
theorem State.regNat_lt (s : State) (a n : Nat) : s.regNat a n < 2 ^ (32 * n) := by
  induction n generalizing a with
  | zero => simp [State.regNat]
  | succ n ih =>
    have h1 := ih (a + 4)
    have h2 := (s.reg a).isLt
    rw [State.regNat, show 32 * (n + 1) = 32 + 32 * n by ring, pow_add]
    nlinarith

/-- A word outside those written in a row reads as before. -/
theorem State.reg_setRegNat_ne (s : State) (a n v b : Nat) (h : ∀ i < n, b ≠ a + 4 * i) :
    (s.setRegNat a n v).reg b = s.reg b := by
  induction n generalizing s a v with
  | zero => rfl
  | succ n ih =>
    rw [State.setRegNat, ih _ (a + 4) _ (fun i hi => by have := h (i + 1) (by omega); omega), State.reg_setReg,
      if_neg (by simpa using h 0 (by omega))]

/-- Words written in a row read as they were written. -/
theorem State.regNat_setRegNat (s : State) (a n v : Nat) : (s.setRegNat a n v).regNat a n = v % 2 ^ (32 * n) := by
  induction n generalizing s a v with
  | zero => simp [State.regNat, Nat.mod_one]
  | succ n ih =>
    rw [State.setRegNat, State.regNat, ih, State.reg_setRegNat_ne _ _ _ _ _ (fun i _ => by omega), State.reg_setReg, if_pos rfl,
      BitVec.toNat_ofNat, show 32 * (n + 1) = 32 + 32 * n by ring, pow_add, Nat.mod_mul]

/-- Words outside those written in a row read as before. -/
theorem State.regNat_setRegNat_ne (s : State) (a n v b m : Nat) (h : ∀ i < n, ∀ j < m, b + 4 * j ≠ a + 4 * i) :
    (s.setRegNat a n v).regNat b m = s.regNat b m := by
  induction m generalizing b with
  | zero => rfl
  | succ m ih =>
    rw [State.regNat, State.regNat, ih (b + 4) (fun i hi j hj => by have := h i hi (j + 1) (by omega); omega),
      State.reg_setRegNat_ne _ _ _ _ _ (fun i hi => by simpa using h i hi 0 (by omega))]

/-- A field that is written reads as the low bits of what was written. -/
theorem State.getF_putF (s : State) (f : Fld) (v : Nat) (h : f.lo ≤ f.hi) : (s.putF f v).getF f = v % 2 ^ f.width := by
  rw [State.getF, State.putF, State.regNat_setRegNat, bits_mod _ _ _ _ (by omega), bits_setBits _ _ _ _ h]
  rfl

/-- A field of the same register, of as many words, that shares no bit with the one written reads as before. -/
theorem State.getF_putF_same (s : State) (f g : Fld) (v : Nat) (ha : g.addr = f.addr) (hw : g.hi / 32 = f.hi / 32)
    (h : f.lo ≤ f.hi) (hd : g.hi < f.lo ∨ f.hi < g.lo) : (s.putF f v).getF g = s.getF g := by
  rw [State.getF, State.putF, State.getF, ha, hw, State.regNat_setRegNat, bits_mod _ _ _ _ (by omega), bits_setBits_ne _ _ _ _ _ _ h hd]

/-- A field of other register words reads as before. -/
theorem State.getF_putF_ne (s : State) (f g : Fld) (v : Nat)
    (h : f.addr + 4 * (f.hi / 32) < g.addr ∨ g.addr + 4 * (g.hi / 32) < f.addr) : (s.putF f v).getF g = s.getF g := by
  rw [State.getF, State.putF, State.getF, State.regNat_setRegNat_ne _ _ _ _ _ _ (fun i hi j hj => by omega)]

/-- A register word outside the field's register reads as before. -/
theorem State.reg_putF_ne (s : State) (f : Fld) (v a : Nat) (h : a < f.addr ∨ f.addr + 4 * (f.hi / 32) < a) :
    (s.putF f v).reg a = s.reg a := State.reg_setRegNat_ne _ _ _ _ _ (fun i hi => by omega)

/-- A counter that saturates. -/
theorem State.getF_satInc (s : State) (f : Fld) (n : Nat) (h : f.lo ≤ f.hi) :
    (s.satInc f n).getF f = min (s.getF f + n) (2 ^ f.width - 1) := by
  have : 0 < 2 ^ f.width := by positivity
  rw [State.satInc, State.getF_putF _ _ _ h, Nat.mod_eq_of_lt (by omega)]

/-- A counter that wraps. -/
theorem State.getF_wrapInc (s : State) (f : Fld) (n : Nat) (h : f.lo ≤ f.hi) :
    (s.wrapInc f n).getF f = (s.getF f + n) % 2 ^ f.width := by rw [State.wrapInc, State.getF_putF _ _ _ h]

/-! ## The frames of a command -/

@[simp] theorem State.atPins_pending (s t : State) : (s.atPins t).pending = s.pending := rfl
@[simp] theorem State.atPins_pins (s t : State) :
    (s.atPins t).pins = { s.pins with refreshLost := t.pins.refreshLost } := rfl
@[simp] theorem State.atPins_dev (s t : State) : (s.atPins t).dev = t.dev := rfl
@[simp] theorem State.atPins_regs (s t : State) : (s.atPins t).regs = t.regs := rfl
@[simp] theorem State.atPins_mem (s t : State) : (s.atPins t).mem = t.mem := rfl

/-- What `inside` leaves: everything of `t` but the queue, the pins and, in OFF and TERMINAL, the mode. -/
theorem State.inside_eq (s t : State) : s.inside t =
    { t with pending := s.pending, pins := { s.pins with refreshLost := t.pins.refreshLost },
             dev := { t.dev with mode := if s.dev.mode = .off ∨ s.dev.mode = .terminal then s.dev.mode else t.dev.mode } } := by
  unfold State.inside
  cases h : s.dev.mode <;> simp [State.atPins]

@[simp] theorem State.inside_pending (s t : State) : (s.inside t).pending = s.pending := by rw [State.inside_eq]
@[simp] theorem State.inside_pins (s t : State) : (s.inside t).pins = { s.pins with refreshLost := t.pins.refreshLost } := by
  rw [State.inside_eq]
@[simp] theorem State.inside_mode (s t : State) : (s.inside t).dev.mode =
    if s.dev.mode = .off ∨ s.dev.mode = .terminal then s.dev.mode else t.dev.mode := by rw [State.inside_eq]
@[simp] theorem State.inside_freeCtr (s t : State) : (s.inside t).freeCtr = t.freeCtr := by rw [State.inside_eq]
@[simp] theorem State.inside_arb (s t : State) : (s.inside t).arb = t.arb := by rw [State.inside_eq]
@[simp] theorem State.inside_ue (s t : State) : (s.inside t).ue = t.ue := by rw [State.inside_eq]
@[simp] theorem State.inside_sent (s t : State) : (s.inside t).sent = t.sent := by rw [State.inside_eq]
@[simp] theorem State.inside_mem (s t : State) : (s.inside t).mem = t.mem := by rw [State.inside_eq]
@[simp] theorem State.inside_regs (s t : State) : (s.inside t).regs = t.regs := by rw [State.inside_eq]
@[simp] theorem State.inside_blocks (s t : State) : (s.inside t).blocks = t.blocks := by rw [State.inside_eq]
@[simp] theorem State.inside_fc (s t : State) : (s.inside t).fc = t.fc := by rw [State.inside_eq]
@[simp] theorem State.inside_qtz (s t : State) : (s.inside t).qtz = t.qtz := by rw [State.inside_eq]
@[simp] theorem State.inside_sch (s t : State) : (s.inside t).sch = t.sch := by rw [State.inside_eq]
@[simp] theorem State.inside_tier (s t : State) : (s.inside t).tier = t.tier := by rw [State.inside_eq]
@[simp] theorem State.inside_pcie (s t : State) : (s.inside t).pcie = t.pcie := by rw [State.inside_eq]
@[simp] theorem State.inside_wdg (s t : State) : (s.inside t).wdg = t.wdg := by rw [State.inside_eq]
@[simp] theorem State.inside_test (s t : State) : (s.inside t).test = t.test := by rw [State.inside_eq]
@[simp] theorem State.inside_frame (s t : State) : (s.inside t).frame = t.frame := by rw [State.inside_eq]
@[simp] theorem State.inside_pwr (s t : State) : (s.inside t).pwr = t.pwr := by rw [State.inside_eq]
@[simp] theorem State.inside_stm (s t : State) : (s.inside t).stm = t.stm := by rw [State.inside_eq]
@[simp] theorem State.inside_odl (s t : State) : (s.inside t).odl = t.odl := by rw [State.inside_eq]
@[simp] theorem State.inside_agt (s t : State) : (s.inside t).agt = t.agt := by rw [State.inside_eq]
@[simp] theorem State.inside_pum (s t : State) : (s.inside t).pum = t.pum := by rw [State.inside_eq]
@[simp] theorem State.inside_eth (s t : State) : (s.inside t).eth = t.eth := by rw [State.inside_eq]
@[simp] theorem State.inside_can (s t : State) : (s.inside t).can = t.can := by rw [State.inside_eq]
@[simp] theorem State.inside_iox (s t : State) : (s.inside t).iox = t.iox := by rw [State.inside_eq]
@[simp] theorem State.inside_tap (s t : State) : (s.inside t).tap = t.tap := by rw [State.inside_eq]
@[simp] theorem State.inside_sec (s t : State) : (s.inside t).sec = t.sec := by rw [State.inside_eq]
@[simp] theorem State.inside_slt (s t : State) : (s.inside t).slt = t.slt := by rw [State.inside_eq]
@[simp] theorem State.inside_flt (s t : State) : (s.inside t).flt = t.flt := by rw [State.inside_eq]
@[simp] theorem State.inside_gnt (s t : State) : (s.inside t).gnt = t.gnt := by rw [State.inside_eq]
@[simp] theorem State.inside_ing (s t : State) : (s.inside t).ing = t.ing := by rw [State.inside_eq]

/-- A command of a live device answers the next state. -/
theorem whenLive_live {f : State → State} {s : State} (h : s.live = true) : whenLive f s = .next (s.inside (f s)) := by
  simp [whenLive, h]

/-- A command in OFF or without power changes nothing. -/
theorem whenLive_dead {f : State → State} {s : State} (h : s.live = false) : whenLive f s = .next s := by
  simp [whenLive, h]

/-- A command of a powered device answers the next state. -/
theorem whenPowered_on {f : State → State} {s : State} (h : s.pins.powered = true) : whenPowered f s = .next (s.inside (f s)) := by
  simp [whenPowered, h]

theorem whenPowered_off {f : State → State} {s : State} (h : s.pins.powered = false) : whenPowered f s = .next s := by
  simp [whenPowered, h]

@[simp] theorem State.guard_true (s : State) (f : State → State) : s.guard true f = f s := rfl
@[simp] theorem State.guard_false (s : State) (f : State → State) : s.guard false f = s := rfl

/-! ## A checked register write -/

/-- What a checked register write can do: it is turned away, refused with a cause, or takes effect and is answered OK. -/
theorem State.access_cases (s : State) (req : Requester) (a v : Nat) (f : State → State) :
    (∃ t, s.turnedAway req = some t ∧ s.access req a v f = t) ∨
    (∃ c, s.turnedAway req = none ∧ s.checkWord req a v = some c ∧ s.access req a v f = s.refuse req c) ∨
    (s.turnedAway req = none ∧ s.checkWord req a v = none ∧ s.access req a v f = (f s).respond req 0 []) := by
  unfold State.access
  cases h1 : s.turnedAway req <;> cases h2 : s.checkWord req a v <;> simp

theorem State.access_ok {s : State} {req : Requester} {a v : Nat} (f : State → State) (h1 : s.turnedAway req = none)
    (h2 : s.checkWord req a v = none) : s.access req a v f = (f s).respond req 0 [] := by
  simp [State.access, h1, h2]

/-- The answer to an access touches no part of the state but the requester's answer. -/
theorem State.respond_eq (s : State) (req : Requester) (n : Nat) (l : List Nat) : s.respond req n l = { s with dev := (s.respond req n l).dev } := by
  cases req <;> rfl

@[simp] theorem State.respond_mode (s : State) (req : Requester) (n : Nat) (l : List Nat) :
    (s.respond req n l).dev.mode = s.dev.mode := by cases req <;> rfl

/-! ## Free values -/

@[simp] theorem State.free_snd (s : State) (w : Nat) : (s.free w).2 = { s with freeCtr := s.freeCtr + 1 } := rfl
theorem State.free_lt (s : State) (w : Nat) : (s.free w).1 < 2 ^ w := Nat.mod_lt _ (by positivity)

/-! ## Accesses and their requests -/

/-- Bytes stored change memory and the list of SRAM words that hold an uncorrectable error, alone. -/
theorem State.store_eq (s : State) (a : Nat) (l : List Byte) :
    s.store a l = { s with mem := (s.store a l).mem, ue := (s.store a l).ue } := by
  rw [State.store, State.write_eq]; rfl

/-- A request that joins a queue changes the memory ports alone. -/
theorem State.enqueue_eq (s : State) (r : MemReq) : s.enqueue r = { s with tier := (s.enqueue r).tier } := by
  unfold State.enqueue State.waitAt; split <;> rfl

/-- The requests of an access change the memory ports alone. -/
theorem State.traffic_eq (s : State) (port part : Nat) (write : Bool) (a n : Nat) :
    s.traffic port part write a n = { s with tier := (s.traffic port part write a n).tier } := by
  unfold State.traffic
  induction requestsOf a n generalizing s with
  | nil => rfl
  | cons r l ih => rw [List.foldl_cons, ih, State.enqueue_eq]

/-- The requests of accesses change the memory ports alone. -/
theorem State.trafficAll_eq (s : State) (port part : Nat) (write : Bool) (l : List (Nat × Nat)) :
    s.trafficAll port part write l = { s with tier := (s.trafficAll port part write l).tier } := by
  unfold State.trafficAll
  induction l generalizing s with
  | nil => rfl
  | cons r l ih => rw [List.foldl_cons, ih, State.traffic_eq]

/-! ## The mode and the levels at the pins -/

@[simp] theorem State.setMode_mode (s : State) (m : Mode) : (s.setMode m).dev.mode = m := by
  unfold State.setMode; split <;> simp

/-- A change of mode touches the mode and the register file alone. -/
theorem State.setMode_eq (s : State) (m : Mode) :
    s.setMode m = { s with regs := (s.setMode m).regs, dev := { s.dev with mode := m } } := by
  unfold State.setMode
  dsimp only
  split
  · exact State.putF_eq _ _ _
  · rw [State.putF_eq (State.putF _ _ _)]
    generalize (State.putF (State.putF _ _ _) _ _).regs = r
    simp

/-- The reset leaves the device in OFF. -/
theorem State.deviceReset_mode (s : State) : s.deviceReset.dev.mode = .off := by
  unfold State.deviceReset; exact State.setMode_mode _ _

/-- A level that holds the device off leaves OFF or TERMINAL. -/
theorem State.toOff_mode (s : State) : s.toOff.dev.mode = .off ∨ s.toOff.dev.mode = .terminal := by
  unfold State.toOff
  split
  · next h => exact .inr h
  · next h => exact .inl h
  · exact .inl (State.deviceReset_mode s)

end Sys2Proof.Machine
end

