-- ==== Sys2Proof/Laws/Frames.lean ====
section
/-! SUPPORT. What every command can do at all: a command inside the device changes nothing, or answers a state that leaves the
queue, the pins, OFF and TERMINAL as they were; one lemma for each. -/

namespace Sys2Proof.Machine

/-- The outcome is the state itself, or, with power, a state that a command inside the device may leave. -/
def State.Keeps (s : State) (o : Host.Outcome State Fault Refusal) : Prop := 
  o = .next s ∨ (s.pins.powered = true ∧ ∃ t, o = .next (s.inside t))

theorem whenLive_keeps (f : State → State) (s : State) : s.Keeps (whenLive f s) := by
  unfold whenLive State.Keeps
  split
  · next h => exact .inr ⟨by simp [State.live] at h; exact h.1, _, rfl⟩
  · exact .inl rfl

theorem whenPowered_keeps (f : State → State) (s : State) : s.Keeps (whenPowered f s) := by
  unfold whenPowered State.Keeps
  split
  · next h => exact .inr ⟨h, _, rfl⟩
  · exact .inl rfl

theorem execFuseSenseDone_keeps (first second : List Nat) (s : State) : s.Keeps (execFuseSenseDone first second s) := by
  unfold execFuseSenseDone; exact whenLive_keeps ..
theorem execRomVerify_keeps (imageA imageB : ImageCheck) (s : State) : s.Keeps (execRomVerify imageA imageB s) := by
  unfold execRomVerify; exact whenLive_keeps ..
theorem execFirmwareLoad_keeps (images : List ImageCheck) (hbmTrained : Bool) (s : State) : s.Keeps (execFirmwareLoad images hbmTrained s) := by
  unfold execFirmwareLoad; exact whenLive_keeps ..
theorem execMemoryTraining_keeps (trained density : Nat) (ranks2 : Bool) (rate testFails : Nat) (ageMargins : List Nat)     (history : Option (Nat × Nat × Nat)) (s : State) : s.Keeps (execMemoryTraining trained density ranks2 rate testFails ageMargins history s) := by
  unfold execMemoryTraining; exact whenLive_keeps ..
theorem execPartitionSetup_keeps (owners : List (Nat × Nat)) (locks : List Nat) (writes : List (Nat × Nat)) (enables : List Nat)     (advance : List (Nat × Nat)) (s : State) : s.Keeps (execPartitionSetup owners locks writes enables advance s) := by
  unfold execPartitionSetup; exact whenLive_keeps ..
theorem execCmdpRd_keeps (page offset len : Nat) (check : PortCheck) (s : State) : s.Keeps (execCmdpRd page offset len check s) := by
  unfold execCmdpRd; exact whenLive_keeps ..
theorem execCmdpWr_keeps (page offset : Nat) (words : List Nat) (check : PortCheck) (s : State) : s.Keeps (execCmdpWr page offset words check s) := by
  unfold execCmdpWr; exact whenLive_keeps ..
theorem execCmdpStat_keeps (check : PortCheck) (s : State) : s.Keeps (execCmdpStat check s) := by
  unfold execCmdpStat; exact whenLive_keeps ..
theorem execCmdpAbort_keeps (request : Option (List Byte)) (s : State) : s.Keeps (execCmdpAbort request s) := by
  unfold execCmdpAbort; exact whenLive_keeps ..
theorem execArm_keeps (clear : Nat) (s : State) : s.Keeps (execArm clear s) := by
  unfold execArm; exact whenLive_keeps ..
theorem execArmNoPlan_keeps (s : State) : s.Keeps (execArmNoPlan s) := by
  unfold execArmNoPlan; exact whenLive_keeps ..
theorem execDisarm_keeps (s : State) : s.Keeps (execDisarm s) := by
  unfold execDisarm; exact whenLive_keeps ..
theorem execDisarmFailed_keeps (s : State) : s.Keeps (execDisarmFailed s) := by
  unfold execDisarmFailed; exact whenLive_keeps ..
theorem execFuse_keeps (pairs : List (Nat × Nat)) (s : State) : s.Keeps (execFuse pairs s) := by
  unfold execFuse; exact whenLive_keeps ..
theorem execQuote_keeps (nonce : List Byte) (s : State) : s.Keeps (execQuote nonce s) := by
  unfold execQuote; exact whenLive_keeps ..
theorem execLogdump_keeps (s : State) : s.Keeps (execLogdump s) := by
  unfold execLogdump; exact whenLive_keeps ..
theorem execSelftest_keeps (s : State) : s.Keeps (execSelftest s) := by
  unfold execSelftest; exact whenLive_keeps ..
theorem execLongOpTimeout_keeps (s : State) : s.Keeps (execLongOpTimeout s) := by
  unfold execLongOpTimeout; exact whenLive_keeps ..
theorem execEngage_keeps (req : Requester) (s : State) : s.Keeps (execEngage req s) := by
  unfold execEngage; exact whenLive_keeps ..
theorem execWarmReset_keeps (req : Requester) (s : State) : s.Keeps (execWarmReset req s) := by
  unfold execWarmReset; exact whenLive_keeps ..
theorem execHostHeartbeat_keeps (req : Requester) (value : Nat) (s : State) : s.Keeps (execHostHeartbeat req value s) := by
  unfold execHostHeartbeat; exact whenLive_keeps ..
theorem execHbTimeout_keeps (s : State) : s.Keeps (execHbTimeout s) := by
  unfold execHbTimeout; exact whenLive_keeps ..
theorem execGraceExpiry_keeps (s : State) : s.Keeps (execGraceExpiry s) := by
  unfold execGraceExpiry; exact whenLive_keeps ..
theorem execRegisterWrite_keeps (req : Requester) (addr size value : Nat) (s : State) : s.Keeps (execRegisterWrite req addr size value s) := by
  unfold execRegisterWrite; exact whenLive_keeps ..
theorem execPcieBar0Request_keeps (write : Bool) (addr len : Nat) (data : List Byte) (s : State) : s.Keeps (execPcieBar0Request write addr len data s) := by
  unfold execPcieBar0Request; exact whenLive_keeps ..
theorem execPcieBar2Request_keeps (write : Bool) (offset len : Nat) (data : List Byte) (s : State) : s.Keeps (execPcieBar2Request write offset len data s) := by
  unfold execPcieBar2Request; exact whenLive_keeps ..
theorem execCounterClear_keeps (req : Requester) (addr value : Nat) (s : State) : s.Keeps (execCounterClear req addr value s) := by
  unfold execCounterClear; exact whenLive_keeps ..
theorem execBlockEnable_keeps (req : Requester) (page : Nat) (s : State) : s.Keeps (execBlockEnable req page s) := by
  unfold execBlockEnable; exact whenLive_keeps ..
theorem execBlockDisable_keeps (req : Requester) (page : Nat) (s : State) : s.Keeps (execBlockDisable req page s) := by
  unfold execBlockDisable; exact whenLive_keeps ..
theorem execSoftReset_keeps (req : Requester) (page : Nat) (en : Bool) (s : State) : s.Keeps (execSoftReset req page en s) := by
  unfold execSoftReset; exact whenLive_keeps ..
theorem execPageLock_keeps (req : Requester) (page : Nat) (en : Bool) (s : State) : s.Keeps (execPageLock req page en s) := by
  unfold execPageLock; exact whenLive_keeps ..
theorem execStartSafePoint_keeps (page : Nat) (s : State) : s.Keeps (execStartSafePoint page s) := by
  unfold execStartSafePoint; exact whenLive_keeps ..
theorem execStartDone_keeps (page : Nat) (pass : Bool) (s : State) : s.Keeps (execStartDone page pass s) := by
  unfold execStartDone; exact whenLive_keeps ..
theorem execStopDone_keeps (page : Nat) (s : State) : s.Keeps (execStopDone page s) := by
  unfold execStopDone; exact whenLive_keeps ..
theorem execFrameTick_keeps (s : State) : s.Keeps (execFrameTick s) := by
  unfold execFrameTick; exact whenPowered_keeps ..
theorem execTbWrap_keeps (base : Nat) (s : State) : s.Keeps (execTbWrap base s) := by
  unfold execTbWrap; exact whenPowered_keeps ..
theorem execTbStep_keeps (req : Requester) (base step : Nat) (s : State) : s.Keeps (execTbStep req base step s) := by
  unfold execTbStep; exact whenLive_keeps ..
theorem execFrameOrgWrite_keeps (req : Requester) (org : Nat) (s : State) : s.Keeps (execFrameOrgWrite req org s) := by
  unfold execFrameOrgWrite; exact whenLive_keeps ..
theorem execServoSample_keeps (req : Requester) (servo ofs : Nat) (s : State) : s.Keeps (execServoSample req servo ofs s) := by
  unfold execServoSample; exact whenLive_keeps ..
theorem execServoTimeout_keeps (servo : Nat) (s : State) : s.Keeps (execServoTimeout servo s) := by
  unfold execServoTimeout; exact whenPowered_keeps ..
theorem execTb2SelWrite_keeps (req : Requester) (auto : Bool) (sel : Nat) (s : State) : s.Keeps (execTb2SelWrite req auto sel s) := by
  unfold execTb2SelWrite; exact whenLive_keeps ..
theorem execRefLost_keeps (s : State) : s.Keeps (execRefLost s) := by
  unfold execRefLost; exact whenPowered_keeps ..
theorem execRefRecovered_keeps (s : State) : s.Keeps (execRefRecovered s) := by
  unfold execRefRecovered; exact whenPowered_keeps ..
theorem execSnap_keeps (req : Requester) (s : State) : s.Keeps (execSnap req s) := by
  unfold execSnap; exact whenLive_keeps ..
theorem execEpochCommitTag_keeps (req : Requester) (domain tag : Nat) (s : State) : s.Keeps (execEpochCommitTag req domain tag s) := by
  unfold execEpochCommitTag; exact whenLive_keeps ..
theorem execTriggerEnable_keeps (req : Requester) (out cfg : Nat) (s : State) : s.Keeps (execTriggerEnable req out cfg s) := by
  unfold execTriggerEnable; exact whenLive_keeps ..
theorem execTriggerEdge_keeps (out : Nat) (s : State) : s.Keeps (execTriggerEdge out s) := by
  unfold execTriggerEdge; exact whenLive_keeps ..
theorem execTriggerPulseEnd_keeps (out : Nat) (s : State) : s.Keeps (execTriggerPulseEnd out s) := by
  unfold execTriggerPulseEnd; exact whenLive_keeps ..
theorem execRearm_keeps (req : Requester) (out : Nat) (s : State) : s.Keeps (execRearm req out s) := by
  unfold execRearm; exact whenLive_keeps ..
theorem execCaptureEdge_keeps (input : Nat) (rise : Bool) (s : State) : s.Keeps (execCaptureEdge input rise s) := by
  unfold execCaptureEdge; exact whenLive_keeps ..
theorem execCapturePop_keeps (req : Requester) (input : Nat) (s : State) : s.Keeps (execCapturePop req input s) := by
  unfold execCapturePop; exact whenLive_keeps ..
theorem execFaultRaise_keeps (source : Nat) (level : Bool) (ctxs : List Nat) (s : State) : s.Keeps (execFaultRaise source level ctxs s) := by
  unfold execFaultRaise; exact whenLive_keeps ..
theorem execBrokenPair_keeps (source : Nat) (s : State) : s.Keeps (execBrokenPair source s) := by
  unfold execBrokenPair; exact whenLive_keeps ..
theorem execStickyClear_keeps (req : Requester) (word value : Nat) (s : State) : s.Keeps (execStickyClear req word value s) := by
  unfold execStickyClear; exact whenLive_keeps ..
theorem execSeverityWrite_keeps (req : Requester) (word value : Nat) (s : State) : s.Keeps (execSeverityWrite req word value s) := by
  unfold execSeverityWrite; exact whenLive_keeps ..
theorem execCollectorMismatch_keeps (s : State) : s.Keeps (execCollectorMismatch s) := by
  unfold execCollectorMismatch; exact whenLive_keeps ..
theorem execOkRefreshLoss_keeps (s : State) : s.Keeps (execOkRefreshLoss s) := by
  unfold execOkRefreshLoss; exact whenLive_keeps ..
theorem execOkPinMismatch_keeps (s : State) : s.Keeps (execOkPinMismatch s) := by
  unfold execOkPinMismatch; exact whenLive_keeps ..
theorem execSafeStateWprFrame_keeps (s : State) : s.Keeps (execSafeStateWprFrame s) := by
  unfold execSafeStateWprFrame; exact whenLive_keeps ..
theorem execWdgKick_keeps (req : Requester) (wdg : Nat) (s : State) : s.Keeps (execWdgKick req wdg s) := by
  unfold execWdgKick; exact whenLive_keeps ..
theorem execWatchdogLate_keeps (wdg : Nat) (s : State) : s.Keeps (execWatchdogLate wdg s) := by
  unfold execWatchdogLate; exact whenLive_keeps ..
theorem execWatchdogEnable_keeps (req : Requester) (wdg cfg : Nat) (s : State) : s.Keeps (execWatchdogEnable req wdg cfg s) := by
  unfold execWatchdogEnable; exact whenLive_keeps ..
theorem execChainPoll_keeps (ctx : Nat) (s : State) : s.Keeps (execChainPoll ctx s) := by
  unfold execChainPoll; exact whenLive_keeps ..
theorem execDescriptorFetch_keeps (ctx : Nat) (s : State) : s.Keeps (execDescriptorFetch ctx s) := by
  unfold execDescriptorFetch; exact whenLive_keeps ..
theorem execCommitWindowEntry_keeps (ctx : Nat) (s : State) : s.Keeps (execCommitWindowEntry ctx s) := by
  unfold execCommitWindowEntry; exact whenLive_keeps ..
theorem execNop_keeps (tile entry : Nat) (s : State) : s.Keeps (execNop tile entry s) := by
  unfold execNop; exact whenLive_keeps ..
theorem execLoad_keeps (tile entry : Nat) (ecc : List EccError) (s : State) : s.Keeps (execLoad tile entry ecc s) := by
  unfold execLoad; exact whenLive_keeps ..
theorem execStore_keeps (tile entry : Nat) (ecc : List EccError) (s : State) : s.Keeps (execStore tile entry ecc s) := by
  unfold execStore; exact whenLive_keeps ..
theorem execGather_keeps (tile entry : Nat) (ecc : List EccError) (s : State) : s.Keeps (execGather tile entry ecc s) := by
  unfold execGather; exact whenLive_keeps ..
theorem execScatter_keeps (tile entry : Nat) (ecc : List EccError) (s : State) : s.Keeps (execScatter tile entry ecc s) := by
  unfold execScatter; exact whenLive_keeps ..
theorem execFill_keeps (tile entry : Nat) (ecc : List EccError) (s : State) : s.Keeps (execFill tile entry ecc s) := by
  unfold execFill; exact whenLive_keeps ..
theorem execGemm_keeps (tile entry : Nat) (upset : Upset) (ecc : List EccError) (s : State) : s.Keeps (execGemm tile entry upset ecc s) := by
  unfold execGemm; exact whenLive_keeps ..
theorem execConv_keeps (tile entry : Nat) (upset : Upset) (ecc : List EccError) (s : State) : s.Keeps (execConv tile entry upset ecc s) := by
  unfold execConv; exact whenLive_keeps ..
theorem execGatherGemm_keeps (tile entry : Nat) (upset : Upset) (ecc : List EccError) (s : State) : s.Keeps (execGatherGemm tile entry upset ecc s) := by
  unfold execGatherGemm; exact whenLive_keeps ..
theorem execAttnBlock_keeps (tile entry : Nat) (upset : Upset) (ecc : List EccError) (s : State) : s.Keeps (execAttnBlock tile entry upset ecc s) := by
  unfold execAttnBlock; exact whenLive_keeps ..
theorem execKvAppend_keeps (tile entry : Nat) (ecc : List EccError) (s : State) : s.Keeps (execKvAppend tile entry ecc s) := by
  unfold execKvAppend; exact whenLive_keeps ..
theorem execKvShare_keeps (tile entry : Nat) (ecc : List EccError) (s : State) : s.Keeps (execKvShare tile entry ecc s) := by
  unfold execKvShare; exact whenLive_keeps ..
theorem execKvRelease_keeps (tile entry : Nat) (ecc : List EccError) (s : State) : s.Keeps (execKvRelease tile entry ecc s) := by
  unfold execKvRelease; exact whenLive_keeps ..
theorem execScan_keeps (tile entry : Nat) (upset : Upset) (ecc : List EccError) (s : State) : s.Keeps (execScan tile entry upset ecc s) := by
  unfold execScan; exact whenLive_keeps ..
theorem execEltwise_keeps (tile entry : Nat) (ecc : List EccError) (s : State) : s.Keeps (execEltwise tile entry ecc s) := by
  unfold execEltwise; exact whenLive_keeps ..
theorem execReduce_keeps (tile entry : Nat) (ecc : List EccError) (s : State) : s.Keeps (execReduce tile entry ecc s) := by
  unfold execReduce; exact whenLive_keeps ..
theorem execSoftmax_keeps (tile entry : Nat) (ecc : List EccError) (s : State) : s.Keeps (execSoftmax tile entry ecc s) := by
  unfold execSoftmax; exact whenLive_keeps ..
theorem execNorm_keeps (tile entry : Nat) (ecc : List EccError) (s : State) : s.Keeps (execNorm tile entry ecc s) := by
  unfold execNorm; exact whenLive_keeps ..
theorem execQuant_keeps (tile entry : Nat) (ecc : List EccError) (s : State) : s.Keeps (execQuant tile entry ecc s) := by
  unfold execQuant; exact whenLive_keeps ..
theorem execDequant_keeps (tile entry : Nat) (ecc : List EccError) (s : State) : s.Keeps (execDequant tile entry ecc s) := by
  unfold execDequant; exact whenLive_keeps ..
theorem execSyncWait_keeps (ctx : Nat) (s : State) : s.Keeps (execSyncWait ctx s) := by
  unfold execSyncWait; exact whenLive_keeps ..
theorem execSyncSignal_keeps (ctx : Nat) (s : State) : s.Keeps (execSyncSignal ctx s) := by
  unfold execSyncSignal; exact whenLive_keeps ..
theorem execPhase_keeps (tile entry : Nat) (s : State) : s.Keeps (execPhase tile entry s) := by
  unfold execPhase; exact whenLive_keeps ..
theorem execFence_keeps (tile entry : Nat) (s : State) : s.Keeps (execFence tile entry s) := by
  unfold execFence; exact whenLive_keeps ..
theorem execLink_keeps (ctx : Nat) (s : State) : s.Keeps (execLink ctx s) := by
  unfold execLink; exact whenLive_keeps ..
theorem execCommit_keeps (tile : Nat) (s : State) : s.Keeps (execCommit tile s) := by
  unfold execCommit; exact whenLive_keeps ..
theorem execKillComplete_keeps (tile : Nat) (s : State) : s.Keeps (execKillComplete tile s) := by
  unfold execKillComplete; exact whenLive_keeps ..
theorem execScrubRead_keeps (tile line : Nat) (ecc : List EccError) (passDone : Bool) (s : State) : s.Keeps (execScrubRead tile line ecc passDone s) := by
  unfold execScrubRead; exact whenLive_keeps ..
theorem execTileTempSample_keeps (tile temp : Nat) (s : State) : s.Keeps (execTileTempSample tile temp s) := by
  unfold execTileTempSample; exact whenLive_keeps ..
theorem execThrottleRecovery_keeps (tile : Nat) (s : State) : s.Keeps (execThrottleRecovery tile s) := by
  unfold execThrottleRecovery; exact whenLive_keeps ..
theorem execTgradTimeout_keeps (s : State) : s.Keeps (execTgradTimeout s) := by
  unfold execTgradTimeout; exact whenLive_keeps ..
theorem execVdiffSample_keeps (volts : List Nat) (s : State) : s.Keeps (execVdiffSample volts s) := by
  unfold execVdiffSample; exact whenLive_keeps ..
theorem execClkratioDetect_keeps (s : State) : s.Keeps (execClkratioDetect s) := by
  unfold execClkratioDetect; exact whenLive_keeps ..
theorem execTestCycleStart_keeps (s : State) : s.Keeps (execTestCycleStart s) := by
  unfold execTestCycleStart; exact whenLive_keeps ..
theorem execTestSlotPrehold_keeps (pair : Nat) (s : State) : s.Keeps (execTestSlotPrehold pair s) := by
  unfold execTestSlotPrehold; exact whenLive_keeps ..
theorem execTestSlotStart_keeps (pair : Nat) (s : State) : s.Keeps (execTestSlotStart pair s) := by
  unfold execTestSlotStart; exact whenLive_keeps ..
theorem execTestSlotEnd_keeps (pair : Nat) (passA passB : Bool) (s : State) : s.Keeps (execTestSlotEnd pair passA passB s) := by
  unfold execTestSlotEnd; exact whenLive_keeps ..
theorem execTestSlotTimeout_keeps (pair tile : Nat) (s : State) : s.Keeps (execTestSlotTimeout pair tile s) := by
  unfold execTestSlotTimeout; exact whenLive_keeps ..
theorem execKnownAnswerCheck_keeps (source : Nat) (good : Bool) (s : State) : s.Keeps (execKnownAnswerCheck source good s) := by
  unfold execKnownAnswerCheck; exact whenLive_keeps ..
theorem execSynAdd_keeps (req : Requester) (page idx amount : Nat) (s : State) : s.Keeps (execSynAdd req page idx amount s) := by
  unfold execSynAdd; exact whenLive_keeps ..
theorem execSynStateWrite_keeps (req : Requester) (obj state owner : Nat) (s : State) : s.Keeps (execSynStateWrite req obj state owner s) := by
  unfold execSynStateWrite; exact whenLive_keeps ..
theorem execSynValueWrite_keeps (req : Requester) (obj value : Nat) (s : State) : s.Keeps (execSynValueWrite req obj value s) := by
  unfold execSynValueWrite; exact whenLive_keeps ..
theorem execActivate_keeps (req : Requester) (part ctx : Nat) (s : State) : s.Keeps (execActivate req part ctx s) := by
  unfold execActivate; exact whenLive_keeps ..
theorem execUpdate_keeps (req : Requester) (part ctx : Nat) (s : State) : s.Keeps (execUpdate req part ctx s) := by
  unfold execUpdate; exact whenLive_keeps ..
theorem execHold_keeps (req : Requester) (part ctx : Nat) (s : State) : s.Keeps (execHold req part ctx s) := by
  unfold execHold; exact whenLive_keeps ..
theorem execHoldDrained_keeps (ctx : Nat) (s : State) : s.Keeps (execHoldDrained ctx s) := by
  unfold execHoldDrained; exact whenLive_keeps ..
theorem execRelease_keeps (req : Requester) (part ctx : Nat) (s : State) : s.Keeps (execRelease req part ctx s) := by
  unfold execRelease; exact whenLive_keeps ..
theorem execTeardown_keeps (req : Requester) (part ctx : Nat) (s : State) : s.Keeps (execTeardown req part ctx s) := by
  unfold execTeardown; exact whenLive_keeps ..
theorem execRetire_keeps (req : Requester) (part ctx : Nat) (s : State) : s.Keeps (execRetire req part ctx s) := by
  unfold execRetire; exact whenLive_keeps ..
theorem execModelApply_keeps (req : Requester) (part model : Nat) (s : State) : s.Keeps (execModelApply req part model s) := by
  unfold execModelApply; exact whenLive_keeps ..
theorem execTeardownDone_keeps (ctx : Nat) (s : State) : s.Keeps (execTeardownDone ctx s) := by
  unfold execTeardownDone; exact whenLive_keeps ..
theorem execEvacuate_keeps (req : Requester) (tile : Nat) (s : State) : s.Keeps (execEvacuate req tile s) := by
  unfold execEvacuate; exact whenLive_keeps ..
theorem execAdmitTile_keeps (req : Requester) (tile : Nat) (s : State) : s.Keeps (execAdmitTile req tile s) := by
  unfold execAdmitTile; exact whenLive_keeps ..
theorem execAcctDump_keeps (req : Requester) (s : State) : s.Keeps (execAcctDump req s) := by
  unfold execAcctDump; exact whenLive_keeps ..
theorem execAcctDumpDone_keeps (s : State) : s.Keeps (execAcctDumpDone s) := by
  unfold execAcctDumpDone; exact whenLive_keeps ..
theorem execTileWindowStart_keeps (tile phase : Nat) (s : State) : s.Keeps (execTileWindowStart tile phase s) := by
  unfold execTileWindowStart; exact whenLive_keeps ..
theorem execContextPlace_keeps (ctx : Nat) (s : State) : s.Keeps (execContextPlace ctx s) := by
  unfold execContextPlace; exact whenLive_keeps ..
theorem execContextSaveDone_keeps (ctx : Nat) (s : State) : s.Keeps (execContextSaveDone ctx s) := by
  unfold execContextSaveDone; exact whenLive_keeps ..
theorem execContextRestoreDone_keeps (ctx : Nat) (s : State) : s.Keeps (execContextRestoreDone ctx s) := by
  unfold execContextRestoreDone; exact whenLive_keeps ..
theorem execZeroFillDone_keeps (ctx : Nat) (s : State) : s.Keeps (execZeroFillDone ctx s) := by
  unfold execZeroFillDone; exact whenLive_keeps ..
theorem execModelLoadDone_keeps (ctx : Nat) (s : State) : s.Keeps (execModelLoadDone ctx s) := by
  unfold execModelLoadDone; exact whenLive_keeps ..
theorem execQuantumExpiry_keeps (tile : Nat) (s : State) : s.Keeps (execQuantumExpiry tile s) := by
  unfold execQuantumExpiry; exact whenLive_keeps ..
theorem execDrainExpiry_keeps (tile : Nat) (s : State) : s.Keeps (execDrainExpiry tile s) := by
  unfold execDrainExpiry; exact whenLive_keeps ..
theorem execKvpFlPush_keeps (req : Requester) (part tier frame page : Nat) (s : State) : s.Keeps (execKvpFlPush req part tier frame page s) := by
  unfold execKvpFlPush; exact whenLive_keeps ..
theorem execStmEnable_keeps (req : Requester) (stream ctrl : Nat) (s : State) : s.Keeps (execStmEnable req stream ctrl s) := by
  unfold execStmEnable; exact whenLive_keeps ..
theorem execStmDisable_keeps (req : Requester) (stream ctrl : Nat) (s : State) : s.Keeps (execStmDisable req stream ctrl s) := by
  unfold execStmDisable; exact whenLive_keeps ..
theorem execStmResetWrite_keeps (req : Requester) (stream ctrl : Nat) (s : State) : s.Keeps (execStmResetWrite req stream ctrl s) := by
  unfold execStmResetWrite; exact whenLive_keeps ..
theorem execSwapOut_keeps (req : Requester) (stream : Nat) (s : State) : s.Keeps (execSwapOut req stream s) := by
  unfold execSwapOut; exact whenLive_keeps ..
theorem execUnpark_keeps (req : Requester) (stream : Nat) (s : State) : s.Keeps (execUnpark req stream s) := by
  unfold execUnpark; exact whenLive_keeps ..
theorem execSwapOutDone_keeps (stream : Nat) (s : State) : s.Keeps (execSwapOutDone stream s) := by
  unfold execSwapOutDone; exact whenLive_keeps ..
theorem execRestoreDone_keeps (stream : Nat) (s : State) : s.Keeps (execRestoreDone stream s) := by
  unfold execRestoreDone; exact whenLive_keeps ..
theorem execApply_keeps (req : Requester) (index : Nat) (s : State) : s.Keeps (execApply req index s) := by
  unfold execApply; exact whenLive_keeps ..
theorem execExchangeBlockDone_keeps (s : State) : s.Keeps (execExchangeBlockDone s) := by
  unfold execExchangeBlockDone; exact whenLive_keeps ..
theorem execHeatInterval_keeps (s : State) : s.Keeps (execHeatInterval s) := by
  unfold execHeatInterval; exact whenLive_keeps ..
theorem execWwGo_keeps (req : Requester) (chan : Nat) (s : State) : s.Keeps (execWwGo req chan s) := by
  unfold execWwGo; exact whenLive_keeps ..
theorem execWwStop_keeps (req : Requester) (chan : Nat) (s : State) : s.Keeps (execWwStop req chan s) := by
  unfold execWwStop; exact whenLive_keeps ..
theorem execWwLayerStart_keeps (chan : Nat) (s : State) : s.Keeps (execWwLayerStart chan s) := by
  unfold execWwLayerStart; exact whenLive_keeps ..
theorem execWwLayerDone_keeps (chan : Nat) (s : State) : s.Keeps (execWwLayerDone chan s) := by
  unfold execWwLayerDone; exact whenLive_keeps ..
theorem execMemoryRequest_keeps (write : Bool) (addr units part : Nat) (port : Nat) (data : List Byte) (crcError : Nat) (s : State) : s.Keeps (execMemoryRequest write addr units part port data crcError s) := by
  unfold execMemoryRequest; exact whenLive_keeps ..
theorem execBucketRefill_keeps (port : Nat) (s : State) : s.Keeps (execBucketRefill port s) := by
  unfold execBucketRefill; exact whenLive_keeps ..
theorem execD2dModuleFail_keeps (module : Nat) (s : State) : s.Keeps (execD2dModuleFail module s) := by
  unfold execD2dModuleFail; exact whenLive_keeps ..
theorem execSampleBegin_keeps (stream : Nat) (s : State) : s.Keeps (execSampleBegin stream s) := by
  unfold execSampleBegin; exact whenLive_keeps ..
theorem execSampleEnd_keeps (stream : Nat) (data embedded : List Byte) (damage : SampleDamage) (s : State) : s.Keeps (execSampleEnd stream data embedded damage s) := by
  unfold execSampleEnd; exact whenLive_keeps ..
theorem execSampleDone_keeps (stream sid : Nat) (s : State) : s.Keeps (execSampleDone stream sid s) := by
  unfold execSampleDone; exact whenLive_keeps ..
theorem execStreamEnable_keeps (req : Requester) (stream ctrl : Nat) (s : State) : s.Keeps (execStreamEnable req stream ctrl s) := by
  unfold execStreamEnable; exact whenLive_keeps ..
theorem execStreamDisable_keeps (req : Requester) (stream ctrl : Nat) (s : State) : s.Keeps (execStreamDisable req stream ctrl s) := by
  unfold execStreamDisable; exact whenLive_keeps ..
theorem execNosignalTimeout_keeps (stream : Nat) (s : State) : s.Keeps (execNosignalTimeout stream s) := by
  unfold execNosignalTimeout; exact whenLive_keeps ..
theorem execMemorySampleTake_keeps (stream : Nat) (s : State) : s.Keeps (execMemorySampleTake stream s) := by
  unfold execMemorySampleTake; exact whenLive_keeps ..
theorem execPackGo_keeps (req : Requester) (chan : Nat) (s : State) : s.Keeps (execPackGo req chan s) := by
  unfold execPackGo; exact whenLive_keeps ..
theorem execPackStop_keeps (req : Requester) (chan : Nat) (s : State) : s.Keeps (execPackStop req chan s) := by
  unfold execPackStop; exact whenLive_keeps ..
theorem execPackRunStart_keeps (chan : Nat) (s : State) : s.Keeps (execPackRunStart chan s) := by
  unfold execPackRunStart; exact whenLive_keeps ..
theorem execPackRunDone_keeps (chan : Nat) (s : State) : s.Keeps (execPackRunDone chan s) := by
  unfold execPackRunDone; exact whenLive_keeps ..
theorem execUartTxPush_keeps (req : Requester) (uart data : Nat) (s : State) : s.Keeps (execUartTxPush req uart data s) := by
  unfold execUartTxPush; exact whenLive_keeps ..
theorem execEncoderEdge_keeps (chan : Nat) (a b z : Bool) (s : State) : s.Keeps (execEncoderEdge chan a b z s) := by
  unfold execEncoderEdge; exact whenLive_keeps ..
theorem execTapInstruction_keeps (instr : Nat) (data : List Bool) (s : State) : s.Keeps (execTapInstruction instr data s) := by
  unfold execTapInstruction; exact whenPowered_keeps ..
theorem execRingTake_keeps (ring : Nat) (s : State) : s.Keeps (execRingTake ring s) := by
  unfold execRingTake; exact whenLive_keeps ..
theorem execAgateDrain_keeps (s : State) : s.Keeps (execAgateDrain s) := by
  unfold execAgateDrain; exact whenLive_keeps ..
theorem execAgateCutoff_keeps (s : State) : s.Keeps (execAgateCutoff s) := by
  unfold execAgateCutoff; exact whenLive_keeps ..
theorem execEpochCommit_keeps (s : State) : s.Keeps (execEpochCommit s) := by
  unfold execEpochCommit; exact whenLive_keeps ..
theorem execTransformSwapRequest_keeps (req : Requester) (bank : Nat) (s : State) : s.Keeps (execTransformSwapRequest req bank s) := by
  unfold execTransformSwapRequest; exact whenLive_keeps ..
theorem execAgateRingEnable_keeps (req : Requester) (ring cfg : Nat) (s : State) : s.Keeps (execAgateRingEnable req ring cfg s) := by
  unfold execAgateRingEnable; exact whenLive_keeps ..
theorem execSensorEnable_keeps (req : Requester) (sensor cfg : Nat) (s : State) : s.Keeps (execSensorEnable req sensor cfg s) := by
  unfold execSensorEnable; exact whenLive_keeps ..
theorem execPointPacket_keeps (scanner : Nat) (packet : List Byte) (tcap : Nat) (s : State) : s.Keeps (execPointPacket scanner packet tcap s) := by
  unfold execPointPacket; exact whenLive_keeps ..
theorem execLeadTimeout_keeps (s : State) : s.Keeps (execLeadTimeout s) := by
  unfold execLeadTimeout; exact whenLive_keeps ..
theorem execBuildStart_keeps (s : State) : s.Keeps (execBuildStart s) := by
  unfold execBuildStart; exact whenLive_keeps ..
theorem execEgoWaitExpiry_keeps (s : State) : s.Keeps (execEgoWaitExpiry s) := by
  unfold execEgoWaitExpiry; exact whenLive_keeps ..
theorem execBuildDone_keeps (s : State) : s.Keeps (execBuildDone s) := by
  unfold execBuildDone; exact whenLive_keeps ..
theorem execJobTake_keeps (ring : Nat) (s : State) : s.Keeps (execJobTake ring s) := by
  unfold execJobTake; exact whenLive_keeps ..
theorem execQuery_keeps (job : Nat) (s : State) : s.Keeps (execQuery job s) := by
  unfold execQuery; exact whenLive_keeps ..
theorem execRulebook_keeps (job : Nat) (s : State) : s.Keeps (execRulebook job s) := by
  unfold execRulebook; exact whenLive_keeps ..
theorem execDecode_keeps (job : Nat) (s : State) : s.Keeps (execDecode job s) := by
  unfold execDecode; exact whenLive_keeps ..
theorem execJobComplete_keeps (job : Nat) (s : State) : s.Keeps (execJobComplete job s) := by
  unfold execJobComplete; exact whenLive_keeps ..
theorem execDecodePublish_keeps (s : State) : s.Keeps (execDecodePublish s) := by
  unfold execDecodePublish; exact whenLive_keeps ..
theorem execSlateUpdate_keeps (s : State) : s.Keeps (execSlateUpdate s) := by
  unfold execSlateUpdate; exact whenLive_keeps ..
theorem execKeepOutSwapRequest_keeps (req : Requester) (bank : Nat) (s : State) : s.Keeps (execKeepOutSwapRequest req bank s) := by
  unfold execKeepOutSwapRequest; exact whenLive_keeps ..
theorem execSlateInsertCutoff_keeps (s : State) : s.Keeps (execSlateInsertCutoff s) := by
  unfold execSlateInsertCutoff; exact whenLive_keeps ..
theorem execSlatePublish_keeps (s : State) : s.Keeps (execSlatePublish s) := by
  unfold execSlatePublish; exact whenLive_keeps ..
theorem execFlintOptimise_keeps (s : State) : s.Keeps (execFlintOptimise s) := by
  unfold execFlintOptimise; exact whenLive_keeps ..
theorem execOptimiserCutoff_keeps (checks : List Nat) (s : State) : s.Keeps (execOptimiserCutoff checks s) := by
  unfold execOptimiserCutoff; exact whenLive_keeps ..
theorem execCheckCutoff_keeps (s : State) : s.Keeps (execCheckCutoff s) := by
  unfold execCheckCutoff; exact whenLive_keeps ..
theorem execReuseCutoff_keeps (s : State) : s.Keeps (execReuseCutoff s) := by
  unfold execReuseCutoff; exact whenLive_keeps ..
theorem execPlanHandover_keeps (s : State) : s.Keeps (execPlanHandover s) := by
  unfold execPlanHandover; exact whenLive_keeps ..
theorem execLeaseWrite_keeps (s : State) : s.Keeps (execLeaseWrite s) := by
  unfold execLeaseWrite; exact whenLive_keeps ..
theorem execWprPublish_keeps (s : State) : s.Keeps (execWprPublish s) := by
  unfold execWprPublish; exact whenLive_keeps ..
theorem execRefSwap_keeps (req : Requester) (bank : Nat) (s : State) : s.Keeps (execRefSwap req bank s) := by
  unfold execRefSwap; exact whenLive_keeps ..
theorem execSeedSwap_keeps (req : Requester) (bank : Nat) (s : State) : s.Keeps (execSeedSwap req bank s) := by
  unfold execSeedSwap; exact whenLive_keeps ..
theorem execResume_keeps (req : Requester) (s : State) : s.Keeps (execResume req s) := by
  unfold execResume; exact whenLive_keeps ..
theorem execControlPeriodBoundary_keeps (s : State) : s.Keeps (execControlPeriodBoundary s) := by
  unfold execControlPeriodBoundary; exact whenLive_keeps ..
theorem execLoopSample_keeps (loop : Nat) (s : State) : s.Keeps (execLoopSample loop s) := by
  unfold execLoopSample; exact whenLive_keeps ..
theorem execLoopOutput_keeps (act : Nat) (s : State) : s.Keeps (execLoopOutput act s) := by
  unfold execLoopOutput; exact whenLive_keeps ..
theorem execActuatorFrameEmit_keeps (frame : Nat) (s : State) : s.Keeps (execActuatorFrameEmit frame s) := by
  unfold execActuatorFrameEmit; exact whenLive_keeps ..
theorem execLoopEnable_keeps (req : Requester) (loop cfg : Nat) (s : State) : s.Keeps (execLoopEnable req loop cfg s) := by
  unfold execLoopEnable; exact whenLive_keeps ..
theorem execRecover_keeps (req : Requester) (act : Nat) (s : State) : s.Keeps (execRecover req act s) := by
  unfold execRecover; exact whenLive_keeps ..
theorem execManual_keeps (req : Requester) (act : Nat) (manual : Bool) (s : State) : s.Keeps (execManual req act manual s) := by
  unfold execManual; exact whenLive_keeps ..
theorem execEthFrameReceive_keeps (port : Nat) (frame : List Byte) (fcsGood : Bool) (s : State) : s.Keeps (execEthFrameReceive port frame fcsGood s) := by
  unfold execEthFrameReceive; exact whenLive_keeps ..
theorem execEthFrameTransmit_keeps (port cls : Nat) (s : State) : s.Keeps (execEthFrameTransmit port cls s) := by
  unfold execEthFrameTransmit; exact whenLive_keeps ..
theorem execGclCycleStart_keeps (port : Nat) (s : State) : s.Keeps (execGclCycleStart port s) := by
  unfold execGclCycleStart; exact whenLive_keeps ..
theorem execGclEntryExpiry_keeps (port : Nat) (s : State) : s.Keeps (execGclEntryExpiry port s) := by
  unfold execGclEntryExpiry; exact whenLive_keeps ..
theorem execGclSwap_keeps (req : Requester) (port bank : Nat) (s : State) : s.Keeps (execGclSwap req port bank s) := by
  unfold execGclSwap; exact whenLive_keeps ..
theorem execEthLinkDown_keeps (port : Nat) (s : State) : s.Keeps (execEthLinkDown port s) := by
  unfold execEthLinkDown; exact whenLive_keeps ..
theorem execEthLinkUp_keeps (port : Nat) (s : State) : s.Keeps (execEthLinkUp port s) := by
  unfold execEthLinkUp; exact whenLive_keeps ..
theorem execRecoveryReset_keeps (rf : Nat) (s : State) : s.Keeps (execRecoveryReset rf s) := by
  unfold execRecoveryReset; exact whenLive_keeps ..
theorem execCanFrameReceive_keeps (ctl : Nat) (frame : CanFrame) (s : State) : s.Keeps (execCanFrameReceive ctl frame s) := by
  unfold execCanFrameReceive; exact whenLive_keeps ..
theorem execCanFrameSent_keeps (ctl : Nat) (s : State) : s.Keeps (execCanFrameSent ctl s) := by
  unfold execCanFrameSent; exact whenLive_keeps ..
theorem execCanBusOff_keeps (ctl : Nat) (s : State) : s.Keeps (execCanBusOff ctl s) := by
  unfold execCanBusOff; exact whenLive_keeps ..
theorem execCanBusOffRecovery_keeps (ctl : Nat) (s : State) : s.Keeps (execCanBusOffRecovery ctl s) := by
  unfold execCanBusOffRecovery; exact whenLive_keeps ..
theorem execCanRecover_keeps (req : Requester) (ctl : Nat) (s : State) : s.Keeps (execCanRecover req ctl s) := by
  unfold execCanRecover; exact whenLive_keeps ..
theorem execCanMailboxGo_keeps (req : Requester) (ctl value : Nat) (s : State) : s.Keeps (execCanMailboxGo req ctl value s) := by
  unfold execCanMailboxGo; exact whenLive_keeps ..
theorem execPcieLinkChange_keeps (up : Bool) (gen width : Nat) (s : State) : s.Keeps (execPcieLinkChange up gen width s) := by
  unfold execPcieLinkChange; exact whenLive_keeps ..
theorem execPcieHotReset_keeps (d3hot : Bool) (s : State) : s.Keeps (execPcieHotReset d3hot s) := by
  unfold execPcieHotReset; exact whenLive_keeps ..
theorem execPcieTlpError_keeps (kind : TlpError) (s : State) : s.Keeps (execPcieTlpError kind s) := by
  unfold execPcieTlpError; exact whenLive_keeps ..
theorem execPcieEoi_keeps (req : Requester) (vec : Nat) (s : State) : s.Keeps (execPcieEoi req vec s) := by
  unfold execPcieEoi; exact whenLive_keeps ..
theorem execMsixUnmask_keeps (req : Requester) (vec : Nat) (s : State) : s.Keeps (execMsixUnmask req vec s) := by
  unfold execMsixUnmask; exact whenLive_keeps ..
theorem execOdlTraining_keeps (port : Nat) (peer : OdlPeer) (s : State) : s.Keeps (execOdlTraining port peer s) := by
  unfold execOdlTraining; exact whenLive_keeps ..
theorem execOdlRdReq_keeps (port : Nat) (req : OdlReq) (s : State) : s.Keeps (execOdlRdReq port req s) := by
  unfold execOdlRdReq; exact whenLive_keeps ..
theorem execOdlRdData_keeps (port src dst tag : Nat) (data : List Byte) (err : Bool) (s : State) : s.Keeps (execOdlRdData port src dst tag data err s) := by
  unfold execOdlRdData; exact whenLive_keeps ..
theorem execOdlWr_keeps (port : Nat) (req : OdlReq) (data : List Byte) (s : State) : s.Keeps (execOdlWr port req data s) := by
  unfold execOdlWr; exact whenLive_keeps ..
theorem execOdlWrMask_keeps (port src dst tag : Nat) (mask : List Nat) (s : State) : s.Keeps (execOdlWrMask port src dst tag mask s) := by
  unfold execOdlWrMask; exact whenLive_keeps ..
theorem execOdlWrAck_keeps (port src dst tag : Nat) (err : Bool) (s : State) : s.Keeps (execOdlWrAck port src dst tag err s) := by
  unfold execOdlWrAck; exact whenLive_keeps ..
theorem execOdlTime_keeps (port time rate src : Nat) (s : State) : s.Keeps (execOdlTime port time rate src s) := by
  unfold execOdlTime; exact whenLive_keeps ..
theorem execOdlBeacon_keeps (port : Nat) (beacon : OdlBeacon) (s : State) : s.Keeps (execOdlBeacon port beacon s) := by
  unfold execOdlBeacon; exact whenLive_keeps ..
theorem execOdlLeave_keeps (port pos : Nat) (s : State) : s.Keeps (execOdlLeave port pos s) := by
  unfold execOdlLeave; exact whenLive_keeps ..
theorem execFlitCrcError_keeps (port : Nat) (s : State) : s.Keeps (execFlitCrcError port s) := by
  unfold execFlitCrcError; exact whenLive_keeps ..
theorem execOdlLinkDown_keeps (port : Nat) (s : State) : s.Keeps (execOdlLinkDown port s) := by
  unfold execOdlLinkDown; exact whenLive_keeps ..
theorem execBeaconMiss_keeps (pos : Nat) (s : State) : s.Keeps (execBeaconMiss pos s) := by
  unfold execBeaconMiss; exact whenLive_keeps ..
theorem execTimeSend_keeps (s : State) : s.Keeps (execTimeSend s) := by
  unfold execTimeSend; exact whenLive_keeps ..
theorem execOdlRetrainTimer_keeps (port : Nat) (s : State) : s.Keeps (execOdlRetrainTimer port s) := by
  unfold execOdlRetrainTimer; exact whenLive_keeps ..
theorem execOdlRetrain_keeps (req : Requester) (port : Nat) (s : State) : s.Keeps (execOdlRetrain req port s) := by
  unfold execOdlRetrain; exact whenLive_keeps ..
theorem execCapPeriodEnd_keeps (power : PowerSample) (s : State) : s.Keeps (execCapPeriodEnd power s) := by
  unfold execCapPeriodEnd; exact whenLive_keeps ..
theorem execCapWrite_keeps (req : Requester) (cap : Nat) (s : State) : s.Keeps (execCapWrite req cap s) := by
  unfold execCapWrite; exact whenLive_keeps ..
theorem execAvsRead_keeps (rail : Nat) (good : Bool) (power : Nat) (s : State) : s.Keeps (execAvsRead rail good power s) := by
  unfold execAvsRead; exact whenLive_keeps ..
theorem execVregFault_keeps (island : Nat) (s : State) : s.Keeps (execVregFault island s) := by
  unfold execVregFault; exact whenLive_keeps ..
theorem execVoltageSettled_keeps (island : Nat) (s : State) : s.Keeps (execVoltageSettled island s) := by
  unfold execVoltageSettled; exact whenLive_keeps ..
theorem execDroopAlert_keeps (island : Nat) (s : State) : s.Keeps (execDroopAlert island s) := by
  unfold execDroopAlert; exact whenLive_keeps ..
theorem execDroopClear_keeps (island : Nat) (s : State) : s.Keeps (execDroopClear island s) := by
  unfold execDroopClear; exact whenLive_keeps ..
theorem execDroopHoldExpiry_keeps (island : Nat) (s : State) : s.Keeps (execDroopHoldExpiry island s) := by
  unfold execDroopHoldExpiry; exact whenLive_keeps ..
theorem execDroopLong_keeps (island : Nat) (s : State) : s.Keeps (execDroopLong island s) := by
  unfold execDroopLong; exact whenLive_keeps ..
theorem execHubTempSample_keeps (sensor temp : Nat) (s : State) : s.Keeps (execHubTempSample sensor temp s) := by
  unfold execHubTempSample; exact whenLive_keeps ..
theorem execOvertempTimeout_keeps (s : State) : s.Keeps (execOvertempTimeout s) := by
  unfold execOvertempTimeout; exact whenLive_keeps ..
theorem execAgeMeasure_keeps (margins : List Nat) (s : State) : s.Keeps (execAgeMeasure margins s) := by
  unfold execAgeMeasure; exact whenLive_keeps ..
theorem execAgeHour_keeps (s : State) : s.Keeps (execAgeHour s) := by
  unfold execAgeHour; exact whenLive_keeps ..
theorem execSecFpgm_keeps (req : Requester) (word bits : Nat) (s : State) : s.Keeps (execSecFpgm req word bits s) := by
  unfold execSecFpgm; exact whenLive_keeps ..
theorem execSecKeyOff_keeps (req : Requester) (value : Nat) (s : State) : s.Keeps (execSecKeyOff req value s) := by
  unfold execSecKeyOff; exact whenLive_keeps ..
theorem execSecDebugSet_keeps (req : Requester) (level : Nat) (s : State) : s.Keeps (execSecDebugSet req level s) := by
  unfold execSecDebugSet; exact whenLive_keeps ..
theorem execSecRgnTight_keeps (req : Requester) (region value : Nat) (s : State) : s.Keeps (execSecRgnTight req region value s) := by
  unfold execSecRgnTight; exact whenLive_keeps ..
theorem execLongOpDone_keeps (output : List Byte) (good : Bool) (s : State) : s.Keeps (execLongOpDone output good s) := by
  unfold execLongOpDone; exact whenLive_keeps ..
theorem execFpgmDone_keeps (good : Bool) (s : State) : s.Keeps (execFpgmDone good s) := by
  unfold execFpgmDone; exact whenLive_keeps ..
theorem execLoopDisable_keeps (req : Requester) (loop cfg : Nat) (s : State) : s.Keeps (execLoopDisable req loop cfg s) := by
  unfold execLoopDisable; exact whenLive_keeps ..
theorem execJobRingEnable_keeps (req : Requester) (ring cfg : Nat) (s : State) : s.Keeps (execJobRingEnable req ring cfg s) := by
  unfold execJobRingEnable; exact whenLive_keeps ..
theorem execCanErrorPassive_keeps (ctl : Nat) (s : State) : s.Keeps (execCanErrorPassive ctl s) := by
  unfold execCanErrorPassive; exact whenLive_keeps ..
theorem execLpddr5xTempAlert_keeps (ctl : Nat) (s : State) : s.Keeps (execLpddr5xTempAlert ctl s) := by
  unfold execLpddr5xTempAlert; exact whenLive_keeps ..
theorem execUartTxByteSent_keeps (uart : Nat) (s : State) : s.Keeps (execUartTxByteSent uart s) := by
  unfold execUartTxByteSent; exact whenLive_keeps ..
theorem execFaultPairInactive_keeps (source : Nat) (s : State) : s.Keeps (execFaultPairInactive source s) := by
  unfold execFaultPairInactive; exact whenLive_keeps ..
theorem execWatchdogWindowOpen_keeps (wdg : Nat) (s : State) : s.Keeps (execWatchdogWindowOpen wdg s) := by
  unfold execWatchdogWindowOpen; exact whenLive_keeps ..

/-- What a command that does not act at the pins can do. -/
theorem exec_keeps (c : Instr) (s : State) (h : ¬ ActsAtPins c) : s.Keeps (exec c s) := by
  cases c with
  | powerOn _ _ => exact absurd trivial h
  | powerRemoval => exact absurd trivial h
  | supplyOkFall => exact absurd trivial h
  | supplyOkRise => exact absurd trivial h
  | railOutOfRange => exact absurd trivial h
  | resetNAssert => exact absurd trivial h
  | resetNRelease => exact absurd trivial h
  | fuseSenseDone _ _ => exact execFuseSenseDone_keeps ..
  | romVerify _ _ => exact execRomVerify_keeps ..
  | firmwareLoad _ _ => exact execFirmwareLoad_keeps ..
  | memoryTraining _ _ _ _ _ _ _ => exact execMemoryTraining_keeps ..
  | partitionSetup _ _ _ _ _ => exact execPartitionSetup_keeps ..
  | cmdpRd _ _ _ _ => exact execCmdpRd_keeps ..
  | cmdpWr _ _ _ _ => exact execCmdpWr_keeps ..
  | cmdpStat _ => exact execCmdpStat_keeps ..
  | cmdpAbort _ => exact execCmdpAbort_keeps ..
  | arm _ => exact execArm_keeps ..
  | armNoPlan => exact execArmNoPlan_keeps ..
  | disarm => exact execDisarm_keeps ..
  | disarmFailed => exact execDisarmFailed_keeps ..
  | fuse _ => exact execFuse_keeps ..
  | quote _ => exact execQuote_keeps ..
  | logdump => exact execLogdump_keeps ..
  | selftest => exact execSelftest_keeps ..
  | longOpTimeout => exact execLongOpTimeout_keeps ..
  | engage _ => exact execEngage_keeps ..
  | warmReset _ => exact execWarmReset_keeps ..
  | hostHeartbeat _ _ => exact execHostHeartbeat_keeps ..
  | hbTimeout => exact execHbTimeout_keeps ..
  | graceExpiry => exact execGraceExpiry_keeps ..
  | registerWrite _ _ _ _ => exact execRegisterWrite_keeps ..
  | pcieBar0Request _ _ _ _ => exact execPcieBar0Request_keeps ..
  | pcieBar2Request _ _ _ _ => exact execPcieBar2Request_keeps ..
  | counterClear _ _ _ => exact execCounterClear_keeps ..
  | blockEnable _ _ => exact execBlockEnable_keeps ..
  | blockDisable _ _ => exact execBlockDisable_keeps ..
  | softReset _ _ _ => exact execSoftReset_keeps ..
  | pageLock _ _ _ => exact execPageLock_keeps ..
  | startSafePoint _ => exact execStartSafePoint_keeps ..
  | startDone _ _ => exact execStartDone_keeps ..
  | stopDone _ => exact execStopDone_keeps ..
  | frameTick => exact execFrameTick_keeps ..
  | tbWrap _ => exact execTbWrap_keeps ..
  | tbStep _ _ _ => exact execTbStep_keeps ..
  | frameOrgWrite _ _ => exact execFrameOrgWrite_keeps ..
  | servoSample _ _ _ => exact execServoSample_keeps ..
  | servoTimeout _ => exact execServoTimeout_keeps ..
  | tb2SelWrite _ _ _ => exact execTb2SelWrite_keeps ..
  | refLost => exact execRefLost_keeps ..
  | refRecovered => exact execRefRecovered_keeps ..
  | snap _ => exact execSnap_keeps ..
  | epochCommitTag _ _ _ => exact execEpochCommitTag_keeps ..
  | triggerEnable _ _ _ => exact execTriggerEnable_keeps ..
  | triggerEdge _ => exact execTriggerEdge_keeps ..
  | triggerPulseEnd _ => exact execTriggerPulseEnd_keeps ..
  | rearm _ _ => exact execRearm_keeps ..
  | captureEdge _ _ => exact execCaptureEdge_keeps ..
  | capturePop _ _ => exact execCapturePop_keeps ..
  | faultRaise _ _ _ => exact execFaultRaise_keeps ..
  | brokenPair _ => exact execBrokenPair_keeps ..
  | stickyClear _ _ _ => exact execStickyClear_keeps ..
  | severityWrite _ _ _ => exact execSeverityWrite_keeps ..
  | collectorMismatch => exact execCollectorMismatch_keeps ..
  | okRefreshLoss => exact execOkRefreshLoss_keeps ..
  | okPinMismatch => exact execOkPinMismatch_keeps ..
  | safeStateWprFrame => exact execSafeStateWprFrame_keeps ..
  | wdgKick _ _ => exact execWdgKick_keeps ..
  | watchdogLate _ => exact execWatchdogLate_keeps ..
  | watchdogEnable _ _ _ => exact execWatchdogEnable_keeps ..
  | chainPoll _ => exact execChainPoll_keeps ..
  | descriptorFetch _ => exact execDescriptorFetch_keeps ..
  | commitWindowEntry _ => exact execCommitWindowEntry_keeps ..
  | nop _ _ => exact execNop_keeps ..
  | load _ _ _ => exact execLoad_keeps ..
  | store _ _ _ => exact execStore_keeps ..
  | gather _ _ _ => exact execGather_keeps ..
  | scatter _ _ _ => exact execScatter_keeps ..
  | fill _ _ _ => exact execFill_keeps ..
  | gemm _ _ _ _ => exact execGemm_keeps ..
  | conv _ _ _ _ => exact execConv_keeps ..
  | gatherGemm _ _ _ _ => exact execGatherGemm_keeps ..
  | attnBlock _ _ _ _ => exact execAttnBlock_keeps ..
  | kvAppend _ _ _ => exact execKvAppend_keeps ..
  | kvShare _ _ _ => exact execKvShare_keeps ..
  | kvRelease _ _ _ => exact execKvRelease_keeps ..
  | scan _ _ _ _ => exact execScan_keeps ..
  | eltwise _ _ _ => exact execEltwise_keeps ..
  | reduce _ _ _ => exact execReduce_keeps ..
  | softmax _ _ _ => exact execSoftmax_keeps ..
  | norm _ _ _ => exact execNorm_keeps ..
  | quant _ _ _ => exact execQuant_keeps ..
  | dequant _ _ _ => exact execDequant_keeps ..
  | syncWait _ => exact execSyncWait_keeps ..
  | syncSignal _ => exact execSyncSignal_keeps ..
  | phase _ _ => exact execPhase_keeps ..
  | fence _ _ => exact execFence_keeps ..
  | link _ => exact execLink_keeps ..
  | commit _ => exact execCommit_keeps ..
  | killComplete _ => exact execKillComplete_keeps ..
  | scrubRead _ _ _ _ => exact execScrubRead_keeps ..
  | tileTempSample _ _ => exact execTileTempSample_keeps ..
  | throttleRecovery _ => exact execThrottleRecovery_keeps ..
  | tgradTimeout => exact execTgradTimeout_keeps ..
  | vdiffSample _ => exact execVdiffSample_keeps ..
  | clkratioDetect => exact execClkratioDetect_keeps ..
  | testCycleStart => exact execTestCycleStart_keeps ..
  | testSlotPrehold _ => exact execTestSlotPrehold_keeps ..
  | testSlotStart _ => exact execTestSlotStart_keeps ..
  | testSlotEnd _ _ _ => exact execTestSlotEnd_keeps ..
  | testSlotTimeout _ _ => exact execTestSlotTimeout_keeps ..
  | knownAnswerCheck _ _ => exact execKnownAnswerCheck_keeps ..
  | synAdd _ _ _ _ => exact execSynAdd_keeps ..
  | synStateWrite _ _ _ _ => exact execSynStateWrite_keeps ..
  | synValueWrite _ _ _ => exact execSynValueWrite_keeps ..
  | activate _ _ _ => exact execActivate_keeps ..
  | update _ _ _ => exact execUpdate_keeps ..
  | hold _ _ _ => exact execHold_keeps ..
  | holdDrained _ => exact execHoldDrained_keeps ..
  | release _ _ _ => exact execRelease_keeps ..
  | teardown _ _ _ => exact execTeardown_keeps ..
  | retire _ _ _ => exact execRetire_keeps ..
  | modelApply _ _ _ => exact execModelApply_keeps ..
  | teardownDone _ => exact execTeardownDone_keeps ..
  | evacuate _ _ => exact execEvacuate_keeps ..
  | admitTile _ _ => exact execAdmitTile_keeps ..
  | acctDump _ => exact execAcctDump_keeps ..
  | acctDumpDone => exact execAcctDumpDone_keeps ..
  | tileWindowStart _ _ => exact execTileWindowStart_keeps ..
  | contextPlace _ => exact execContextPlace_keeps ..
  | contextSaveDone _ => exact execContextSaveDone_keeps ..
  | contextRestoreDone _ => exact execContextRestoreDone_keeps ..
  | zeroFillDone _ => exact execZeroFillDone_keeps ..
  | modelLoadDone _ => exact execModelLoadDone_keeps ..
  | quantumExpiry _ => exact execQuantumExpiry_keeps ..
  | drainExpiry _ => exact execDrainExpiry_keeps ..
  | kvpFlPush _ _ _ _ _ => exact execKvpFlPush_keeps ..
  | stmEnable _ _ _ => exact execStmEnable_keeps ..
  | stmDisable _ _ _ => exact execStmDisable_keeps ..
  | stmResetWrite _ _ _ => exact execStmResetWrite_keeps ..
  | swapOut _ _ => exact execSwapOut_keeps ..
  | unpark _ _ => exact execUnpark_keeps ..
  | swapOutDone _ => exact execSwapOutDone_keeps ..
  | restoreDone _ => exact execRestoreDone_keeps ..
  | apply _ _ => exact execApply_keeps ..
  | exchangeBlockDone => exact execExchangeBlockDone_keeps ..
  | heatInterval => exact execHeatInterval_keeps ..
  | wwGo _ _ => exact execWwGo_keeps ..
  | wwStop _ _ => exact execWwStop_keeps ..
  | wwLayerStart _ => exact execWwLayerStart_keeps ..
  | wwLayerDone _ => exact execWwLayerDone_keeps ..
  | memoryRequest _ _ _ _ _ _ _ => exact execMemoryRequest_keeps ..
  | bucketRefill _ => exact execBucketRefill_keeps ..
  | d2dModuleFail _ => exact execD2dModuleFail_keeps ..
  | sampleBegin _ => exact execSampleBegin_keeps ..
  | sampleEnd _ _ _ _ => exact execSampleEnd_keeps ..
  | sampleDone _ _ => exact execSampleDone_keeps ..
  | streamEnable _ _ _ => exact execStreamEnable_keeps ..
  | streamDisable _ _ _ => exact execStreamDisable_keeps ..
  | nosignalTimeout _ => exact execNosignalTimeout_keeps ..
  | memorySampleTake _ => exact execMemorySampleTake_keeps ..
  | packGo _ _ => exact execPackGo_keeps ..
  | packStop _ _ => exact execPackStop_keeps ..
  | packRunStart _ => exact execPackRunStart_keeps ..
  | packRunDone _ => exact execPackRunDone_keeps ..
  | uartTxPush _ _ _ => exact execUartTxPush_keeps ..
  | encoderEdge _ _ _ _ => exact execEncoderEdge_keeps ..
  | tapInstruction _ _ => exact execTapInstruction_keeps ..
  | ringTake _ => exact execRingTake_keeps ..
  | agateDrain => exact execAgateDrain_keeps ..
  | agateCutoff => exact execAgateCutoff_keeps ..
  | epochCommit => exact execEpochCommit_keeps ..
  | transformSwapRequest _ _ => exact execTransformSwapRequest_keeps ..
  | agateRingEnable _ _ _ => exact execAgateRingEnable_keeps ..
  | sensorEnable _ _ _ => exact execSensorEnable_keeps ..
  | pointPacket _ _ _ => exact execPointPacket_keeps ..
  | leadTimeout => exact execLeadTimeout_keeps ..
  | buildStart => exact execBuildStart_keeps ..
  | egoWaitExpiry => exact execEgoWaitExpiry_keeps ..
  | buildDone => exact execBuildDone_keeps ..
  | jobTake _ => exact execJobTake_keeps ..
  | query _ => exact execQuery_keeps ..
  | rulebook _ => exact execRulebook_keeps ..
  | decode _ => exact execDecode_keeps ..
  | jobComplete _ => exact execJobComplete_keeps ..
  | decodePublish => exact execDecodePublish_keeps ..
  | slateUpdate => exact execSlateUpdate_keeps ..
  | keepOutSwapRequest _ _ => exact execKeepOutSwapRequest_keeps ..
  | slateInsertCutoff => exact execSlateInsertCutoff_keeps ..
  | slatePublish => exact execSlatePublish_keeps ..
  | flintOptimise => exact execFlintOptimise_keeps ..
  | optimiserCutoff _ => exact execOptimiserCutoff_keeps ..
  | checkCutoff => exact execCheckCutoff_keeps ..
  | reuseCutoff => exact execReuseCutoff_keeps ..
  | planHandover => exact execPlanHandover_keeps ..
  | leaseWrite => exact execLeaseWrite_keeps ..
  | wprPublish => exact execWprPublish_keeps ..
  | refSwap _ _ => exact execRefSwap_keeps ..
  | seedSwap _ _ => exact execSeedSwap_keeps ..
  | resume _ => exact execResume_keeps ..
  | controlPeriodBoundary => exact execControlPeriodBoundary_keeps ..
  | loopSample _ => exact execLoopSample_keeps ..
  | loopOutput _ => exact execLoopOutput_keeps ..
  | actuatorFrameEmit _ => exact execActuatorFrameEmit_keeps ..
  | loopEnable _ _ _ => exact execLoopEnable_keeps ..
  | recover _ _ => exact execRecover_keeps ..
  | manual _ _ _ => exact execManual_keeps ..
  | ethFrameReceive _ _ _ => exact execEthFrameReceive_keeps ..
  | ethFrameTransmit _ _ => exact execEthFrameTransmit_keeps ..
  | gclCycleStart _ => exact execGclCycleStart_keeps ..
  | gclEntryExpiry _ => exact execGclEntryExpiry_keeps ..
  | gclSwap _ _ _ => exact execGclSwap_keeps ..
  | ethLinkDown _ => exact execEthLinkDown_keeps ..
  | ethLinkUp _ => exact execEthLinkUp_keeps ..
  | recoveryReset _ => exact execRecoveryReset_keeps ..
  | canFrameReceive _ _ => exact execCanFrameReceive_keeps ..
  | canFrameSent _ => exact execCanFrameSent_keeps ..
  | canBusOff _ => exact execCanBusOff_keeps ..
  | canBusOffRecovery _ => exact execCanBusOffRecovery_keeps ..
  | canRecover _ _ => exact execCanRecover_keeps ..
  | canMailboxGo _ _ _ => exact execCanMailboxGo_keeps ..
  | pcieLinkChange _ _ _ => exact execPcieLinkChange_keeps ..
  | pcieHotReset _ => exact execPcieHotReset_keeps ..
  | pcieTlpError _ => exact execPcieTlpError_keeps ..
  | pcieEoi _ _ => exact execPcieEoi_keeps ..
  | msixUnmask _ _ => exact execMsixUnmask_keeps ..
  | odlTraining _ _ => exact execOdlTraining_keeps ..
  | odlRdReq _ _ => exact execOdlRdReq_keeps ..
  | odlRdData _ _ _ _ _ _ => exact execOdlRdData_keeps ..
  | odlWr _ _ _ => exact execOdlWr_keeps ..
  | odlWrMask _ _ _ _ _ => exact execOdlWrMask_keeps ..
  | odlWrAck _ _ _ _ _ => exact execOdlWrAck_keeps ..
  | odlTime _ _ _ _ => exact execOdlTime_keeps ..
  | odlBeacon _ _ => exact execOdlBeacon_keeps ..
  | odlLeave _ _ => exact execOdlLeave_keeps ..
  | flitCrcError _ => exact execFlitCrcError_keeps ..
  | odlLinkDown _ => exact execOdlLinkDown_keeps ..
  | beaconMiss _ => exact execBeaconMiss_keeps ..
  | timeSend => exact execTimeSend_keeps ..
  | odlRetrainTimer _ => exact execOdlRetrainTimer_keeps ..
  | odlRetrain _ _ => exact execOdlRetrain_keeps ..
  | capPeriodEnd _ => exact execCapPeriodEnd_keeps ..
  | capWrite _ _ => exact execCapWrite_keeps ..
  | avsRead _ _ _ => exact execAvsRead_keeps ..
  | vregFault _ => exact execVregFault_keeps ..
  | voltageSettled _ => exact execVoltageSettled_keeps ..
  | droopAlert _ => exact execDroopAlert_keeps ..
  | droopClear _ => exact execDroopClear_keeps ..
  | droopHoldExpiry _ => exact execDroopHoldExpiry_keeps ..
  | droopLong _ => exact execDroopLong_keeps ..
  | hubTempSample _ _ => exact execHubTempSample_keeps ..
  | overtempTimeout => exact execOvertempTimeout_keeps ..
  | ageMeasure _ => exact execAgeMeasure_keeps ..
  | ageHour => exact execAgeHour_keeps ..
  | secFpgm _ _ _ => exact execSecFpgm_keeps ..
  | secKeyOff _ _ => exact execSecKeyOff_keeps ..
  | secDebugSet _ _ => exact execSecDebugSet_keeps ..
  | secRgnTight _ _ _ => exact execSecRgnTight_keeps ..
  | longOpDone _ _ => exact execLongOpDone_keeps ..
  | fpgmDone _ => exact execFpgmDone_keeps ..
  | loopDisable _ _ _ => exact execLoopDisable_keeps ..
  | jobRingEnable _ _ _ => exact execJobRingEnable_keeps ..
  | canErrorPassive _ => exact execCanErrorPassive_keeps ..
  | lpddr5xTempAlert _ => exact execLpddr5xTempAlert_keeps ..
  | refclkSysLoss => exact absurd trivial h
  | refclkSysReturn => exact absurd trivial h
  | uartTxByteSent _ => exact execUartTxByteSent_keeps ..
  | faultPairInactive _ => exact execFaultPairInactive_keeps ..
  | watchdogWindowOpen _ => exact execWatchdogWindowOpen_keeps ..

end Sys2Proof.Machine
end

