-- ==== Sys2Proof/WellFormed.lean ====
section
/-! DEFINITION. Which commands are well-formed: every operand lies in the range that spec/ gives the field, number or list it
stands for. The meanings take every operand; an ill-formed command is one that no requester or event can make. -/

namespace Sys2Proof

/-- An image's type and security version fit their header fields, and a digest is SHA-384 (R634, R635). -/
def ImageCheck.wf (i : ImageCheck) : Bool :=
  decide (i.kind < 256) && decide (i.svn < 256) && decide (i.keyIndex < 256) && decide (i.version < 2 ^ 32) && decide (i.digest.length = 48)

/-- A request names positions, a partition and a tag that its fields hold (R541, R545). -/
def OdlReq.wf (r : OdlReq) : Bool := decide (r.src < 4) && decide (r.dst < 4) && decide (r.part < 8)

/-- A beacon names a position and a mode (R547). -/
def OdlBeacon.wf (b : OdlBeacon) : Bool := decide (b.pos < 4) && decide (b.mode < 8)

/-- A frame's identifier fits its format: 11 or 29 bits; data of at most 8, 64 or 2,048 bytes (R510). -/
def CanFrame.wf (f : CanFrame) : Bool :=
  decide (f.fmt < 3) && decide (f.id < (if f.ide then 2 ^ 29 else 2 ^ 11)) &&
  decide (f.data.length ≤ (if f.fmt = 0 then 8 else if f.fmt = 1 then 64 else 2048))

/-- The operands of a command lie in their ranges. -/
def wellFormed : Instr → Bool
  | .powerOn cascPos _ => decide (cascPos < 4)
  | .fuseSenseDone first second => decide (first.length = 512) && first.all (fun w => decide (w < 2 ^ 32)) && decide (second.length = 512) && second.all (fun w => decide (w < 2 ^ 32))
  | .romVerify imageA imageB => imageA.wf && imageB.wf
  | .firmwareLoad images _ => images.all ImageCheck.wf
  | .memoryTraining trained density _ rate testFails ageMargins _ => decide (trained < 0x10000) && decide (density < 64) && decide (rate < 0x4000) && decide (testFails < 2 ^ 32) && decide (ageMargins.length = 40)
  | .partitionSetup _ _ _ _ _ => true
  | .cmdpRd page offset len _ => decide (page < 0x10000) && decide (offset < 0x1000) && decide (len < 16)
  | .cmdpWr page offset words _ => decide (page < 0x10000) && decide (offset < 0x1000) && decide (1 ≤ words.length ∧ words.length ≤ 16)
  | .cmdpStat _ => true
  | .cmdpAbort _ => true
  | .arm clear => decide (clear < 2 ^ 32)
  | .fuse pairs => decide (1 ≤ pairs.length ∧ pairs.length ≤ 8)
  | .quote nonce => decide (nonce.length = 32)
  | .engage _ => true
  | .warmReset _ => true
  | .hostHeartbeat _ value => decide (value < 2 ^ 32)
  | .registerWrite _ addr size value => decide (addr < 2 ^ 28) && [1, 2, 4, 8, 16, 32].contains size && decide (value < 2 ^ (8 * size))
  | .pcieBar0Request _ _ _ _ => true
  | .pcieBar2Request _ _ _ _ => true
  | .counterClear _ addr value => decide (addr < 2 ^ 28) && decide (value < 2 ^ 32)
  | .blockEnable _ page => decide (page < 1600)
  | .blockDisable _ page => decide (page < 1600)
  | .softReset _ page _ => decide (page < 1600)
  | .pageLock _ page _ => decide (page < 1600)
  | .startSafePoint page => decide (page < 1600)
  | .startDone page _ => decide (page < 1600)
  | .stopDone page => decide (page < 1600)
  | .tbWrap base => decide (base < 8)
  | .tbStep _ base step => decide (base < 8) && decide (step < 2 ^ 32)
  | .frameOrgWrite _ org => decide (org < 2 ^ 20)
  | .servoSample _ servo ofs => decide (servo < 2) && decide (ofs < 2 ^ 32)
  | .servoTimeout servo => decide (servo < 2)
  | .tb2SelWrite _ _ sel => decide (sel < 4)
  | .snap _ => true
  | .epochCommitTag _ domain tag => decide (domain < 2) && decide (tag < 2 ^ 16)
  | .triggerEnable _ out cfg => decide (out < 24) && decide (cfg < 2 ^ 32)
  | .triggerEdge out => decide (out < 24)
  | .triggerPulseEnd out => decide (out < 24)
  | .rearm _ out => decide (out < 24)
  | .captureEdge input _ => decide (input < 24)
  | .capturePop _ input => decide (input < 24)
  | .faultRaise source _ _ => decide (source < 1024)
  | .brokenPair source => decide (source < 1024)
  | .stickyClear _ word value => decide (word < 32) && decide (value < 2 ^ 32)
  | .severityWrite _ word value => decide (word < 128) && decide (value < 2 ^ 32)
  | .wdgKick _ wdg => decide (wdg < 256)
  | .watchdogLate wdg => decide (wdg < 256)
  | .watchdogEnable _ wdg cfg => decide (wdg < 256) && decide (cfg < 2 ^ 32)
  | .chainPoll ctx => decide (ctx < 0x1000)
  | .descriptorFetch ctx => decide (ctx < 0x1000)
  | .commitWindowEntry ctx => decide (ctx < 0x1000)
  | .nop tile entry => decide (tile < 32) && decide (entry < 8)
  | .load tile entry _ => decide (tile < 32) && decide (entry < 8)
  | .store tile entry _ => decide (tile < 32) && decide (entry < 8)
  | .gather tile entry _ => decide (tile < 32) && decide (entry < 8)
  | .scatter tile entry _ => decide (tile < 32) && decide (entry < 8)
  | .fill tile entry _ => decide (tile < 32) && decide (entry < 8)
  | .gemm tile entry _ _ => decide (tile < 32) && decide (entry < 8)
  | .conv tile entry _ _ => decide (tile < 32) && decide (entry < 8)
  | .gatherGemm tile entry _ _ => decide (tile < 32) && decide (entry < 8)
  | .attnBlock tile entry _ _ => decide (tile < 32) && decide (entry < 8)
  | .kvAppend tile entry _ => decide (tile < 32) && decide (entry < 8)
  | .kvShare tile entry _ => decide (tile < 32) && decide (entry < 8)
  | .kvRelease tile entry _ => decide (tile < 32) && decide (entry < 8)
  | .scan tile entry _ _ => decide (tile < 32) && decide (entry < 8)
  | .eltwise tile entry _ => decide (tile < 32) && decide (entry < 8)
  | .reduce tile entry _ => decide (tile < 32) && decide (entry < 8)
  | .softmax tile entry _ => decide (tile < 32) && decide (entry < 8)
  | .norm tile entry _ => decide (tile < 32) && decide (entry < 8)
  | .quant tile entry _ => decide (tile < 32) && decide (entry < 8)
  | .dequant tile entry _ => decide (tile < 32) && decide (entry < 8)
  | .syncWait ctx => decide (ctx < 0x1000)
  | .syncSignal ctx => decide (ctx < 0x1000)
  | .phase tile entry => decide (tile < 32) && decide (entry < 8)
  | .fence tile entry => decide (tile < 32) && decide (entry < 8)
  | .link ctx => decide (ctx < 0x1000)
  | .commit tile => decide (tile < 32)
  | .killComplete tile => decide (tile < 32)
  | .scrubRead tile line _ _ => decide (tile < 32) && decide (line < 0x20000)
  | .tileTempSample tile temp => decide (tile < 32) && decide (temp < 2 ^ 16)
  | .throttleRecovery tile => decide (tile < 32)
  | .vdiffSample volts => decide (volts.length = 8)
  | .testSlotPrehold pair => decide (pair < 16)
  | .testSlotStart pair => decide (pair < 16)
  | .testSlotEnd pair _ _ => decide (pair < 16)
  | .testSlotTimeout pair tile => decide (pair < 16) && decide (tile < 32)
  | .knownAnswerCheck source _ => decide (source < 1024)
  | .synAdd _ page idx amount => decide (page < 64) && decide (idx < 256) && decide (amount < 2 ^ 32)
  | .synStateWrite _ obj state owner => decide (obj < 0x4000) && decide (state < 4) && decide (owner < 4096)
  | .synValueWrite _ obj value => decide (obj < 0x4000) && decide (value < 2 ^ 64)
  | .activate _ part ctx => decide (part < 8) && decide (ctx < 0x1000)
  | .update _ part ctx => decide (part < 8) && decide (ctx < 0x1000)
  | .hold _ part ctx => decide (part < 8) && decide (ctx < 0x1000)
  | .holdDrained ctx => decide (ctx < 0x1000)
  | .release _ part ctx => decide (part < 8) && decide (ctx < 0x1000)
  | .teardown _ part ctx => decide (part < 8) && decide (ctx < 0x1000)
  | .retire _ part ctx => decide (part < 8) && decide (ctx < 0x1000)
  | .modelApply _ part model => decide (part < 8) && decide (model < 256)
  | .teardownDone ctx => decide (ctx < 0x1000)
  | .evacuate _ tile => decide (tile < 32)
  | .admitTile _ tile => decide (tile < 32)
  | .acctDump _ => true
  | .tileWindowStart tile phase => decide (tile < 32) && decide (phase < 1000)
  | .contextPlace ctx => decide (ctx < 0x1000)
  | .contextSaveDone ctx => decide (ctx < 0x1000)
  | .contextRestoreDone ctx => decide (ctx < 0x1000)
  | .zeroFillDone ctx => decide (ctx < 0x1000)
  | .modelLoadDone ctx => decide (ctx < 0x1000)
  | .quantumExpiry tile => decide (tile < 32)
  | .drainExpiry tile => decide (tile < 32)
  | .kvpFlPush _ part tier frame page => decide (part < 8) && decide (tier < 3) && decide (frame < 2 ^ 34) && decide (page < 2 ^ 20)
  | .stmEnable _ stream ctrl => decide (stream < 0x1000) && decide (ctrl < 2 ^ 32)
  | .stmDisable _ stream ctrl => decide (stream < 0x1000) && decide (ctrl < 2 ^ 32)
  | .stmResetWrite _ stream ctrl => decide (stream < 0x1000) && decide (ctrl < 2 ^ 32)
  | .swapOut _ stream => decide (stream < 0x1000)
  | .unpark _ stream => decide (stream < 0x1000)
  | .swapOutDone stream => decide (stream < 0x1000)
  | .restoreDone stream => decide (stream < 0x1000)
  | .apply _ index => decide (index < 0x10000)
  | .wwGo _ chan => decide (chan < 16)
  | .wwStop _ chan => decide (chan < 16)
  | .wwLayerStart chan => decide (chan < 16)
  | .wwLayerDone chan => decide (chan < 16)
  | .memoryRequest _ addr units part port _ crcError => decide (addr < 2 ^ 42) && addr % 64 == 0 && decide (units < 0x10000) && decide (part < 8) && decide (port < 46) && decide (crcError < 3)
  | .bucketRefill port => decide (port < 12)
  | .d2dModuleFail module => decide (module < 4)
  | .sampleBegin stream => decide (stream < 64)
  | .sampleEnd stream _ _ _ => decide (stream < 64)
  | .sampleDone stream sid => decide (stream < 64) && decide (sid < 2 ^ 32)
  | .streamEnable _ stream ctrl => decide (stream < 64) && decide (ctrl < 2 ^ 32)
  | .streamDisable _ stream ctrl => decide (stream < 64) && decide (ctrl < 2 ^ 32)
  | .nosignalTimeout stream => decide (stream < 64)
  | .memorySampleTake stream => decide (stream < 64)
  | .packGo _ chan => decide (chan < 8)
  | .packStop _ chan => decide (chan < 8)
  | .packRunStart chan => decide (chan < 8)
  | .packRunDone chan => decide (chan < 8)
  | .uartTxPush _ uart data => decide (uart < 2) && decide (data < 256)
  | .encoderEdge chan _ _ _ => decide (chan < 8)
  | .tapInstruction _ _ => true
  | .ringTake ring => decide (ring < 16)
  | .transformSwapRequest _ bank => decide (bank < 2)
  | .agateRingEnable _ ring cfg => decide (ring < 16) && decide (cfg < 2 ^ 32)
  | .sensorEnable _ sensor cfg => decide (sensor < 64) && decide (cfg < 2 ^ 32)
  | .pointPacket scanner _ tcap => decide (scanner < 16) && decide (tcap < 2 ^ 32)
  | .jobTake ring => decide (ring < 4)
  | .query _ => true
  | .rulebook _ => true
  | .decode _ => true
  | .jobComplete _ => true
  | .keepOutSwapRequest _ bank => decide (bank < 2)
  | .optimiserCutoff _ => true
  | .refSwap _ bank => decide (bank < 2)
  | .seedSwap _ bank => decide (bank < 2)
  | .resume _ => true
  | .loopSample loop => decide (loop < 64)
  | .loopOutput act => decide (act < 64)
  | .actuatorFrameEmit frame => decide (frame < 32)
  | .loopEnable _ loop cfg => decide (loop < 64) && decide (cfg < 2 ^ 32)
  | .recover _ act => decide (act < 64)
  | .manual _ act _ => decide (act < 64)
  | .ethFrameReceive port _ _ => decide (port < 9)
  | .ethFrameTransmit port cls => decide (port < 9) && decide (cls < 8)
  | .gclCycleStart port => decide (port < 9)
  | .gclEntryExpiry port => decide (port < 9)
  | .gclSwap _ port bank => decide (port < 9) && decide (bank < 2)
  | .ethLinkDown port => decide (port < 8)
  | .ethLinkUp port => decide (port < 8)
  | .recoveryReset rf => decide (rf < 64)
  | .canFrameReceive ctl frame => decide (ctl < 6) && frame.wf
  | .canFrameSent ctl => decide (ctl < 6)
  | .canBusOff ctl => decide (ctl < 6)
  | .canBusOffRecovery ctl => decide (ctl < 6)
  | .canRecover _ ctl => decide (ctl < 6)
  | .canMailboxGo _ ctl value => decide (ctl < 6) && decide (value < 2 ^ 32)
  | .pcieLinkChange _ gen width => decide (gen < 8) && decide (width < 17)
  | .pcieHotReset _ => true
  | .pcieTlpError _ => true
  | .pcieEoi _ vec => decide (vec < 64)
  | .msixUnmask _ vec => decide (vec < 64)
  | .odlTraining port peer => decide (port < 2) && decide (peer.pos < 4)
  | .odlRdReq port req => decide (port < 2) && req.wf
  | .odlRdData port src dst tag _ _ => decide (port < 2) && decide (src < 4) && decide (dst < 4) && decide (tag < 2 ^ 16)
  | .odlWr port req _ => decide (port < 2) && req.wf
  | .odlWrMask port src dst tag _ => decide (port < 2) && decide (src < 4) && decide (dst < 4) && decide (tag < 2 ^ 16)
  | .odlWrAck port src dst tag _ => decide (port < 2) && decide (src < 4) && decide (dst < 4) && decide (tag < 2 ^ 16)
  | .odlTime port time rate src => decide (port < 2) && decide (time < 2 ^ 64) && decide (rate < 2 ^ 32) && decide (src < 4)
  | .odlBeacon port beacon => decide (port < 2) && beacon.wf
  | .odlLeave port pos => decide (port < 2) && decide (pos < 4)
  | .flitCrcError port => decide (port < 2)
  | .odlLinkDown port => decide (port < 2)
  | .beaconMiss pos => decide (pos < 4)
  | .odlRetrainTimer port => decide (port < 2)
  | .odlRetrain _ port => decide (port < 2)
  | .capPeriodEnd power => decide (power.islands.length = 8)
  | .capWrite _ cap => decide (cap < 512)
  | .avsRead rail _ _ => decide (rail < 11)
  | .vregFault island => decide (island < 8)
  | .voltageSettled island => decide (island < 8)
  | .droopAlert island => decide (island < 8)
  | .droopClear island => decide (island < 8)
  | .droopHoldExpiry island => decide (island < 8)
  | .droopLong island => decide (island < 8)
  | .hubTempSample sensor temp => decide (sensor < 16) && decide (temp < 2 ^ 16)
  | .ageMeasure margins => decide (margins.length = 40)
  | .secFpgm _ word bits => decide (word < 512) && decide (bits < 2 ^ 32)
  | .secKeyOff _ value => decide (value < 2 ^ 32)
  | .secDebugSet _ level => decide (level < 4)
  | .secRgnTight _ region value => decide (region < 4) && decide (value < 2 ^ 32)
  | .longOpDone _ _ => true
  | .fpgmDone _ => true
  | .loopDisable _ loop cfg => decide (loop < 64) && decide (cfg < 2 ^ 32)
  | .jobRingEnable _ ring cfg => decide (ring < 4) && decide (cfg < 2 ^ 32)
  | .canErrorPassive ctl => decide (ctl < 6)
  | .lpddr5xTempAlert ctl => decide (ctl < 4)
  | .uartTxByteSent uart => decide (uart < 2)
  | .faultPairInactive source => decide (source < 1024)
  | .watchdogWindowOpen wdg => decide (wdg < 256)
  | .powerRemoval => true
  | .supplyOkFall => true
  | .supplyOkRise => true
  | .railOutOfRange => true
  | .resetNAssert => true
  | .resetNRelease => true
  | .armNoPlan => true
  | .disarm => true
  | .disarmFailed => true
  | .logdump => true
  | .selftest => true
  | .longOpTimeout => true
  | .hbTimeout => true
  | .graceExpiry => true
  | .frameTick => true
  | .refLost => true
  | .refRecovered => true
  | .collectorMismatch => true
  | .okRefreshLoss => true
  | .okPinMismatch => true
  | .safeStateWprFrame => true
  | .tgradTimeout => true
  | .clkratioDetect => true
  | .testCycleStart => true
  | .acctDumpDone => true
  | .exchangeBlockDone => true
  | .heatInterval => true
  | .agateDrain => true
  | .agateCutoff => true
  | .epochCommit => true
  | .leadTimeout => true
  | .buildStart => true
  | .egoWaitExpiry => true
  | .buildDone => true
  | .decodePublish => true
  | .slateUpdate => true
  | .slateInsertCutoff => true
  | .slatePublish => true
  | .flintOptimise => true
  | .checkCutoff => true
  | .reuseCutoff => true
  | .planHandover => true
  | .leaseWrite => true
  | .wprPublish => true
  | .controlPeriodBoundary => true
  | .timeSend => true
  | .overtempTimeout => true
  | .ageHour => true
  | .refclkSysLoss => true
  | .refclkSysReturn => true

end Sys2Proof
end

