-- ==== Sys2Proof/Tests/Slice0.lean ====
section
/-! SUPPORT. Small tests of the model: ill-formed commands that WellFormed refuses,
      a state and operands that meet the hypotheses of
each statement, and single steps against values worked out from the spec by hand. -/

open Sys2Proof Sys2Proof.Machine

set_option Elab.async false

namespace Sys2Proof.Tests

/-! ## States to test in -/

/-- A device right after reset, in mode `m`. -/
def inMode (m : Mode) : State := { State.reset with dev := { State.reset.dev with mode := m } }

/-- A device in READY. -/
def rdy : State := inMode .ready

/-- `s` with fields of registers set. -/
def put (l : List (Fld × Nat)) (s : State) : State := l.foldl (fun u e => u.putF e.1 e.2) s

/-- `s` with the instances of the pages `l` in state `b`. -/
def blk (b : BlockState) (l : List Nat) (s : State) : State := l.foldl (fun u p => u.setBlock p { en := true, state := b }) s

/-- READY with the instances of the pages `l` RUNNING. -/
def on (l : List Nat) : State := blk .running l rdy

/-- `s` without power. -/
def dark : State := { State.reset with pins := { State.reset.pins with powered := false } }.unpowered

/-- BOOT with stage `n` to be done. -/
def atStage (n : Nat) : State := { State.reset with dev := { State.reset.dev with bootStage := n } }

/-- An image of type `k` that verifies. -/
def image (k : Nat) : ImageCheck := ⟨k, true, true, true, 0x11, 1, false, 1, true, true, []⟩

/-- READY with a long operation of code `k` that has run for `n` frames. -/
def busy (k n : Nat) : State := { rdy with dev := { rdy.dev with op := some ⟨k, [], 0, n⟩ } }

/-- A command of opcode `op`, every other byte 0, at the head of its chain. -/
def command (op : Nat) : Cmd := ⟨BitVec.ofNat 8 op :: List.replicate 63 0, 0, 0, 0, true, true, false⟩

/-- Context 4,095 runs on tile 31 with `cmd` at the front of its queue. -/
def fronted (cmd : Cmd) : State :=
  (on [0x80, 0x340, tilePage 31]).setCtx 4095 { state := .active, queue := [cmd], onTile := some 31 }

/-- The same with a command that holds nothing but its opcode. -/
def front (op : Nat) : State := fronted (command op)

/-- A command of opcode `op` with bytes of its body set. -/
def commandOf (op : Nat) (l : List (Nat × Nat)) : Cmd :=
  ⟨l.foldl (fun d e => d.set e.1 (BitVec.ofNat 8 e.2)) (command op).desc, 0, 0, 0, true, true, false⟩

/-- A REPORT that adds 1 to object 9. -/
def adding : Cmd := commandOf 0x39 [(0x10, 9), (0x11, 0x40), (0x18, 1)]

/-- Tile 31 runs context 4,095, which may use the whole tile, with `cmd` alone in its window. -/
def working (cmd : Cmd) : State :=
  ((on [0x338, 0x340, tilePage 31]).setTile 31 { ctx := some 4095, window := [{ cmd := cmd }] }).setCtx 4095
    { state := .active, onTile := some 31, entry := { foot := 0x60002000 } }

/-- A CONV of INT8 with one input channel, one output channel and one pixel; its geometry block lies at 0x3000. -/
def convolving : Cmd :=
  commandOf 0x11 [(0x11, 0x10), (0x13, 1), (0x15, 0x20), (0x17, 1), (0x1A, 0x60), (0x20, 1), (0x24, 1), (0x28, 1), (0x39, 0x30)]

/-- Tile 31 is to run it. -/
def convTile : State := (working convolving).store (sramAddr 31 0x3000) [1, 0, 1, 0, 1, 0, 1, 0, 1, 1, 1, 1, 1, 1]

/-- Object `i` LIVE with value `v`. -/
def object (i v : Nat) (s : State) : State := put [(Reg.SYN_STATE_STATE i, 1), (Reg.SYN_VALUE_VALUE i, v)] s

/-- Every partition may read and write the first 16 MiB of HBM3. -/
def open16 (s : State) : State :=
  put [(Reg.TIER_RGN_BASE_V 4, 1), (Reg.TIER_RGN_LIM_LIM 4, 255), (Reg.TIER_RGN_MASK_RMASK 4, 255),
      (Reg.TIER_RGN_MASK_WMASK 4, 255)] s

/-- The same, with partition 7 writable over PCIe and named by its window. -/
def windowed : State := put [(Reg.PCIE_WIN_PART, 7), (Reg.DEV_PCIE_WMASK_PART_W, 127)] (open16 rdy)

/-- The lifecycle is FIELD. -/
def fielded (s : State) : State := { s with sec := { s.sec with sensed := [(72, 0xFFFF)] } }

/-- Trigger output 23 is enabled with an edge due, which a re-arm suppresses or not. -/
def trig (b : Bool) : State :=
  put [(Reg.QTZ_TR_CFG_EN 23, 1)] { rdy with qtz := { rdy.qtz with triggers := [(23, { suppress := b })] } }

/-- Watchdog 255 runs in INTERVAL mode with CLOSE `close`, and TB4 is at `now`. -/
def watching (close now : Nat) : State :=
  put [(Reg.WDG_CFG_EN 255, 1), (Reg.WDG_CFG_MODE 255, 1), (Reg.WDG_CLOSE_CLOSE 255, close)]
    { rdy with qtz := { rdy.qtz with bases := [(4, { count := now })] } }

/-- Context 4,095 in state `c` of partition 7, with a well-formed entry in the context table at address 0. -/
def rowed (c : CtxState) : State :=
  (((open16 rdy).setCtx 4095 { state := c, part := 7 }).store (64 * 4095 + 8) [0, 0, 0, 0xF0, 1]).store (64 * 4095 + 0x18) [1, 0, 0,
      0, 1]

/-- Context 4,095 waits for a tile, and tile 31 is free for it. -/
def waiting : State :=
  (on [0x80, tilePage 31]).setCtx 4095 { state := .active, queue := [command 0], entry := { tiles := 2 ^ 31 } }

/-- Context 4,095 is to be restored on tile 31 from its image at address 0. -/
def restoring : State :=
  let s := (open16 rdy).setCtx 4095 { state := .active, onTile := some 31, prep := [.restore] }
  s.store 0 (s.saveImage 4095 31)

/-- Stream 4,095 in state `n`, its image at address 0. -/
def streaming (n : Nat) : State := put [(Reg.STM_STAT_STATUS 4095, n)] (open16 rdy)

/-- The same, being restored from an image that memory holds: every element 0, and the CRC-32 of that. -/
def imaged : State := ((streaming 5).store 0 [0xFF, 0x0F, 0, 0, 0, 0, 0, 0, 0, 1]).store 60 [0xE2, 0x03, 0xA3, 0x4E]

/-- Row 65,535 of the object table, which lies at address 0, is valid, with a reserved bit set. -/
def rowObj : State := (open16 (on [0x330])).store (16 * 65535) [1, 2, 3, 4, 5, 6, 7, 0x80]

/-- Weight-window channel 15 in state `st`, with its descriptor at address 0: one slot, one layer,
      whose table lies at 0x1000. -/
def channel (st : Nat) : State :=
  let s := (object 9 1 (open16 (put [(Reg.TIER_WW_STAT_STATE 15, st)] (on [0x330]))))
  let t := ((s.store 0 [1, 0, 1, 0x80, 1]).store 8 [0, 0x10]).store 0x18 [9, 0, 9]
  t.setChan 15 { desc := t.fetch 0 64 }

/-- Context `c` is active with a command waiting, virtual time `v`, and tiles of its own choice. -/
def queuing (c v : Nat) (s : State) : State :=
  s.setCtx c { state := .active, queue := [command 0], vt := v, entry := { tiles := 2 ^ 31, weight := 1 } }

/-- Tile 31 runs context 4,095 of partition 0. -/
def running : State := ((on [0x80, tilePage 31]).setTile 31 { ctx := some 4095 }).setCtx 4095 { state := .active, onTile := some 31 }

/-- Context 4,095 was killed on tile 31, where its command is to run again. -/
def rerun : State :=
  ((on [0x80, tilePage 31]).setTile 31 { ctx := some 4095, killing := true, rerunFirst := true, victims := [command 0] }).setCtx 4095
    { state := .active, onTile := some 31 }

/-- Position 1 of the cascade is present and lends. -/
def neighbouring : State := put [(⟨Reg.ODL_MEMBERS 0, 1, 1⟩, 1), (⟨Reg.ODL_MEMBERS 0, 5, 5⟩, 1)] rdy

/-- Frame 0, built, with an empty layer 0. -/
def frame0 : PumBuilt := ⟨0, 0, [⟨0, 0, 0, 0, none⟩]⟩

/-- Job ring 3's job `j`, taken and waiting for its unit; frame 0 has been built. -/
def jobs (j : PumJob) : State := put [(Reg.PUM_L_KEYS_BASE 1,
      1)] (open16 { on [0x400] with pum := { rdy.pum with jobs := [j], built := [frame0] } })

/-- A job of ring 3 of TYPE `n` with every field at 0, but for output layer 1. -/
def job (n : Nat) : PumJob :=
  { ring := 3, desc := 0 :: 0 :: 0 :: BitVec.ofNat 8 (16 * n) :: List.replicate 13 0 ++ 1 :: List.replicate 46 0 }

/-- Port 1 of the cascade is up. -/
def linked : State := put [(Reg.ODL_STAT_UP 1, 1)] (on [odlPage 1])

/-- CAN controller 5 runs, in classic mode. -/
def canUp : State := on [canPage 5]

/-- Ingress stream 63 takes data frames with identifier 5 of controller 5. -/
def canFed : State :=
  put [(Reg.ING_S_STAT_STATE 63, 1), (Reg.ING_S_CTRL_KIND 63, 3), (Reg.ING_S_SRC_INST 63, 13), (Reg.ING_S_MATCH_ID 63, 5)]
    (on [canPage 5, 0x380])

/-- The CPU port has an empty frame in class 7, and its gates are open. -/
def queued : State :=
  put [(Reg.ETH_GCL_ENTRY 16 0,
      2 ^ 64 - 1)] { on [0x580] with eth := { rdy.eth with ports := [(8, { queues := [(7, [[]])] })] } }

/-- A gPTP Sync of domain A. -/
def syncFrame : List Byte := List.replicate 12 0 ++ [0x88, 0xF7, 0x10] ++ List.replicate 43 0

/-- Port 7 sends Sync one-step; it has one in class 7, and its gates are open. -/
def syncing : State :=
  put [(Reg.ETH_GCL_ENTRY 14 0, 2 ^ 64 - 1), (Reg.ETH_P_STAT_UP 7, 1), (Reg.ETH_P_CFG_ONE_STEP 7, 1)]
    { on [0x580] with eth := { rdy.eth with ports := [(7, { queues := [(7, [syncFrame])] })] } }

/-- Agate raises its interrupt output, and its block type is routed to vector 63. -/
def routed : State := put [(Reg.PG_IRQ_STAT 0x3C0, 1), (Reg.PG_IRQ_EN 0x3C0, 1), (Reg.PCIE_VMAP_VEC2 4, 63)] rdy

/-- A SHARE of page 5 of partition 0. -/
def sharing : Cmd := commandOf 0x21 [(0x30, 5)]

/-- Page 5 is IN_USE with REFCNT `n`; the page table lies at 16 MiB. -/
def shared (n : Nat) : State :=
  ((put [(Reg.KVP_PT_BASE_BASE, 1)] (open16 rdy)).store (2 ^ 24 + 80 + 7) [0xC0]).store (2 ^ 24 + 80 + 8)
    [BitVec.ofNat 8 n, BitVec.ofNat 8 (n / 256)]

/-- `f n`, with `n` evaluated first by the kernel. -/
def force (n : Nat) (f : Nat → Nat) : Nat := match n with | 0 => f 0 | k + 1 => f (k + 1)

theorem force_eq (n : Nat) (f : Nat → Nat) : force n f = f n := by cases n <;> rfl

/-- A reflected CRC with its register evaluated at every byte. -/
def crcStrict (poly : Nat) : List Byte → Nat → Nat
  | [] => id
  | b :: bs => fun c => force (crcBitsReflected poly 8 (c ^^^ b.toNat)) (crcStrict poly bs)

theorem crcReflected_strict (poly : Nat) (l : List Byte) : ∀ c, crcReflected poly c l = crcStrict poly l c := by
  induction l with
  | nil => exact fun _ => rfl
  | cons b bs ih => exact fun c => (ih _).trans (force_eq _ _).symm

theorem crc32_strict (l : List Byte) : crc32 l = crcStrict 0xEDB88320 l 0xFFFFFFFF ^^^ 0xFFFFFFFF := by
  unfold crc32; rw [crcReflected_strict]

/-- A fuse array of zeros with the CRC-32 of words 0 to 70 in word 71. -/
theorem blank_crc : crc32 ((List.range 71).flatMap (fun w => leBytes 4 (sensedWord (List.replicate 71 0 ++ [3748671090]) [] w))) =
    sensedWord (List.replicate 71 0 ++ [3748671090]) [] 71 := by rw [crc32_strict]; decide +kernel

theorem imaged_good : imaged.imageGood 4095 (imaged.fetch (imaged.stmPtr 4095) (imaged.imageBytes 4095)) = true := by
  simp only [State.imageGood, crc32_strict]; decide +kernel

/-- A REPORT whose addition to object 9 overflows. -/
def bigAdding : Cmd := commandOf 0x39 ((0x10, 9) :: (0x11, 0x40) :: (List.range 8).map (fun i => (0x18 + i, 255)))

/-- A STORE of one row of 64 bytes. -/
def storing : Cmd := commandOf 0x02 [(0x1C, 1), (0x20, 64)]

/-- A well-formed point packet of one point. -/
def packet : List Byte := [1, 0, 0, 1] ++ List.replicate 44 0

theorem test_witness_StepRunsFrontCommand :
    ∃ (s : State) (c : Instr) (rest : List Instr), s.pending = c :: rest :=
  ⟨_, _, _, (rfl : { rdy with pending := [Instr.snap .granite] }.pending = [.snap .granite])⟩

theorem test_witness_IdleStepIsOneQuartzCycle :
    (∃ (s : State), s.pending = [] ∧ s.pins.powered = false) ∧
    (∃ (s : State), s.pending = [] ∧ s.pins.powered = true) :=
  ⟨⟨dark, by decide +kernel⟩,
    ⟨rdy, by decide +kernel⟩⟩

theorem test_witness_StepKeepsLawful :
    ∃ (s t : State), s.Lawful ∧ step s = .next t :=
  ⟨State.reset, _, ⟨fun h => absurd h (by decide), fun _ _ => rfl⟩, rfl⟩

theorem test_witness_OffAndTerminalAreLeftOnlyAtThePins :
    (∃ (c : Instr) (s t : State), s.pins.powered = true ∧ s.dev.mode = .terminal ∧ c ≠ .powerRemoval ∧ exec c s = .next t) ∧
    (∃ (c : Instr) (s t : State), s.dev.mode = .off ∧ ¬ ActsAtPins c ∧ exec c s = .next t) :=
  ⟨⟨.refclkSysLoss, inMode .terminal, _, rfl, rfl, by decide, rfl⟩,
    ⟨.snap .granite, inMode .off, _, rfl, id, rfl⟩⟩

theorem test_witness_StrapsStandAndNothingActsWithoutPower :
    (∃ (c : Instr) (s t : State), s.pins.powered = true ∧ c ≠ .powerRemoval ∧ exec c s = .next t) ∧
    (∃ (c : Instr) (s : State), s.pins.powered = false ∧ ¬ ActsAtPins c) :=
  ⟨⟨.snap .granite, rdy, _, rfl, by decide, rfl⟩,
    ⟨.snap .granite, dark, rfl, id⟩⟩

theorem test_witness_PowerOnAndRemovalComplete :
    (∃ (s : State), s.pins.powered = false) ∧
    (∃ (s : State), s.pins.powered = true) :=
  ⟨⟨dark, by decide +kernel⟩,
    ⟨rdy, by decide +kernel⟩⟩

theorem test_witness_LevelsAtThePinsHoldOffAndReleaseBoot :
    (∃ (s : State), s.pins.powered = true ∧ s.pins.supplyOk = true) ∧
    (∃ (c : Instr) (s u : State), (c = .supplyOkRise ∧
      u = { s with pins := { s.pins with supplyOk := true } } ∨ c = .resetNRelease ∧
      u = { s with pins := { s.pins with resetReleased := true } } ∨ c = .refclkSysReturn ∧
      u = { s with pins := { s.pins with refclkSys := true } }) ∧ s.dev.mode = .off ∧ u.bootable = true ∧ s.fc.raised = [] ∧
      s.fc.broken = []) ∧
    (∃ (c : Instr) (s u : State), (c = .supplyOkRise ∧
      u = { s with pins := { s.pins with supplyOk := true } } ∨ c = .resetNRelease ∧
      u = { s with pins := { s.pins with resetReleased := true } } ∨ c = .refclkSysReturn ∧
      u = { s with pins := { s.pins with refclkSys := true } }) ∧ (s.dev.mode ≠ .off ∨ u.bootable = false)) :=
  ⟨⟨rdy, by decide +kernel⟩,
    ⟨.supplyOkRise, { inMode .off with pins := { State.reset.pins with supplyOk := false } }, inMode .off, .inl ⟨rfl, rfl⟩,
      rfl, rfl, rfl, rfl⟩,
    ⟨.resetNRelease, rdy, rdy, .inr (.inl ⟨rfl, rfl⟩), .inl (by decide)⟩⟩

theorem test_witness_ResetKeepsStickyBits :
    ∃ (s t : State), s.pins.powered = true ∧ exec .resetNAssert s = .next t :=
  ⟨rdy, _, rfl, rfl⟩

theorem test_witness_BootStagesZeroToTwoComplete :
    (∃ (s : State) (first second : List Nat), s.live = true ∧ s.atStage 0 = true ∧
      crc32 ((List.range 71).flatMap (fun w => leBytes 4 (sensedWord first second w))) = sensedWord first second 71) ∧
    (∃ (s : State) (a b : ImageCheck), s.live = true ∧ s.atStage 1 = true ∧ s.lifecycle ≠ 3 ∧
      (s.imageReason 0 a = 0 ∨ s.imageReason 0 b = 0)) ∧
    (∃ (s : State) (a b : ImageCheck), s.live = true ∧ s.atStage 1 = true ∧ s.lifecycle ≠ 3 ∧ s.imageReason 0 a ≠ 0 ∧
      s.imageReason 0 b ≠ 0) ∧
    (∃ (s : State) (images : List ImageCheck), s.live = true ∧ s.atStage 2 = true ∧ (∀ k ∈ [1, 2, 3, 4, 5, 6], ∃ i ∈ images,
      i.kind = k ∧ s.imageReason k i = 0)) ∧
    (∃ (s : State) (images : List ImageCheck) (hbm : Bool), s.live = true ∧ s.atStage 2 = true ∧ (hbm = false ∨ ∃ k ∈ [1, 2,
      3, 4, 5, 6], ∀ i ∈ images, i.kind = k → s.imageReason k i ≠ 0)) :=
  ⟨⟨State.reset, _, [], by decide, by decide +kernel, blank_crc⟩,
    ⟨atStage 1, image 0, { image 0 with lms := false }, by decide +kernel⟩,
    ⟨atStage 1, { image 0 with ecdsa := false }, { image 0 with lms := false }, by decide +kernel⟩,
    ⟨atStage 2, [1, 2, 3, 4, 5, 6].map image, by decide +kernel⟩,
    ⟨atStage 2, [1, 2, 3, 4, 5].map image, true, by decide +kernel⟩⟩

theorem test_witness_BootStagesThreeAndFourComplete :
    (∃ (s : State), s.live = true ∧ s.atStage 3 = true) ∧
    (∃ (s : State), s.live = true ∧ s.atStage 3 = true) ∧
    (∃ (s : State), s.live = true ∧ s.atStage 4 = true) ∧
    (∃ (s : State), s.live = true ∧ s.atStage 4 = true ∧ (∀ i ∈ s.sec.images, i.2.2 = false)) :=
  ⟨⟨atStage 3, by decide +kernel⟩,
    ⟨atStage 3, by decide +kernel⟩,
    ⟨atStage 4, by decide +kernel⟩,
    ⟨atStage 4, by decide +kernel⟩⟩

theorem test_witness_CommandPortAnswers :
    (∃ (s : State) (page offset len : Nat), s.live = true ∧ s.turnedAway .cmdp = none ∧ page < 0x10000 ∧ offset % 4 = 0 ∧
      len < 16 ∧ offset + 4 * (len + 1) ≤ 0x1000 ∧ cmdpPage page = true) ∧
    (∃ (s : State) (page offset : Nat) (words : List Nat), s.live = true ∧ s.turnedAway .cmdp = none ∧ page < 0x10000 ∧
      offset % 4 = 0 ∧ 1 ≤ words.length ∧ words.length ≤ 16 ∧ offset + 4 * words.length ≤ 0x1000 ∧
      0x1000 * page + offset ≠ Reg.ING_CMDP_MSG 0) ∧
    (∃ (s : State), s.live = true ∧ s.turnedAway .cmdp = none) ∧
    (∃ (s : State), s.live = true) :=
  ⟨⟨rdy, 0, 0xFC0, 15, by decide +kernel⟩,
    ⟨rdy, 0x40, 0xFFC, [7], by decide +kernel⟩,
    ⟨rdy, by decide +kernel⟩,
    ⟨rdy, by decide +kernel⟩⟩

theorem test_witness_PortIsBusyWhileAnOperationRuns :
    ∃ (s : State) (c : Instr), s.live = true ∧ s.dev.op.isSome = true ∧
      (c = .cmdpStat .good ∨ c = .disarm ∨ c = .logdump ∨ c = .selftest ∨ (∃ x, c = .arm x) ∨ (∃ x, c = .fuse x) ∨ (∃ x,
      c = .quote x) ∨ (∃ page offset len, c = .cmdpRd page offset len .good ∧ page < 0x10000 ∧ offset < 0x1000 ∧ len < 16)) :=
  ⟨busy 4 0, .disarm, by decide +kernel, by decide, .inr (.inl rfl)⟩

theorem test_witness_LongOperationsStart :
    (∃ (s : State), s.live = true ∧ s.dev.op = none ∧ s.opAllowed 1 = true ∧ s.armReady = true) ∧
    (∃ (s : State), s.live = true ∧ s.dev.op = none ∧ s.opAllowed 1 = true ∧ s.armReady = false) ∧
    (∃ (s : State), s.live = true ∧ s.dev.op = none ∧ s.opAllowed 2 = true) ∧
    (∃ (s : State) (pairs : List (Nat × Nat)), s.live = true ∧ s.dev.op = none ∧ s.opAllowed 3 = true ∧
      s.fusePairsOk (pairs.take 8) = true) ∧
    (∃ (s : State), s.live = true ∧ s.dev.op = none ∧ s.opAllowed 4 = true ∧ s.sec.block.isSome = true ∧ s.sec.used < 64) ∧
    (∃ (s : State), s.live = true ∧ s.dev.op = none ∧ s.opAllowed 5 = true) ∧
    (∃ (s : State), s.live = true ∧ s.dev.op = none ∧ s.opAllowed 6 = true) ∧
    (∃ (s : State) (c : Instr) (k : Nat), s.live = true ∧ s.dev.op = none ∧ s.opAllowed k = false ∧ (k = 2 ∧
      c = .disarm ∨ k = 5 ∧ c = .logdump ∨ k = 6 ∧ c = .selftest ∨ (k = 1 ∧ ∃ x, c = .arm x) ∨ (k = 3 ∧ ∃ x,
      c = .fuse x) ∨ (k = 4 ∧ ∃ x, c = .quote x))) :=
  ⟨⟨put [(Reg.QTZ_STAT_TB2_SRC, 0)] (fielded (on [0x40, 0x3C0, 0x4C0, 0x480, 0x500])), by decide +kernel⟩,
    ⟨fielded rdy, by decide +kernel⟩,
    ⟨inMode .armed, by decide +kernel⟩,
    ⟨rdy, [(74, 1)], by decide +kernel⟩,
    ⟨{ rdy with sec := { rdy.sec with block := some 0, used := 63 } }, by decide +kernel⟩,
    ⟨rdy, by decide +kernel⟩,
    ⟨rdy, by decide +kernel⟩,
    ⟨inMode .boot, .logdump, 5, by decide +kernel, by decide +kernel, by decide +kernel, .inr (.inl ⟨rfl, rfl⟩)⟩⟩

theorem test_witness_LongOperationsEnd :
    (∃ (s : State) (o : LongOp), s.live = true ∧ s.dev.op = some o ∧ o.code = 1 ∧ 10 ≤ o.frames) ∧
    (∃ (s : State) (o : LongOp), s.live = true ∧ s.dev.op = some o) ∧
    (∃ (s : State), s.live = true ∧ s.opIs 2 = true) ∧
    (∃ (s : State) (o : LongOp), s.live = true ∧ s.dev.op = some o ∧ (o.code = 3 ∨ o.code = 4 ∨ o.code = 5)) :=
  ⟨⟨busy 1 10, ⟨1, [], 0, 10⟩, by decide +kernel⟩,
    ⟨busy 5 0, ⟨5, [], 0, 0⟩, by decide +kernel⟩,
    ⟨busy 2 0, by decide +kernel⟩,
    ⟨busy 3 0, ⟨3, [], 0, 0⟩, by decide +kernel⟩⟩

theorem test_witness_FuseBitsNeverClear :
    ∃ (s t : State) (c : Instr) (w i : Nat), ((∃ o g, c = .longOpDone o g) ∨ (∃ g,
      c = .fpgmDone g) ∨ c = .longOpTimeout ∨ c = .resetNAssert ∨ c = .powerRemoval) ∧ exec c s = .next t ∧
      (s.fuseLive w).testBit i = true :=
  ⟨{ rdy with sec := { rdy.sec with live := [(8, 1)] } }, _, .longOpTimeout, 8, 0, .inr (.inr (.inl rfl)), rfl, by decide⟩

theorem test_witness_ModeCommandsComplete :
    (∃ (s : State) (req : Requester), s.Takes req Reg.DEV_MODECMD 0x10000000 ∧ s.dev.mode = .armed ∧
      s.onF Reg.DEV_MODE_HOST_LOST = false ∧ s.dev.lastWpr.valid = true) ∧
    (∃ (s : State) (req : Requester), s.Takes req Reg.DEV_MODECMD 0x10000000 ∧
      (s.dev.mode ≠ .armed ∨ s.onF Reg.DEV_MODE_HOST_LOST = true ∨ s.dev.lastWpr.valid = false)) ∧
    (∃ (s : State) (req : Requester), s.Takes req Reg.DEV_MODECMD 0x20000000 ∧ s.dev.mode = .safe ∧ s.fcSumCrit = 0) ∧
    (∃ (s : State) (req : Requester), s.Takes req Reg.DEV_MODECMD 0x20000000 ∧ s.dev.mode = .safe ∧ s.fcSumCrit ≠ 0) ∧
    (∃ (s : State) (req : Requester), s.Takes req Reg.DEV_MODECMD 0x20000000 ∧ s.dev.mode ≠ .safe) ∧
    (∃ (s : State) (req : Requester) (v : Nat), s.Takes req Reg.DEV_HOST_HB (v % 2 ^ 32) ∧ s.dev.mode ≠ .boot ∧
      s.onF Reg.DEV_MODE_HOST_LOST = false) ∧
    (∃ (s : State), s.live = true) ∧
    (∃ (s : State), s.live = true ∧ s.dev.graceSince.isSome = true) :=
  ⟨⟨{ inMode .armed with dev := { rdy.dev with mode := .armed, lastWpr := { valid := true } } }, .granite, by decide +kernel⟩,
    ⟨rdy, .granite, by decide +kernel⟩,
    ⟨inMode .safe, .granite, by decide +kernel⟩,
    ⟨put [(stickyFld 1, 1)] (inMode .safe), .granite, by decide +kernel⟩,
    ⟨rdy, .granite, by decide +kernel⟩,
    ⟨rdy, .granite, 5, by decide +kernel⟩,
    ⟨rdy, by decide +kernel⟩,
    ⟨{ rdy with dev := { rdy.dev with graceSince := some 0 } }, by decide +kernel⟩⟩

theorem test_witness_RegisterAccessesComplete :
    (∃ (s : State) (req : Requester) (addr size : Nat), s.live = true ∧ s.turnedAway req = none ∧ addr < 0x10000000 ∧
      (¬ (req = .cmdp ∧ size = 4)) ∧ sizeOk addr size = true) ∧
    (∃ (s : State) (req : Requester) (addr size : Nat), s.live = true ∧ s.turnedAway req = none ∧ addr < 0x10000000 ∧
      (¬ (req = .cmdp ∧ size = 4)) ∧ sizeOk addr size = false) ∧
    (∃ (s : State) (addr : Nat), s.live = true ∧ s.turnedAway .cmdp = none ∧ addr < 0x10000000) ∧
    (∃ (s : State) (a n : Nat), s.live = true ∧ s.turnedAway .pcie = none ∧ 0 < n ∧ n ≤ 64 ∧ a + n ≤ 0x10000000 ∧
      (∀ x ∈ bar0Accesses a n, readSizeOk x.1 x.2 = true ∧ s.readRefused .pcie (x.1 / 0x1000) = false)) ∧
    (∃ (s : State) (a n : Nat), s.live = true ∧ s.turnedAway .pcie = none ∧ 0 < n ∧ n ≤ 64 ∧ a + n ≤ 0x10000000 ∧
      (∀ x ∈ bar0Accesses a n, sizeOk x.1 x.2 = true)) ∧
    (∃ (s : State) (write : Bool) (o n : Nat) (c : Cause), s.live = true ∧ s.turnedAway .pcie = none ∧ 0 < n ∧
      s.bar2Refused write (s.getF Reg.PCIE_WIN_WIN * 2 ^ 36 + o % 2 ^ 36) n = some c) ∧
    (∃ (s : State) (o n : Nat), s.live = true ∧ s.turnedAway .pcie = none ∧ 0 < n ∧
      s.bar2Refused false (s.getF Reg.PCIE_WIN_WIN * 2 ^ 36 + o % 2 ^ 36) n = none ∧
      s.isNeighbour (s.getF Reg.PCIE_WIN_WIN * 2 ^ 36 + o % 2 ^ 36) = false) ∧
    (∃ (s : State) (o n : Nat), s.live = true ∧ s.turnedAway .pcie = none ∧ 0 < n ∧
      s.bar2Refused true (s.getF Reg.PCIE_WIN_WIN * 2 ^ 36 + o % 2 ^ 36) n = none) :=
  ⟨⟨rdy, .granite, 0xFFFFFF8, 8, by decide +kernel⟩,
    ⟨rdy, .granite, 0xFFFFFFF, 4, by decide +kernel⟩,
    ⟨rdy, 0xFFFFFFC, by decide +kernel⟩,
    ⟨rdy, 0x80, 16, by decide +kernel⟩,
    ⟨rdy, 0xFFFFFC0, 64, by decide +kernel⟩,
    ⟨rdy, false, 0, 1, .rights, by decide +kernel⟩,
    ⟨windowed, 0, 4, by decide +kernel, by decide +kernel, by decide +kernel, by decide +kernel, by decide +kernel⟩,
    ⟨windowed, 0, 4, by decide +kernel, by decide +kernel, by decide +kernel, by decide +kernel⟩⟩

theorem test_witness_ReadOnlyBitsStand :
    ∃ (a i : Nat), i < 32 ∧ (match findRow a with | some (r, _, _, _, w) => (r.mask w [.rw, .rwl, .w1c, .w1s]).testBit i = false | none => True) :=
  ⟨Reg.DEV_MODE, 31, by decide, by
    have h : (match findRow Reg.DEV_MODE with
      | some (r, _, _, _, w) => (r.mask w [.rw, .rwl, .w1c, .w1s]).testBit 31 | none => false) = false := by decide +kernel
    split at h <;> simp_all⟩

theorem test_witness_BlockCommandsComplete :
    (∃ (s : State) (req : Requester) (p : Nat), s.Takes req (ctrlWord p) 1 ∧ instPage p = p ∧ alwaysOn p = false ∧
      (s.block p).state = .off) ∧
    (∃ (s : State) (req : Requester) (p : Nat), s.Takes req (ctrlWord p) 0 ∧ instPage p = p ∧ alwaysOn p = false ∧
      (s.block p).state = .starting) ∧
    (∃ (s : State) (req : Requester) (p : Nat), s.Takes req (ctrlWord p) 0 ∧ instPage p = p ∧ alwaysOn p = false ∧
      (s.block p).state = .running) ∧
    (∃ (s : State) (req : Requester) (p : Nat) (en : Bool), s.Takes req (ctrlWord p) (0x10 + b2n en) ∧ instPage p = p ∧
      alwaysOn p = false) ∧
    (∃ (s : State) (req : Requester) (p : Nat) (en : Bool), s.Takes req (ctrlWord p) (0x100 + b2n en) ∧
      (alwaysOn p = true ∨ instPage p ≠ p)) ∧
    (∃ (s : State) (req : Requester) (p : Nat) (en : Bool), s.Takes req (ctrlWord p) (0x100 + b2n en) ∧ instPage p = p ∧
      alwaysOn p = false) ∧
    (∃ (s : State) (req : Requester) (addr v b n : Nat), s.Takes req addr (v % 2 ^ 32) ∧ isTileClear addr = false ∧
      clearedBy addr = some (b, n) ∧ v % 2 = 1) ∧
    (∃ (s : State) (p : Nat), s.live = true ∧ s.blockState p = .starting ∧ (s.block p).safePassed = false) ∧
    (∃ (s : State) (p : Nat), s.live = true ∧ s.blockState p = .starting ∧ (s.block p).safePassed = true) ∧
    (∃ (s : State) (p : Nat), s.live = true ∧ s.blockState p = .stopping ∧ s.stopReady p = true) :=
  ⟨⟨rdy, .granite, 0x3C0, by decide +kernel⟩,
    ⟨blk .starting [0x3C0] rdy, .granite, 0x3C0, by decide +kernel⟩,
    ⟨on [0x3C0], .granite, 0x3C0, by decide +kernel⟩,
    ⟨rdy, .granite, 0x3C0, true, by decide +kernel⟩,
    ⟨rdy, .granite, 0x3C1, false, by decide +kernel⟩,
    ⟨rdy, .granite, 0x3C0, true, by decide +kernel⟩,
    ⟨rdy, .granite, Reg.AGT_CNT_CLR, 1, _, _, by decide +kernel, by decide +kernel, rfl, by decide +kernel⟩,
    ⟨blk .starting [0x3C0] rdy, 0x3C0, by decide +kernel⟩,
    ⟨rdy.setBlock 0x3C0 { en := true, state := .starting, safePassed := true }, 0x3C0, by decide +kernel⟩,
    ⟨blk .stopping [0x3C0] rdy, 0x3C0, by decide +kernel⟩⟩

theorem test_witness_TimeBaseAndServoCommandsComplete :
    (∃ (s : State) (b : Nat), s.pins.powered = true ∧ b < 8) ∧
    (∃ (s : State) (req : Requester) (b v : Nat), b < 8 ∧ s.Takes req (Reg.QTZ_TB_STEP b) (v % 2 ^ 32)) ∧
    (∃ (s : State) (req : Requester) (v : Nat), s.Takes req Reg.QTZ_FRAME_ORG (v % 2 ^ 32) ∧ bits v 19 0 ≤ 999999) ∧
    (∃ (s : State) (req : Requester) (v : Nat), s.Takes req Reg.QTZ_FRAME_ORG (v % 2 ^ 32) ∧ 999999 < bits v 19 0) ∧
    (∃ (s : State) (req : Requester), s.Takes req Reg.QTZ_SNAP 1) ∧
    (∃ (s : State) (req : Requester) (d tag : Nat), d < 2 ∧ s.Takes req (Reg.QTZ_EPOCH_TAG d) (tag % 2 ^ 32)) ∧
    (∃ (s : State) (req : Requester) (d v : Nat), d < 2 ∧ s.Takes req (Reg.QTZ_SV_OFS d) (v % 2 ^ 32)) ∧
    (∃ (s : State) (d : Nat), s.pins.powered = true ∧ d < 2) ∧
    (∃ (s : State) (req : Requester) (auto : Bool) (sel : Nat), s.Takes req Reg.QTZ_TB2_SEL (b2n auto * 2 ^ 31 + sel) ∧
      s.pins.cascPos = 0 ∧ sel < 2) ∧
    (∃ (s : State), s.live = true ∧ s.onF Reg.QTZ_STAT_REF_LOST = false) ∧
    (∃ (s : State), s.pins.powered = true) :=
  ⟨⟨rdy, 7, by decide +kernel⟩,
    ⟨rdy, .granite, 7, 2 ^ 32 - 1, by decide +kernel⟩,
    ⟨rdy, .granite, 999999, by decide +kernel⟩,
    ⟨rdy, .granite, 1000000, by decide +kernel⟩,
    ⟨rdy, .granite, by decide +kernel⟩,
    ⟨rdy, .granite, 1, 2 ^ 32 - 1, by decide +kernel⟩,
    ⟨rdy, .granite, 1, 2 ^ 31, by decide +kernel⟩,
    ⟨rdy, 1, by decide +kernel⟩,
    ⟨rdy, .granite, true, 1, by decide +kernel⟩,
    ⟨rdy, by decide +kernel⟩,
    ⟨rdy, by decide +kernel⟩⟩

theorem test_witness_ServoIntegratesItsSample :
    ∃ (s : State) (d : Nat), d < 2 ∧ s.getF (Reg.QTZ_SV_STEP_STEP_NS d) = 0 ∧ s.getF (Reg.QTZ_SV_STAT_STATE d) = 1 ∧
      (s.servo d).run < 7 :=
  ⟨put [(Reg.QTZ_SV_STAT_STATE 1, 1), (Reg.QTZ_SV_STEP_STEP_NS 1, 0)] rdy, 1, by decide +kernel⟩

theorem test_witness_TriggerAndCaptureCommandsComplete :
    (∃ (s : State) (req : Requester) (o v : Nat), o < 24 ∧ s.Takes req (Reg.QTZ_TR_CFG o) (setBits (v % 2 ^ 32) 31 31 1) ∧
      s.onF (Reg.QTZ_TR_CFG_EN o) = false) ∧
    (∃ (s : State) (o : Nat), s.live = true ∧ o < 24 ∧ s.edgeDue o = true ∧ (s.trigger o).suppress = false) ∧
    (∃ (s : State) (o : Nat), s.live = true ∧ o < 24 ∧ s.edgeDue o = true ∧ (s.trigger o).suppress = true) ∧
    (∃ (s : State) (o : Nat), s.live = true ∧ o < 24 ∧ s.pulseEndDue o = true) ∧
    (∃ (s : State) (req : Requester) (o : Nat), o < 24 ∧ s.Takes req (Reg.QTZ_TR_CMD o) 1) ∧
    (∃ (s : State) (i : Nat) (rise : Bool), s.live = true ∧ i < 24 ∧ s.onF (Reg.QTZ_CAP_CFG_EN i) = true ∧
      bit (s.getF (Reg.QTZ_CAP_CFG_EDGE i)) (if rise then 0 else 1) = true ∧ (s.capture i).length < 8) ∧
    (∃ (s : State) (i : Nat) (rise : Bool), s.live = true ∧ i < 24 ∧ s.onF (Reg.QTZ_CAP_CFG_EN i) = true ∧
      bit (s.getF (Reg.QTZ_CAP_CFG_EDGE i)) (if rise then 0 else 1) = true ∧ 8 ≤ (s.capture i).length) ∧
    (∃ (s : State) (req : Requester) (i : Nat), i < 24 ∧ s.Takes req (Reg.QTZ_CAP_POP i) 1) ∧
    (∃ (s : State) (o : Nat), s.live = true ∧ o < 24 ∧ s.edgeDue o = true ∧ (s.trigger o).level = false ∧
      ((s.driveEdge o).trigger o).level = true) :=
  ⟨⟨rdy, .granite, 23, 0, by decide +kernel⟩,
    ⟨trig false, 23, by decide +kernel⟩,
    ⟨trig true, 23, by decide +kernel⟩,
    ⟨put [(Reg.QTZ_TR_STAT_ACTIVE 23, 1)] rdy, 23, by decide +kernel⟩,
    ⟨rdy, .granite, 23, by decide +kernel⟩,
    ⟨put [(Reg.QTZ_CAP_CFG_EN 23, 1), (Reg.QTZ_CAP_CFG_EDGE 23, 1)] rdy, 23, true, by decide +kernel⟩,
    ⟨put [(Reg.QTZ_CAP_CFG_EN 23, 1), (Reg.QTZ_CAP_CFG_EDGE 23,
      2)] { rdy with qtz := { rdy.qtz with captures := [(23, List.replicate 8 ⟨0, true⟩)] } }, 23, false, by decide +kernel⟩,
    ⟨rdy, .granite, 23, by decide +kernel⟩,
    ⟨trig false, 23, by decide +kernel⟩⟩

theorem test_witness_FrameTickComplete :
    (∃ (s : State), s.pins.powered = true ∧ s.qtz.nextTick ≤ (s.base 4).count) ∧
    (∃ (s : State), s.getF Reg.QTZ_FRAME_ORG_ORG < 1000000) ∧
    (∃ (s : State), s.pins.powered = true ∧ (s.base 4).count < s.qtz.nextTick) :=
  ⟨⟨{ rdy with qtz := { rdy.qtz with bases := [(4, { count := 1000000 })] } }, by decide +kernel⟩,
    ⟨rdy, by decide +kernel⟩,
    ⟨rdy, by decide +kernel⟩⟩

theorem test_witness_FaultCommandsComplete :
    (∃ (s : State) (n : Nat), s.live = true ∧ realSource n = true ∧ s.severity n = .note ∧ (n < 39 ∨ 63 ≤ n)) ∧
    (∃ (s : State), s.live = true) ∧
    (∃ (s : State) (n : Nat), s.live = true ∧ realSource n = true ∧ s.fc.broken.contains n = false) ∧
    (∃ (s : State) (n : Nat), s.live = true ∧ (n < 512 ∨ 1024 ≤ n ∨ n % 16 ≠ 2)) ∧
    (∃ (s : State), s.live = true) ∧
    (∃ (s : State), s.live = true) ∧
    (∃ (s : State), s.live = true) :=
  ⟨⟨rdy, 0, by decide +kernel⟩,
    ⟨rdy, by decide +kernel⟩,
    ⟨rdy, 0, by decide +kernel⟩,
    ⟨rdy, 0, by decide +kernel⟩,
    ⟨rdy, by decide +kernel⟩,
    ⟨rdy, by decide +kernel⟩,
    ⟨rdy, by decide +kernel⟩⟩

theorem test_witness_StickyClearClearsOnlyQuietSources :
    ∃ (s : State) (req : Requester) (k v : Nat), k < 32 ∧ s.Takes req (Reg.FC_STICKY k) (v % 2 ^ 32) :=
  ⟨rdy, .granite, 31, 2 ^ 32 - 1, by decide +kernel⟩

theorem test_witness_SeverityNeverFallsBelowItsFloor :
    ∃ (s : State) (req : Requester) (w v : Nat), w < 128 ∧ s.Takes req (Reg.FC_SEV w) (v % 2 ^ 32) :=
  ⟨rdy, .granite, 127, 0, by decide +kernel⟩

theorem test_witness_NoteAndCorrectedOnlyReport :
    (∃ (s : State) (n : Nat), realSource n = true ∧ s.raisedNow n = true) ∧
    (∃ (s : State) (n : Nat), realSource n = true ∧ s.severity n = .note) ∧
    (∃ (s : State) (n : Nat), realSource n = true ∧ s.raisedNow n = false ∧ s.severity n = .corrected) :=
  ⟨⟨{ rdy with fc := { broken := [], raised := [0] } }, 0, by decide +kernel⟩,
    ⟨rdy, 0, by decide +kernel⟩,
    ⟨rdy, 4, by decide +kernel⟩⟩

theorem test_witness_WatchdogCommandsComplete :
    (∃ (s : State) (req : Requester) (w : Nat), 6 ≤ w ∧ w < 256 ∧ s.Takes req (Reg.WDG_KICK w) 1) ∧
    (∃ (s : State) (req : Requester) (w : Nat), w < 6 ∧ s.Takes req (Reg.WDG_KICK w) 1) ∧
    (∃ (s : State) (w : Nat), w < 256 ∧ s.wdgRuns w = true ∧ s.wdgOverdue w = true) ∧
    (∃ (s : State) (req : Requester) (w v : Nat), w < 256 ∧ s.Takes req (Reg.WDG_CFG w) (setBits (v % 2 ^ 32) 31 31 1) ∧
      s.onF (Reg.WDG_CFG_EN w) = false) ∧
    (∃ (s : State) (w : Nat), w < 256 ∧ s.wdgRuns w = true ∧ s.wdgOpenNow w = true) :=
  ⟨⟨rdy, .granite, 255, by decide +kernel⟩,
    ⟨rdy, .granite, 5, by decide +kernel⟩,
    ⟨watching 2 11, 255, by decide +kernel⟩,
    ⟨put [(Reg.WDG_CLOSE_CLOSE 255, 1)] rdy, .granite, 255, 2 ^ 30, by decide +kernel⟩,
    ⟨watching 0 11, 255, by decide +kernel⟩⟩

theorem test_witness_IntervalKickIsJudgedByItsWindow :
    (∃ (s : State) (w : Nat), 6 ≤ w ∧ w < 256 ∧ s.wdgRuns w = true ∧ s.wdgInterval w = true ∧ s.wdgOverdue w = false ∧
      (s.watch w).kickCycle ≠ some s.qtz.cycles ∧
      (s.watch w).kicked = false ∨ (s.watch w).since + s.getF (Reg.WDG_OPEN_OPEN w) ≤ s.tb4Count) ∧
    (∃ (s : State) (w : Nat), 6 ≤ w ∧ w < 256 ∧ s.wdgRuns w = true ∧ s.wdgInterval w = true ∧ s.wdgOverdue w = false ∧
      (s.watch w).kickCycle ≠ some s.qtz.cycles ∧ (s.watch w).kicked = true ∧
      s.tb4Count < (s.watch w).since + s.getF (Reg.WDG_OPEN_OPEN w)) :=
  ⟨⟨watching 100 5, 255, by decide +kernel⟩,
    ⟨(watching 100 5).setWatch 255 { kicked := true, since := 11 }, 255, by decide +kernel⟩⟩

theorem test_witness_EngineCommandsComplete :
    (∃ (s : State) (t i : Nat) (ecc : List EccError), (∀ c e, s.Ready t i (hasOp 0x04) ecc c e →
      (runScatter s (s.ctx c).part t e.cmd).verdict ≠ .region)) ∧
    (∃ (s : State) (t i : Nat) (ecc : List EccError), (∀ c e, s.Ready t i (hasOp 0x11) ecc c e →
      s.bodyCheck c t e.cmd = none)) :=
  ⟨⟨(working (command 0x04)), 31, 0, [], fun c e h => by
      obtain ⟨rfl, rfl⟩ := Prod.mk.inj (Option.some.inj ((by decide +kernel : (working (command 0x04)).runnable 31 0 (hasOp 0x04) = some (4095, { cmd := command 0x04 })).symm.trans h.2.1))
      decide +kernel⟩,
    ⟨convTile, 31, 0, [], fun c e h => by
      obtain ⟨rfl, rfl⟩ := Prod.mk.inj (Option.some.inj ((by decide +kernel : convTile.runnable 31 0 (hasOp 0x11) = some (4095, { cmd := convolving })).symm.trans h.2.1))
      decide +kernel⟩⟩

theorem test_witness_FinishedWorkWaitsForItsCommit :
    ∃ (s : State) (d : Done), (d.verdict = .passed ∨ d.verdict = .checksum) ∧ (∀ w ∈ d.writes, s.isNeighbour w.1 = false) :=
  ⟨rdy, {}, by decide +kernel⟩

theorem test_witness_UncorrectableErrorEndsTheContext :
    ∃ (s : State) (k : Instr) (t i : Nat) (ecc : List EccError) (ok : Cmd → Bool) (c : Nat) (e : WEntry),
      engineParts k = some (t, i, ecc, ok) ∧ s.live = true ∧ s.runnable t i ok = some (c, e) ∧ (e.cmd.op = 0x3B → i = 0) ∧
      (e.cmd.op = 0x11 → s.bodyCheck c t e.cmd = none) ∧ s.remoteBusy t e.cmd.seq = false ∧ (∀ r ∈ s.farReads t e.cmd,
      s.isNeighbour r.1 = true → s.mapped r.1 = true ∧ e.asked.contains r = true) ∧ (∃ x ∈ s.eccMet t e.cmd (s.farReads t e.cmd) ecc, x.double = true) :=
  ⟨(on [tilePage 31]).setTile 31 { ctx := some 4095, window := [{ cmd := storing }] }, .store 31 0 [⟨0, true, false⟩], 31, 0, [⟨0,
      true, false⟩], hasOp 0x02, 4095, { cmd := storing }, rfl, by decide +kernel, by decide +kernel, by decide +kernel,
      by decide +kernel, by decide +kernel, by decide +kernel, ⟨⟨0, true, false⟩, by decide +kernel⟩⟩

theorem test_witness_DispatcherCommandsComplete :
    (∃ (s : State) (x : Nat), s.live = true ∧ s.isRunning 0x80 = true ∧ (s.ctx x).polling = false) ∧
    (∃ (s : State) (x : Nat), s.live = true ∧ s.isRunning 0x80 = true ∧ (s.ctx x).polling = true) ∧
    (∃ (s : State) (x t : Nat) (cmd : Cmd), s.live = true ∧ s.frontReady x = some cmd ∧ (s.ctx x).onTile = some t ∧
      inDispatcher cmd.op = false ∧ s.tileTakes t = true ∧ (s.ctx x).prep = [] ∧ s.blocksRun cmd = true ∧
      s.isRunning 0x80 = true ∧ cmd.op ≠ 0x28) ∧
    (∃ (s : State) (x t : Nat) (cmd : Cmd), s.live = true ∧ s.frontReady x = some cmd ∧ (s.ctx x).onTile = some t ∧
      inDispatcher cmd.op = false ∧ s.tileTakes t = true ∧ (s.ctx x).prep = [] ∧ s.blocksRun cmd = true ∧
      s.isRunning 0x80 = true ∧ cmd.op = 0x28 ∧ s.scanRefused x cmd.stream = true) ∧
    (∃ (s : State) (x t : Nat) (cmd : Cmd), s.live = true ∧ s.frontReady x = some cmd ∧ (s.ctx x).onTile = some t ∧
      inDispatcher cmd.op = false ∧ s.tileTakes t = true ∧ (s.ctx x).prep = [] ∧ s.blocksRun cmd = true ∧
      s.isRunning 0x80 = true ∧ cmd.op = 0x28 ∧ s.scanRefused x cmd.stream = false ∧ (s.scanReady cmd.stream t).1 = true) ∧
    (∃ (s : State) (x t : Nat) (cmd : Cmd), s.live = true ∧ s.frontReady x = some cmd ∧ (s.ctx x).onTile = some t ∧
      inDispatcher cmd.op = false ∧ s.tileTakes t = true ∧ (s.ctx x).prep = [] ∧ s.blocksRun cmd = true ∧
      s.isRunning 0x80 = true ∧ cmd.op = 0x28 ∧ s.scanRefused x cmd.stream = false ∧ (s.scanReady cmd.stream t).1 = false) ∧
    (∃ (s : State) (x : Nat) (cmd : Cmd), s.live = true ∧ s.frontReady x = some cmd ∧ cmd.op = 0x38 ∧
      s.isRunning 0x80 = true) ∧
    (∃ (s : State) (x : Nat) (cmd : Cmd) (u : State), s.live = true ∧ s.frontReady x = some cmd ∧ cmd.op = 0x39 ∧
      s.windowEmpty x = true ∧ s.isRunning 0x80 = true ∧
      u = ((s.commitRecord x cmd 0 0).reportKick x cmd).granted (.sync (bits (cmd.half 0x10) 13 0)) ((s.ctx x).onTile.getD 0) ∧
      bits (cmd.half 0x10) 15 14 ≠ 1) ∧
    (∃ (s : State) (x : Nat) (cmd : Cmd) (u : State), s.live = true ∧ s.frontReady x = some cmd ∧ cmd.op = 0x39 ∧
      s.windowEmpty x = true ∧ s.isRunning 0x80 = true ∧
      u = ((s.commitRecord x cmd 0 0).reportKick x cmd).granted (.sync (bits (cmd.half 0x10) 13 0)) ((s.ctx x).onTile.getD 0) ∧
      bits (cmd.half 0x10) 15 14 = 1 ∧
      s.addOverflows (bits (cmd.half 0x10) 13 0) (cmd.long 0x18) = false) ∧
    (∃ (s : State) (x : Nat) (cmd : Cmd) (u : State), s.live = true ∧ s.frontReady x = some cmd ∧ cmd.op = 0x39 ∧
      s.windowEmpty x = true ∧ s.isRunning 0x80 = true ∧
      u = ((s.commitRecord x cmd 0x12 0).reportKick x cmd).granted (.sync (bits (cmd.half 0x10) 13 0)) ((s.ctx x).onTile.getD 0) ∧
      bits (cmd.half 0x10) 15 14 = 1 ∧
      s.addOverflows (bits (cmd.half 0x10) 13 0) (cmd.long 0x18) = true) ∧
    (∃ (s : State) (x : Nat) (cmd : Cmd) (u : State), s.live = true ∧ s.frontReady x = some cmd ∧ cmd.op = 0x3F ∧ s.isRunning 0x80 = true ∧
      u = (s.commitRecord x cmd 0 0).reportKick x cmd) :=
  ⟨⟨on [0x80], 4095, by decide +kernel⟩,
    ⟨(on [0x80]).setCtx 4095 { polling := true }, 4095, by decide +kernel⟩,
    ⟨front 0x00, 4095, 31, command 0x00, by decide +kernel⟩,
    ⟨front 0x28, 4095, 31, command 0x28, by decide +kernel⟩,
    ⟨put [(Reg.STM_STAT_STATUS 0, 1), (Reg.STM_OWNER_CTX 0, 4095)] (front 0x28), 4095, 31, command 0x28, by decide +kernel⟩,
    ⟨put [(Reg.STM_STAT_STATUS 0, 3), (Reg.STM_OWNER_CTX 0, 4095)] (front 0x28), 4095, 31, command 0x28, by decide +kernel⟩,
    ⟨front 0x38, 4095, command 0x38, by decide +kernel⟩,
    ⟨front 0x39, 4095, command 0x39, _, by decide +kernel, rfl, by decide +kernel, by decide +kernel, by decide +kernel, rfl,
      by decide +kernel⟩,
    ⟨object 9 1 (fronted adding), 4095, adding, _, by decide +kernel, rfl, by decide +kernel, by decide +kernel,
      by decide +kernel, rfl, by decide +kernel, by decide +kernel⟩,
    ⟨object 9 1 (fronted bigAdding), 4095, bigAdding, _, by decide +kernel, rfl, by decide +kernel, by decide +kernel,
      by decide +kernel, rfl, by decide +kernel, by decide +kernel⟩,
    ⟨front 0x3F, 4095, command 0x3F, _, by decide +kernel, rfl, by decide +kernel, by decide +kernel, rfl⟩⟩

theorem test_witness_CommitKillAndScrubComplete :
    (∃ (s : State) (t c : Nat) (e : WEntry) (r : List WEntry), s.live = true ∧ (s.tile t).ctx = some c ∧
      (s.tile t).window = e :: r ∧ e.finished = true ∧ s.tileWorks t = true ∧ s.remoteBusy t e.cmd.seq = false ∧
      e.verdict ≠ .checksum) ∧
    (∃ (s : State) (t c : Nat) (e : WEntry) (r : List WEntry), s.live = true ∧ (s.tile t).ctx = some c ∧
      (s.tile t).window = e :: r ∧ e.finished = true ∧ s.tileWorks t = true ∧ s.remoteBusy t e.cmd.seq = false ∧
      e.verdict = .checksum) ∧
    (∃ (s : State) (t : Nat), s.live = true ∧ (s.tile t).killing = true ∧ (s.tile t).ctx = none) ∧
    (∃ (s : State) (t c : Nat) (u : State), s.live = true ∧ (s.tile t).killing = true ∧ (s.tile t).ctx = some c ∧
      ((s.ctx c).state = .active ∨ (s.ctx c).state = .held) ∧ (s.tile t).rerunFirst = false ∧
      u = ((((s.setTile t { s.tile t with killing := false, victims := [], killFor := none }).setCtx c
        { s.ctx c with queue := (s.tile t).victims ++ (s.ctx c).queue }).chargeUnits t c).settle t)) ∧
    (∃ (s : State) (t c : Nat) (cmd : Cmd) (r : List Cmd) (u : State), s.live = true ∧ (s.tile t).killing = true ∧
      (s.tile t).ctx = some c ∧ ((s.ctx c).state = .active ∨ (s.ctx c).state = .held) ∧ (s.tile t).rerunFirst = true ∧
      (s.tile t).leaving = false ∧ (s.tile t).victims = cmd :: r ∧
      u = (s.setTile t { s.tile t with killing := false, victims := [], killFor := none }).setCtx c
        { s.ctx c with queue := cmd :: r ++ (s.ctx c).queue } ∧ u.tileWorks t = true ∧ u.blocksRun cmd = true) ∧
    (∃ (s : State) (t : Nat), s.live = true ∧ t < 32) ∧
    (∃ (s : State) (t line : Nat) (e : EccError), s.live = true ∧ t < 32 ∧ e.mem = false ∧ e.offset / 64 = line) :=
  ⟨⟨(on [tilePage 31]).setTile 31 { ctx := some 4095, window := [{ cmd := command 0, finished := true }] }, 31, 4095,
      { cmd := command 0, finished := true }, [], by decide +kernel⟩,
    ⟨(on [tilePage 31]).setTile 31 { ctx := some 4095, window := [{ cmd := command 0, finished := true, verdict := .checksum }] }, 31, 4095, { cmd := command 0, finished := true, verdict := .checksum }, [], by decide +kernel⟩,
    ⟨rdy.setTile 31 { killing := true }, 31, by decide +kernel⟩,
    ⟨(rdy.setTile 31 { killing := true, ctx := some 4095 }).setCtx 4095 { state := .held }, 31, 4095, _, by decide +kernel,
      by decide +kernel, rfl, by decide +kernel, by decide +kernel, rfl⟩,
    ⟨rerun, 31, 4095, command 0, [], _, by decide +kernel, by decide +kernel, rfl, by decide +kernel, by decide +kernel,
      by decide +kernel, rfl, rfl, by decide +kernel, by decide +kernel⟩,
    ⟨rdy, 31, by decide +kernel⟩,
    ⟨rdy, 31, 32767, ⟨0x1FFFFF, false, false⟩, by decide +kernel⟩⟩

theorem test_witness_SyncObjectWritesComplete :
    (∃ (s : State) (req : Requester) (p idx n : Nat), p < 64 ∧ idx < 256 ∧ 0 < n ∧ n < 2 ^ 32 ∧
      s.TakesWide req (Reg.SYN_ADD p) (idx + n * 2 ^ 32)) ∧
    (∃ (s : State) (req : Requester) (p idx : Nat), p < 64 ∧ idx < 256 ∧ s.TakesWide req (Reg.SYN_ADD p) idx) ∧
    (∃ (s : State) (req : Requester) (i v : Nat), i < 16384 ∧ v < 2 ^ 64 ∧ s.TakesWide req (Reg.SYN_VALUE i) v) ∧
    (∃ (s : State) (req : Requester) (i owner : Nat), i < 16384 ∧ owner < 4096 ∧
      s.Takes req (Reg.SYN_STATE i) (2 ^ 30 + owner * 2 ^ 16) ∧ s.syncState i ≠ 1) ∧
    (∃ (s : State) (req : Requester) (i owner : Nat), i < 16384 ∧ owner < 4096 ∧
      s.Takes req (Reg.SYN_STATE i) (owner * 2 ^ 16) ∧ s.syncState i ≠ 0) ∧
    (∃ (s : State) (req : Requester) (i owner : Nat), i < 16384 ∧ owner < 4096 ∧
      s.Takes req (Reg.SYN_STATE i) (2 ^ 30 + owner * 2 ^ 16) ∧ s.syncState i = 1) :=
  ⟨⟨rdy, .granite, 63, 255, 2 ^ 32 - 1, by decide +kernel⟩,
    ⟨rdy, .granite, 63, 255, by decide +kernel⟩,
    ⟨rdy, .granite, 16383, 2 ^ 64 - 1, by decide +kernel⟩,
    ⟨rdy, .granite, 16383, 4095, by decide +kernel⟩,
    ⟨(object 16383 0 rdy), .granite, 16383, 4095, by decide +kernel⟩,
    ⟨(object 16383 0 rdy), .granite, 16383, 4095, by decide +kernel⟩⟩

theorem test_witness_SignalsAddPoisonOrDrop :
    (∃ (s : State) (i n : Nat), i < 16384 ∧ n < 2 ^ 64 ∧ s.syncState i = 1 ∧ s.syncValue i + n < 2 ^ 64) ∧
    (∃ (s : State) (i n : Nat), i < 16384 ∧ n < 2 ^ 64 ∧ s.syncState i = 1 ∧ 2 ^ 64 ≤ s.syncValue i + n) ∧
    (∃ (s : State) (i n : Nat), i < 16384 ∧ n < 2 ^ 64 ∧ s.syncState i ≠ 1) :=
  ⟨⟨(object 16383 0 rdy), 16383, 2 ^ 64 - 1, by decide +kernel⟩,
    ⟨(object 16383 1 rdy), 16383, 2 ^ 64 - 1, by decide +kernel⟩,
    ⟨rdy, 16383, 1, by decide +kernel⟩⟩

theorem test_witness_TemperatureAndVoltageCommandsComplete :
    (∃ (s : State) (t temp : Nat), s.live = true ∧ t < 32 ∧ (s.checkReading (signed 16 temp)).2 = false ∧
      (∀ n ∈ meshNeighbours t, signed 16 temp ≤ s.tileTemp n + 120) ∧ signed 16 temp ≤ s.tjThr) ∧
    (∃ (s : State) (t temp : Nat), s.live = true ∧ t < 32 ∧ (s.checkReading (signed 16 temp)).2 = false ∧
      (∃ n ∈ meshNeighbours t, s.tileTemp n + 120 < signed 16 temp) ∧ signed 16 temp ≤ s.tjThr ∧
      s.getF (Reg.TILE_ISSUE_THERMAL t) ≠ 64) ∧
    (∃ (s : State) (t : Nat), s.live = true ∧ t < 32 ∧ (∀ n ∈ meshNeighbours t, s.tileTemp t ≤ s.tileTemp n + 100)) ∧
    (∃ (s : State) (t n : Nat), s.live = true ∧ t < 32 ∧ n ∈ meshNeighbours t ∧ s.tileTemp n + 160 < s.tileTemp t) ∧
    (∃ (s : State) (volts : List Nat), s.live = true ∧ (3, 7) ∈ islandPairs ∧ volts.getD 3 0 + 250 < volts.getD 7 0 ∧
      (3, 7) ∈ s.pwr.vdiffOver) ∧
    (∃ (s : State), s.live = true ∧ s.islandsDown = []) ∧
    (∃ (s : State) (k temp : Nat), s.live = true ∧ k < 16 ∧ (s.checkReading (signed 16 temp)).2 = false) ∧
    (∃ (s : State) (n : Nat), s.live = true ∧ n < 48 ∧ s.tjMax < s.sensorTemp n) ∧
    (∃ (s : State) (k : Nat), s.live = true ∧ k < 4) :=
  ⟨⟨put [(Reg.PWR_THERM_TJ_MAX, 105)] rdy, 31, 100, by decide +kernel⟩,
    ⟨put [(Reg.PWR_THERM_TJ_MAX, 105), (Reg.TILE_ISSUE_THERMAL 31, 32)] rdy, 31, 200, by decide +kernel⟩,
    ⟨rdy, 31, by decide +kernel⟩,
    ⟨put [(Reg.TILE_TEMP_TEMP 31, 161)] rdy, 31, 30, by decide +kernel⟩,
    ⟨{ rdy with pwr := { rdy.pwr with vdiffOver := [(3, 7)] } }, [0, 0, 0, 600, 0, 0, 0, 851], by decide +kernel⟩,
    ⟨rdy, by decide +kernel⟩,
    ⟨put [(Reg.PWR_THERM_TJ_MAX, 105)] rdy, 15, 100, by decide +kernel⟩,
    ⟨put [(Reg.TILE_TEMP_TEMP 31, 640)] rdy, 31, by decide +kernel⟩,
    ⟨rdy, 3, by decide +kernel⟩⟩

theorem test_witness_PowerAndAgeingCommandsComplete :
    (∃ (s : State), s.live = true) ∧
    (∃ (s : State) (req : Requester) (cap : Nat), cap < 512 ∧ s.Takes req Reg.PWR_CAP cap) ∧
    (∃ (s : State) (i : Nat), s.live = true ∧ i < 8) ∧
    (∃ (s : State) (i : Nat), s.live = true ∧ i < 8) ∧
    (∃ (s : State) (i : Nat), s.live = true ∧ i < 8) ∧
    (∃ (s : State) (i : Nat), s.live = true ∧ i < 8) ∧
    (∃ (s : State) (i : Nat), s.live = true ∧ i < 8 ∧ s.onF (Reg.PWR_ISL_STAT_DROOP i) = false ∧ (s.droop i).rising = none) ∧
    (∃ (s : State) (i : Nat), s.live = true ∧ i < 8 ∧ s.onF (Reg.PWR_ISL_STAT_DROOP i) = true) ∧
    (∃ (s : State), s.live = true) ∧
    (∃ (s : State), s.live = true ∧ (∀ t < 32, 15 ≤ s.getF (Reg.AGE_UNIT_MARGIN t)) ∧
      s.getF Reg.AGE_LIFE_REM_H < s.getF Reg.AGE_CFG_LIFE_NOTE) :=
  ⟨⟨rdy, by decide +kernel⟩,
    ⟨rdy, .granite, 511, by decide +kernel⟩,
    ⟨rdy, 7, by decide +kernel⟩,
    ⟨rdy, 7, by decide +kernel⟩,
    ⟨rdy, 7, by decide +kernel⟩,
    ⟨rdy, 7, by decide +kernel⟩,
    ⟨{ rdy with pwr := { rdy.pwr with droops := [(7, { rising := none })] } }, 7, by decide +kernel⟩,
    ⟨put [(Reg.PWR_ISL_STAT_DROOP 7, 1)] rdy, 7, by decide +kernel⟩,
    ⟨rdy, by decide +kernel⟩,
    ⟨put ((Reg.AGE_CFG_LIFE_NOTE, 6) :: (Reg.AGE_LIFE_REM_H, 5) :: (List.range 32).map (fun t => (Reg.AGE_UNIT_MARGIN t,
      15))) rdy, by decide +kernel⟩⟩

theorem test_witness_RailsFailAtTheThirdRead :
    ∃ (s : State) (rail : Nat) (r : Rail), s.live = true ∧ Sparse.get (fun _ => ({} : Rail)) s.pwr.rails rail = r :=
  ⟨rdy, 0, {}, by decide +kernel⟩

theorem test_witness_TestCommandsComplete :
    (∃ (s : State), s.live = true) ∧
    (∃ (s : State) (k : Nat), s.live = true ∧ k < 16) ∧
    (∃ (s : State) (k : Nat), s.live = true ∧ k < 16 ∧ s.fenced k = false ∧ s.fenced (k + 16) = false ∧
      s.isRunning (tilePage k) = false ∧ s.isRunning (tilePage (k + 16)) = false) ∧
    (∃ (s : State) (k : Nat), s.live = true ∧ k < 16 ∧ (∀ t ∈ pairTiles k,
      s.fenced t = true ∨ s.isRunning (tilePage t) = true)) ∧
    (∃ (s : State) (k : Nat), s.live = true ∧ k < 15 ∧ (s.tile k).inSlot = true ∧ (s.tile (k + 16)).inSlot = true ∧
      s.fenced k = false ∧ s.fenced (k + 16) = false) ∧
    (∃ (s : State) (k t : Nat), s.live = true ∧ k < 15 ∧ t ∈ pairTiles k ∧ (s.tile t).inSlot = true) ∧
    (∃ (s : State) (n : Nat), s.live = true ∧ n ∈ katSources) :=
  ⟨⟨rdy, by decide +kernel⟩,
    ⟨rdy, 15, by decide +kernel⟩,
    ⟨rdy, 15, by decide +kernel⟩,
    ⟨on [tilePage 15, tilePage 31], 15, by decide +kernel⟩,
    ⟨(rdy.setTile 14 { inSlot := true }).setTile 30 { inSlot := true }, 14, by decide +kernel⟩,
    ⟨(rdy.setTile 14 { inSlot := true }).setTile 30 { inSlot := true }, 14, 30, by decide +kernel⟩,
    ⟨rdy, FS.TIER_KAT, by decide +kernel⟩⟩

theorem test_witness_FailedPeriodicTestFencesTheTile :
    ∃ (s : State) (t : Nat), t < 32 ∧ (s.tile t).inSlot = true ∧ s.fenced t = false :=
  ⟨rdy.setTile 31 { inSlot := true }, 31, by decide +kernel⟩

theorem test_witness_SchedulerOperationsComplete :
    (∃ (s : State) (req : Requester) (p c : Nat), p < 8 ∧ c < 4096 ∧ s.Takes req (Reg.SCH_CMD p) (1 * 2 ^ 28 + c) ∧
      s.schReach (s.ctxAddr c) 64 false = true ∧ (s.ctx c).state = .free ∧ rowPart (s.ctxRow c) = p ∧
      s.ctxRowOk (s.ctxRow c) p = true) ∧
    (∃ (s : State) (req : Requester) (p c : Nat), p < 8 ∧ c < 4096 ∧ s.Takes req (Reg.SCH_CMD p) (2 * 2 ^ 28 + c) ∧
      ((s.ctx c).state = .active ∨ (s.ctx c).state = .held) ∧ (s.ctx c).part = p ∧
      s.schReach (s.ctxAddr c) 64 false = true ∧ rowPart (s.ctxRow c) = p ∧
      (entryOf (s.ctxRow c)).weight ≠ 0 ∧ (entryOf (s.ctxRow c)).tiles ≠ 0) ∧
    (∃ (s : State) (req : Requester) (p c : Nat), p < 8 ∧ c < 4096 ∧ s.Takes req (Reg.SCH_CMD p) (3 * 2 ^ 28 + c) ∧
      ((s.ctx c).state = .active ∨ (s.ctx c).state = .held) ∧ (s.ctx c).part = p) ∧
    (∃ (s : State) (req : Requester) (p c : Nat), p < 8 ∧ c < 4096 ∧ s.Takes req (Reg.SCH_CMD p) (4 * 2 ^ 28 + c) ∧
      (s.ctx c).state = .held ∧ (s.ctx c).part = p) ∧
    (∃ (s : State) (req : Requester) (p c : Nat), p < 8 ∧ c < 4096 ∧ s.Takes req (Reg.SCH_CMD p) (5 * 2 ^ 28 + c) ∧
      (s.ctx c).state ≠ .free ∧ (s.ctx c).part = p) ∧
    (∃ (s : State) (req : Requester) (p c : Nat), p < 8 ∧ c < 4096 ∧ s.Takes req (Reg.SCH_CMD p) (6 * 2 ^ 28 + c) ∧
      (s.ctx c).state = .torn ∧ (s.ctx c).part = p) ∧
    (∃ (s : State) (req : Requester) (p m : Nat), p < 8 ∧ m < 256 ∧ s.Takes req (Reg.SCH_CMD p) (7 * 2 ^ 28 + m)) :=
  ⟨⟨rowed .free, .granite, 7, 4095, by decide +kernel⟩,
    ⟨rowed .active, .granite, 7, 4095, by decide +kernel⟩,
    ⟨rdy.setCtx 4095 { state := .held, part := 7 }, .granite, 7, 4095, by decide +kernel⟩,
    ⟨rdy.setCtx 4095 { state := .held, part := 7 }, .granite, 7, 4095, by decide +kernel⟩,
    ⟨rdy.setCtx 4095 { state := .torn, part := 7 }, .granite, 7, 4095, by decide +kernel⟩,
    ⟨rdy.setCtx 4095 { state := .torn, part := 7 }, .granite, 7, 4095, by decide +kernel⟩,
    ⟨rdy, .granite, 7, 255, by decide +kernel⟩⟩

theorem test_witness_ForbiddenOperationsOnlyAnswer :
    ∃ (s : State) (req : Requester) (p c n : Nat) (k : Instr), p < 8 ∧ c < 4096 ∧
      s.Takes req (Reg.SCH_CMD p) (n * 2 ^ 28 + c) ∧ ((s.ctx c).state = .free ∨ (s.ctx c).part = p) ∧ (k = .hold req p c ∧
      n = 3 ∧ (s.ctx c).state ≠ .active ∧ (s.ctx c).state ≠ .held ∨ k = .release req p c ∧ n = 4 ∧
      (s.ctx c).state ≠ .held ∨ k = .teardown req p c ∧ n = 5 ∧ (s.ctx c).state = .free ∨ k = .retire req p c ∧ n = 6 ∧
      (s.ctx c).state ≠ .torn) :=
  ⟨rdy, .granite, 7, 4095, 5, .teardown .granite 7 4095, by decide +kernel⟩

theorem test_witness_SchedulingEventsComplete :
    (∃ (s : State) (c : Nat), s.live = true ∧ (s.ctx c).closing = true ∧ s.windowEmpty c = true) ∧
    (∃ (s : State) (c : Nat), s.live = true ∧ (s.ctx c).state = .tearing ∧ (s.ctx c).onTile = none ∧
      (s.ctx c).saving = false ∧ (s.parkStreams c).streamsBusy c = false) ∧
    (∃ (s : State) (req : Requester) (t : Nat), t < 32 ∧ s.Takes req Reg.SCH_TILE_CMD (2 ^ 30 + t)) ∧
    (∃ (s : State) (req : Requester) (t : Nat), t < 32 ∧ s.Takes req Reg.SCH_TILE_CMD (2 ^ 31 + t)) ∧
    (∃ (s : State) (req : Requester), s.Takes req Reg.SCH_ACCT_DUMP 1) ∧
    (∃ (s : State) (l : List (Nat × Nat × Nat × Nat)) (b : List Byte), s.live = true ∧ s.sch.dump = some l ∧
      b = l.flatMap (fun r => leBytes 8 r.1 ++ leBytes 8 r.2.1 ++ leBytes 8 r.2.2.1 ++ leBytes 8 r.2.2.2) ∧
      s.schReach (s.getF Reg.SCH_ACCT_BASE_BASE * 2 ^ 17) b.length true = true) ∧
    (∃ (s : State) (l : List (Nat × Nat × Nat × Nat)) (b : List Byte), s.live = true ∧ s.sch.dump = some l ∧
      b = l.flatMap (fun r => leBytes 8 r.1 ++ leBytes 8 r.2.1 ++ leBytes 8 r.2.2.1 ++ leBytes 8 r.2.2.2) ∧
      s.schReach (s.getF Reg.SCH_ACCT_BASE_BASE * 2 ^ 17) b.length true = false) ∧
    (∃ (s : State) (t : Nat), s.live = true ∧ t < 32 ∧ s.isRunning 0x80 = true ∧ (∀ c ∈ s.contexts, s.wantsTile c = false)) ∧
    (∃ (s : State) (c t : Nat), s.live = true ∧ s.isRunning 0x80 = true ∧ s.wantsTile c = true ∧ s.choose c = some t ∧
      s.yields c t = false) ∧
    (∃ (s : State) (c t : Nat), s.live = true ∧ (s.ctx c).resident = some t ∧ (s.ctx c).saving = true ∧
      (s.ctx c).onTile ≠ some t ∧ s.streamsOn c t = false) ∧
    (∃ (s : State) (c t : Nat) (r : List Preparation), s.live = true ∧ (s.ctx c).onTile = some t ∧
      (s.ctx c).prep = .restore :: r ∧ s.memOk (s.ctx c).part (s.ctx c).entry.save (64 + s.bodyBytes c) false = true ∧
      s.saveGood c (s.fetch (s.ctx c).entry.save (64 + s.bodyBytes c)) = true) ∧
    (∃ (s : State) (c t : Nat) (r : List Preparation), s.live = true ∧ (s.ctx c).onTile = some t ∧
      (s.ctx c).prep = .zeroFill :: r) ∧
    (∃ (s : State) (c t : Nat) (r : List Preparation), s.live = true ∧ (s.ctx c).onTile = some t ∧
      (s.ctx c).prep = .modelLoad :: r) ∧
    (∃ (s : State) (t : Nat), s.live = true ∧ s.isRunning 0x80 = true ∧ (s.tile t).ctx = none) ∧
    (∃ (s : State) (t c : Nat), s.live = true ∧ s.isRunning 0x80 = true ∧ (s.tile t).ctx = some c ∧ (∀ d ∈ s.contexts,
      d ≠ c → (s.ctx d).part = (s.ctx c).part → s.wantsTile d = false)) ∧
    (∃ (s : State) (t c : Nat) (u : State), s.live = true ∧ s.isRunning 0x80 = true ∧ (s.tile t).ctx = some c ∧
      u = s.chargeOccupy c (s.getF Reg.SCH_CFG_QUANTUM * 10000) ∧ (∀ d ∈ u.contexts, d ≠ c →
      (u.ctx d).part = (u.ctx c).part → u.wantsTile d = true → (u.ctx c).vt ≤ (u.ctx d).vt)) ∧
    (∃ (s : State) (t c : Nat) (u : State), s.live = true ∧ s.isRunning 0x80 = true ∧ (s.tile t).ctx = some c ∧
      u = s.chargeOccupy c (s.getF Reg.SCH_CFG_QUANTUM * 10000) ∧ (∃ d ∈ u.contexts, d ≠ c ∧
      (u.ctx d).part = (u.ctx c).part ∧ u.wantsTile d = true ∧ (u.ctx d).vt < (u.ctx c).vt)) ∧
    (∃ (s : State) (t : Nat), s.live = true ∧ (s.tile t).draining = true) :=
  ⟨⟨rdy.setCtx 4095 { state := .active, closing := true }, 4095, by decide +kernel⟩,
    ⟨rdy.setCtx 4095 { state := .tearing, part := 7 }, 4095, by decide +kernel⟩,
    ⟨rdy, .granite, 31, by decide +kernel⟩,
    ⟨rdy, .granite, 31, by decide +kernel⟩,
    ⟨rdy, .granite, by decide +kernel⟩,
    ⟨{ open16 rdy with sch := { rdy.sch with dump := some [(1, 2, 3, 4)] } }, [(1, 2, 3, 4)], _, by decide +kernel, rfl, rfl,
      by decide +kernel⟩,
    ⟨{ rdy with sch := { rdy.sch with dump := some [(1, 2, 3, 4)] } }, [(1, 2, 3, 4)], _, by decide +kernel, rfl, rfl,
      by decide +kernel⟩,
    ⟨on [0x80], 31, by decide +kernel⟩,
    ⟨waiting, 4095, 31, by decide +kernel⟩,
    ⟨rdy.setCtx 4095 { state := .active, resident := some 31, saving := true }, 4095, 31, by decide +kernel⟩,
    ⟨restoring, 4095, 31, [], by decide +kernel⟩,
    ⟨rdy.setCtx 4095 { state := .active, onTile := some 31, prep := [.zeroFill] }, 4095, 31, [], by decide +kernel⟩,
    ⟨rdy.setCtx 4095 { state := .active, onTile := some 31, prep := [.modelLoad] }, 4095, 31, [], by decide +kernel⟩,
    ⟨on [0x80], 31, by decide +kernel⟩,
    ⟨running, 31, 4095, by decide +kernel⟩,
    ⟨queuing 4094 (2 ^ 60) running, 31, 4095, _, by decide +kernel, by decide +kernel, by decide +kernel, rfl, by decide +kernel⟩,
    ⟨queuing 4094 0 (put [(Reg.SCH_CFG_QUANTUM, 1)] running), 31, 4095, _, by decide +kernel, by decide +kernel, by decide +kernel,
      rfl, by decide +kernel⟩,
    ⟨rdy.setTile 31 { draining := true }, 31, by decide +kernel⟩⟩

/-- The place of the image of stream 4,095 lies in local DRAM in every state. -/
theorem swap_near (v : State) : v.isNeighbour ((streaming 3).stmPtr 4095) = false := by
  have h : (streaming 3).stmPtr 4095 < 0x4000000000 := by decide +kernel
  simp [State.isNeighbour, State.space, h]

theorem test_witness_StreamAndFreeListCommandsComplete :
    (∃ (s : State) (req : Requester) (p k frame page : Nat), p < 8 ∧ k < 3 ∧ frame < 2 ^ 34 ∧ page < 2 ^ 20 ∧
      s.TakesWide req (Reg.KVP_FL_PUSH p k) (frame * 2 ^ 20 + page)) ∧
    (∃ (s : State) (req : Requester) (i v : Nat), i < 4096 ∧ s.Takes req (Reg.STM_CTRL i) (setBits (v % 2 ^ 32) 31 31 1) ∧
      s.stmStatus i = 0) ∧
    (∃ (s : State) (req : Requester) (i v : Nat), i < 4096 ∧ s.Takes req (Reg.STM_CTRL i) (setBits (v % 2 ^ 32) 31 31 0) ∧
      s.stmStatus i ≠ 0) ∧
    (∃ (s : State) (req : Requester) (i v w : Nat), i < 4096 ∧
      w = setBits (setBits (v % 2 ^ 32) 31 31 (s.getF (Reg.STM_CTRL_EN i))) 0 0 1 ∧ s.Takes req (Reg.STM_CTRL i) w ∧
      s.onF (Reg.STM_CTRL_EN i) = true ∧ s.stmStatus i ≠ 0) ∧
    (∃ (s : State) (req : Requester) (i : Nat), i < 4096 ∧ s.Takes req (Reg.STM_OP i) 1 ∧ s.stmW i = 0) ∧
    (∃ (s : State) (req : Requester) (i : Nat), i < 4096 ∧ s.Takes req (Reg.STM_OP i) 2 ∧ s.stmStatus i = 6) ∧
    (∃ (s : State) (i : Nat) (l : List Byte) (v : State), s.live = true ∧ i < 4096 ∧ s.stmStatus i = 3 ∧
      l = s.stmImage i (s.stmCopy (s.getF (Reg.STM_HOME_TILE i)) i (s.bankSel i)) ∧
      s.memOk (s.stmPart i) (s.stmPtr i) l.length true = true ∧
      v = s.readsFind ((s.stmPieces i (s.bankSel i)).map (fun p => (sramAddr (s.getF (Reg.STM_HOME_TILE i)) p.1, p.2))) ∧
      v.isNeighbour (s.stmPtr i) = false) ∧
    (∃ (s : State) (i : Nat) (l : List Byte), s.live = true ∧ i < 4096 ∧ s.stmStatus i = 5 ∧ (s.stream i).park = false ∧
      s.blockState 0x340 ≠ .stopping ∧
      l = s.fetch (s.stmPtr i) (s.imageBytes i) ∧ s.memOk (s.stmPart i) (s.stmPtr i) l.length false = true ∧
      s.imageGood i l = true) :=
  ⟨⟨rdy, .granite, 7, 2, 2 ^ 34 - 1, 2 ^ 20 - 1, by decide +kernel⟩,
    ⟨rdy, .granite, 4095, 0, by decide +kernel⟩,
    ⟨put [(Reg.STM_STAT_STATUS 4095, 1)] rdy, .granite, 4095, 0, by decide +kernel⟩,
    ⟨put [(Reg.STM_CTRL_EN 4095, 1), (Reg.STM_STAT_STATUS 4095, 1)] rdy, .granite, 4095, 0, _, by decide +kernel, rfl,
      by decide +kernel, by decide +kernel, by decide +kernel⟩,
    ⟨rdy, .granite, 4095, by decide +kernel⟩,
    ⟨put [(Reg.STM_STAT_STATUS 4095, 6)] rdy, .granite, 4095, by decide +kernel⟩,
    ⟨streaming 3, 4095, _, _, by decide +kernel, by decide +kernel, by decide +kernel, rfl, by decide +kernel, rfl,
      swap_near _⟩,
    ⟨imaged, 4095, _, by decide +kernel, by decide, by decide +kernel, by decide +kernel, by decide +kernel, rfl, by decide +kernel, imaged_good⟩⟩

theorem test_witness_TierCommandsComplete :
    (∃ (s : State) (req : Requester) (i : Nat), i < 65536 ∧ s.Takes req Reg.TIER_OBJ_APPLY i ∧ s.isRunning 0x330 = true ∧
      s.memOk (s.owner 0x330) (s.objAddr i) 16 false = true ∧ bit (leField (s.objRow i) 0 8) 63 = false) ∧
    (∃ (s : State) (req : Requester) (i : Nat), i < 65536 ∧ s.Takes req Reg.TIER_OBJ_APPLY i ∧ s.isRunning 0x330 = true ∧
      s.memOk (s.owner 0x330) (s.objAddr i) 16 false = true ∧ bit (leField (s.objRow i) 0 8) 63 = true ∧ objRowOk (s.objRow i) = false) ∧
    (∃ (s : State) (req : Requester) (i : Nat), i < 65536 ∧ s.Takes req Reg.TIER_OBJ_APPLY i ∧ s.isRunning 0x330 = true ∧
      s.memOk (s.owner 0x330) (s.objAddr i) 16 false = false) ∧
    (∃ (s : State) (x : Exchange) (n : Nat) (u : State), s.live = true ∧ s.tier.current = some (x, n) ∧
      u = s.exchangeTraffic x n ∧ n + 1 < 32 ∧ s.isRunning 0x330 = true) ∧
    (∃ (s : State) (x : Exchange) (n : Nat) (u : State), s.live = true ∧ s.tier.current = some (x, n) ∧
      u = s.exchangeTraffic x n ∧ n + 1 < 32 ∧ s.isRunning 0x330 = false) ∧
    (∃ (s : State) (x : Exchange) (n : Nat) (u : State), s.live = true ∧ s.tier.current = some (x, n) ∧
      u = s.exchangeTraffic x n ∧ 32 ≤ n + 1) ∧
    (∃ (s : State), s.live = true ∧ s.unified = true ∧ s.isRunning 0x330 = true) ∧
    (∃ (s : State) (req : Requester) (k : Nat) (l : List Byte) (u : State), k < 16 ∧ s.Takes req (Reg.TIER_WW_CTRL k) 1 ∧
      s.wwState k ≠ 1 ∧ s.isRunning 0x330 = true ∧ l = s.fetch (s.getF (Reg.TIER_WW_DESC_DESC k) * 64) 64 ∧
      u = ((s.setChan k { desc := l }).putF (Reg.TIER_WW_DONE_DONE k) 0).traffic weightPort (wwPart l) false
        (s.getF (Reg.TIER_WW_DESC_DESC k) * 64) 64 ∧
      s.memOk (wwPart l) (s.getF (Reg.TIER_WW_DESC_DESC k) * 64) 64 false = true ∧ u.wwCheck l (u.wwLayer l 0) 0 = none) ∧
    (∃ (s : State) (req : Requester) (k : Nat), k < 16 ∧ s.Takes req (Reg.TIER_WW_CTRL k) 2 ∧ s.wwState k = 1) ∧
    (∃ (s : State) (k : Nat) (e : List Byte), s.live = true ∧ k < 16 ∧ s.wwState k = 1 ∧ s.isRunning 0x330 = true ∧
      (s.chan k).loading = false ∧ (s.chan k).stopping = false ∧ e = s.wwLayer (s.chan k).desc (s.chan k).g ∧
      s.wwCheck (s.chan k).desc e (s.chan k).g = none ∧
      ((s.chan k).g < wwSlots (s.chan k).desc ∨ (s.chan k).g - wwSlots (s.chan k).desc + 1 ≤ s.syncValue (wwRelease (s.chan k).desc))) ∧
    (∃ (s : State) (k : Nat), s.live = true ∧ k < 16 ∧ s.wwState k = 1 ∧ (s.chan k).loading = true ∧
      s.linesBusy (layerSrc (s.chan k).layer) (layerLen (s.chan k).layer) = false) ∧
    (∃ (s : State) (write : Bool) (a n p port A q : Nat) (data d : List Byte) (crc : Nat), s.live = true ∧ 0 < n ∧
      A = a - a % 64 ∧ q = (if port = granitePort then 0 else p % 8) ∧ d = padTo (64 * n) data ∧
      s.rangeMapped A (64 * n) = true ∧ A + 64 * n ≤ 0x3F000000000 ∧ (port = granitePort ∨ s.memOk q A (64 * n) write = true) ∧ 2 ≤ crc) ∧
    (∃ (s : State) (write : Bool) (a n p port A q : Nat) (data d : List Byte) (crc : Nat), s.live = true ∧ 0 < n ∧
      A = a - a % 64 ∧ q = (if port = granitePort then 0 else p % 8) ∧ d = padTo (64 * n) data ∧
      s.rangeMapped A (64 * n) = true ∧ A + 64 * n ≤ 0x3F000000000 ∧ (port = granitePort ∨ s.memOk q A (64 * n) write = true) ∧ crc < 2 ∧
      s.isNeighbour A = true) ∧
    (∃ (s : State) (write : Bool) (a n p port A q : Nat) (data d : List Byte) (crc : Nat), s.live = true ∧ 0 < n ∧
      A = a - a % 64 ∧ q = (if port = granitePort then 0 else p % 8) ∧ d = padTo (64 * n) data ∧
      s.rangeMapped A (64 * n) = true ∧ A + 64 * n ≤ 0x3F000000000 ∧ (port = granitePort ∨ s.memOk q A (64 * n) write = true) ∧ crc < 2 ∧
      s.isNeighbour A = false ∧ s.portOf A = none) ∧
    (∃ (s : State) (write : Bool) (a n p port A q : Nat) (data d : List Byte) (crc : Nat), s.live = true ∧ 0 < n ∧
      A = a - a % 64 ∧ q = (if port = granitePort then 0 else p % 8) ∧ d = padTo (64 * n) data ∧
      s.rangeMapped A (64 * n) = true ∧ A + 64 * n ≤ 0x3F000000000 ∧ (port = granitePort ∨ s.memOk q A (64 * n) write = true) ∧ crc < 2 ∧
      s.isNeighbour A = false ∧ s.portOf A ≠ none) ∧
    (∃ (s : State) (a n : Nat), s.live = true ∧ 0 < n ∧ s.rangeMapped (a - a % 64) (64 * n) = false) ∧
    (∃ (s : State) (port : Nat), s.live = true ∧ port < 12) ∧
    (∃ (s : State) (m : Nat), s.live = true ∧ m < 4 ∧ m ∈ s.tier.d2dLatched ∧ m ∉ s.tier.d2dRemoved) ∧
    (∃ (s : State) (r : Resource) (key : MemReq → Nat × Nat) (l : List MemReq) (x : MemReq), s.winner r key l = some x) ∧
    (∃ (r q : Resource), q.number ≠ r.number) :=
  ⟨⟨open16 (on [0x330]), .granite, 65535, by decide +kernel⟩,
    ⟨rowObj, .granite, 65535, by decide +kernel⟩,
    ⟨on [0x330], .granite, 65535, by decide +kernel⟩,
    ⟨{ on [0x330] with tier := { rdy.tier with current := some (⟨0, 1, 0, 0⟩, 30) } }, ⟨0, 1, 0, 0⟩, 30, _, by decide +kernel, rfl,
      rfl, by decide, by decide +kernel⟩,
    ⟨{ rdy with tier := { rdy.tier with current := some (⟨0, 1, 0, 0⟩, 30) } }, ⟨0, 1, 0, 0⟩, 30, _, by decide +kernel, rfl, rfl,
      by decide, by decide +kernel⟩,
    ⟨{ rdy with tier := { rdy.tier with current := some (⟨0, 1, 0, 0⟩, 31) } }, ⟨0, 1, 0, 0⟩, 31, _, by decide +kernel, rfl, rfl,
      by decide⟩,
    ⟨put [(Reg.TIER_CFG_MODE, 1)] (on [0x330]), by decide +kernel⟩,
    ⟨channel 0, .granite, 15, _, _, by decide, by decide +kernel, by decide +kernel, by decide +kernel, rfl, rfl, by decide +kernel,
      by decide +kernel⟩,
    ⟨put [(Reg.TIER_WW_STAT_STATE 15, 1)] rdy, .granite, 15, by decide +kernel⟩,
    ⟨channel 1, 15, _, by decide +kernel, by decide, by decide +kernel, by decide +kernel, by decide +kernel, by decide +kernel, rfl,
      by decide +kernel, by decide +kernel⟩,
    ⟨(put [(Reg.TIER_WW_STAT_STATE 15, 1)] (on [0x330])).setChan 15 { loading := true }, 15, by decide +kernel⟩,
    ⟨open16 rdy, false, 0x3F, 1, 0, 0, _, _, [], _, 2, by decide +kernel, by decide, rfl, rfl, rfl, by decide +kernel, by decide +kernel,
      by decide +kernel, by decide⟩,
    ⟨neighbouring, false, 0x14000000000, 1, 0, 45, _, _, [], _, 0, by decide +kernel, by decide, rfl, rfl, rfl, by decide +kernel, by decide +kernel,
      by decide +kernel, by decide, by decide +kernel⟩,
    ⟨rdy, false, 0x30000000000, 1, 0, 45, _, _, [], _, 1, by decide +kernel, by decide, rfl, rfl, rfl, by decide +kernel, by decide +kernel,
      by decide +kernel, by decide, by decide +kernel, by decide +kernel⟩,
    ⟨open16 rdy, false, 64, 1, 0, 0, _, _, [], _, 0, by decide +kernel, by decide, rfl, rfl, rfl, by decide +kernel, by decide +kernel,
      by decide +kernel, by decide, by decide +kernel, by decide +kernel⟩,
    ⟨rdy, 2 ^ 41, 1, by decide +kernel⟩,
    ⟨rdy, 11, by decide +kernel⟩,
    ⟨rdy, 3, by decide +kernel⟩,
    ⟨rdy, .memPort 11, fun m => (m.part, m.port), [⟨false, 0, 1, 7, [], 45, none, [], false⟩], _, rfl⟩,
    ⟨.sync 16383, .memPort 0, by decide⟩⟩

/-- R14: from tile 1 to tile 26 a flit passes tile 2, then tiles 10 and 18. -/
theorem test_route : meshRoute 1 26 = [1, 2, 10, 18, 26] := by decide

/-- The order of R195: with the pointer at 5, port 7 goes before port 2 of the same partition, and a request of P0 at
port 2 before both. -/
theorem test_arbitration :
    goesBefore 5 (1, 7) (1, 2) = true ∧ goesBefore 5 (1, 2) (1, 7) = false ∧ goesBefore 5 (0, 2) (1, 7) = true := by decide

theorem test_witness_ApplyMovesNoPageByItself :
    ∃ (s : State) (i : Nat), i < 65536 ∧ s.isRunning 0x330 = true :=
  ⟨on [0x330], 65535, by decide +kernel⟩

theorem test_witness_IngressCommandsComplete :
    (∃ (s : State) (i : Nat), s.live = true ∧ i < 64 ∧ s.ingRuns i = true ∧ s.memSourced i = false ∧ s.edgeKind i = false ∧
      s.ingKind i ≠ 0) ∧
    (∃ (s : State) (i : Nat), s.live = true ∧ i < 64 ∧ s.ingRuns i = true ∧ s.memSourced i = false ∧ s.edgeKind i = false ∧
      (s.ingStream i).begun = []) ∧
    (∃ (s : State) (i : Nat), s.live = true ∧ i < 64 ∧ s.ingRuns i = true ∧ s.memSourced i = false ∧ s.ingKind i = 0 ∧
      (s.ingStream i).begun ≠ []) ∧
    (∃ (s : State) (i : Nat), s.live = true ∧ s.edgeKind i = true) ∧
    (∃ (s : State) (i : Nat), s.live = true ∧ i < 64 ∧ s.memSourced i = false ∧ s.ingKind i ≠ 2 ∧ s.ingRuns i = true) ∧
    (∃ (s : State) (i : Nat), s.live = true ∧ i < 64 ∧ s.memSourced i = false ∧ s.ingKind i = 2) ∧
    (∃ (s : State) (i sid : Nat) (u : State), s.live = true ∧ i < 64 ∧ s.ingRuns i = true ∧ s.inTurn i sid = true ∧
      u = s.setIngStream i { s.ingStream i with writing := (s.ingStream i).writing.filter (fun n => n != sid) }) ∧
    (∃ (s : State) (req : Requester) (i v : Nat) (u : State), i < 64 ∧
      s.Takes req (Reg.ING_S_CTRL i) (setBits (v % 2 ^ 32) 31 31 1) ∧ s.getF (Reg.ING_S_STAT_STATE i) = 0 ∧
      u = s.applyWord (Reg.ING_S_CTRL i) (setBits (v % 2 ^ 32) 31 31 1) ∧ u.ingRefused i = true) ∧
    (∃ (s : State) (req : Requester) (i v : Nat), i < 64 ∧ s.Takes req (Reg.ING_S_CTRL i) (setBits (v % 2 ^ 32) 31 31 1) ∧
      s.getF (Reg.ING_S_STAT_STATE i) = 0 ∧ s.isRunning 0x380 = true ∧
      (s.applyWord (Reg.ING_S_CTRL i) (setBits (v % 2 ^ 32) 31 31 1)).ingRefused i = false) ∧
    (∃ (s : State) (req : Requester) (i v : Nat), i < 64 ∧ s.Takes req (Reg.ING_S_CTRL i) (setBits (v % 2 ^ 32) 31 31 0) ∧
      s.getF (Reg.ING_S_STAT_STATE i) ≠ 0) ∧
    (∃ (s : State) (i : Nat), s.live = true ∧ i < 64 ∧ s.ingRuns i = true ∧ s.onF (Reg.ING_S_TRIG_TIMEOUT i) = true ∧
      s.onF (Reg.ING_S_STAT_NOSIGNAL i) = false) ∧
    (∃ (s : State) (i : Nat), s.live = true ∧ i < 64 ∧ s.ingRuns i = true ∧ s.memSourced i = true ∧
      (s.ingStream i).taken < (s.syncValue (s.getF (Reg.ING_S_OBJ2_IN_OBJ i)) + 2 ^ 64 - (s.ingStream i).in0) % 2 ^ 64) ∧
    (∃ (s : State) (req : Requester) (k : Nat), k < 8 ∧ s.Takes req (Reg.PK_CTRL k) 1) ∧
    (∃ (s : State) (req : Requester) (k : Nat), k < 8 ∧ s.Takes req (Reg.PK_CTRL k) 2 ∧ s.getF (Reg.PK_STAT_STATE k) = 1 ∧
      (s.pack k).list = none) ∧
    (∃ (s : State) (k : Nat), s.live = true ∧ k < 8 ∧ s.isRunning 0x380 = true ∧ s.getF (Reg.PK_STAT_STATE k) = 1 ∧
      (s.pack k).list = none ∧
      (s.pack k).run < (s.syncValue (s.getF (Reg.PK_OBJ_TRIG_OBJ k)) + 2 ^ 64 - (s.pack k).trig0) % 2 ^ 64) ∧
    (∃ (s : State) (k : Nat) (l : List Byte) (u : State), s.live = true ∧ k < 8 ∧ s.isRunning 0x380 = true ∧
      (s.pack k).list = some l ∧
      u = (s.writePackRows k 0 (s.packPlan k l)).setPack k { s.pack k with list := none, run := (s.pack k).run + 1 }) :=
  ⟨⟨put [(Reg.ING_S_STAT_STATE 63, 1), (Reg.ING_S_CTRL_KIND 63, 4)] (on [0x380]), 63, by decide +kernel⟩,
    ⟨put [(Reg.ING_S_STAT_STATE 63, 1), (Reg.ING_S_CTRL_KIND 63, 0)] (on [0x380]), 63, by decide +kernel⟩,
    ⟨(put [(Reg.ING_S_STAT_STATE 63, 1), (Reg.ING_S_CTRL_KIND 63, 0)] (on [0x380])).setIngStream 63 { begun := [⟨0, 0, 0, 0⟩] },
      63, by decide +kernel⟩,
    ⟨put [(Reg.ING_S_CTRL_KIND 63, 2)] rdy, 63, by decide +kernel⟩,
    ⟨put [(Reg.ING_S_STAT_STATE 63, 1), (Reg.ING_S_CTRL_KIND 63, 0)] (on [0x380]), 63, by decide +kernel⟩,
    ⟨put [(Reg.ING_S_STAT_STATE 63, 1), (Reg.ING_S_CTRL_KIND 63, 2)] (on [0x380]), 63, by decide +kernel⟩,
    ⟨(put [(Reg.ING_S_STAT_STATE 63, 1), (Reg.ING_S_CTRL_KIND 63, 0)] (on [0x380])).setIngStream 63 { writing := [9] }, 63,
      9, _, by decide +kernel, by decide +kernel, by decide +kernel, by decide +kernel, rfl⟩,
    ⟨on [0x380], .granite, 63, 0, _, by decide +kernel, by decide +kernel, by decide +kernel, rfl, by decide +kernel⟩,
    ⟨put [(Reg.ING_S_SLOT_LOG2N 63, 1)] (on [0x380]), .granite, 63, 2 * 2 ^ 24, by decide +kernel⟩,
    ⟨put [(Reg.ING_S_STAT_STATE 63, 1), (Reg.ING_S_CTRL_KIND 63, 2)] (on [0x380]), .granite, 63, 0x27F0000, by decide +kernel⟩,
    ⟨put [(Reg.ING_S_TRIG_TIMEOUT 63, 1)] (put [(Reg.ING_S_STAT_STATE 63, 1), (Reg.ING_S_CTRL_KIND 63, 0)] (on [0x380])), 63,
      by decide +kernel⟩,
    ⟨object 9 1 (put [(Reg.ING_S_OBJ2_IN_OBJ 63, 9)] (put [(Reg.ING_S_STAT_STATE 63, 1), (Reg.ING_S_CTRL_KIND 63,
      8)] (on [0x380]))), 63, by decide +kernel⟩,
    ⟨rdy, .granite, 7, by decide +kernel⟩,
    ⟨put [(Reg.PK_STAT_STATE 7, 1)] rdy, .granite, 7, by decide +kernel⟩,
    ⟨object 9 1 (put [(Reg.PK_STAT_STATE 7, 1), (Reg.PK_OBJ_TRIG_OBJ 7, 9)] (on [0x380])), 7, by decide +kernel⟩,
    ⟨(on [0x380]).setPack 7 { list := some [] }, 7, [], _, by decide +kernel, by decide +kernel, by decide +kernel, rfl, rfl⟩⟩

theorem test_witness_AgateCommandsComplete :
    (∃ (s : State) (r : Nat), s.live = true ∧ r < 16 ∧ s.isRunning 0x3C0 = true ∧ s.onF (Reg.AGT_R_CFG_EN r) = true ∧
      (s.agtRing r).put0 + (s.agtRing r).taken < s.syncValue (s.getF (Reg.AGT_R_CFG_PUT_OBJ r))) ∧
    (∃ (s : State), s.live = true ∧ s.agateWorks = true ∧ s.agt.opened = true ∧ s.agt.cut = false ∧
      s.agt.lateDone = true) ∧
    (∃ (s : State), s.live = true ∧ s.agateWorks = true ∧ s.agt.opened = true ∧ s.agt.cut = false ∧
      s.agt.lateDone = false) ∧
    (∃ (s : State), s.live = true ∧ s.agateWorks = true ∧ s.agt.opened = true ∧ s.agt.cut = false) ∧
    (∃ (s : State) (n c : Nat) (r : List (Nat × Nat)), s.live = true ∧ s.agt.cuts = (n, c) :: r ∧ s.agateWorks = true ∧
      s.agt.cut = true ∧ s.agt.mark ≠ some n) ∧
    (∃ (s : State) (req : Requester) (bank : Nat), bank < 2 ∧ s.Takes req Reg.AGT_XF_CTRL (2 + bank)) ∧
    (∃ (s : State) (req : Requester) (r v : Nat) (u : State), r < 16 ∧
      s.Takes req (Reg.AGT_R_CFG r) (setBits (v % 2 ^ 32) 31 31 1) ∧ s.onF (Reg.AGT_R_CFG_EN r) = false ∧
      u = s.applyWord (Reg.AGT_R_CFG r) (setBits (v % 2 ^ 32) 31 31 1) ∧ u.onF (Reg.AGT_R_CFG_EN r) = true ∧
      u.ringObjectsOk r = false) ∧
    (∃ (s : State) (req : Requester) (r v : Nat) (u : State), r < 16 ∧
      s.Takes req (Reg.AGT_R_CFG r) (setBits (v % 2 ^ 32) 31 31 1) ∧ s.onF (Reg.AGT_R_CFG_EN r) = false ∧
      u = s.applyWord (Reg.AGT_R_CFG r) (setBits (v % 2 ^ 32) 31 31 1) ∧ u.onF (Reg.AGT_R_CFG_EN r) = true ∧
      u.ringObjectsOk r = true) ∧
    (∃ (s : State) (req : Requester) (i v : Nat), i < 64 ∧ v < 2 ^ 32 ∧ s.Takes req (Reg.AGT_S_CFG i) v) :=
  ⟨⟨object 9 1 (put [(Reg.AGT_R_CFG_EN 15, 1), (Reg.AGT_R_CFG_PUT_OBJ 15, 9)] (on [0x3C0])), 15, by decide +kernel⟩,
    ⟨{ on [0x3C0] with agt := { rdy.agt with opened := true, lateDone := true } }, by decide +kernel⟩,
    ⟨{ on [0x3C0] with agt := { rdy.agt with opened := true } }, by decide +kernel⟩,
    ⟨{ on [0x3C0] with agt := { rdy.agt with opened := true } }, by decide +kernel⟩,
    ⟨{ on [0x3C0] with agt := { rdy.agt with cut := true, cuts := [(0, 5)] } }, 0, 5, [], by decide +kernel⟩,
    ⟨rdy, .granite, 1, by decide +kernel⟩,
    ⟨rdy, .granite, 15, 0, _, by decide +kernel, by decide +kernel, by decide +kernel, rfl, by decide +kernel,
      by decide +kernel⟩,
    ⟨object 9 0 (put [(Reg.AGT_R_OBJ_TAKE_OBJ 15, 9)] (on [0x3C0])), .granite, 15, 9, _, by decide +kernel,
      by decide +kernel, by decide +kernel, rfl, by decide +kernel, by decide +kernel⟩,
    ⟨rdy, .granite, 63, 2 ^ 32 - 1, by decide +kernel⟩⟩

theorem test_witness_PumiceCommandsComplete :
    (∃ (s : State) (k : Nat) (packet : List Byte), s.live = true ∧ s.isRunning 0x400 = true ∧ k ∈ s.scanners ∧
      packetOk packet = false) ∧
    (∃ (s : State) (k : Nat) (packet : List Byte), s.live = true ∧ s.isRunning 0x400 = true ∧ k ∈ s.scanners ∧
      packetOk packet = true) ∧
    (∃ (s : State), s.live = true ∧ s.isRunning 0x400 = true) ∧
    (∃ (s : State) (f : PumFrame), s.live = true ∧ s.nextBuild = some f ∧ s.egoHeld f = true) ∧
    (∃ (s : State) (f : PumFrame), s.live = true ∧ s.nextBuild = some f ∧ s.egoHeld f = false) ∧
    (∃ (s : State) (g : PumBuild), s.live = true ∧ s.isRunning 0x400 = true ∧ s.pum.building = some g) ∧
    (∃ (s : State) (r : Nat), s.live = true ∧ r < 4 ∧ s.isRunning 0x400 = true ∧ s.onF (Reg.PUM_J_CFG_EN r) = true ∧
      (s.jobRing r).put0 + (s.jobRing r).taken < s.syncValue (s.getF (Reg.PUM_J_CFG_PUT_OBJ r))) ∧
    (∃ (s : State) (i : Nat) (j : PumJob) (b : PumBuilt), s.live = true ∧ s.jobRunError j = 0 ∧ s.builtOf j = some b ∧
      s.jobReady i 1 = some j) ∧
    (∃ (s : State) (i : Nat) (j : PumJob) (b : PumBuilt), s.live = true ∧ s.jobRunError j = 0 ∧ s.builtOf j = some b ∧
      s.jobReady i 2 = some j) ∧
    (∃ (s : State) (i : Nat) (j : PumJob) (b : PumBuilt), s.live = true ∧ s.jobRunError j = 0 ∧ s.builtOf j = some b ∧
      s.jobReady i 3 = some j) ∧
    (∃ (s : State) (i : Nat) (j : PumJob), s.live = true ∧ s.pum.jobs[i]? = some j ∧ j.ran = true ∧ j.due = none) ∧
    (∃ (s : State) (i : Nat), s.live = true ∧ s.pum.jobs.findIdx? (fun j => j.due.any (fun t => !older s.tb3 t)) = some i) ∧
    (∃ (s : State) (req : Requester) (r v : Nat) (u : State), r < 4 ∧
      s.Takes req (Reg.PUM_J_CFG r) (setBits (v % 2 ^ 32) 31 31 1) ∧ s.onF (Reg.PUM_J_CFG_EN r) = false ∧
      u = s.applyWord (Reg.PUM_J_CFG r) (setBits (v % 2 ^ 32) 31 31 1) ∧ u.onF (Reg.PUM_J_CFG_EN r) = true) :=
  ⟨⟨put [(Reg.PUM_SC_CFG_EN 15, 1)] (on [0x400]), 15, [], by decide +kernel⟩,
    ⟨put [(Reg.PUM_SC_CFG_EN 15, 1)] (on [0x400]), 15, packet, by decide +kernel⟩,
    ⟨on [0x400], by decide +kernel⟩,
    ⟨{ on [0x400] with pum := { rdy.pum with frames := [⟨1, 0, false, []⟩], egos := [(0, [])] } }, ⟨1, 0, false, []⟩,
      by decide +kernel⟩,
    ⟨{ on [0x400] with pum := { rdy.pum with frames := [⟨1, 0, false, []⟩] } }, ⟨1, 0, false, []⟩, by decide +kernel⟩,
    ⟨{ on [0x400] with pum := { rdy.pum with building := some ⟨⟨1, 0, false, []⟩, false, [], [], []⟩ } }, ⟨⟨1, 0, false, []⟩,
      false, [], [], []⟩, by decide +kernel⟩,
    ⟨object 9 1 (put [(Reg.PUM_J_CFG_EN 3, 1), (Reg.PUM_J_CFG_PUT_OBJ 3, 9)] (on [0x400])), 3, by decide +kernel⟩,
    ⟨jobs (job 1), 0, (job 1), frame0, by decide +kernel⟩,
    ⟨jobs (job 2), 0, (job 2), frame0, by decide +kernel⟩,
    ⟨jobs (job 3), 0, (job 3), frame0, by decide +kernel⟩,
    ⟨{ on [0x400] with pum := { rdy.pum with jobs := [{ ring := 3, desc := [], ran := true }] } }, 0,
      { ring := 3, desc := [], ran := true }, by decide +kernel⟩,
    ⟨{ on [0x400] with pum := { rdy.pum with jobs := [{ ring := 3, desc := [], ran := true, due := some 0 }] } }, 0,
      by decide +kernel⟩,
    ⟨rdy, .granite, 3, 0, _, by decide +kernel, by decide +kernel, by decide +kernel, rfl, by decide +kernel⟩⟩

theorem test_witness_SlateAndFlintCommandsComplete :
    (∃ (s : State), s.live = true ∧ s.isRunning 0x4C0 = true) ∧
    (∃ (s : State) (req : Requester) (bank : Nat), bank < 2 ∧ s.Takes req Reg.SLT_KO_CTRL (2 + bank)) ∧
    (∃ (s : State), s.live = true ∧ s.slt.work.isSome = true ∧ s.slt.left ≠ []) ∧
    (∃ (s : State), s.live = true ∧ s.isRunning 0x4C0 = true ∧ s.slt.work.isSome = true) ∧
    (∃ (s : State), s.live = true ∧ s.flintWorks = true) ∧
    (∃ (s : State), s.live = true ∧ s.flintWorks = true ∧ s.flt.started = true ∧ s.flt.before = true ∧
      s.flt.grace = false) ∧
    (∃ (s : State), s.live = true ∧ s.flintWorks = true ∧ s.flt.started = true ∧ s.flt.before = true ∧
      s.flt.grace = false) ∧
    (∃ (s : State), s.live = true ∧ s.flintWorks = true ∧ s.flt.started = true ∧ s.flt.before = true ∧
      s.flt.grace = false ∧ s.flt.plan = none) ∧
    (∃ (s : State), s.live = true ∧ s.flintWorks = true ∧ s.flt.started = true ∧ s.flt.before = true ∧
      s.flt.handedNow = false ∧ (s.flt.grace = true ∧ s.leasePlan.isSome = true ∨ s.flt.grace = false ∧
      s.flt.plan.isSome = true)) ∧
    (∃ (s : State) (w : List Nat) (winner : Nat), s.live = true ∧ s.flintWorks = true ∧ s.flt.started = true ∧
      s.flt.before = true ∧ s.flt.handedNow = false ∧ s.flt.grace = false ∧ s.flt.plan = some (w, winner) ∧
      s.flt.noPlan = false ∧ s.wdgRuns 2 = false) ∧
    (∃ (s : State), s.live = true ∧ s.flintWorks = true ∧ s.flt.started = true) ∧
    (∃ (s : State), s.live = true ∧ s.flintWorks = true ∧ s.flt.started = true) ∧
    (∃ (s : State) (req : Requester) (bank : Nat), bank < 2 ∧ s.Takes req Reg.FLT_SWAP (2 + bank)) ∧
    (∃ (s : State) (req : Requester) (bank : Nat), bank < 2 ∧ s.Takes req Reg.FLT_SWAP (8 + 4 * bank)) ∧
    (∃ (s : State) (req : Requester), s.Takes req Reg.FLT_CTRL 1 ∧ s.onF Reg.DEV_MODE_HOST_LOST = false) :=
  ⟨⟨on [0x4C0], by decide +kernel⟩,
    ⟨rdy, .granite, 1, by decide +kernel⟩,
    ⟨{ on [0x4C0] with slt := { rdy.slt with work := some [], left := [4095] } }, by decide +kernel⟩,
    ⟨{ on [0x4C0] with slt := { rdy.slt with work := some [] } }, by decide +kernel⟩,
    ⟨on [0x480], by decide +kernel⟩,
    ⟨{ on [0x480] with flt := { rdy.flt with started := true, before := true } }, by decide +kernel⟩,
    ⟨{ on [0x480] with flt := { rdy.flt with started := true, before := true } }, by decide +kernel⟩,
    ⟨{ on [0x480] with flt := { rdy.flt with started := true, before := true } }, by decide +kernel⟩,
    ⟨{ on [0x480] with flt := { rdy.flt with started := true, before := true, plan := some ([], 0) } }, by decide +kernel⟩,
    ⟨put [(Reg.WDG_CFG_EN 2,
      0)] { on [0x480] with flt := { rdy.flt with started := true, before := true, plan := some ([], 0) } }, [], 0,
      by decide +kernel⟩,
    ⟨{ on [0x480] with flt := { rdy.flt with started := true } }, by decide +kernel⟩,
    ⟨{ on [0x480] with flt := { rdy.flt with started := true } }, by decide +kernel⟩,
    ⟨rdy, .granite, 1, by decide +kernel⟩,
    ⟨rdy, .granite, 1, by decide +kernel⟩,
    ⟨rdy, .granite, by decide +kernel⟩⟩

theorem test_witness_GarnetCommandsComplete :
    (∃ (s : State), s.live = true ∧ s.boundaryDue = true) ∧
    (∃ (s : State) (x : Traj), s.live = true ∧ s.boundaryDue = true ∧ s.gnt.boundary = 0 ∧ s.gntActive = true ∧
      s.gnt.next = some x ∧ s.wdgRuns 5 = false) ∧
    (∃ (s : State), s.live = true ∧ s.boundaryDue = true ∧ s.gnt.boundary ≠ 0) ∧
    (∃ (s : State) (i : Nat), s.live = true ∧ i < 64 ∧ s.gntActive = true ∧ s.loopOn i = true ∧ s.sampleDue i = true) ∧
    (∃ (s : State) (a : Nat), s.live = true ∧ a < 64 ∧ s.gntActive = true ∧ s.outputDue a = true) ∧
    (∃ (s : State) (f : Nat), s.live = true ∧ f < 32 ∧ s.gntActive = true ∧ s.onF (Reg.GNT_F_CFG_EN f) = true ∧ s.emitDue f = true) ∧
    (∃ (s : State) (req : Requester) (i v : Nat) (w : Nat), i < 64 ∧ w = setBits (v % 2 ^ 32) 31 31 1 ∧
      s.Takes req (Reg.GNT_L_CFG i) w ∧ s.loopOn i = false) ∧
    (∃ (s : State) (req : Requester) (i v : Nat) (w : Nat), i < 64 ∧ w = setBits (v % 2 ^ 32) 31 31 0 ∧
      s.Takes req (Reg.GNT_L_CFG i) w) ∧
    (∃ (s : State) (req : Requester) (i v : Nat), i < 64 ∧ s.Takes req (Reg.GNT_L_CFG i) (setBits (v % 2 ^ 32) 31 31 0) ∧
      s.loopOn i = true ∧ s.gntActive = false) ∧
    (∃ (s : State) (req : Requester) (a : Nat), a < 64 ∧
      s.Takes req (Reg.GNT_A_CTRL a) (2 ^ 31 + s.getF (Reg.GNT_A_CTRL_MANUAL a)) ∧ s.actState a = 4 ∧
      s.isRunning 0x500 = true ∧ s.inSafe = false) ∧
    (∃ (s : State) (req : Requester) (a : Nat) (m : Bool), a < 64 ∧ s.Takes req (Reg.GNT_A_CTRL a) (b2n m)) :=
  ⟨⟨on [0x500], by decide +kernel⟩,
    ⟨put [(Reg.WDG_CFG_EN 5, 0)] { on [0x500] with gnt := { rdy.gnt with next := some ⟨0, 0, []⟩ } }, ⟨0, 0, []⟩,
      by decide +kernel⟩,
    ⟨{ on [0x500] with gnt := { rdy.gnt with boundary := 1 }, qtz := { rdy.qtz with bases := [(4, { count := 62500 })] } },
      by decide +kernel⟩,
    ⟨put [(Reg.GNT_L_CFG_EN 63, 1)] (on [0x500]), 63, by decide +kernel⟩,
    ⟨on [0x500], 63, by decide +kernel⟩,
    ⟨put [(Reg.GNT_F_CFG_EN 31, 1)] (on [0x500]), 31, by decide +kernel⟩,
    ⟨rdy, .granite, 63, 0, _, by decide +kernel, rfl, by decide +kernel, by decide +kernel⟩,
    ⟨rdy, .granite, 63, 0, _, by decide +kernel, rfl, by decide +kernel⟩,
    ⟨put [(Reg.GNT_L_CFG_EN 63, 1)] rdy, .granite, 63, 2155872256, by decide +kernel⟩,
    ⟨put [(Reg.GNT_A_STAT_STATE 63, 4)] (on [0x500]), .granite, 63, by decide +kernel⟩,
    ⟨rdy, .granite, 63, true, by decide +kernel⟩⟩

theorem test_witness_OutputsAreHeldAndRampsEnd :
    ∃ (s : State) (a : Nat) (u : Sys2Proof.Machine.Num) (sel : Option Nat), a < 64 ∧
      s.formOutput a ((s.actLoops a).filter (fun m => (s.gntLoop m).done)) (periodF32 (s.gntAct a).plog2) = some (u, sel) ∧
      s.actState a = 3 :=
  ⟨put [(Reg.GNT_A_STAT_STATE 63, 3)] (on [0x500]), 63, rampStep (f32 0) (f32 0) (f32 0) (periodF32 0), none, by decide +kernel⟩

theorem test_witness_EthernetAndSerialCommandsComplete :
    (∃ (s : State) (p : Nat) (frame : List Byte), s.live = true ∧ p < 9 ∧ s.portUp p = true ∧ frame.length ≤ 2048) ∧
    (∃ (s : State) (p k : Nat) (f : List Byte) (l : List (List Byte)), s.live = true ∧ p < 9 ∧ k < 8 ∧ s.portUp p = true ∧
      s.gateOpen p k = true ∧ (s.ethPort p).queue k = f :: l ∧ s.oneStep p f = none) ∧
    (∃ (s : State) (p k : Nat) (f : List Byte) (l : List (List Byte)) (d : Nat), s.live = true ∧ p < 9 ∧ k < 8 ∧ s.portUp p = true ∧
      s.gateOpen p k = true ∧ (s.ethPort p).queue k = f :: l ∧ s.oneStep p f = some d ∧
      (s.epoch d).tag = s.getF (Reg.QTZ_TB_GEN_GEN d)) ∧
    (∃ (s : State) (p k : Nat) (f : List Byte) (l : List (List Byte)) (d : Nat), s.live = true ∧ p < 9 ∧ k < 8 ∧ s.portUp p = true ∧
      s.gateOpen p k = true ∧ (s.ethPort p).queue k = f :: l ∧ s.oneStep p f = some d ∧
      (s.epoch d).tag ≠ s.getF (Reg.QTZ_TB_GEN_GEN d)) ∧
    (∃ (s : State) (p : Nat), s.live = true ∧ p < 9 ∧ s.isRunning 0x580 = true) ∧
    (∃ (s : State) (req : Requester) (p bank : Nat), p < 9 ∧ bank < 2 ∧ s.Takes req (Reg.ETH_P_GCL p) (2 + bank)) ∧
    (∃ (s : State) (p : Nat), s.live = true ∧ p < 8 ∧ s.onF (Reg.ETH_P_STAT_UP p) = true) ∧
    (∃ (s : State) (p : Nat), s.live = true ∧ p < 8 ∧ s.isRunning 0x580 = true ∧ s.onF (Reg.ETH_P_CFG_MODE p) = true) ∧
    (∃ (s : State) (r : Nat), s.live = true ∧ r < 64) ∧
    (∃ (s : State) (req : Requester) (k b : Nat), k < 2 ∧ b < 256 ∧ s.Takes req (Reg.UART_TX k) b) ∧
    (∃ (s : State) (k : Nat) (b : Nat) (l : List Nat), s.live = true ∧ k < 2 ∧ s.isRunning 0x5F0 = true ∧
      Sparse.get (fun _ => []) s.iox.uart k = b :: l) ∧
    (∃ (s : State) (k : Nat), s.live = true ∧ k < 8) ∧
    (∃ (s : State), s.pins.powered = true) ∧
    (∃ (s : State), s.live = true ∧ s.inSafe = true ∧ s.frame.sent54 = false) :=
  ⟨⟨on [0x580], 8, [], by decide +kernel⟩,
    ⟨queued, 8, 7, [], [], by decide +kernel⟩,
    ⟨syncing, 7, 7, syncFrame, [], 0, by decide +kernel⟩,
    ⟨put [(Reg.QTZ_TB_GEN_GEN 0, 1)] syncing, 7, 7, syncFrame, [], 0, by decide +kernel⟩,
    ⟨on [0x580], 8, by decide +kernel⟩,
    ⟨rdy, .granite, 8, 1, by decide +kernel⟩,
    ⟨put [(Reg.ETH_P_STAT_UP 7, 1)] rdy, 7, by decide +kernel⟩,
    ⟨put [(Reg.ETH_P_CFG_MODE 7, 1)] (on [0x580]), 7, by decide +kernel⟩,
    ⟨rdy, 63, by decide +kernel⟩,
    ⟨rdy, .granite, 1, 255, by decide +kernel⟩,
    ⟨{ on [0x5F0] with iox := { rdy.iox with uart := [(1, [255])] } }, 1, 255, [], by decide +kernel⟩,
    ⟨rdy, 7, by decide +kernel⟩,
    ⟨rdy, by decide +kernel⟩,
    ⟨inMode .safe, by decide +kernel⟩⟩

/-- The example of R483: a Sync that departs at TB0 = 3,900,000,000 ns carries 1,700,000,004 s and 23,456,789 ns. -/
theorem test_one_step_stamp :
    ({ rdy with qtz := { rdy.qtz with
      bases := [(0, { count := 3900000000 })], epochs := [(0, ⟨1700000000, 123456789, 0x1A2⟩)] } }).ptpStamp 0 =
      beBytes 6 1700000004 ++ beBytes 4 23456789 := by decide +kernel

theorem test_witness_CanPcieAndSecurityCommandsComplete :
    (∃ (s : State) (k : Nat) (f : CanFrame), s.live = true ∧ k < 6 ∧ s.canRuns k = true ∧ (s.canCtl k).busOff = false ∧
      f.fmt ≤ s.getF (Reg.CAN_CFG_MODE k) ∧ s.canStreams k f ≠ []) ∧
    (∃ (s : State) (k : Nat) (f : CanFrame), s.live = true ∧ k < 6 ∧ s.canRuns k = true ∧ (s.canCtl k).busOff = false ∧
      f.fmt ≤ s.getF (Reg.CAN_CFG_MODE k) ∧ s.canStreams k f = []) ∧
    (∃ (s : State) (k : Nat) (x : CanTx), s.live = true ∧ k < 6 ∧ s.canRuns k = true ∧ (s.canCtl k).busOff = false ∧
      canFirst (s.canCtl k).pending = some x) ∧
    (∃ (s : State) (k : Nat), s.live = true ∧ k < 6 ∧ s.canRuns k = true ∧ (s.canCtl k).busOff = false) ∧
    (∃ (s : State) (k : Nat), s.live = true ∧ k < 6 ∧ (s.canCtl k).busOff = true ∧ (s.canCtl k).recovering = true) ∧
    (∃ (s : State) (req : Requester) (k : Nat), k < 6 ∧ s.Takes req (Reg.CAN_CTRL k) 1 ∧ (s.canCtl k).busOff = true) ∧
    (∃ (s : State) (req : Requester) (k v w : Nat), k < 6 ∧ w = setBits (v % 2 ^ 32) 31 31 1 ∧
      s.Takes req (Reg.CAN_SW_TX k) w) ∧
    (∃ (s : State) (k : Nat), s.live = true ∧ k < 6 ∧ s.canRuns k = true) ∧
    (∃ (s : State) (up : Bool), s.live = true ∧ (up = false ∨ s.isRunning 0x5C0 = true) ∧ s.onF Reg.PCIE_LINK_LINK_UP ≠ up) ∧
    (∃ (s : State), s.live = true) ∧
    (∃ (s : State), s.live = true) ∧
    (∃ (s : State) (req : Requester) (k : Nat), k < 64 ∧ s.Takes req Reg.PCIE_EOI k ∧ s.vectorLevel k = true) ∧
    (∃ (s : State) (req : Requester) (k : Nat), k < 64 ∧ s.Takes req (Reg.PCIE_MSIX k + 12) 0) ∧
    (∃ (s : State) (req : Requester) (w b : Nat), w < 512 ∧ b < 2 ^ 32 ∧ s.TakesWide req Reg.SEC_FPGM (w * 2 ^ 32 + b) ∧
      s.fuseAllowed true w b = true ∧ s.fuseCheck w b = true) ∧
    (∃ (s : State) (w b : Nat), s.live = true ∧ s.sec.prog = some (w, b) ∧ w < 512 ∧ b < 2 ^ 32) ∧
    (∃ (s : State) (req : Requester) (v : Nat), v < 2 ^ 32 ∧ s.Takes req Reg.SEC_KEY_OFF v) ∧
    (∃ (s : State) (req : Requester) (level : Nat), level < 4 ∧ s.Takes req Reg.SEC_DEBUG_SET level) ∧
    (∃ (s : State) (req : Requester) (r v : Nat), r < 4 ∧ v < 2 ^ 32 ∧ s.Takes req (Reg.SEC_RGN_TIGHT r) v) :=
  ⟨⟨canFed, 5, ⟨0, false, 5, []⟩, by decide +kernel⟩,
    ⟨canUp, 5, ⟨0, false, 5, []⟩, by decide +kernel⟩,
    ⟨canUp.setCanCtl 5 { pending := [⟨100, ⟨0, false, 5, []⟩, []⟩] }, 5, ⟨100, ⟨0, false, 5, []⟩, []⟩, by decide +kernel⟩,
    ⟨canUp, 5, by decide +kernel⟩,
    ⟨canUp.setCanCtl 5 { busOff := true, recovering := true }, 5, by decide +kernel⟩,
    ⟨canUp.setCanCtl 5 { busOff := true }, .granite, 5, by decide +kernel⟩,
    ⟨rdy, .granite, 5, 0, _, by decide +kernel, rfl, by decide +kernel⟩,
    ⟨canUp, 5, by decide +kernel⟩,
    ⟨on [0x5C0], true, by decide +kernel⟩,
    ⟨rdy, by decide +kernel⟩,
    ⟨rdy, by decide +kernel⟩,
    ⟨routed, .granite, 63, by decide +kernel⟩,
    ⟨rdy, .granite, 63, by decide +kernel⟩,
    ⟨rdy, .granite, 447, 1, by decide +kernel⟩,
    ⟨{ rdy with sec := { rdy.sec with prog := some (511, 1) } }, 511, 1, by decide +kernel⟩,
    ⟨put [(Reg.SEC_KEYS_ECDSA_USABLE, 15), (Reg.SEC_KEYS_LMS_USABLE, 15)] rdy, .granite, 1, by decide +kernel⟩,
    ⟨rdy, .granite, 3, by decide +kernel⟩,
    ⟨rdy, .granite, 3, 2 ^ 32 - 1, by decide +kernel⟩⟩

theorem test_witness_OdiloCommandsComplete :
    (∃ (s : State) (i : Nat), s.live = true ∧ i < 2 ∧ i ∈ s.odl.training) ∧
    (∃ (s : State) (i : Nat) (r : OdlReq), s.live = true ∧ i < 2 ∧ s.odlUp i = true ∧ r.crcGood = false) ∧
    (∃ (s : State) (i : Nat) (r : OdlReq), s.live = true ∧ i < 2 ∧ s.odlUp i = true ∧ r.crcGood = true ∧
      r.dst = s.pins.cascPos) ∧
    (∃ (s : State) (i : Nat) (r : OdlReq), s.live = true ∧ i < 2 ∧ s.odlUp i = true ∧ r.crcGood = true ∧
      r.dst ≠ s.pins.cascPos) ∧
    (∃ (s : State) (i : Nat), s.live = true ∧ i < 2 ∧ s.odlUp i = true) ∧
    (∃ (s : State) (i dst : Nat), s.live = true ∧ i < 2 ∧ s.odlUp i = true ∧ dst ≠ s.pins.cascPos) ∧
    (∃ (s : State) (i : Nat), s.live = true ∧ i < 2 ∧ s.odlUp i = true) ∧
    (∃ (s : State) (i : Nat), s.live = true ∧ i < 2 ∧ s.odlUp i = true) ∧
    (∃ (s : State) (i p : Nat), s.live = true ∧ i < 2 ∧ s.odlUp i = true ∧ p < 4 ∧ p ≠ s.pins.cascPos) ∧
    (∃ (s : State) (i : Nat), s.live = true ∧ i < 2 ∧ s.odlUp i = true) ∧
    (∃ (s : State) (p : Nat), s.live = true ∧ p < 4 ∧ p ≠ s.pins.cascPos ∧ (s.odlPos p).heard = false ∧
      s.getF (Reg.ODL_CFG_BEACON_MISS ((s.routePort p).getD 0)) ≤ (s.odlPos p).missed) ∧
    (∃ (s : State), s.live = true) ∧
    (∃ (s : State) (i : Nat), s.live = true ∧ i < 2 ∧ s.isRunning (odlPage i) = true ∧ s.onF (Reg.ODL_STAT_UP i) = false ∧
      i ∉ s.odl.training) ∧
    (∃ (s : State) (req : Requester) (i : Nat), i < 2 ∧ s.Takes req (Reg.ODL_RETRAIN i) 1 ∧ s.isRunning (odlPage i) = true ∧
      s.onF (Reg.ODL_STAT_UP i) = false) :=
  ⟨⟨{ rdy with odl := { rdy.odl with training := [1] } }, 1, by decide +kernel⟩,
    ⟨linked, 1, ⟨1, 0, 0, 0, 0, 1, false⟩, by decide +kernel⟩,
    ⟨linked, 1, ⟨1, 0, 0, 0, 0, 1, true⟩, by decide +kernel⟩,
    ⟨linked, 1, ⟨1, 2, 0, 0, 0, 1, true⟩, by decide +kernel⟩,
    ⟨linked, 1, by decide +kernel⟩,
    ⟨linked, 1, 3, by decide +kernel⟩,
    ⟨linked, 1, by decide +kernel⟩,
    ⟨linked, 1, by decide +kernel⟩,
    ⟨linked, 1, 3, by decide +kernel⟩,
    ⟨linked, 1, by decide +kernel⟩,
    ⟨put [(Reg.ODL_CFG_BEACON_MISS 0, 0)] rdy, 3, by decide +kernel⟩,
    ⟨rdy, by decide +kernel⟩,
    ⟨on [odlPage 1], 1, by decide +kernel⟩,
    ⟨on [odlPage 1], .granite, 1, by decide +kernel⟩⟩

theorem test_witness_RefusedAccessesAreCounted :
    ∃ (c : Cause) (b : Fld), causeFld c = some b :=
  ⟨.rights, _, rfl⟩
/-! ## Hypotheses that stand inside a definition -/

/-- Every command of a tile's units is `Ready` in some state, so `State.Works` speaks of runs that happen. -/
theorem test_witness_Works :
    (∀ op ∈ [0x00, 0x01, 0x02, 0x03, 0x04, 0x05, 0x10, 0x11, 0x12, 0x20, 0x28, 0x30, 0x31, 0x32, 0x33, 0x34, 0x35, 0x3A, 0x3B],
      (working (command op)).Ready 31 0 (hasOp op) [] 4095 { cmd := command op }) ∧
    (∀ n ∈ [0, 1, 2], (working (commandOf 0x21 [(0x13, 64 * n)])).Ready 31 0 (hasKvOp n) [] 4095
      { cmd := commandOf 0x21 [(0x13, 64 * n)] }) := by
  unfold State.Ready; decide +kernel

theorem test_witness_ShareAtSaturationIsRefused : ∀ n ∈ [65533, 65534],
    (shared n).rowOk 0 31 ((shared n).linkAt (sharing.linkAddr 0)).addr 16 true = true ∧
    ((shared n).linkAt (sharing.linkAddr 0)).v = false ∧ (shared n).pageUsable 0 (sharing.f 0x30 19 0) = true ∧
    sharing.f 0x24 6 0 ≤ (shared n).pageHwm (sharing.f 0x30 19 0) % 128 ∧
    (shared n).pageLayout (sharing.f 0x30 19 0) = sharing.kvLayout ∧ (shared n).refCount (sharing.f 0x30 19 0) = n := by
  decide +kernel


/-! ## Values that spec/ works out -/

/-- The state after `c`. -/
def after (c : Instr) (s : State) : State := match exec c s with | .next t => t | _ => s

/-- Chapter 03: offset 0x044 of page 2 of tile 13 lies in page 0x01D2. -/
theorem test_tile_page : Reg.TILE_SCRUB 13 = 0x1D2044 ∧ tilePage 13 + 2 = 0x1D2 := by decide

/-- Chapter 04: 32 FP32 values of largest magnitude 1,000 quantised to block-scaled E4M3: scale 0x81, 1,000 becomes 0x78,
      0.3 becomes
0x1A, 0.001 becomes 0. -/
theorem test_block_quant :
    let q := quantBlock 5 0 ([f32 0x447A0000, f32 0x3E99999A, f32 0x3A83126F] ++ List.replicate 29 (f32 0))
    q.1 = 0x81 ∧ q.2.1.take 3 = [0x78, 0x1A, 0] := by decide +kernel

/-- Chapter 04: a plain FP32 carry of 1 + 2^-24 stays 1; a pair holds it, and at the second step h is 1 + 2^-23 and c is 0. -/
theorem test_pair :
    toF32 (fa (f32 0x3F800000) (f32 0x33800000)) = 0x3F800000 ∧
    (let p := (pairStep (f32 0x3F800000) (f32 0x3F800000) (f32 0x33800000) (f32 0x3F800000, f32 0)).1
     toF32 p.1 = 0x3F800000 ∧ toF32 p.2 = 0x33800000 ∧
     (let q := (pairStep (f32 0x3F800000) (f32 0x3F800000) (f32 0x33800000) p).1
      toF32 q.1 = 0x3F800001 ∧ toF32 q.2 = 0)) := by decide +kernel

/-- Chapter 06: object 4,100 on SYN page 16 holds 6; ADD 1 makes it 7, and a write of 0 then makes it 0. -/
theorem test_sync_add :
    let s := after (.synAdd .granite 16 4 1) (object 4100 6 rdy)
    Reg.SYN_STATE 4100 / 0x1000 = 0xD0 ∧ s.syncValue 4100 = 7 ∧
      (after (.synValueWrite .granite 4100 0) s).syncValue 4100 = 0 := by
  decide +kernel

/-- R192: an addition that overflows poisons the object. -/
theorem test_sync_overflow : (after (.synAdd .granite 16 4 1) (object 4100 (2 ^ 64 - 1) rdy)).syncState 4100 = 2 := by decide +kernel

/-- Chapter 10: a quantum of 100 µs adds 2,184,533,333 to VT at SHARE 3 and 6,553,600,000 at SHARE 1. -/
theorem test_virtual_time :
    (((rdy.setCtx 500 { entry := { weight := 3 } }).chargeOccupy 500 100000).ctx 500).vt = 2184533333 ∧
    (((rdy.setCtx 501 { entry := { weight := 1 } }).chargeOccupy 501 100000).ctx 501).vt = 6553600000 := by decide +kernel

/-- Chapter 21: bit 2 of DEV's PG_ERRVIEW is FS_D2D_DOWN, and bit 3 of tile 12's is source 707. -/
theorem test_errview :
    (instanceSources 0)[2]? = some FS.D2D_DOWN ∧ (instanceSources (tilePage 12))[3]? = some 707 := by decide +kernel

/-- Chapter 23: ARB counter 0 reads 12; slot A's image of SVN 13 has a damaged LMS signature,
      slot B holds SVN 12: REASON_A is 5, B
boots. -/
theorem test_boot_slot :
    let a := { image 0 with svn := 13, lms := false }
    let b := { image 0 with svn := 12, advance := true }
    let s := after (.romVerify a b) (atStage 1)
    s.getF Reg.SEC_BOOT_REASON_A = 5 ∧ s.getF Reg.SEC_BOOT_REASON_B = 0 ∧ s.onF Reg.SEC_BOOT_SLOT = true ∧
      s.dev.bootStage = 2 := by
  decide +kernel

/-- Chapter 03: a host write to PG_CTRL of a page of P1 whose bit of DEV_PCIE_WMASK is 0 is refused with C_RIGHTS; a 2-byte write is
refused for its size first. -/
theorem test_host_refused :
    let s := after (.registerWrite .pcie (ctrlWord 0x3C0) 4 1) (put [(Reg.PG_PART_OWNER 0x3C0, 1),
      (Reg.DEV_PCIE_WMASK_PART_W, 0x7E)] rdy)
    let t := after (.registerWrite .pcie (ctrlWord 0x3C0) 2 1) s
    s.getF Reg.DEV_ACCERR_PCIE_CNT = 1 ∧ s.onF Reg.DEV_ACCERR_C_RIGHTS = true ∧ s.blockState 0x3C0 = .off ∧
    s.onF Reg.DEV_ACCERR_C_SIZE = false ∧ t.getF Reg.DEV_ACCERR_PCIE_CNT = 2 ∧
      t.onF Reg.DEV_ACCERR_C_SIZE = true := by decide +kernel

/-! ## Single steps -/

/-- Right after reset the device is in BOOT: DEV_MODE reads mode 1, and the queue is empty. -/
theorem test_reset_boot : bits (State.reset.readWord Reg.DEV_MODE) 31 28 = 1 ∧ State.reset.pending = [] := by decide +kernel

/-- A fuse bit that either pass reads as 1 is 1 (R628). -/
theorem test_fuse_or : sensedWord [1] [2] 0 = 3 := by decide

/-- A backward step of TB7 by 1 ns from 5 gives 4, and GEN counts (R479). -/
theorem test_tb_step :
    let s := after (.tbStep .granite 7 (2 ^ 32 - 1)) { rdy with qtz := { rdy.qtz with bases := [(7, { count := 5 })] } }
    (s.base 7).count = 4 ∧ s.getF (Reg.QTZ_TB_GEN_GEN 7) = 1 := by decide +kernel

/-- A block that is enabled is STARTING; a soft reset takes a FAULTED one to OFF (R70, R73). -/
theorem test_block :
    let s := after (.blockEnable .granite 0x3C0) rdy
    s.blockState 0x3C0 = .starting ∧
      (after (.softReset .granite 0x3C0 false) (blk .faulted [0x3C0] rdy)).blockState 0x3C0 = .off := by decide +kernel

/-- RESET_N asserted takes READY to OFF, and TERMINAL stays (R599, R653). -/
theorem test_reset_n :
    (after .resetNAssert rdy).dev.mode = .off ∧
      (after .resetNAssert (inMode .terminal)).dev.mode = .terminal := by decide +kernel

/-- A frame tick that is due counts a frame and is late for nothing (R39, R52). -/
theorem test_frame_tick :
    let s := after .frameTick { rdy with qtz := { rdy.qtz with bases := [(4, { count := 1000000 })] } }
    s.getF Reg.QTZ_FRAME_FRAME = 1 ∧ s.qtz.nextTick = 2000000 := by decide +kernel

/-- WARM_RESET outside SAFE has no effect on the mode; ENGAGE outside ARMED is refused (R534, R598). -/
theorem test_mode_commands :
    (after (.warmReset .granite) rdy).dev.mode = .ready ∧
      (after (.engage .granite) rdy).onF Reg.DEV_MODE_ENG_REFUSED = true := by
  decide +kernel

/-- An idle step lets one cycle pass; a command at the front is carried out and leaves the queue. -/
theorem test_step :
    (match step rdy with | .next t => t.qtz.cycles == 1 | _ => false) = true ∧
    (match step { rdy with pending := [.blockEnable .granite 0x3C0] } with
      | .next t => t.pending == [] && t.blockState 0x3C0 == .starting | _ => false) = true := by decide +kernel

/-! ## WellFormed: an ill-formed command for each check -/

/-- An image check with every field in range. -/
def img : ImageCheck := ⟨0, true, true, true, 0, 0, false, 0, true, true, List.replicate 48 0⟩

theorem test_wellFormed_0 : ([
  .powerOn 0 false, .fuseSenseDone (List.replicate 512 0) (List.replicate 512 0), .romVerify img img, .firmwareLoad [] false,
    .memoryTraining 0 0 false 0 0 (List.replicate 40 0) none, .cmdpRd 0 0 0 .good, .cmdpWr 0 0 [0] .good, .arm 0,
    .fuse [(0, 0)], .quote (List.replicate 32 0), .hostHeartbeat .granite 0, .registerWrite .granite 0 4 0,
    .counterClear .granite 0 0, .blockEnable .granite 0, .blockDisable .granite 0, .softReset .granite 0 false,
    .pageLock .granite 0 false, .startSafePoint 0, .startDone 0 false, .stopDone 0, .tbWrap 0, .tbStep .granite 0 0,
    .frameOrgWrite .granite 0, .servoSample .granite 0 0, .servoTimeout 0, .tb2SelWrite .granite false 0,
    .epochCommitTag .granite 0 0, .triggerEnable .granite 0 0, .triggerEdge 0, .triggerPulseEnd 0, .rearm .granite 0,
    .captureEdge 0 false, .capturePop .granite 0, .faultRaise 0 false [], .brokenPair 0, .stickyClear .granite 0 0,
    .severityWrite .granite 0 0, .wdgKick .granite 0, .watchdogLate 0, .watchdogEnable .granite 0 0, .chainPoll 0,
    .descriptorFetch 0, .commitWindowEntry 0, .nop 0 0, .load 0 0 [], .store 0 0 [], .gather 0 0 [], .scatter 0 0 [],
    .fill 0 0 [], .gemm 0 0 .none [], .conv 0 0 .none [], .gatherGemm 0 0 .none [], .attnBlock 0 0 .none [], .kvAppend 0 0 [],
    .kvShare 0 0 [], .kvRelease 0 0 [], .scan 0 0 .none [], .eltwise 0 0 [], .reduce 0 0 [],
      .softmax 0 0 []] : List Instr).all wellFormed = true := by
  decide +kernel

theorem test_wellFormed_1 : ([
  .norm 0 0 [], .quant 0 0 [], .dequant 0 0 [], .syncWait 0, .syncSignal 0, .phase 0 0, .fence 0 0, .link 0, .commit 0,
    .killComplete 0, .scrubRead 0 0 [] false, .tileTempSample 0 0, .throttleRecovery 0, .vdiffSample (List.replicate 8 0),
    .testSlotPrehold 0, .testSlotStart 0, .testSlotEnd 0 false false, .testSlotTimeout 0 0, .knownAnswerCheck 0 false,
    .synAdd .granite 0 0 0, .synStateWrite .granite 0 0 0, .synValueWrite .granite 0 0, .activate .granite 0 0,
    .update .granite 0 0, .hold .granite 0 0, .holdDrained 0, .release .granite 0 0, .teardown .granite 0 0,
    .retire .granite 0 0, .modelApply .granite 0 0, .teardownDone 0, .evacuate .granite 0, .admitTile .granite 0,
    .tileWindowStart 0 0, .contextPlace 0, .contextSaveDone 0, .contextRestoreDone 0, .zeroFillDone 0, .modelLoadDone 0,
    .quantumExpiry 0, .drainExpiry 0, .kvpFlPush .granite 0 0 0 0, .stmEnable .granite 0 0, .stmDisable .granite 0 0,
    .stmResetWrite .granite 0 0, .swapOut .granite 0, .unpark .granite 0, .swapOutDone 0, .restoreDone 0, .apply .granite 0,
    .wwGo .granite 0, .wwStop .granite 0, .wwLayerStart 0, .wwLayerDone 0, .memoryRequest false 0 0 0 0 [] 0,
    .bucketRefill 0, .d2dModuleFail 0, .sampleBegin 0, .sampleEnd 0 [] [] .none,
      .sampleDone 0 0] : List Instr).all wellFormed = true := by
  decide +kernel

theorem test_wellFormed_2 : ([
  .streamEnable .granite 0 0, .streamDisable .granite 0 0, .nosignalTimeout 0, .memorySampleTake 0, .packGo .granite 0,
    .packStop .granite 0, .packRunStart 0, .packRunDone 0, .uartTxPush .granite 0 0, .encoderEdge 0 false false false,
    .ringTake 0, .transformSwapRequest .granite 0, .agateRingEnable .granite 0 0, .sensorEnable .granite 0 0,
    .pointPacket 0 [] 0, .jobTake 0, .keepOutSwapRequest .granite 0, .refSwap .granite 0, .seedSwap .granite 0, .loopSample 0,
    .loopOutput 0, .actuatorFrameEmit 0, .loopEnable .granite 0 0, .recover .granite 0, .manual .granite 0 false,
    .ethFrameReceive 0 [] false, .ethFrameTransmit 0 0, .gclCycleStart 0, .gclEntryExpiry 0, .gclSwap .granite 0 0,
    .ethLinkDown 0, .ethLinkUp 0, .recoveryReset 0, .canFrameReceive 0 ⟨0, false, 0, []⟩, .canFrameSent 0, .canBusOff 0,
    .canBusOffRecovery 0, .canRecover .granite 0, .canMailboxGo .granite 0 0, .pcieLinkChange false 0 0, .pcieEoi .granite 0,
    .msixUnmask .granite 0, .odlTraining 0 ⟨true, true, 0, 0, true⟩, .odlRdReq 0 ⟨0, 0, 0, 0, 0, 1, true⟩,
    .odlRdData 0 0 0 0 [] false, .odlWr 0 ⟨0, 0, 0, 0, 0, 1, true⟩ [], .odlWrMask 0 0 0 0 [], .odlWrAck 0 0 0 0 false,
    .odlTime 0 0 0 0, .odlBeacon 0 ⟨0, 0, 0, 0, true, 0⟩, .odlLeave 0 0, .flitCrcError 0, .odlLinkDown 0, .beaconMiss 0,
    .odlRetrainTimer 0, .odlRetrain .granite 0, .capPeriodEnd ⟨List.replicate 8 0, []⟩, .capWrite .granite 0,
    .avsRead 0 false 0, .vregFault 0] : List Instr).all wellFormed = true := by
  decide +kernel

theorem test_wellFormed_3 : ([
  .voltageSettled 0, .droopAlert 0, .droopClear 0, .droopHoldExpiry 0, .droopLong 0, .hubTempSample 0 0,
    .ageMeasure (List.replicate 40 0), .secFpgm .granite 0 0, .secKeyOff .granite 0, .secDebugSet .granite 0,
    .secRgnTight .granite 0 0, .loopDisable .granite 0 0, .jobRingEnable .granite 0 0, .canErrorPassive 0, .lpddr5xTempAlert 0,
    .uartTxByteSent 0, .faultPairInactive 0, .watchdogWindowOpen 0] : List Instr).all wellFormed = true := by
  decide +kernel

theorem test_illFormed_0 : ([
  .powerOn 4 false, .fuseSenseDone (List.replicate 513 0) (List.replicate 512 0),
    .fuseSenseDone (List.replicate 511 0) (List.replicate 512 0),
    .fuseSenseDone ((2 ^ 32) :: List.replicate 511 0) (List.replicate 512 0),
    .fuseSenseDone (List.replicate 512 0) (List.replicate 513 0), .fuseSenseDone (List.replicate 512 0) (List.replicate 511 0),
    .fuseSenseDone (List.replicate 512 0) ((2 ^ 32) :: List.replicate 511 0), .romVerify ({ img with svn := 256 }) img,
    .romVerify img ({ img with svn := 256 }), .firmwareLoad [{ img with kind := 256 }] false,
    .memoryTraining 0x10000 0 false 0 0 (List.replicate 40 0) none, .memoryTraining 0 64 false 0 0 (List.replicate 40 0) none,
    .memoryTraining 0 0 false 0x4000 0 (List.replicate 40 0) none,
    .memoryTraining 0 0 false 0 (2 ^ 32) (List.replicate 40 0) none, .memoryTraining 0 0 false 0 0 (List.replicate 41 0) none,
    .memoryTraining 0 0 false 0 0 (List.replicate 39 0) none, .cmdpRd 0x10000 0 0 .good, .cmdpRd 0 0x1000 0 .good,
    .cmdpRd 0 0 16 .good, .cmdpWr 0x10000 0 [0] .good, .cmdpWr 0 0x1000 [0] .good, .cmdpWr 0 0 [] .good,
    .cmdpWr 0 0 (List.replicate 17 0) .good, .arm (2 ^ 32), .fuse [], .fuse (List.replicate 9 (0, 0)),
    .quote (List.replicate 33 0), .quote (List.replicate 31 0), .hostHeartbeat .granite (2 ^ 32),
    .registerWrite .granite (2 ^ 28) 4 0, .registerWrite .granite 0 3 0, .registerWrite .granite 0 4 (2 ^ 32),
    .counterClear .granite (2 ^ 28) 0, .counterClear .granite 0 (2 ^ 32), .blockEnable .granite 1600,
    .blockDisable .granite 1600, .softReset .granite 1600 false, .pageLock .granite 1600 false, .startSafePoint 1600,
    .startDone 1600 false, .stopDone 1600, .tbWrap 8, .tbStep .granite 8 0, .tbStep .granite 0 (2 ^ 32),
    .frameOrgWrite .granite (2 ^ 20), .servoSample .granite 2 0, .servoSample .granite 0 (2 ^ 32), .servoTimeout 2,
    .tb2SelWrite .granite false 4, .epochCommitTag .granite 2 0, .epochCommitTag .granite 0 (2 ^ 16),
    .triggerEnable .granite 24 0, .triggerEnable .granite 0 (2 ^ 32), .triggerEdge 24, .triggerPulseEnd 24, .rearm .granite 24,
    .captureEdge 24 false, .capturePop .granite 24, .faultRaise 1024 false [],
      .brokenPair 1024] : List Instr).all (fun c => !wellFormed c) = true := by
  decide +kernel

theorem test_illFormed_1 : ([
  .stickyClear .granite 32 0, .stickyClear .granite 0 (2 ^ 32), .severityWrite .granite 128 0,
    .severityWrite .granite 0 (2 ^ 32), .wdgKick .granite 256, .watchdogLate 256, .watchdogEnable .granite 256 0,
    .watchdogEnable .granite 0 (2 ^ 32), .chainPoll 0x1000, .descriptorFetch 0x1000, .commitWindowEntry 0x1000, .nop 32 0,
    .nop 0 8, .load 32 0 [], .load 0 8 [], .store 32 0 [], .store 0 8 [], .gather 32 0 [], .gather 0 8 [], .scatter 32 0 [],
    .scatter 0 8 [], .fill 32 0 [], .fill 0 8 [], .gemm 32 0 .none [], .gemm 0 8 .none [], .conv 32 0 .none [],
    .conv 0 8 .none [], .gatherGemm 32 0 .none [], .gatherGemm 0 8 .none [], .attnBlock 32 0 .none [], .attnBlock 0 8 .none [],
    .kvAppend 32 0 [], .kvAppend 0 8 [], .kvShare 32 0 [], .kvShare 0 8 [], .kvRelease 32 0 [], .kvRelease 0 8 [],
    .scan 32 0 .none [], .scan 0 8 .none [], .eltwise 32 0 [], .eltwise 0 8 [], .reduce 32 0 [], .reduce 0 8 [],
    .softmax 32 0 [], .softmax 0 8 [], .norm 32 0 [], .norm 0 8 [], .quant 32 0 [], .quant 0 8 [], .dequant 32 0 [],
    .dequant 0 8 [], .syncWait 0x1000, .syncSignal 0x1000, .phase 32 0, .phase 0 8, .fence 32 0, .fence 0 8, .link 0x1000,
    .commit 32, .killComplete 32] : List Instr).all (fun c => !wellFormed c) = true := by
  decide +kernel

theorem test_illFormed_2 : ([
  .scrubRead 32 0 [] false, .scrubRead 0 0x20000 [] false, .tileTempSample 32 0, .tileTempSample 0 (2 ^ 16),
    .throttleRecovery 32, .vdiffSample (List.replicate 9 0), .vdiffSample (List.replicate 7 0), .testSlotPrehold 16,
    .testSlotStart 16, .testSlotEnd 16 false false, .testSlotTimeout 16 0, .testSlotTimeout 0 32, .knownAnswerCheck 1024 false,
    .synAdd .granite 64 0 0, .synAdd .granite 0 256 0, .synAdd .granite 0 0 (2 ^ 32), .synStateWrite .granite 0x4000 0 0,
    .synStateWrite .granite 0 4 0, .synStateWrite .granite 0 0 4096, .synValueWrite .granite 0x4000 0,
    .synValueWrite .granite 0 (2 ^ 64), .activate .granite 8 0, .activate .granite 0 0x1000, .update .granite 8 0,
    .update .granite 0 0x1000, .hold .granite 8 0, .hold .granite 0 0x1000, .holdDrained 0x1000, .release .granite 8 0,
    .release .granite 0 0x1000, .teardown .granite 8 0, .teardown .granite 0 0x1000, .retire .granite 8 0,
    .retire .granite 0 0x1000, .modelApply .granite 8 0, .modelApply .granite 0 256, .teardownDone 0x1000,
    .evacuate .granite 32, .admitTile .granite 32, .tileWindowStart 32 0, .tileWindowStart 0 1000, .contextPlace 0x1000,
    .contextSaveDone 0x1000, .contextRestoreDone 0x1000, .zeroFillDone 0x1000, .modelLoadDone 0x1000, .quantumExpiry 32,
    .drainExpiry 32, .kvpFlPush .granite 8 0 0 0, .kvpFlPush .granite 0 3 0 0, .kvpFlPush .granite 0 0 (2 ^ 34) 0,
    .kvpFlPush .granite 0 0 0 (2 ^ 20), .stmEnable .granite 0x1000 0, .stmEnable .granite 0 (2 ^ 32),
    .stmDisable .granite 0x1000 0, .stmDisable .granite 0 (2 ^ 32), .stmResetWrite .granite 0x1000 0,
    .stmResetWrite .granite 0 (2 ^ 32), .swapOut .granite 0x1000,
      .unpark .granite 0x1000] : List Instr).all (fun c => !wellFormed c) = true := by
  decide +kernel

theorem test_illFormed_3 : ([
  .swapOutDone 0x1000, .restoreDone 0x1000, .apply .granite 0x10000, .wwGo .granite 16, .wwStop .granite 16, .wwLayerStart 16,
    .wwLayerDone 16, .memoryRequest false (2 ^ 42) 0 0 0 [] 0, .memoryRequest false 32 0 0 0 [] 0,
    .memoryRequest false 0 0x10000 0 0 [] 0, .memoryRequest false 0 0 8 0 [] 0, .memoryRequest false 0 0 0 46 [] 0,
    .memoryRequest false 0 0 0 0 [] 3, .bucketRefill 12, .d2dModuleFail 4,
    .sampleBegin 64, .sampleEnd 64 [] [] .none, .sampleDone 64 0, .sampleDone 0 (2 ^ 32), .streamEnable .granite 64 0,
    .streamEnable .granite 0 (2 ^ 32), .streamDisable .granite 64 0, .streamDisable .granite 0 (2 ^ 32), .nosignalTimeout 64,
    .memorySampleTake 64, .packGo .granite 8, .packStop .granite 8, .packRunStart 8, .packRunDone 8, .uartTxPush .granite 2 0,
    .uartTxPush .granite 0 256, .encoderEdge 8 false false false, .ringTake 16, .transformSwapRequest .granite 2,
    .agateRingEnable .granite 16 0, .agateRingEnable .granite 0 (2 ^ 32), .sensorEnable .granite 64 0,
    .sensorEnable .granite 0 (2 ^ 32), .pointPacket 16 [] 0, .pointPacket 0 [] (2 ^ 32), .jobTake 4,
    .keepOutSwapRequest .granite 2, .refSwap .granite 2, .seedSwap .granite 2, .loopSample 64, .loopOutput 64,
    .actuatorFrameEmit 32, .loopEnable .granite 64 0, .loopEnable .granite 0 (2 ^ 32), .recover .granite 64,
    .manual .granite 64 false, .ethFrameReceive 9 [] false, .ethFrameTransmit 9 0, .ethFrameTransmit 0 8, .gclCycleStart 9,
    .gclEntryExpiry 9, .gclSwap .granite 9 0, .gclSwap .granite 0 2, .ethLinkDown 8, .ethLinkUp 8, .recoveryReset 64,
    .canFrameReceive 6 ⟨0, false, 0, []⟩] : List Instr).all (fun c => !wellFormed c) = true := by
  decide +kernel

theorem test_illFormed_4 : ([
  .canFrameReceive 0 ⟨3, false, 0, []⟩, .canFrameReceive 0 ⟨0, false, 2048, []⟩, .canFrameReceive 0 ⟨0, true, 2 ^ 29, []⟩,
    .canFrameReceive 0 ⟨0, false, 0, List.replicate 9 0⟩, .canFrameReceive 0 ⟨1, false, 0, List.replicate 65 0⟩,
    .canFrameSent 6, .canBusOff 6, .canBusOffRecovery 6, .canRecover .granite 6, .canMailboxGo .granite 6 0,
    .canMailboxGo .granite 0 (2 ^ 32), .pcieLinkChange false 8 0, .pcieLinkChange false 0 17, .pcieEoi .granite 64,
    .msixUnmask .granite 64, .odlTraining 2 ⟨true, true, 0, 0, true⟩, .odlTraining 0 ⟨true, true, 4, 0, true⟩,
    .odlRdReq 2 ⟨0, 0, 0, 0, 0, 1, true⟩, .odlRdReq 0 ⟨4, 0, 0, 0, 0, 1, true⟩, .odlRdReq 0 ⟨0, 4, 0, 0, 0, 1, true⟩,
    .odlRdReq 0 ⟨0, 0, 8, 0, 0, 1, true⟩, .odlRdData 2 0 0 0 [] false, .odlRdData 0 4 0 0 [] false,
    .odlRdData 0 0 4 0 [] false, .odlRdData 0 0 0 (2 ^ 16) [] false, .odlWr 2 ⟨0, 0, 0, 0, 0, 1, true⟩ [],
    .odlWr 0 ⟨4, 0, 0, 0, 0, 1, true⟩ [], .odlWr 0 ⟨0, 4, 0, 0, 0, 1, true⟩ [], .odlWr 0 ⟨0, 0, 8, 0, 0, 1, true⟩ [],
    .odlWrMask 2 0 0 0 [], .odlWrMask 0 4 0 0 [], .odlWrMask 0 0 4 0 [], .odlWrMask 0 0 0 (2 ^ 16) [], .odlWrAck 2 0 0 0 false,
    .odlWrAck 0 4 0 0 false, .odlWrAck 0 0 4 0 false, .odlWrAck 0 0 0 (2 ^ 16) false, .odlTime 2 0 0 0,
    .odlTime 0 (2 ^ 64) 0 0, .odlTime 0 0 (2 ^ 32) 0, .odlTime 0 0 0 4, .odlBeacon 2 ⟨0, 0, 0, 0, true, 0⟩,
    .odlBeacon 0 ⟨4, 0, 0, 0, true, 0⟩, .odlBeacon 0 ⟨0, 0, 0, 8, true, 0⟩, .odlLeave 2 0, .odlLeave 0 4, .flitCrcError 2,
    .odlLinkDown 2, .beaconMiss 4, .odlRetrainTimer 2, .odlRetrain .granite 2, .capPeriodEnd ⟨List.replicate 7 0, []⟩,
    .capWrite .granite 512, .avsRead 11 false 0, .vregFault 8, .voltageSettled 8, .droopAlert 8, .droopClear 8,
    .droopHoldExpiry 8, .droopLong 8] : List Instr).all (fun c => !wellFormed c) = true := by
  decide +kernel

theorem test_illFormed_5 : ([
  .hubTempSample 16 0, .hubTempSample 0 (2 ^ 16), .ageMeasure (List.replicate 41 0), .ageMeasure (List.replicate 39 0),
    .secFpgm .granite 512 0, .secFpgm .granite 0 (2 ^ 32), .secKeyOff .granite (2 ^ 32), .secDebugSet .granite 4,
    .secRgnTight .granite 4 0, .secRgnTight .granite 0 (2 ^ 32), .loopDisable .granite 64 0, .loopDisable .granite 0 (2 ^ 32),
    .jobRingEnable .granite 4 0, .jobRingEnable .granite 0 (2 ^ 32), .canErrorPassive 6, .lpddr5xTempAlert 4,
    .uartTxByteSent 2, .faultPairInactive 1024, .watchdogWindowOpen 256, .romVerify ({ img with keyIndex := 256 }) img,
    .romVerify ({ img with version := 2 ^ 32 }) img,
      .romVerify ({ img with digest := [] }) img] : List Instr).all (fun c => !wellFormed c) = true := by
  decide +kernel

end Sys2Proof.Tests
end

section
/-! The proof that refused accesses are counted with their cause (R88). -/

namespace Sys2Proof.Machine

/-! ## The fields of DEV_ACCERR -/

/-- A requester's count is a byte of DEV_ACCERR above the cause bits. -/
theorem accCount_layout (req : Requester) : (accCount req).addr = Reg.DEV_ACCERR ∧ 8 ≤ (accCount req).lo ∧
    (accCount req).hi = (accCount req).lo + 7 ∧ (accCount req).hi < 32 := by
  cases req <;> decide

/-- A cause's bit is one of the low byte of DEV_ACCERR. -/
theorem causeFld_layout {c : Cause} {b : Fld} (h : causeFld c = some b) :
    b.addr = Reg.DEV_ACCERR ∧ b.hi = b.lo ∧ b.hi < 8 := by
  cases c <;> cases h <;> decide

/-- A count written below 256 reads as written. -/
theorem State.getF_putF_accCount (s : State) (req : Requester) {n : Nat} (hn : n < 256) :
    (s.putF (accCount req) n).getF (accCount req) = n := by
  obtain ⟨-, -, hhi, -⟩ := accCount_layout req
  have hw : (accCount req).width = 8 := by rw [Fld.width]; omega
  rw [State.getF_putF _ _ _ (by omega), hw]
  exact Nat.mod_eq_of_lt hn

/-- A word other than DEV_ACCERR stands under a write to a field of its one word. -/
theorem State.reg_putF_devAccerr_ne (s : State) {f : Fld} (v : Nat) {a : Nat} (hf : f.addr = Reg.DEV_ACCERR)
    (hhi : f.hi < 32) (ha : a ≠ Reg.DEV_ACCERR) : (s.putF f v).reg a = s.reg a :=
  State.reg_putF_ne _ _ _ _ (by omega)

section
variable {c : Cause} {b : Fld} (h : causeFld c = some b)
include h

/-- A cause's bit is set by a write of 1. -/
theorem State.onF_putF_cause (s : State) : (s.putF b 1).onF b = true := by
  obtain ⟨-, hlo, -⟩ := causeFld_layout h
  have hw : b.width = 1 := by rw [Fld.width]; omega
  simp [State.onF, State.getF_putF _ _ _ hlo.ge, hw]

/-- Setting a cause's bit leaves the counts. -/
theorem State.getF_accCount_putF_cause (s : State) (req : Requester) (v : Nat) :
    (s.putF b v).getF (accCount req) = s.getF (accCount req) := by
  obtain ⟨hba, hb, hb8⟩ := causeFld_layout h
  obtain ⟨hca, hlo, -, h32⟩ := accCount_layout req
  exact State.getF_putF_same _ _ _ _ (hca.trans hba.symm) (by omega) hb.ge (.inr (by omega))

/-- Writing a count leaves the cause bits. -/
theorem State.onF_cause_putF_accCount (s : State) (req : Requester) (v : Nat) :
    (s.putF (accCount req) v).onF b = s.onF b := by
  obtain ⟨hba, hb, hb8⟩ := causeFld_layout h
  obtain ⟨hca, hlo, hhi, h32⟩ := accCount_layout req
  rw [State.onF, State.onF,
    State.getF_putF_same _ _ _ _ (hba.trans hca.symm) (by omega) (by omega) (.inl (by omega))]

end

/-! ## What a refusal records -/

/-- The state once a refusal is recorded in DEV_ACCERR, before anything is raised or answered: the cause's bit `b` is set, and
the requester's count is one higher unless it stands at its limit. -/
def State.recordRefusal (s : State) (req : Requester) (b : Fld) : State :=
  if s.getF (accCount req) < 255 then (s.putF b 1).putF (accCount req) (s.getF (accCount req) + 1) else s.putF b 1

/-- What is recorded where the count is below its limit. -/
theorem State.recordRefusal_of_lt {s : State} {req : Requester} (b : Fld) (hn : s.getF (accCount req) < 255) :
    s.recordRefusal req b = (s.putF b 1).putF (accCount req) (s.getF (accCount req) + 1) := if_pos hn

/-- What is recorded where the count stands at its limit. -/
theorem State.recordRefusal_of_limit {s : State} {req : Requester} (b : Fld) (hn : s.getF (accCount req) = 255) :
    s.recordRefusal req b = s.putF b 1 := if_neg (by omega)

/-- A count below its limit is one higher once the refusal is recorded. -/
theorem State.getF_recordRefusal_of_lt {s : State} {req : Requester} (b : Fld) (hn : s.getF (accCount req) < 255) :
    (s.recordRefusal req b).getF (accCount req) = s.getF (accCount req) + 1 := by
  rw [State.recordRefusal_of_lt b hn, State.getF_putF_accCount _ _ (by omega)]

@[simp] theorem State.recordRefusal_mem (s : State) (req : Requester) (b : Fld) : (s.recordRefusal req b).mem = s.mem := by
  unfold State.recordRefusal; split <;> simp

@[simp] theorem State.recordRefusal_sch (s : State) (req : Requester) (b : Fld) : (s.recordRefusal req b).sch = s.sch := by
  unfold State.recordRefusal; split <;> simp

section
variable {c : Cause} {b : Fld} (h : causeFld c = some b)
include h

/-- A count at its limit stands there (R88's table: saturating at 255). -/
theorem State.getF_recordRefusal_of_limit {s : State} {req : Requester} (hn : s.getF (accCount req) = 255) :
    (s.recordRefusal req b).getF (accCount req) = 255 := by
  rw [State.recordRefusal_of_limit b hn, State.getF_accCount_putF_cause h, hn]

/-- The cause's bit is set, whether or not the count stands at its limit. -/
theorem State.onF_recordRefusal (s : State) (req : Requester) : (s.recordRefusal req b).onF b = true := by
  unfold State.recordRefusal
  split
  · rw [State.onF_cause_putF_accCount h, State.onF_putF_cause h]
  · exact State.onF_putF_cause h s

/-- DEV_ACCERR alone records a refusal. -/
theorem State.reg_recordRefusal_ne (s : State) (req : Requester) {a : Nat} (ha : a ≠ Reg.DEV_ACCERR) :
    (s.recordRefusal req b).reg a = s.reg a := by
  obtain ⟨hba, -, hb8⟩ := causeFld_layout h
  obtain ⟨hca, -, -, h32⟩ := accCount_layout req
  have hcause := s.reg_putF_devAccerr_ne 1 hba (by omega) ha
  unfold State.recordRefusal
  split
  · rw [State.reg_putF_devAccerr_ne _ _ hca h32 ha, hcause]
  · exact hcause

/-- A refusal that counts records itself, raises FS_DEV_ACCERR and is answered. -/
theorem State.refuse_of_lt {s : State} {req : Requester} (hn : s.getF (accCount req) < 255) :
    s.refuse req c = ((s.recordRefusal req b).raise FS.DEV_ACCERR).respond req (refusedStatus req) [] := by
  simp only [State.refuse, h, if_pos hn, State.recordRefusal_of_lt b hn]

/-- A refusal at the count's limit records its cause and is answered: nothing is raised. -/
theorem State.refuse_of_limit {s : State} {req : Requester} (hn : s.getF (accCount req) = 255) :
    s.refuse req c = (s.recordRefusal req b).respond req (refusedStatus req) [] := by
  simp only [State.refuse, h, if_neg (show ¬ s.getF (accCount req) < 255 by omega), State.recordRefusal_of_limit b hn]

end

/-- Settles O59: the state between the record in DEV_ACCERR and the answer is `recordRefusal`. -/
theorem refusedAccessesAreCounted : Obligations.RefusedAccessesAreCounted := by
  unfold Obligations.RefusedAccessesAreCounted
  refine ⟨fun s req c b h => ⟨s.recordRefusal req b, State.onF_recordRefusal h s req, ?below, ?limit,
    State.recordRefusal_mem .., State.recordRefusal_sch .., fun a ha => State.reg_recordRefusal_ne h s req ha⟩, by decide⟩
  case below => exact fun hn => ⟨State.getF_recordRefusal_of_lt b hn, State.refuse_of_lt h hn⟩
  case limit => exact fun hn => ⟨State.getF_recordRefusal_of_limit h hn, State.refuse_of_limit h hn⟩

end Sys2Proof.Machine
end

section
/-! The proof that a failed periodic test fences the tile (R133): what a fence sets off after its own writes leaves the words
of the tile's pages, TILE_FENCE among them. -/

namespace Sys2Proof.Machine

/-! ## Steps that leave the register file -/

/-- Register files that agree read alike. -/
theorem State.reg_of_regs_eq {s u : State} (h : u.regs = s.regs) (a : Nat) : u.reg a = s.reg a := by
  rw [State.reg, State.reg, h]

/-- A field of one register word is read from that word alone. -/
theorem State.getF_of_reg_eq {s u : State} {f : Fld} (hf : f.hi < 32) (h : u.reg f.addr = s.reg f.addr) :
    u.getF f = s.getF f := by
  simp [State.getF, State.regNat, Nat.div_eq_of_lt hf, h]

/-- A word that each of a row of steps leaves is left by the row. -/
theorem State.reg_foldl {α : Type} {f : State → α → State} {a : Nat} (h : ∀ u x, (f u x).reg a = u.reg a) (l : List α)
    (s : State) : (l.foldl f s).reg a = s.reg a := by
  induction l generalizing s with
  | nil => rfl
  | cons x l ih => rw [List.foldl_cons, ih, h]

@[simp] theorem State.reg_setTile (s : State) (t : Nat) (x : Tile) (a : Nat) : (s.setTile t x).reg a = s.reg a := rfl
@[simp] theorem State.reg_setStream (s : State) (i : Nat) (x : Stream) (a : Nat) : (s.setStream i x).reg a = s.reg a := rfl
@[simp] theorem State.reg_setBlock (s : State) (p : Nat) (b : Block) (a : Nat) : (s.setBlock p b).reg a = s.reg a := rfl
@[simp] theorem State.reg_testFailed (s : State) (a : Nat) : s.testFailed.reg a = s.reg a := rfl

/-- A write that lands in part changes memory alone. -/
@[simp] theorem State.landSome_regs (s : State) (w : Nat × List Byte) : (s.landSome w).regs = s.regs := by
  unfold State.landSome; split <;> rfl

/-- Fuse bits that are programmed are no register. -/
@[simp] theorem State.burnSome_regs (s : State) (l : List (Nat × Nat)) : (s.burnSome l).regs = s.regs := by
  induction l generalizing s with
  | nil => rfl
  | cons p l ih =>
    rw [State.burnSome]
    dsimp only
    split
    · rw [ih]; rfl
    · rfl

/-! ## The words of a tile's pages -/

/-- Word `a` lies on a page of some tile, behind the page header (R63, R64). -/
def tileWord (a : Nat) : Prop := 0x100000 ≤ a ∧ a < 0x300000 ∧ 0x40 ≤ a % 0x1000

theorem tileWord_tileFence {t : Nat} (ht : t < 32) : tileWord (Reg.TILE_FENCE t) := by
  unfold tileWord Reg.TILE_FENCE; omega

section
variable {a : Nat} (ha : tileWord a)
include ha

/-- A field of pages below the tiles' leaves their words. -/
theorem State.reg_putF_below (s : State) {f : Fld} (v : Nat) (hf : f.addr + 4 * (f.hi / 32) < 0x100000) :
    (s.putF f v).reg a = s.reg a := by
  obtain ⟨hlo, -, -⟩ := ha
  exact State.reg_putF_ne _ _ _ _ (.inr (by omega))

/-- A field of pages above the tiles' leaves their words. -/
theorem State.reg_putF_above (s : State) {f : Fld} (v : Nat) (hf : 0x300000 ≤ f.addr) : (s.putF f v).reg a = s.reg a := by
  obtain ⟨-, hhi, -⟩ := ha
  exact State.reg_putF_ne _ _ _ _ (.inl (by omega))

/-! ### Interrupts, modes and long operations -/

/-- The levels of the interrupt vectors show in PCIE_PBA alone. -/
theorem State.reg_pageEdge (s old : State) (p : Nat) : (s.pageEdge old p).reg a = s.reg a := by
  have hpba (u : State) (v n : Nat) : (u.putF (pbaFld v) n).reg a = u.reg a :=
    u.reg_putF_above ha n (by change 0x300000 ≤ 0x5c1800; decide)
  unfold State.pageEdge State.vectorEdge State.vectorRise
  split
  · split
    · split
      · rfl
      · exact hpba ..
    · exact hpba ..
    · rfl
  · rfl

/-- An interrupt status lies in its page's header. -/
theorem State.reg_irq (s : State) (p mask : Nat) : (s.irq p mask).reg a = s.reg a := by
  obtain ⟨-, -, hoff⟩ := id ha
  rw [State.irq, State.reg_pageEdge ha, State.reg_putF_ne]
  simp only [Reg.PG_IRQ_STAT]
  omega

theorem State.reg_enterBlock (s : State) (p : Nat) (b : Block) : (s.enterBlock p b).reg a = s.reg a := by
  unfold State.enterBlock
  dsimp only
  split
  · rw [State.reg_foldl (fun u q => u.reg_irq ha q _), State.reg_setBlock]
  · rfl

theorem State.reg_setMode (s : State) (m : Mode) : (s.setMode m).reg a = s.reg a := by
  have hok (u : State) (n : Nat) : (u.putF Reg.FC_STAT_OK n).reg a = u.reg a := u.reg_putF_below ha n (by decide)
  have hhb (u : State) (n : Nat) : (u.putF Reg.FC_STAT_HB n).reg a = u.reg a := u.reg_putF_below ha n (by decide)
  unfold State.setMode
  dsimp only
  split
  · exact hok ..
  · exact (hhb ..).trans (hok ..)

theorem State.reg_endOp (s : State) (result : Nat) : (s.endOp result).reg a = s.reg a := by
  unfold State.endOp
  split
  · rfl
  · rw [State.reg_putF_below ha _ _ (by decide), State.reg_putF_below ha _ _ (by decide)]
    apply State.reg_of_regs_eq
    split_ifs <;> simp [State.secBusy]

theorem State.reg_stopGrace (s : State) : s.stopGrace.reg a = s.reg a := by
  rw [State.stopGrace, State.reg_putF_below ha _ _ (by decide)]; rfl

theorem State.reg_rampActuators (s : State) (cause : Nat) : (s.rampActuators cause).reg a = s.reg a := by
  have hstat (u : State) (i n : Nat) : (u.putF (Reg.GNT_A_STAT_STATE i) n).reg a = u.reg a :=
    u.reg_putF_above ha n (by simp only [Reg.GNT_A_STAT_STATE, Reg.GNT_A_STAT]; omega)
  have hcause (u : State) (i n : Nat) : (u.putF (Reg.GNT_A_STAT_CAUSE i) n).reg a = u.reg a :=
    u.reg_putF_above ha n (by simp only [Reg.GNT_A_STAT_CAUSE, Reg.GNT_A_STAT]; omega)
  unfold State.rampActuators
  refine State.reg_foldl (fun u i => ?_) _ s
  split
  · rw [State.reg_irq ha, hcause, hstat]
  · rfl

/-- The steps by which SAFE and TERMINAL are entered. -/
theorem State.reg_enterMode (s : State) (m : Mode) :
    ((((s.setMode m).endOp 5).stopGrace).rampActuators 4).reg a = s.reg a := by
  rw [State.reg_rampActuators ha, State.reg_stopGrace ha, State.reg_endOp ha, State.reg_setMode ha]

theorem State.reg_enterSafe (s : State) : s.enterSafe.reg a = s.reg a := by
  unfold State.enterSafe
  split
  case h_6 | h_7 | h_8 => rfl
  all_goals exact s.reg_enterMode ha .safe

theorem State.reg_enterTerminal (s : State) : s.enterTerminal.reg a = s.reg a := by
  unfold State.enterTerminal
  split
  case h_1 | h_2 => rfl
  case h_3 => exact s.reg_enterMode ha .terminal

/-! ### Kills and faults of blocks -/

/-- What a kill undoes in the page store shows in the counts of free pages alone. -/
theorem State.reg_kvUndo (s : State) (k : KvUndo) : (s.kvUndo k).reg a = s.reg a := by
  cases k with
  | page p l page =>
    rw [State.kvUndo, State.freePage, State.kvStackPush, State.reg_of_regs_eq (State.granted_regs ..), State.reg_putF_above ha]
    · exact State.reg_of_regs_eq (State.write_regs ..) a
    · simp only [Reg.KVP_FL_COUNT_COUNT, Reg.KVP_FL_COUNT]; omega
  | ref page =>
    exact State.reg_of_regs_eq (State.write_regs ..) a

theorem State.reg_killEntry (s : State) (t : Nat) (e : WEntry) : (s.killEntry t e).reg a = s.reg a := by
  have hland (u : State) (w : Nat × List Byte) : (u.landSome w).reg a = u.reg a := State.reg_of_regs_eq (u.landSome_regs w) a
  rw [State.killEntry, State.reg_foldl (fun u k => u.reg_kvUndo ha k), State.reg_foldl (fun u o => hland u _),
    State.reg_foldl (fun u w => hland u w)]

theorem State.reg_kill (s : State) (t start : Nat) (rerun leave : Bool) : (s.kill t start rerun leave).reg a = s.reg a := by
  unfold State.kill
  dsimp only
  split
  · rfl
  · rw [State.reg_setTile]
    exact State.reg_foldl (fun u e => u.reg_killEntry ha t e) _ s

theorem State.reg_faultBlock (s : State) (p : Nat) : (s.faultBlock p).reg a = s.reg a := by
  unfold State.faultBlock
  dsimp only
  split_ifs
  · rfl
  · rw [State.reg_kill ha, State.reg_enterBlock ha]
  · rw [State.reg_enterBlock ha]

/-! ### Raises that carry no context -/

theorem State.reg_stick (s : State) {n : Nat} (hn : realSource n = true) : (s.stick n).reg a = s.reg a := by
  refine State.reg_putF_below ha _ _ ?_
  simp [realSource] at hn
  simp only [stickyFld, Reg.FC_STICKY]
  omega

theorem State.reg_react (s : State) (n : Nat) (cls : Severity) (cause : Nat) : (s.react n cls [] cause).reg a = s.reg a := by
  cases cls with
  | note => rfl
  | corrected => exact s.reg_irq ha ..
  | context => exact s.reg_irq ha ..
  | critical => rw [State.react, State.reg_faultBlock ha, State.reg_enterSafe ha, State.reg_irq ha]
  | terminal => rw [State.react, State.reg_faultBlock ha, State.reg_enterTerminal ha, State.reg_irq ha]

theorem State.reg_raiseOnly (s : State) (n : Nat) (cls : Severity) (cause : Nat) :
    (s.raiseOnly n cls [] cause).reg a = s.reg a := by
  unfold State.raiseOnly
  split
  next hn =>
    split
    · exact s.reg_stick ha hn
    · rw [State.reg_react ha, State.reg_stick ha s hn]
  next => rfl

theorem State.reg_raiseChans (s : State) : s.raiseChans.reg a = s.reg a := by
  unfold State.raiseChans
  split
  · rw [State.reg_raiseOnly ha]; rfl
  · rfl

theorem State.reg_raise (s : State) (n : Nat) : (s.raise n).reg a = s.reg a := by
  unfold State.raise State.raiseAt
  split
  · rw [State.reg_raiseChans ha, State.reg_raiseOnly ha]
  · exact s.reg_raiseOnly ha ..

theorem State.reg_raiseLevel (s : State) (n : Nat) : (s.raiseLevel n).reg a = s.reg a := by
  unfold State.raiseLevel
  dsimp only
  split <;> exact s.reg_raise ha n

/-! ### Saves and swap-outs -/

theorem State.reg_wantSwap (s : State) (i : Nat) (park : Bool) : (s.wantSwap i park).reg a = s.reg a := by
  have hstatus (u : State) (n : Nat) : (u.setStatus i n).reg a = u.reg a :=
    u.reg_putF_above ha n (by simp only [Reg.STM_STAT_STATUS, Reg.STM_STAT]; omega)
  have htry (u : State) : (u.trySwap i).reg a = u.reg a := by
    unfold State.trySwap
    split
    · rw [hstatus, State.reg_setStream]
    · rfl
  unfold State.wantSwap
  dsimp only
  split_ifs
  · rw [htry, State.reg_setStream]
  · rfl
  · rfl

theorem State.reg_saveResidents (s : State) (t : Nat) : (s.saveResidents t).reg a = s.reg a := by
  unfold State.saveResidents
  refine State.reg_foldl (fun u e => ?_) _ s
  unfold State.beginSave State.swapOutOf
  split
  · refine State.reg_foldl (fun v i => ?_) _ (u.setCtx _ _)
    split
    · exact v.reg_wantSwap ha ..
    · rfl
  · rfl

end

/-! ## Fences -/

/-- A tile's goal shows in its TARGET alone. -/
theorem State.reg_setGoal_ne (s : State) (t c : Nat) {a : Nat} (h : a ≠ Reg.TILE_FREQ t) : (s.setGoal t c).reg a = s.reg a := by
  unfold State.setGoal
  dsimp only
  split
  · rw [State.reg_putF_ne]
    · rfl
    · simp only [Reg.TILE_FREQ_TARGET]; omega
  · rfl

/-- The state with the fields of TILE_FENCE that a fence of tile `t` for `cause` writes, before what follows from them. -/
def State.markFence (s : State) (t cause : Nat) : State :=
  ((s.putF (Reg.TILE_FENCE_FENCED t) 1).putF (Reg.TILE_FENCE_CAUSE t) cause).putF (Reg.TILE_FENCE_VERDICT t)
    (if cause = 1 then 1 else 2)

@[simp] theorem State.markFence_verdict (s : State) (t cause : Nat) :
    (s.markFence t cause).getF (Reg.TILE_FENCE_VERDICT t) = if cause = 1 then 1 else 2 := by
  rw [State.markFence, State.getF_putF _ _ _ (show 8 ≤ 9 by decide)]
  split <;> rfl

@[simp] theorem State.markFence_cause (s : State) (t cause : Nat) :
    (s.markFence t cause).getF (Reg.TILE_FENCE_CAUSE t) = cause % 4 := by
  have hverdict (u : State) (v : Nat) :
      (u.putF (Reg.TILE_FENCE_VERDICT t) v).getF (Reg.TILE_FENCE_CAUSE t) = u.getF (Reg.TILE_FENCE_CAUSE t) :=
    State.getF_putF_same _ _ _ _ rfl (show 5 / 32 = 9 / 32 by decide) (show 8 ≤ 9 by decide) (.inl (show 5 < 8 by decide))
  rw [State.markFence, hverdict, State.getF_putF _ _ _ (show 4 ≤ 5 by decide)]
  rfl

@[simp] theorem State.markFence_fenced (s : State) (t cause : Nat) :
    (s.markFence t cause).getF (Reg.TILE_FENCE_FENCED t) = 1 := by
  have hverdict (u : State) (v : Nat) :
      (u.putF (Reg.TILE_FENCE_VERDICT t) v).getF (Reg.TILE_FENCE_FENCED t) = u.getF (Reg.TILE_FENCE_FENCED t) :=
    State.getF_putF_same _ _ _ _ rfl (show 0 / 32 = 9 / 32 by decide) (show 8 ≤ 9 by decide) (.inl (show 0 < 8 by decide))
  have hcause (u : State) (v : Nat) :
      (u.putF (Reg.TILE_FENCE_CAUSE t) v).getF (Reg.TILE_FENCE_FENCED t) = u.getF (Reg.TILE_FENCE_FENCED t) :=
    State.getF_putF_same _ _ _ _ rfl (show 0 / 32 = 5 / 32 by decide) (show 4 ≤ 5 by decide) (.inl (show 0 < 4 by decide))
  rw [State.markFence, hverdict, hcause, State.getF_putF _ _ _ (show 0 ≤ 0 by decide)]
  rfl

/-- What a fence sets off leaves TILE_FENCE as the fence wrote it. -/
theorem State.reg_fence (s : State) {t : Nat} (cause : Nat) (ht : t < 32) :
    (s.fence t cause).reg (Reg.TILE_FENCE t) = (s.markFence t cause).reg (Reg.TILE_FENCE t) := by
  have ha := tileWord_tileFence ht
  have hgoal : Reg.TILE_FENCE t ≠ Reg.TILE_FREQ t := by simp [Reg.TILE_FENCE, Reg.TILE_FREQ]
  have hpresent (u : State) (n : Nat) :
      (u.putF ⟨Reg.DEV_TILE_PRESENT, t, t⟩ n).reg (Reg.TILE_FENCE t) = u.reg (Reg.TILE_FENCE t) :=
    u.reg_putF_below ha n (by simp only [Reg.DEV_TILE_PRESENT]; omega)
  rw [State.fence, State.reg_setGoal_ne _ _ _ hgoal, State.reg_saveResidents ha, State.reg_raiseLevel ha,
    State.reg_faultBlock ha, hpresent, State.markFence]

/-- A field of TILE_FENCE reads after a fence as the fence wrote it. -/
theorem State.getF_fence (s : State) {t : Nat} (cause : Nat) (ht : t < 32) {f : Fld} (hf : f.addr = Reg.TILE_FENCE t)
    (hhi : f.hi < 32) : (s.fence t cause).getF f = (s.markFence t cause).getF f :=
  State.getF_of_reg_eq hhi (by rw [hf, State.reg_fence s cause ht])

section
variable (s : State) {t : Nat} (cause : Nat) (ht : t < 32)
include ht

/-- A fence leaves the tile fenced. -/
theorem State.fenced_fence : (s.fence t cause).fenced t = true := by
  rw [State.fenced, State.onF, State.getF_fence s cause ht rfl (show 0 < 32 by decide), State.markFence_fenced]
  rfl

/-- CAUSE holds the low two bits of a fence's cause. -/
theorem State.fence_cause : (s.fence t cause).getF (Reg.TILE_FENCE_CAUSE t) = cause % 4 := by
  rw [State.getF_fence s cause ht rfl (show 5 < 32 by decide), State.markFence_cause]

/-- VERDICT is SUSPECT after a fence for cause 1 and CONFIRMED after any other. -/
theorem State.fence_verdict : (s.fence t cause).getF (Reg.TILE_FENCE_VERDICT t) = if cause = 1 then 1 else 2 := by
  rw [State.getF_fence s cause ht rfl (show 9 < 32 by decide), State.markFence_verdict]

end

/-! ## The end of a test slot -/

/-- A failed slot before its verdict: the slot is over and the failure is counted (R566). -/
def State.slotFailed (s : State) (t : Nat) : State :=
  ((s.setTile t { s.tile t with inSlot := false, preHold := false }).satInc Reg.GRN_TST_CNT_FAILS).testFailed

/-- Counting a failed slot fences no tile and releases none. -/
theorem State.fenced_slotFailed (s : State) (t u : Nat) : (s.slotFailed t).fenced u = s.fenced u := by
  have hword : (s.slotFailed t).reg (Reg.TILE_FENCE u) = s.reg (Reg.TILE_FENCE u) := by
    rw [State.slotFailed, State.reg_testFailed, State.satInc, State.reg_putF_ne, State.reg_setTile]
    simp only [Reg.GRN_TST_CNT_FAILS, Reg.GRN_TST_CNT, Reg.TILE_FENCE]
    omega
  rw [State.fenced, State.fenced, State.onF, State.onF, State.getF_of_reg_eq (show 0 < 32 by decide) hword]

/-- A slot that fails on a tile not fenced fences it for cause 3, and FS_TILE_TESTFAIL is raised after that. -/
theorem State.slotEnd_fail_of_not_fenced {s : State} {t : Nat} (hslot : (s.tile t).inSlot = true) (hfenced : s.fenced t = false) :
    s.slotEnd t false = ((s.slotFailed t).fence t 3).raise (FS.TILE_TESTFAIL t) := by
  have h : s.slotEnd t false = (s.slotFailed t).testVerdict t false := by rw [State.slotEnd, if_pos hslot]; rfl
  rw [h, State.testVerdict, s.fenced_slotFailed t t, hfenced]
  rfl

/-- FS_TILE_TESTFAIL of every tile is CRITICAL by default. -/
theorem defaultSeverity_tileTestfail : ∀ t < 32, defaultSeverity (FS.TILE_TESTFAIL t) = .critical := by decide

/-- Settles O43: the fence that the failed slot makes is the state that FS_TILE_TESTFAIL is raised on. -/
theorem failedPeriodicTestFencesTheTile : Obligations.FailedPeriodicTestFencesTheTile := by
  unfold Obligations.FailedPeriodicTestFencesTheTile
  intro s t ht hslot hfenced
  exact ⟨(s.slotFailed t).fence t 3, State.slotEnd_fail_of_not_fenced hslot hfenced, State.fenced_fence _ 3 ht,
    State.fence_cause _ 3 ht, State.fence_verdict _ 3 ht, defaultSeverity_tileTestfail t ht⟩

end Sys2Proof.Machine
end

section
/-! The proof that a SHARE which would saturate REFCNT is refused (R226): numbers written to memory read back, the counts of
other pages lie beside the one written, and a SHARE whose checks hold turns on the count alone. -/

namespace Sys2Proof.Machine

/-! ## Numbers in memory -/

@[simp] theorem length_leBytes (n x : Nat) : (leBytes n x).length = n := by
  induction n generalizing x with
  | zero => rfl
  | succ n ih => rw [leBytes, List.length_cons, ih]

/-- The bytes of a number spell its low bytes. -/
theorem leNat_leBytes (n x : Nat) : leNat (leBytes n x) = x % 256 ^ n := by
  induction n generalizing x with
  | zero => rw [pow_zero, Nat.mod_one]; rfl
  | succ n ih => rw [Nat.pow_succ', Nat.mod_mul, leBytes, leNat, ih, BitVec.toNat_ofNat]

/-- What is read is decided by the bytes of its range. -/
theorem State.read_congr {s u : State} {a n : Nat} (h : ∀ i < n, u.byte (a + i) = s.byte (a + i)) : u.read a n = s.read a n := by
  induction n generalizing a with
  | zero => rfl
  | succ n ih =>
    have hhead : u.byte a = s.byte a := h 0 n.succ_pos
    have htail : u.read (a + 1) n = s.read (a + 1) n :=
      ih fun i hi => by rw [Nat.add_assoc, Nat.add_comm 1 i]; exact h (i + 1) (Nat.succ_lt_succ hi)
    rw [State.read, State.read, hhead, htail]

/-- Bytes written in a row are read as they were written. -/
theorem State.read_write (s : State) (a : Nat) (l : List Byte) : (s.write a l).read a l.length = l := by
  induction l generalizing s a with
  | nil => rfl
  | cons b bs ih =>
    have hhead : (s.write a (b :: bs)).byte a = b := s.byte_write_inside a (b :: bs) 0 (by simp)
    rw [List.length_cons, State.read, hhead, State.write, ih]

/-- A number that is written reads as its low bytes. -/
theorem State.readNat_writeNat (s : State) (a n v : Nat) : (s.writeNat a n v).readNat a n = v % 256 ^ n := by
  have h := s.read_write a (leBytes n v)
  rw [length_leBytes] at h
  rw [State.readNat, State.writeNat, h, leNat_leBytes]

/-- A number beside the one written reads as before. -/
theorem State.readNat_writeNat_ne (s : State) {a n b m : Nat} (v : Nat) (h : b + m ≤ a ∨ a + n ≤ b) :
    (s.writeNat a n v).readNat b m = s.readNat b m := by
  refine congrArg leNat (State.read_congr fun i hi => s.byte_write_outside _ _ _ ?_)
  rw [length_leBytes]
  omega

/-! ## REFCNT in the page table -/

/-- Register files that agree hold the same numbers. -/
theorem State.regNat_of_regs_eq {s u : State} (h : u.regs = s.regs) (a n : Nat) : u.regNat a n = s.regNat a n := by
  induction n generalizing a with
  | zero => rfl
  | succ n ih => rw [State.regNat, State.regNat, State.reg_of_regs_eq h, ih]

/-- A write of a count moves no entry. -/
@[simp] theorem State.ptEntry_setRefCount (s : State) (n v m : Nat) : (s.setRefCount n v).ptEntry m = s.ptEntry m := by
  rw [State.ptEntry, State.ptEntry, State.getF, State.getF, State.regNat_of_regs_eq]
  exact State.write_regs ..

/-- A grant of a page's list leaves the page table. -/
@[simp] theorem State.refCount_ptGranted (s : State) (n port m : Nat) : (s.ptGranted n port).refCount m = s.refCount m :=
  rfl

/-- A count reads as the 16 bits that were written. -/
theorem State.refCount_setRefCount (s : State) (n v : Nat) : (s.setRefCount n v).refCount n = v % 256 ^ 2 := by
  rw [State.refCount, State.ptEntry_setRefCount, State.setRefCount, State.readNat_writeNat]

/-- The count of another page stands. -/
theorem State.refCount_setRefCount_ne (s : State) {n m : Nat} (v : Nat) (h : m ≠ n) :
    (s.setRefCount n v).refCount m = s.refCount m := by
  rw [State.refCount, State.ptEntry_setRefCount, State.setRefCount, State.readNat_writeNat_ne, State.refCount]
  simp only [State.ptEntry]
  omega

/-! ## SHARE -/

/-- The checks of a SHARE that come before the count's (R219): the link's row may be written, the link is not valid, and the
page is one of the partition's in use that holds the rows named in the layout named. -/
structure State.ShareChecked (s : State) (p t : Nat) (c : Cmd) : Prop where
  row : s.rowOk p t (s.linkAt (c.linkAddr 0)).addr 16 true = true
  free : (s.linkAt (c.linkAddr 0)).v = false
  usable : s.pageUsable p (c.f 0x30 19 0) = true
  fill : c.f 0x24 6 0 ≤ s.pageHwm (c.f 0x30 19 0) % 128
  layout : s.pageLayout (c.f 0x30 19 0) = c.kvLayout

section
variable {s : State} {p t : Nat} {c : Cmd} (h : s.ShareChecked p t c)
include h

/-- A SHARE whose increment reaches 65,535 is refused with KV_REFSAT. -/
theorem State.runShare_of_saturated (hn : s.refCount (c.f 0x30 19 0) + 1 = 65535) :
    s.runShare p t c = ({ verdict := .kv 0x13 }, s) := by
  obtain ⟨hrow, hfree, husable, hfill, hlayout⟩ := h
  simp [State.runShare, hrow, hfree, husable, Nat.not_lt.mpr hfill, hlayout, hn]

/-- A SHARE whose increment does not reach 65,535 passes: the page's count goes up by one, and the page's list grants it (R233). -/
theorem State.runShare_of_not_saturated (hn : s.refCount (c.f 0x30 19 0) + 1 ≠ 65535) :
    (s.runShare p t c).1.verdict = .passed ∧ (s.runShare p t c).2 =
      (s.setRefCount (c.f 0x30 19 0) (s.refCount (c.f 0x30 19 0) + 1)).ptGranted (c.f 0x30 19 0) t := by
  obtain ⟨hrow, hfree, husable, hfill, hlayout⟩ := h
  simp [State.runShare, hrow, hfree, husable, Nat.not_lt.mpr hfill, hlayout, hn]

/-- A SHARE that passes counts one more link to its page (R225). -/
theorem State.refCount_runShare (hn : s.refCount (c.f 0x30 19 0) + 1 < 65535) :
    (s.runShare p t c).2.refCount (c.f 0x30 19 0) = s.refCount (c.f 0x30 19 0) + 1 := by
  rw [(State.runShare_of_not_saturated h hn.ne).2, State.refCount_ptGranted, State.refCount_setRefCount,
    Nat.mod_eq_of_lt (by omega)]

/-- A SHARE that passes leaves the count of every other page. -/
theorem State.refCount_runShare_ne (hn : s.refCount (c.f 0x30 19 0) + 1 ≠ 65535) {n : Nat} (hpage : n ≠ c.f 0x30 19 0) :
    (s.runShare p t c).2.refCount n = s.refCount n := by
  rw [(State.runShare_of_not_saturated h hn).2, State.refCount_ptGranted, State.refCount_setRefCount_ne _ _ hpage]

end

/-- Settles O60: with the other checks met, a SHARE is refused or passes as its increment reaches 65,535 or stays below. -/
theorem shareAtSaturationIsRefused : Obligations.ShareAtSaturationIsRefused := by
  unfold Obligations.ShareAtSaturationIsRefused
  intro s p t c hrow hfree husable hfill hlayout
  have h : s.ShareChecked p t c := ⟨hrow, hfree, husable, hfill, hlayout⟩
  exact ⟨State.runShare_of_saturated h, fun hn => ⟨(State.runShare_of_not_saturated h hn.ne).1, State.refCount_runShare h hn,
    fun _ _ hpage => State.refCount_runShare_ne h hn.ne hpage⟩⟩

end Sys2Proof.Machine
end

section
/-! The proof that an AVSBus rail fails at its third read in a row (R602): what a cap period does after NONTILE is written leaves
PWR_MEAS, as every later field lies in another register word. -/

namespace Sys2Proof.Machine

/-! ## Telemetry reads -/

/-- The telemetry of an AVSBus rail. -/
def State.rail (s : State) (n : Nat) : Rail := Sparse.get (fun _ => {}) s.pwr.rails n

/-- The state with the telemetry of an AVSBus rail replaced. -/
def State.setRail (s : State) (n : Nat) (x : Rail) : State :=
  { s with pwr := { s.pwr with rails := Sparse.set (fun _ => {}) s.pwr.rails n x } }

@[simp] theorem State.rail_setRail (s : State) (n : Nat) (x : Rail) : (s.setRail n x).rail n = x := Sparse.get_set_same ..
@[simp] theorem State.setRail_mem (s : State) (n : Nat) (x : Rail) : (s.setRail n x).mem = s.mem := rfl
@[simp] theorem State.setRail_regs (s : State) (n : Nat) (x : Rail) : (s.setRail n x).regs = s.regs := rfl
@[simp] theorem State.rail_inside (s t : State) (n : Nat) : (s.inside t).rail n = t.rail n := by
  rw [State.rail, State.inside_pwr, State.rail]

/-- The state after a failed telemetry read, before the third in a row raises. -/
def State.railMissed (s : State) (n : Nat) : State :=
  s.setRail n { good := (s.rail n).good, fails := (s.rail n).fails + 1 }

theorem exec_avsRead (n : Nat) (good : Bool) (power : Nat) (s : State) :
    exec (.avsRead n good power) s = execAvsRead n good power s := rfl

section
variable {s : State} (hlive : s.live = true) (n power : Nat)
include hlive

/-- A read that succeeds is the rail's last good reading and ends the failures in a row. -/
theorem exec_avsRead_good : exec (.avsRead n true power) s = .next (s.inside (s.setRail n { good := power, fails := 0 })) := by
  rw [exec_avsRead, execAvsRead, whenLive_live hlive]; rfl

/-- A read that fails counts, and raises FS_PWR_AVS exactly as the third in a row. -/
theorem exec_avsRead_failed : exec (.avsRead n false power) s =
    .next (s.inside (if (s.rail n).fails + 1 = 3 then (s.railMissed n).raise FS.PWR_AVS else s.railMissed n)) := by
  rw [exec_avsRead, execAvsRead, whenLive_live hlive]; rfl

end

/-! ## What leaves PWR_MEAS -/

/-- A word below a field's register stands under a write to the field. -/
theorem State.reg_putF_of_lt (s : State) {f : Fld} (v : Nat) {a : Nat} (h : a < f.addr) : (s.putF f v).reg a = s.reg a :=
  State.reg_putF_ne _ _ _ _ (.inl h)

/-- The power manager's state beyond its registers is no register. -/
theorem State.reg_setPwr (s : State) (x : Power) (a : Nat) : { s with pwr := x }.reg a = s.reg a := rfl

/-- A quotient's rounding takes a free value and no register. -/
@[simp] theorem State.quotient_regs (s : State) (num den : Nat) : (s.quotient num den).2.regs = s.regs := by
  unfold State.quotient
  split <;> rfl

theorem State.reg_quotient (s : State) (num den a : Nat) : (s.quotient num den).2.reg a = s.reg a :=
  State.reg_of_regs_eq (s.quotient_regs num den) a

/-- The levels of the interrupt vectors show in PCIE_PBA and above alone. -/
theorem State.reg_pageEdge_of_lt (s old : State) (p : Nat) {a : Nat} (h : a < Reg.PCIE_PBA) :
    (s.pageEdge old p).reg a = s.reg a := by
  have hpba (v n : Nat) : (s.putF (pbaFld v) n).reg a = s.reg a := s.reg_putF_of_lt n h
  unfold State.pageEdge State.vectorEdge State.vectorRise
  split
  · split
    · split
      · rfl
      · exact hpba ..
    · exact hpba ..
    · rfl
  · rfl

/-- An interrupt of the power manager shows in the header of its page. -/
theorem State.meas_irq (s : State) (mask : Nat) : (s.irq 0x50 mask).reg Reg.PWR_MEAS = s.reg Reg.PWR_MEAS := by
  rw [State.irq, State.reg_pageEdge_of_lt _ _ _ (by decide), State.reg_putF_ne _ _ _ _ (.inr (by decide))]

/-- The account writes PWR_ACCT and counts debts in PWR_CNT (R605, R606). -/
theorem State.meas_account (s : State) (p : Nat) : (s.account p).reg Reg.PWR_MEAS = s.reg Reg.PWR_MEAS := by
  rw [State.account]
  dsimp only
  rw [State.reg_putF_ne _ _ _ _ (.inr (by decide))]
  split
  · rw [State.meas_irq, State.satInc, State.reg_putF_of_lt _ _ (by decide)]; rfl
  · rfl

/-- A learning step writes its field alone (R607). -/
theorem State.reg_learnStep_of_lt (s : State) {f : Fld} (x lim : Nat) {a : Nat} (h : a < f.addr) :
    (s.learnStep f x lim).reg a = s.reg a := by
  rw [State.learnStep, State.reg_putF_of_lt _ _ h, State.reg_quotient]

theorem State.meas_learn (s : State) (x : Nat × Nat × Nat) : (s.learn x).reg Reg.PWR_MEAS = s.reg Reg.PWR_MEAS := by
  have h : Reg.PWR_MEAS < Reg.PWR_PH x.1 := by simp only [Reg.PWR_MEAS, Reg.PWR_PH]; omega
  unfold State.learn
  split
  · rw [State.reg_putF_of_lt _ _ h, State.reg_learnStep_of_lt _ _ _ h, State.reg_learnStep_of_lt _ _ _ h]
  · rfl

theorem State.meas_thermRise (s : State) (n : Nat) : (s.thermRise n).reg Reg.PWR_MEAS = s.reg Reg.PWR_MEAS := by
  unfold State.thermRise
  split <;> rfl

/-- A throttle counts in PWR_CNT and raises an interrupt (R618). -/
theorem State.meas_thermalPeriod (s : State) : s.thermalPeriod.reg Reg.PWR_MEAS = s.reg Reg.PWR_MEAS := by
  have hthrottle (u : State) (fresh : Bool) : (u.throttleIrq fresh).reg Reg.PWR_MEAS = u.reg Reg.PWR_MEAS := by
    unfold State.throttleIrq
    split
    · exact u.meas_irq 2
    · rfl
  have hcount (u : State) : (if u.throttled then u.satInc Reg.PWR_CNT_THROTTLES else u).reg Reg.PWR_MEAS = u.reg Reg.PWR_MEAS := by
    split
    · exact u.reg_putF_of_lt _ (by decide)
    · rfl
  have hrise := State.reg_foldl State.meas_thermRise (List.range 32) s
  unfold State.thermalPeriod
  generalize (List.range 32).foldl _ s = u at hrise ⊢
  exact (hthrottle ..).trans ((hcount _).trans hrise)

theorem State.meas_noteCapped (s : State) : s.noteCapped.reg Reg.PWR_MEAS = s.reg Reg.PWR_MEAS := by
  unfold State.noteCapped
  split
  · exact s.reg_putF_of_lt _ (by decide)
  · rfl

/-! ### Allocation (R611–R614) -/

theorem meas_lt_tileFreq (t : Nat) : Reg.PWR_MEAS < Reg.TILE_FREQ t := by
  simp only [Reg.PWR_MEAS, Reg.TILE_FREQ]; omega

theorem meas_lt_pwrTile (t : Nat) : Reg.PWR_MEAS < Reg.PWR_TILE t := by
  simp only [Reg.PWR_MEAS, Reg.PWR_TILE]; omega

theorem State.meas_takeGoal (s : State) (t : Nat) : (s.takeGoal t).reg Reg.PWR_MEAS = s.reg Reg.PWR_MEAS :=
  s.reg_putF_of_lt _ (meas_lt_tileFreq t)

theorem State.meas_ramp (s : State) (n : Nat) : (s.ramp n).reg Reg.PWR_MEAS = s.reg Reg.PWR_MEAS := by
  have hset : Reg.PWR_MEAS < Reg.PWR_ISL_V n := by simp only [Reg.PWR_MEAS, Reg.PWR_ISL_V]; omega
  have hstat : Reg.PWR_MEAS < Reg.PWR_ISL_STAT n := by simp only [Reg.PWR_MEAS, Reg.PWR_ISL_STAT]; omega
  rw [State.ramp, State.reg_putF_of_lt _ _ hstat, State.reg_putF_of_lt _ _ hset]

theorem State.meas_setIslands (s : State) : s.setIslands.reg Reg.PWR_MEAS = s.reg Reg.PWR_MEAS := by
  have hrise (u : State) (l : List Nat) : (l.foldl (fun v n => v.ramp n) u).reg Reg.PWR_MEAS = u.reg Reg.PWR_MEAS :=
    State.reg_foldl State.meas_ramp l u
  unfold State.setIslands State.rampIslands State.fallIslands
  dsimp only
  rw [State.reg_foldl (fun u n => State.reg_foldl State.meas_takeGoal _ u), hrise, hrise, State.reg_setPwr, State.reg_setPwr]

theorem State.meas_allocGoal (s : State) (t grant : Nat) : (s.allocGoal t grant).2.reg Reg.PWR_MEAS = s.reg Reg.PWR_MEAS := by
  have hcap (v : Nat) : (s.putF (Reg.PWR_TILE_CAP_TARGET t) v).reg Reg.PWR_MEAS = s.reg Reg.PWR_MEAS :=
    s.reg_putF_of_lt v (meas_lt_pwrTile t)
  unfold State.allocGoal
  dsimp only
  split <;> exact hcap _

/-- The allocation writes the islands' and the tiles' registers. -/
theorem State.meas_allocate (s : State) : s.allocate.reg Reg.PWR_MEAS = s.reg Reg.PWR_MEAS := by
  unfold State.allocate
  dsimp only
  rw [State.meas_setIslands]
  rw [State.reg_foldl (fun u g => ?_), State.reg_setPwr]
  rw [State.reg_setGoal_ne _ _ _ (meas_lt_tileFreq g.1).ne, State.meas_allocGoal, State.reg_putF_of_lt _ _ (meas_lt_pwrTile g.1),
    State.reg_setPwr, State.reg_quotient]

/-! ## The parts of a cap period -/

/-- What a rail counts in a period's power, in 0.1 W: its last good reading, and 20 W more while it has failed (R602). -/
def Rail.counted (r : Rail) : Nat := r.good + if 3 ≤ r.fails then 200 else 0

/-- The power of all rails in a period, in 0.1 W. -/
def State.railPower (s : State) : Nat :=
  s.pwr.rails.foldl (fun m r => m + r.2.good + (if 3 ≤ r.2.fails then 200 else 0)) 0

theorem State.railPower_eq_sum (s : State) : s.railPower = (s.pwr.rails.map (fun x => x.2.counted)).sum := by
  simp only [State.railPower, List.sum_eq_foldl, List.foldl_map, Rail.counted, Nat.add_assoc]

/-- The power of a period, in 0.01 W: that of the islands and of the rails. -/
def State.periodPower (s : State) (power : PowerSample) : Nat := power.islands.foldl (fun m x => m + x) 0 + 10 * s.railPower

/-- The state with a period's power in the registers that show it, NONTILE last (R601). -/
def State.showPower (s : State) (power : PowerSample) : State :=
  let q := ((List.range 8).foldl (fun t n => t.putF (Reg.PWR_ISL_P_P n) (power.islands.getD n 0)) s).quotient
    (s.periodPower power) 10
  (q.2.putF Reg.PWR_MEAS_TOTAL q.1).putF Reg.PWR_MEAS_NONTILE s.railPower

theorem State.nontile_showPower (s : State) (power : PowerSample) :
    (s.showPower power).getF Reg.PWR_MEAS_NONTILE = s.railPower % 2 ^ Reg.PWR_MEAS_NONTILE.width :=
  State.getF_putF _ _ _ (show 0 ≤ 15 by decide)

/-- The mode and the cap that are written come into force, and a new cap opens its account (R604, R605, R621). -/
def State.takeCap (s : State) : State :=
  let u := { s with pwr := { s.pwr with repeatOn := s.onF Reg.PWR_MODE_REPEAT } }
  if s.getF Reg.PWR_CAP_CAP = u.pwr.cap then u
  else { u with pwr := { u.pwr with cap := s.getF Reg.PWR_CAP_CAP, level := (450 - (s.getF Reg.PWR_CAP_CAP : Int)) * 10000 } }

theorem State.takeCap_regs (s : State) : s.takeCap.regs = s.regs := by
  unfold State.takeCap
  dsimp only
  split <;> rfl

/-- A cap period that ends, once its power is shown: account, learning and limits, then the next period's cap and allocation. -/
def State.endPeriod (s : State) (p : Nat) (phases : List (Nat × Nat × Nat)) : State :=
  (phases.foldl (fun t x => t.learn x) (s.account p)).thermalPeriod.takeCap.allocate.noteCapped

theorem State.meas_endPeriod (s : State) (p : Nat) (phases : List (Nat × Nat × Nat)) :
    (s.endPeriod p phases).reg Reg.PWR_MEAS = s.reg Reg.PWR_MEAS := by
  rw [State.endPeriod, State.meas_noteCapped, State.meas_allocate, State.reg_of_regs_eq (State.takeCap_regs _),
    State.meas_thermalPeriod, State.reg_foldl State.meas_learn, State.meas_account]

/-- A cap period on a live device shows its power and ends. -/
theorem exec_capPeriodEnd {s : State} (hlive : s.live = true) (power : PowerSample) :
    exec (.capPeriodEnd power) s = .next (s.inside ((s.showPower power).endPeriod (s.periodPower power) power.phases)) := by
  have harm : exec (.capPeriodEnd power) s = execCapPeriodEnd power s := rfl
  rw [harm, execCapPeriodEnd, whenLive_live hlive, State.endPeriod, State.takeCap, State.showPower, State.periodPower,
    State.railPower]

/-- NONTILE holds the power of the rails after a cap period. -/
theorem State.nontile_capPeriod (s : State) (power : PowerSample) :
    (s.inside ((s.showPower power).endPeriod (s.periodPower power) power.phases)).getF Reg.PWR_MEAS_NONTILE =
      (s.pwr.rails.map (fun x => x.2.counted)).sum % 2 ^ Reg.PWR_MEAS_NONTILE.width := by
  rw [← State.railPower_eq_sum, ← State.nontile_showPower s power]
  refine State.getF_of_reg_eq (show 15 < 32 by decide) ?_
  rw [State.reg_of_regs_eq (State.inside_regs ..)]
  exact State.meas_endPeriod ..

/-- Settles O41: reads act on the rail's telemetry, and no part of a cap period after the sum over the rails writes PWR_MEAS. -/
theorem railsFailAtTheThirdRead : Obligations.RailsFailAtTheThirdRead := by
  unfold Obligations.RailsFailAtTheThirdRead
  rintro s n r hlive rfl
  refine ⟨fun p => ?read, fun p => ?failed, ?period, by decide⟩
  case read =>
    refine ⟨_, exec_avsRead_good hlive n p, (State.rail_inside ..).trans (State.rail_setRail ..), ?_⟩
    rw [State.inside_regs, State.setRail_regs]
  case period => exact fun power => ⟨_, exec_capPeriodEnd hlive power, s.nontile_capPeriod power⟩
  case failed =>
    exact ⟨s.railMissed n, State.rail_setRail .., State.setRail_mem .., State.setRail_regs .., exec_avsRead_failed hlive n p⟩

end Sys2Proof.Machine
end

section
/-! The proofs about the queue, the idle step, the mode and the pins: every command that does not act at the pins stays inside the
device, and each command at the pins ends in a state that the levels allow (R533, R599, R652–R656). -/

namespace Sys2Proof.Machine

/-! ## What ends a long operation and a fuse write leaves -/

@[simp] theorem State.burn_pending (s : State) (w b : Nat) : (s.burn w b).pending = s.pending := rfl

@[simp] theorem State.burnSome_pending (s : State) (l : List (Nat × Nat)) : (s.burnSome l).pending = s.pending := by
  induction l generalizing s with
  | nil => rfl
  | cons p l ih =>
    rw [State.burnSome]
    dsimp only
    split
    · rw [ih]; rfl
    · rfl

@[simp] theorem State.secBusy_pending (s : State) : s.secBusy.pending = s.pending := rfl

@[simp] theorem State.endOp_pending (s : State) (n : Nat) : (s.endOp n).pending = s.pending := by
  unfold State.endOp
  split
  · rfl
  · dsimp only
    simp only [State.putF_pending]
    split <;> split <;> split <;> simp

@[simp] theorem State.fpgmCut_pending (s : State) : s.fpgmCut.pending = s.pending := by
  unfold State.fpgmCut; split <;> rfl

/-! ## Commands at the pins -/

/-- Power removal leaves the queue. -/
@[simp] theorem State.powerOff_pending (s : State) : s.powerOff.pending = s.pending := by
  simp [State.powerOff, State.unpowered]

@[simp] theorem State.strapRegs_pending (s : State) : s.strapRegs.pending = s.pending := by simp [State.strapRegs]
@[simp] theorem State.strapRegs_pins (s : State) : s.strapRegs.pins = s.pins := by simp [State.strapRegs]
@[simp] theorem State.strapRegs_dev (s : State) : s.strapRegs.dev = s.dev := by simp [State.strapRegs]

/-- A level that releases the device leaves the queue and the levels. -/
@[simp] theorem State.released_pending (s : State) : s.released.pending = s.pending := rfl

theorem State.released_pins (s : State) : s.released.pins = { s.pins with refreshLost := s.tryBoot.pins.refreshLost } := rfl

theorem State.heldOff_on {s : State} (h : s.pins.powered = true) : s.heldOff = s.atPins s.toOff := by
  rw [State.heldOff, h, State.guard_true]

theorem State.heldOff_off {s : State} (h : s.pins.powered = false) : s.heldOff = s := by
  rw [State.heldOff, h, State.guard_false]

@[simp] theorem State.heldOff_pending (s : State) : s.heldOff.pending = s.pending := by
  cases h : s.pins.powered with
  | true => rw [State.heldOff_on h]; rfl
  | false => rw [State.heldOff_off h]

@[simp] theorem State.powerUp_pending (s : State) (pos : Nat) (test : Bool) : (s.powerUp pos test).pending = s.pending := by
  simp [State.powerUp, State.unpowered]

/-- What a command at the pins answers, by the command. -/
theorem exec_atPins (c : Instr) (s : State) (h : ActsAtPins c) : ∃ t, exec c s = .next t ∧ t.pending = s.pending := by
  cases c with
  | powerOn pos test =>
    refine ⟨_, rfl, ?_⟩
    cases s.pins.powered <;> simp
  | powerRemoval =>
    refine ⟨_, rfl, ?_⟩
    cases s.pins.powered <;> simp
  | railOutOfRange =>
    refine ⟨_, rfl, ?_⟩
    cases s.pins.powered && s.pins.supplyOk <;> simp
  | supplyOkFall => exact ⟨_, rfl, by simp⟩
  | supplyOkRise => exact ⟨_, rfl, by simp⟩
  | resetNAssert => exact ⟨_, rfl, by simp⟩
  | resetNRelease => exact ⟨_, rfl, by simp⟩
  | refclkSysLoss => exact ⟨_, rfl, by simp⟩
  | refclkSysReturn => exact ⟨_, rfl, by simp⟩
  | _ => exact h.elim

/-- Settles O3: a command inside the device leaves the queue by the frame of every command, one at the pins by its own. -/
theorem everyCommandAnswersAndLeavesTheQueue : Obligations.EveryCommandAnswersAndLeavesTheQueue := by
  unfold Obligations.EveryCommandAnswersAndLeavesTheQueue
  intro c s
  by_cases h : ActsAtPins c
  · exact exec_atPins c s h
  · rcases exec_keeps c s h with hs | ⟨-, t, ht⟩
    · exact ⟨s, hs, rfl⟩
    · exact ⟨_, ht, State.inside_pending s t⟩

/-! ## A state without power, and the invariant -/

/-- Taking power twice takes nothing more. -/
theorem State.unpowered_unpowered (s : State) : s.unpowered.unpowered = s.unpowered := rfl

/-- Without power a module holds what `unpowered` leaves it. -/
theorem State.lawful_of_unpowered {s : State} (h : s = s.unpowered) : s.Lawful := by
  refine ⟨fun _ => h, fun hoff => absurd ?_ hoff⟩
  rw [h]; rfl

/-- A powered device is lawful when the conditions of BOOT hold outside OFF and TERMINAL. -/
theorem State.lawful_of_powered {s : State} (hp : s.pins.powered = true)
    (h : s.dev.mode ≠ .off → s.dev.mode ≠ .terminal → s.bootable = true) : s.Lawful :=
  ⟨fun hoff => absurd (hp.symm.trans hoff) (by decide), h⟩

/-- A device in OFF or TERMINAL with power is lawful. -/
theorem State.lawful_of_stopped {s : State} (hp : s.pins.powered = true) (h : s.dev.mode = .off ∨ s.dev.mode = .terminal) :
    s.Lawful :=
  State.lawful_of_powered hp fun hoff hterm => (h.elim hoff hterm).elim

/-- The conditions of BOOT are levels at the pins, which `refreshLost` is none of. -/
theorem State.bootable_of_pins {s t : State} (h : t.pins = { s.pins with refreshLost := t.pins.refreshLost }) :
    t.bootable = s.bootable := by
  simp only [State.bootable]; rw [h]

/-- The queue is no part of the invariant. -/
theorem State.lawful_pending {s : State} (l : List Instr) (h : s.Lawful) : State.Lawful { s with pending := l } := by
  obtain ⟨hdark, hboot⟩ := h
  refine ⟨fun hp => ?_, hboot⟩
  have := congrArg (fun t : State => { t with pending := l }) (hdark hp)
  exact this

/-- What a command inside the device answers is lawful. -/
theorem State.lawful_inside {s : State} (t : State) (hp : s.pins.powered = true) (h : s.Lawful) : (s.inside t).Lawful := by
  obtain ⟨-, hboot⟩ := h
  have hpins := State.inside_pins s t
  refine State.lawful_of_powered (by rw [hpins]; exact hp) fun hoff hterm => ?_
  rw [State.bootable_of_pins (s := s) (t := s.inside t) (by rw [hpins])]
  rw [State.inside_mode] at hoff hterm
  exact hboot (fun h => by simp [h] at hoff) (fun h => by simp [h] at hterm)

/-! ### Levels that hold the device off -/

/-- A level that holds the device off, in a powered device, ends in OFF or TERMINAL. -/
theorem State.lawful_heldOff {s : State} (h : s.pins.powered = true) : s.heldOff.Lawful := by
  rw [State.heldOff_on h]
  exact State.lawful_of_stopped h (State.toOff_mode s)

/-! ### Levels that release the device -/

/-- A release that does not boot the device changes nothing. -/
theorem State.released_of_held {s : State} (h : s.bootable = false ∨ s.dev.mode ≠ .off) : s.released = s := by
  have : s.tryBoot = s := by
    unfold State.tryBoot
    rw [if_neg]
    rcases h with h | h <;> simp [h, State.mode]
  rw [State.released, this]; rfl

/-- A level that releases a powered device leaves the conditions of BOOT in force. -/
theorem State.lawful_released {s : State} (hp : s.pins.powered = true)
    (h : s.dev.mode ≠ .off → s.dev.mode ≠ .terminal → s.bootable = true) : s.released.Lawful := by
  by_cases hb : s.bootable = true
  · refine State.lawful_of_powered hp fun _ _ => ?_
    rw [State.bootable_of_pins s.released_pins, hb]
  · rw [State.released_of_held (.inl (by simpa using hb))]
    exact State.lawful_of_powered hp h

/-! ### The commands at the pins keep the invariant -/

/-- Setting a condition of BOOT keeps what the invariant says of a powered device. -/
theorem State.lawful_raiseLevel {s u : State} (h : s.Lawful) (hdev : u.dev = s.dev) (hp : u.pins.powered = s.pins.powered)
    (hboot : s.bootable = true → u.bootable = true) (hdark : s = s.unpowered → u = u.unpowered) : u.released.Lawful := by
  obtain ⟨hun, hb⟩ := h
  cases hs : s.pins.powered with
  | false =>
    rw [State.released_of_held (.inl (by simp [State.bootable, hp, hs]))]
    exact State.lawful_of_unpowered (hdark (hun hs))
  | true =>
    refine State.lawful_released (hp.trans hs) fun hoff hterm => ?_
    rw [hdev] at hoff hterm
    exact hboot (hb hoff hterm)

/-- Taking a condition of BOOT away holds a powered device off and leaves a dark one dark. -/
theorem State.lawful_dropLevel {s u : State} (h : s.Lawful) (hp : u.pins.powered = s.pins.powered)
    (hdark : s = s.unpowered → u = u.unpowered) : u.heldOff.Lawful := by
  obtain ⟨hun, -⟩ := h
  cases hs : s.pins.powered with
  | false =>
    rw [State.heldOff_off (hp.trans hs)]
    exact State.lawful_of_unpowered (hdark (hun hs))
  | true => exact State.lawful_heldOff (hp.trans hs)

/-- What power-on makes is lawful. -/
theorem State.lawful_powerUp (s : State) (pos : Nat) (test : Bool) : (s.powerUp pos test).Lawful := by
  refine State.lawful_released (by simp) fun hoff => absurd ?_ hoff
  simp [State.unpowered]

/-- Every command at the pins keeps the invariant. -/
theorem exec_atPins_lawful (c : Instr) (s t : State) (h : ActsAtPins c) (hs : s.Lawful) (ht : exec c s = .next t) : t.Lawful := by
  cases c with
  | powerOn pos test =>
    cases ht
    cases hp : s.pins.powered with
    | true => exact hs
    | false => exact State.lawful_powerUp s pos test
  | powerRemoval =>
    cases ht
    cases hp : s.pins.powered with
    | true => exact State.lawful_of_unpowered (State.unpowered_unpowered _).symm
    | false => exact hs
  | railOutOfRange =>
    cases ht
    cases hp : s.pins.powered && s.pins.supplyOk with
    | true => exact State.lawful_heldOff (Bool.and_eq_true_iff.mp hp).1
    | false => exact hs
  | supplyOkFall => cases ht; exact State.lawful_dropLevel hs rfl (fun h => by rw [h]; rfl)
  | resetNAssert => cases ht; exact State.lawful_dropLevel hs rfl (fun h => by rw [h]; rfl)
  | refclkSysLoss => cases ht; exact State.lawful_dropLevel hs rfl (fun h => by rw [h]; rfl)
  | supplyOkRise => cases ht; exact State.lawful_raiseLevel hs rfl rfl (by simp [State.bootable]; tauto) (fun h => by rw [h]; rfl)
  | resetNRelease => cases ht; exact State.lawful_raiseLevel hs rfl rfl (by simp [State.bootable]; tauto) (fun h => by rw [h]; rfl)
  | refclkSysReturn => cases ht; exact State.lawful_raiseLevel hs rfl rfl (by simp [State.bootable]; tauto) (fun h => by rw [h]; rfl)
  | _ => exact h.elim

/-- Every command keeps the invariant. -/
theorem exec_lawful (c : Instr) (s t : State) (hs : s.Lawful) (ht : exec c s = .next t) : t.Lawful := by
  by_cases h : ActsAtPins c
  · exact exec_atPins_lawful c s t h hs ht
  · rcases exec_keeps c s h with hc | ⟨hp, u, hc⟩
    · cases hc.symm.trans ht; exact hs
    · cases hc.symm.trans ht; exact State.lawful_inside u hp hs

/-! ## The idle step -/

/-- A base reads as it was written last. -/
theorem State.base_setBase (s : State) (b k : Nat) (x : TimeBase) : (s.setBase b x).base k = if k = b then x else s.base k :=
  Sparse.get_set ..

/-- Bases written in a row read as they were written, and every other base as before. -/
theorem State.base_foldl_setBase (f : Nat → TimeBase) (l : List Nat) (s : State) (k : Nat) :
    (l.foldl (fun t b => t.setBase b (f b)) s).base k = if k ∈ l then f k else s.base k := by
  induction l generalizing s with
  | nil => rfl
  | cons b l ih =>
    rw [List.foldl_cons, ih, State.base_setBase]
    by_cases hk : k = b <;> simp [hk]

/-- The state with the bases as in `u` and one cycle more. -/
def State.countCycle (s u : State) : State := { s with qtz := { u.qtz with cycles := u.qtz.cycles + 1 } }

theorem State.cycle_eq (s : State) : s.cycle = s.countCycle s.advanceBases := by rw [State.cycle, State.countCycle]

theorem State.base_countCycle (s u : State) (b : Nat) : (s.countCycle u).base b = u.base b := rfl

/-- In a cycle that passes every base counts on from its value before it. -/
theorem State.base_cycle {s : State} {b : Nat} (h : b ∈ baseNumbers) : s.cycle.base b = s.advanced b := by
  rw [State.cycle_eq, State.base_countCycle, State.advanceBases, State.base_foldl_setBase, if_pos h]

/-- The idle step of a powered block lets a cycle pass and queues what falls due with it. -/
theorem State.tick_on {s : State} (h : s.pins.powered = true) :
    s.tick = { s.cycle with pending := s.cycle.pending ++ s.cycle.wraps s ++ s.cycle.due } := by
  simp [State.tick, h]

theorem State.tick_off {s : State} (h : s.pins.powered = false) : s.tick = s := by simp [State.tick, h]

theorem State.cycle_cycles (s : State) : s.cycle.qtz.cycles = s.qtz.cycles + 1 := rfl

theorem step_of_idle {s : State} (h : s.pending = []) : step s = .next s.tick := by simp [step, h]

/-- Settles O1: the step's own equation. -/
theorem stepRunsFrontCommand : Obligations.StepRunsFrontCommand := by
  unfold Obligations.StepRunsFrontCommand
  intro s c rest h
  simp [step, h]

/-- Settles O2: the idle step is `State.tick`, and a base written in a row of bases reads as written. -/
theorem idleStepIsOneQuartzCycle : Obligations.IdleStepIsOneQuartzCycle := by
  unfold Obligations.IdleStepIsOneQuartzCycle
  intro s h
  refine ⟨fun hp => by rw [step_of_idle h, State.tick_off hp], fun hp => ?_⟩
  exact ⟨_, (step_of_idle h).trans (congrArg _ (State.tick_on hp)), s.cycle_cycles, rfl, rfl, rfl, rfl,
    fun b hb => State.base_cycle hb⟩

/-- Settles O4: at reset every condition of BOOT holds. -/
theorem resetIsLawful : Obligations.ResetIsLawful := State.lawful_of_powered rfl fun _ _ => rfl

/-- Settles O5: the idle step touches neither mode nor pins, and every command keeps the invariant whatever is queued. -/
theorem stepKeepsLawful : Obligations.StepKeepsLawful := by
  unfold Obligations.StepKeepsLawful
  intro s t hs ht
  cases hq : s.pending with
  | cons c rest =>
    rw [stepRunsFrontCommand s c rest hq] at ht
    exact exec_lawful c _ t (State.lawful_pending rest hs) ht
  | nil =>
    cases (step_of_idle hq).symm.trans ht
    cases hp : s.pins.powered with
    | false => rwa [State.tick_off hp]
    | true => rw [State.tick_on hp]; exact State.lawful_of_powered hp hs.2

/-! ## OFF, TERMINAL and the straps -/

/-- A level that holds the device off leaves TERMINAL and everything else in it. -/
theorem State.heldOff_of_terminal {s : State} (h : s.dev.mode = .terminal) : s.heldOff = s := by
  unfold State.heldOff
  cases hp : s.pins.powered with
  | false => rfl
  | true => simp [State.toOff, State.mode, h, State.atPins]

/-- The power and the straps as sampled are those of `s`. -/
def Pins.SameStraps (p q : Pins) : Prop := q.powered = p.powered ∧ q.cascPos = p.cascPos ∧ q.testMode = p.testMode

theorem State.heldOff_straps (s : State) : s.pins.SameStraps s.heldOff.pins := by
  cases hp : s.pins.powered with
  | true => rw [State.heldOff_on hp]; exact ⟨rfl, rfl, rfl⟩
  | false => rw [State.heldOff_off hp]; exact ⟨rfl, rfl, rfl⟩

/-- With power, the commands at the pins but power removal leave power and straps. -/
theorem exec_atPins_straps (c : Instr) (s t : State) (h : ActsAtPins c) (hp : s.pins.powered = true) (hc : c ≠ .powerRemoval)
    (ht : exec c s = .next t) : s.pins.SameStraps t.pins := by
  cases c with
  | powerOn pos test =>
    cases ht
    rw [hp]; exact ⟨rfl, rfl, rfl⟩
  | powerRemoval => exact absurd rfl hc
  | railOutOfRange =>
    cases ht
    rw [hp]
    cases s.pins.supplyOk with
    | true => exact State.heldOff_straps _
    | false => exact ⟨rfl, rfl, rfl⟩
  | supplyOkFall => cases ht; exact State.heldOff_straps _
  | resetNAssert => cases ht; exact State.heldOff_straps _
  | refclkSysLoss => cases ht; exact State.heldOff_straps _
  | supplyOkRise => cases ht; exact ⟨rfl, rfl, rfl⟩
  | resetNRelease => cases ht; exact ⟨rfl, rfl, rfl⟩
  | refclkSysReturn => cases ht; exact ⟨rfl, rfl, rfl⟩
  | _ => exact h.elim

/-- A device in TERMINAL stays there under every command at the pins but power removal. -/
theorem exec_atPins_terminal (c : Instr) (s t : State) (h : ActsAtPins c) (hp : s.pins.powered = true) (hc : c ≠ .powerRemoval)
    (hm : s.dev.mode = .terminal) (ht : exec c s = .next t) : t.dev.mode = .terminal := by
  have hheld (u : State) (hu : u.dev = s.dev) : u.heldOff.dev.mode = .terminal := by
    rw [State.heldOff_of_terminal (by rw [hu, hm]), hu, hm]
  have hrel (u : State) (hu : u.dev = s.dev) : u.released.dev.mode = .terminal := by
    rw [State.released_of_held (.inr (by simp [hu, hm])), hu, hm]
  cases c with
  | powerOn pos test => cases ht; rw [hp]; exact hm
  | powerRemoval => exact absurd rfl hc
  | railOutOfRange =>
    cases ht
    rw [hp]
    cases s.pins.supplyOk with
    | true => exact hheld _ rfl
    | false => exact hm
  | supplyOkFall => cases ht; exact hheld _ rfl
  | resetNAssert => cases ht; exact hheld _ rfl
  | refclkSysLoss => cases ht; exact hheld _ rfl
  | supplyOkRise => cases ht; exact hrel _ rfl
  | resetNRelease => cases ht; exact hrel _ rfl
  | refclkSysReturn => cases ht; exact hrel _ rfl
  | _ => exact h.elim

/-- Settles O6: inside the device the frame of every command holds OFF and TERMINAL, and at the pins each command is looked at. -/
theorem offAndTerminalAreLeftOnlyAtThePins : Obligations.OffAndTerminalAreLeftOnlyAtThePins := by
  unfold Obligations.OffAndTerminalAreLeftOnlyAtThePins
  have inside (s t : State) (c : Instr) (h : ¬ ActsAtPins c) (hm : s.dev.mode = .off ∨ s.dev.mode = .terminal)
      (ht : exec c s = .next t) : t.dev.mode = s.dev.mode := by
    rcases exec_keeps c s h with hc | ⟨-, u, hc⟩
    · cases hc.symm.trans ht; rfl
    · cases hc.symm.trans ht; rw [State.inside_mode, if_pos hm]
  refine ⟨fun c s t hp hm hc ht => ?_, fun c s t hm h ht => (inside s t c h (.inl hm) ht).trans hm⟩
  by_cases h : ActsAtPins c
  · exact exec_atPins_terminal c s t h hp hc hm ht
  · exact (inside s t c h (.inr hm) ht).trans hm

/-- Settles O7: inside the device a command leaves the pins, and without power it changes nothing. -/
theorem strapsStandAndNothingActsWithoutPower : Obligations.StrapsStandAndNothingActsWithoutPower := by
  unfold Obligations.StrapsStandAndNothingActsWithoutPower
  refine ⟨fun c s t hp hc ht => ?_, fun c s hp h => ?_⟩
  · have hstraps : s.pins.SameStraps t.pins := by
      by_cases h : ActsAtPins c
      · exact exec_atPins_straps c s t h hp hc ht
      · rcases exec_keeps c s h with hk | ⟨-, u, hk⟩
        · cases hk.symm.trans ht; exact ⟨rfl, rfl, rfl⟩
        · cases hk.symm.trans ht; rw [State.inside_pins]; exact ⟨rfl, rfl, rfl⟩
    obtain ⟨hpow, hpos, htest⟩ := hstraps
    exact ⟨hpow.trans hp, hpos, htest⟩
  · exact (exec_keeps c s h).resolve_right fun ⟨hon, _⟩ => absurd (hon.symm.trans hp) (by decide)

end Sys2Proof.Machine
end

section
/-! The proofs about power, resets and the fuse array: what a device reset keeps of memory, of the fault collector's sticky bits and of
Quartz (R598, R653, R668), and that no end of an operation clears a fuse bit (R628). -/

namespace Sys2Proof.Machine

/-! ## Stores that keep a part of their numbers -/

/-- A number that is kept reads as before, any other as unlisted. -/
theorem Sparse.get_keep {α : Type} (d : Nat → α) (p : Nat → Bool) (l : Sparse α) (k : Nat) :
    Sparse.get d (Sparse.keep p l) k = if p k then Sparse.get d l k else d k := by
  unfold Sparse.keep
  induction l with
  | nil => simp [Sparse.get]
  | cons e l ih =>
    obtain ⟨j, v⟩ := e
    by_cases hj : p j = true
    · rw [List.filter_cons_of_pos (by exact hj)]
      by_cases hk : k = j
      · subst hk; simp [Sparse.get, hj]
      · simp [Sparse.get, hk, ih]
    · rw [List.filter_cons_of_neg (by exact hj), ih]
      by_cases hk : k = j
      · subst hk; simp [hj]
      · simp [Sparse.get, hk]

/-! ## Steps in a row -/

/-- What each of a row of steps leaves is left by the row. -/
theorem State.foldl_frame {α β : Type} {f : State → α → State} {g : State → β} {l : List α}
    (h : ∀ u, ∀ x ∈ l, g (f u x) = g u) (s : State) : g (l.foldl f s) = g s := by
  induction l generalizing s with
  | nil => rfl
  | cons x l ih =>
    rw [List.foldl_cons, ih fun u y hy => h u y (List.mem_cons_of_mem _ hy), h s x (List.mem_cons_self ..)]

/-! ## What the fuses show in -/

/-- A state without its registers and the power manager's state: what a load of the fuses leaves. -/
def State.sansShown (s : State) : State := { s with regs := [], pwr := State.reset.pwr }

/-- What reads a state without these reads alike in states that agree in the rest. -/
theorem State.of_sansShown {β : Type} {g : State → β} {s u : State} (hg : ∀ v, g v.sansShown = g v)
    (h : u.sansShown = s.sansShown) : g u = g s := by rw [← hg u, h, hg]

@[simp] theorem State.putF_sansShown (s : State) (f : Fld) (v : Nat) : (s.putF f v).sansShown = s.sansShown := by
  rw [State.putF_eq]; rfl

@[simp] theorem State.showSec_sansShown (s : State) : s.showSec.sansShown = s.sansShown := by simp [State.showSec]

@[simp] theorem State.loadFloors_sansShown (s : State) : s.loadFloors.sansShown = s.sansShown :=
  State.foldl_frame (fun u n _ => by simp) s

@[simp] theorem State.loadRegions_sansShown (s : State) : s.loadRegions.sansShown = s.sansShown :=
  State.foldl_frame (fun u n _ => by simp) s

@[simp] theorem State.loadFmax_sansShown (s : State) : s.loadFmax.sansShown = s.sansShown :=
  State.foldl_frame (fun u n _ => by dsimp only; split <;> simp) s

@[simp] theorem State.loadArb_sansShown (s : State) : s.loadArb.sansShown = s.sansShown :=
  State.foldl_frame (fun u n _ => by simp) s

@[simp] theorem State.loadCap_sansShown (s : State) : s.loadCap.sansShown = s.sansShown :=
  (State.putF_sansShown (s.putF _ _) _ _).trans (State.putF_sansShown s _ _)

/-- A load of the fuses shows them in registers and in the power manager's cap. -/
@[simp] theorem State.loadFuses_sansShown (s : State) : s.loadFuses.sansShown = s.sansShown := by
  simp [State.loadFuses, State.loadPcieId, State.loadMac, State.loadTierMode]

@[simp] theorem State.keepTiles_sansShown (s old : State) : (s.keepTiles old).sansShown = s.sansShown :=
  State.foldl_frame (fun u n _ => by dsimp only; split <;> simp) s

@[simp] theorem State.strapRegs_sansShown (s : State) : s.strapRegs.sansShown = s.sansShown := by simp [State.strapRegs]

/-! ## A device reset -/

/-- What a device reset stops before it resets: the long operation, a fuse write, and Quartz's servos and triggers. -/
def State.stopped (s : State) : State := ((s.endOp 5).fpgmCut).quartzReset

/-- The registers that a reset keeps, among them those that carry the sticky bits and Quartz's frame number. -/
def State.resetCore (s : State) : State :=
  let base := State.reset
  { base with
    pending := s.pending, freeCtr := s.freeCtr, sent := s.sent, mem := s.mem, ue := s.ue,
    regs := Sparse.keep keptByReset s.regs,
    pins := { s.pins with refreshLost := false },
    dev := { base.dev with mode := .off, respGranite := s.dev.respGranite, respCmdp := s.dev.respCmdp, respPcie := s.dev.respPcie },
    fc := { broken := s.fc.broken, raised := s.fc.raised.filter (fun n => !s.releasedFence n) },
    qtz := s.qtz, frame := s.frame, tap := s.tap,
    pwr := { base.pwr with derated := s.pwr.derated, hubVolt := s.pwr.hubVolt },
    tier := { base.tier with d2dLatched := s.tier.d2dLatched.filter (fun m => !s.tier.d2dRemoved.contains m) },
    sec := { s.sec with images := [] } }

theorem State.deviceReset_eq (s : State) :
    s.deviceReset = ((s.stopped.resetCore.keepTiles s.stopped).strapRegs.loadFuses).setMode .off := rfl

/-- What a load of the fuses leaves and the mode does not hold is that of `resetCore` after a reset. -/
theorem State.deviceReset_frame {β : Type} (g : State → β) (hshown : ∀ u, g u.sansShown = g u)
    (hmode : ∀ u : State, ∀ m, g (u.setMode m) = g u) (s : State) : g s.deviceReset = g s.stopped.resetCore := by
  rw [State.deviceReset_eq, hmode, ← hshown, State.loadFuses_sansShown, State.strapRegs_sansShown, State.keepTiles_sansShown,
    hshown]

@[simp] theorem State.setMode_mem (s : State) (m : Mode) : (s.setMode m).mem = s.mem := by rw [State.setMode_eq]
@[simp] theorem State.setMode_qtz (s : State) (m : Mode) : (s.setMode m).qtz = s.qtz := by rw [State.setMode_eq]
@[simp] theorem State.setMode_fc (s : State) (m : Mode) : (s.setMode m).fc = s.fc := by rw [State.setMode_eq]
@[simp] theorem State.setMode_sec (s : State) (m : Mode) : (s.setMode m).sec = s.sec := by rw [State.setMode_eq]
@[simp] theorem State.setMode_pins (s : State) (m : Mode) : (s.setMode m).pins = s.pins := by rw [State.setMode_eq]

/-- A state without what the end of a long operation or of a fuse write can change. -/
def State.sansOp (s : State) : State :=
  { s with regs := [], sec := State.reset.sec, freeCtr := 0, test := State.reset.test, dev := State.reset.dev, blocks := [] }

/-- What reads a state without these reads alike in states that agree in the rest. -/
theorem State.of_sansOp {β : Type} {g : State → β} {s u : State} (hg : ∀ v, g v.sansOp = g v) (h : u.sansOp = s.sansOp) :
    g u = g s := by rw [← hg u, h, hg]

@[simp] theorem State.putF_sansOp (s : State) (f : Fld) (v : Nat) : (s.putF f v).sansOp = s.sansOp := by
  rw [State.putF_eq]; rfl

@[simp] theorem State.secBusy_sansOp (s : State) : s.secBusy.sansOp = s.sansOp := rfl

@[simp] theorem State.burnSome_sansOp (s : State) (l : List (Nat × Nat)) : (s.burnSome l).sansOp = s.sansOp := by
  induction l generalizing s with
  | nil => rfl
  | cons p l ih =>
    rw [State.burnSome]
    dsimp only
    split
    · rw [ih]; rfl
    · rfl

/-- The end of a long operation leaves memory, the pins, Quartz and the fault collector. -/
@[simp] theorem State.endOp_sansOp (s : State) (n : Nat) : (s.endOp n).sansOp = s.sansOp := by
  unfold State.endOp
  split
  · rfl
  next o _ =>
    simp only [State.putF_sansOp]
    by_cases hb : o.code = 3 ∧ n ≠ 0
    · simp only [if_pos hb]
      split_ifs <;> exact s.burnSome_sansOp _
    · simp only [if_neg hb]
      split_ifs <;> rfl

@[simp] theorem State.fpgmCut_sansOp (s : State) : s.fpgmCut.sansOp = s.sansOp := by
  unfold State.fpgmCut; split <;> rfl

theorem State.cut_sansOp (s : State) (n : Nat) : ((s.endOp n).fpgmCut).sansOp = s.sansOp := by simp

@[simp] theorem State.quartzReset_mem (s : State) : s.quartzReset.mem = s.mem := rfl
@[simp] theorem State.quartzReset_fc (s : State) : s.quartzReset.fc = s.fc := rfl
@[simp] theorem State.quartzReset_sec (s : State) : s.quartzReset.sec = s.sec := rfl

@[simp] theorem State.stopped_mem (s : State) : s.stopped.mem = s.mem :=
  (State.quartzReset_mem _).trans (State.of_sansOp (g := State.mem) (fun _ => rfl) (s.cut_sansOp 5))

@[simp] theorem State.stopped_fc (s : State) : s.stopped.fc = s.fc :=
  (State.quartzReset_fc _).trans (State.of_sansOp (g := State.fc) (fun _ => rfl) (s.cut_sansOp 5))

/-- The words of Quartz's pages that a reset of Quartz keeps, and every word of another page (R668). -/
def quartzKept (a : Nat) : Bool :=
  !(decide (0x40000 ≤ a ∧ a < 0x50000)) ||
    ((a / 0x1000 == 0x40 && (a % 0x1000 == 0x48 || a % 0x1000 == 0x54 || a % 0x1000 == 0x58)) ||
    (a / 0x1000 == 0x41 && decide (0x400 ≤ a % 0x1000 ∧ a % 0x1000 < 0x600) &&
      (a % 0x1000 % 0x40 == 0x1C || a % 0x1000 % 0x40 == 0x20 || a % 0x1000 % 0x40 == 0x24)))

theorem State.quartzReset_regs (s : State) : s.quartzReset.regs = Sparse.keep quartzKept s.regs := rfl

/-- The bases of Quartz over a reset: TB2 holds the rate it had. -/
theorem State.quartzReset_bases (s : State) :
    s.quartzReset.qtz.bases = Sparse.set (fun _ => {}) s.qtz.bases 2 { s.base 2 with held := s.rate 2 } := rfl

/-- A reset of Quartz keeps the counts of its bases. -/
theorem State.quartzReset_count (s : State) (b : Nat) : (s.quartzReset.base b).count = (s.base b).count := by
  rw [State.base, State.quartzReset_bases, Sparse.get_set]
  split
  next h => rw [h]
  next => rfl

theorem State.stopped_count (s : State) (b : Nat) : (s.stopped.base b).count = (s.base b).count :=
  (State.quartzReset_count _ b).trans
    (State.of_sansOp (g := fun u => (u.base b).count) (fun _ => rfl) (s.cut_sansOp 5))

@[simp] theorem State.deviceReset_mem (s : State) : s.deviceReset.mem = s.mem :=
  (State.deviceReset_frame State.mem (fun _ => rfl) State.setMode_mem s).trans s.stopped_mem

theorem State.deviceReset_broken (s : State) : s.deviceReset.fc.broken = s.fc.broken :=
  (State.deviceReset_frame (fun u => u.fc.broken) (fun _ => rfl) (fun u m => by simp) s).trans
    (show s.stopped.fc.broken = _ by rw [State.stopped_fc])

theorem State.deviceReset_count (s : State) (b : Nat) : (s.deviceReset.base b).count = (s.base b).count := by
  refine (State.deviceReset_frame (fun u => (u.base b).count) (fun _ => rfl) (fun u m => ?_) s).trans (s.stopped_count b)
  simp [State.base]

/-! ### Which words the parts of a reset write -/

/-- A word outside DEV_OP is left by the end of a long operation. -/
theorem State.reg_endOp_ne (s : State) (n : Nat) {a : Nat} (ha : a ≠ Reg.DEV_OP) : (s.endOp n).reg a = s.reg a := by
  have hop (u : State) {f : Fld} (hf : f.addr = Reg.DEV_OP) (hhi : f.hi < 32) (v : Nat) : (u.putF f v).reg a = u.reg a :=
    State.reg_putF_ne _ _ _ _ (by rw [hf]; omega)
  unfold State.endOp
  split
  · rfl
  · rw [hop _ rfl (by decide), hop _ rfl (by decide)]
    apply State.reg_of_regs_eq
    split_ifs <;> simp [State.secBusy]

@[simp] theorem State.fpgmCut_regs (s : State) : s.fpgmCut.regs = s.regs := by unfold State.fpgmCut; split <;> rfl

/-- A word outside FC_STAT is left by a change of mode. -/
theorem State.reg_setMode_ne (s : State) (m : Mode) {a : Nat} (ha : a ≠ Reg.FC_STAT) : (s.setMode m).reg a = s.reg a := by
  have hstat (u : State) {f : Fld} (hf : f.addr = Reg.FC_STAT) (hhi : f.hi < 32) (v : Nat) : (u.putF f v).reg a = u.reg a :=
    State.reg_putF_ne _ _ _ _ (by rw [hf]; omega)
  unfold State.setMode
  dsimp only
  split
  · exact hstat _ rfl (by decide) _
  · rw [hstat _ rfl (by decide), hstat _ rfl (by decide)]; rfl

/-- Words below the security controller's page are left by what it shows. -/
theorem State.reg_showSec_of_lt (s : State) {a : Nat} (ha : a < 0x70000) : s.showSec.reg a = s.reg a := by
  have h {f : Fld} (hf : 0x70000 ≤ f.addr) (u : State) (v : Nat) : (u.putF f v).reg a = u.reg a :=
    State.reg_putF_ne _ _ _ _ (.inl (by omega))
  unfold State.showSec
  rw [h (by decide), h (by decide), h (by decide), h (by decide), h (by decide), h (by decide)]

/-- The straps show on the Odilo pages. -/
theorem State.reg_strapRegs_of_lt (s : State) {a : Nat} (ha : a < 0x600000) : s.strapRegs.reg a = s.reg a := by
  have h {f : Fld} (hf : 0x600000 ≤ f.addr) (u : State) (v : Nat) : (u.putF f v).reg a = u.reg a :=
    State.reg_putF_ne _ _ _ _ (.inl (by omega))
  unfold State.strapRegs
  rw [h (show 0x600000 ≤ 0x600084 by decide), h (show 0x600000 ≤ 0x600080 by decide), h (by decide)]

/-! ### The registers that a reset keeps -/

/-- Word `a` is a sticky word of the fault collector, or Quartz's frame number. -/
def stickyWord (a : Nat) : Prop := 0x21400 ≤ a ∧ a < 0x21480 ∨ a = Reg.QTZ_FRAME

section
variable {a : Nat} (ha : stickyWord a)
include ha

theorem stickyWord.lt : a < 0x50000 := by
  unfold stickyWord Reg.QTZ_FRAME at ha; omega

/-- A field above Quartz's pages leaves the words that a reset keeps. -/
theorem State.reg_putF_sticky (s : State) {f : Fld} (v : Nat) (hf : 0x50000 ≤ f.addr) : (s.putF f v).reg a = s.reg a :=
  State.reg_putF_ne _ _ _ _ (.inl (Nat.lt_of_lt_of_le ha.lt hf))

/-- Floors and severities lie between the sticky words and Quartz. -/
theorem State.reg_loadFloors_sticky (s : State) : s.loadFloors.reg a = s.reg a := by
  refine State.foldl_frame (g := fun u => u.reg a) (fun u n hn => ?_) s
  have hn := List.mem_range.mp hn
  have h (v : State) {f : Fld} (m : Nat) (hlo : 0x22000 ≤ f.addr) (hhi : f.addr + 4 * (f.hi / 32) < 0x40000) :
      (v.putF f m).reg a = v.reg a :=
    State.reg_putF_ne _ _ _ _ (by unfold stickyWord Reg.QTZ_FRAME at ha; omega)
  dsimp only
  rw [h, h]
  all_goals simp only [sevFld, floorFld, Reg.FC_SEV, Reg.FC_FLOOR]; omega

theorem State.reg_loadRegions_sticky (s : State) : s.loadRegions.reg a = s.reg a := by
  refine State.foldl_frame (g := fun u => u.reg a) (fun u n _ => ?_) s
  dsimp only
  rw [State.reg_putF_sticky ha, State.reg_putF_sticky ha, State.reg_putF_sticky ha, State.reg_putF_sticky ha,
    State.reg_putF_sticky ha]
  all_goals simp only [Reg.TIER_RGN_MASK_RMASK, Reg.TIER_RGN_MASK_WMASK, Reg.TIER_RGN_MASK, Reg.TIER_RGN_BASE_V,
    Reg.TIER_RGN_BASE_BASE, Reg.TIER_RGN_BASE, Reg.TIER_RGN_LIM_LIM, Reg.TIER_RGN_LIM]; omega

theorem State.reg_loadFmax_sticky (s : State) : s.loadFmax.reg a = s.reg a := by
  refine State.foldl_frame (g := fun u => u.reg a) (fun u n _ => ?_) s
  have hf : 0x50000 ≤ Reg.TILE_FREQ n := by unfold Reg.TILE_FREQ; omega
  dsimp only
  split
  · rw [State.reg_putF_sticky ha _ _ hf, State.reg_putF_sticky ha _ _ hf]
  · rw [State.reg_putF_sticky ha _ _ hf]

theorem State.reg_loadFuses_sticky (s : State) : s.loadFuses.reg a = s.reg a := by
  have hcap (u : State) : u.loadCap.reg a = u.reg a := by
    refine (State.reg_putF_sticky ha (u.putF _ _) _ ?_).trans (State.reg_putF_sticky ha u _ ?_) <;> decide
  have harb (u : State) : u.loadArb.reg a = u.reg a :=
    State.foldl_frame (g := fun u => u.reg a) (fun u n _ => State.reg_putF_sticky ha _ _ (show 0x50000 ≤ Reg.SEC_ARB by decide)) u
  have hlt := ha.lt
  rw [State.loadFuses, State.reg_showSec_of_lt _ (by omega), harb, State.loadTierMode, State.reg_putF_sticky ha _ _ (by decide),
    State.reg_putF_sticky ha _ _ (by decide), State.loadMac, State.reg_putF_sticky ha _ _ (by decide), State.loadPcieId,
    State.reg_putF_sticky ha _ _ (by decide), State.reg_putF_sticky ha _ _ (by decide), hcap, State.reg_loadFmax_sticky ha,
    State.reg_loadRegions_sticky ha, State.reg_loadFloors_sticky ha]

theorem State.reg_keepTiles_sticky (s old : State) : (s.keepTiles old).reg a = s.reg a := by
  refine State.foldl_frame (g := fun u => u.reg a) (fun u n hn => ?_) s
  have hfreq : 0x50000 ≤ Reg.TILE_FREQ n := by unfold Reg.TILE_FREQ; omega
  have hfence : 0x50000 ≤ Reg.TILE_FENCE n := by unfold Reg.TILE_FENCE; omega
  have hpresent (v : State) (m : Nat) : (v.putF ⟨Reg.DEV_TILE_PRESENT, n, n⟩ m).reg a = v.reg a := by
    have hn := List.mem_range.mp hn
    refine State.reg_putF_ne _ _ _ _ (.inr ?_)
    simp only [Reg.DEV_TILE_PRESENT]
    unfold stickyWord Reg.QTZ_FRAME at ha
    omega
  dsimp only
  split
  · rw [hpresent, State.reg_putF_sticky ha _ _ hfence, State.reg_putF_sticky ha _ _ hfence, State.reg_putF_sticky ha _ _ hfence,
      State.reg_putF_sticky ha _ _ hfreq]
  · rw [State.reg_putF_sticky ha _ _ hfreq]

/-- A reset of Quartz keeps the frame number and every word of another page. -/
theorem State.reg_quartzReset_sticky (s : State) : s.quartzReset.reg a = s.reg a := by
  have hkept : quartzKept a = true := by
    rcases ha with ⟨hlo, hhi⟩ | rfl
    · simp [quartzKept]; omega
    · decide
  rw [State.reg, State.quartzReset_regs, Sparse.get_keep, if_pos hkept, State.reg]

theorem State.reg_resetCore_sticky (s : State) : s.resetCore.reg a = s.reg a := by
  have hkept : keptByReset a = true := by
    unfold stickyWord Reg.QTZ_FRAME at ha
    simp only [keptByReset, Bool.or_eq_true, decide_eq_true_eq]
    omega
  have hregs : s.resetCore.regs = Sparse.keep keptByReset s.regs := rfl
  rw [State.reg, hregs, Sparse.get_keep, if_pos hkept, State.reg]

/-- A device reset keeps the sticky words and the frame number. -/
theorem State.reg_deviceReset_sticky (s : State) : s.deviceReset.reg a = s.reg a := by
  have hlt := ha.lt
  rw [State.deviceReset_eq, State.reg_setMode_ne, State.reg_loadFuses_sticky ha, State.reg_strapRegs_of_lt _ (by omega),
    State.reg_keepTiles_sticky ha, State.reg_resetCore_sticky ha, State.stopped, State.reg_quartzReset_sticky ha,
    State.reg_of_regs_eq (State.fpgmCut_regs _), State.reg_endOp_ne]
  all_goals unfold stickyWord at ha; simp only [Reg.QTZ_FRAME, Reg.FC_STAT, Reg.DEV_OP] at *; omega

end

/-! ## A level that holds the device off -/

/-- A level that holds the device off keeps memory. -/
theorem State.heldOff_mem (s : State) : s.heldOff.mem = s.mem := by
  cases hp : s.pins.powered with
  | false => rw [State.heldOff_off hp]
  | true =>
    rw [State.heldOff_on hp, State.atPins_mem]
    unfold State.toOff
    split
    next => rfl
    next => rfl
    next => exact s.deviceReset_mem

theorem State.heldOff_pins (s : State) : s.heldOff.pins = { s.pins with refreshLost := s.heldOff.pins.refreshLost } := by
  cases hp : s.pins.powered with
  | false => rw [State.heldOff_off hp]
  | true => rw [State.heldOff_on hp]; rfl

/-- A level that holds a powered device off takes it to OFF from every mode but TERMINAL. -/
theorem State.heldOff_mode {s : State} (hp : s.pins.powered = true) (hm : s.dev.mode ≠ .terminal) : s.heldOff.dev.mode = .off := by
  rw [State.heldOff_on hp, State.atPins_dev]
  unfold State.toOff
  split
  next h => exact absurd h hm
  next h => exact h
  next => exact s.deviceReset_mode

/-- What a level that falls at the pins does, whichever level it is: `u` is `s` with the level noted. -/
theorem State.heldOff_complete {s u : State} (hp : u.pins.powered = true) (hdev : u.dev = s.dev) (hmem : u.mem = s.mem)
    (hregs : u.regs = s.regs) : u.heldOff.mem = s.mem ∧ (s.dev.mode ≠ .terminal → u.heldOff.dev.mode = .off) ∧
      (s.dev.mode = .terminal → u.heldOff.regs = s.regs ∧ u.heldOff.dev = s.dev) := by
  refine ⟨u.heldOff_mem.trans hmem, fun hm => State.heldOff_mode hp (hdev ▸ hm), fun hm => ?_⟩
  rw [State.heldOff_of_terminal (hdev ▸ hm)]
  exact ⟨hregs, hdev⟩

/-! ## Power-on and release -/

@[simp] theorem State.wdgAtBoot_mem (s : State) : s.wdgAtBoot.mem = s.mem := rfl
@[simp] theorem State.wdgAtBoot_fc (s : State) : s.wdgAtBoot.fc = s.fc := rfl
@[simp] theorem State.wdgAtBoot_dev (s : State) : s.wdgAtBoot.dev = s.dev := rfl
@[simp] theorem State.wdgAtBoot_sec (s : State) : s.wdgAtBoot.sec = s.sec := rfl
@[simp] theorem State.wdgAtBoot_pins (s : State) : s.wdgAtBoot.pins = s.pins := rfl

/-- Nothing is raised again in a device that boots without a source raised or broken. -/
theorem State.enterBoot_of_quiet {s : State} (hr : s.fc.raised = []) (hb : s.fc.broken = []) :
    s.enterBoot = (s.setMode .boot).wdgAtBoot := by
  have hfc : (s.setMode .boot).wdgAtBoot.fc = s.fc := by rw [State.wdgAtBoot_fc, State.setMode_fc]
  rw [State.enterBoot, State.raiseAgain, hfc, hr, hb]
  rfl

/-- Only the watchdogs' pages are reset as a device boots. -/
theorem State.reg_wdgAtBoot_of_lt (s : State) {a : Nat} (ha : a < 0x620000) : s.wdgAtBoot.reg a = s.reg a := by
  have hregs : s.wdgAtBoot.regs =
      Sparse.keep (fun a => !(decide (0x620000 ≤ a ∧ a < 0x640000) && decide (0x40 ≤ a % 0x1000))) s.regs := rfl
  rw [State.reg, hregs, Sparse.get_keep, if_pos (by simp; omega), State.reg]

@[simp] theorem State.atPins_sec (s t : State) : (s.atPins t).sec = t.sec := rfl

section
variable {s : State} (hr : s.fc.raised = []) (hb : s.fc.broken = [])
include hr hb

/-- A release of a device in OFF, with no source raised or broken, boots it when every condition of BOOT holds. -/
theorem State.released_boots (hoff : s.dev.mode = .off) (hboot : s.bootable = true) :
    s.released = s.atPins (s.setMode .boot).wdgAtBoot := by
  rw [State.released, State.tryBoot, hboot, State.mode, hoff, State.enterBoot_of_quiet hr hb]
  rfl

theorem State.released_mem : s.released.mem = s.mem := by
  by_cases h : s.bootable = true ∧ s.dev.mode = .off
  · rw [State.released_boots hr hb h.2 h.1, State.atPins_mem, State.wdgAtBoot_mem, State.setMode_mem]
  · rw [State.released_of_held (by simpa [Classical.or_iff_not_imp_left] using h)]

theorem State.released_sec : s.released.sec = s.sec := by
  by_cases h : s.bootable = true ∧ s.dev.mode = .off
  · rw [State.released_boots hr hb h.2 h.1, State.atPins_sec, State.wdgAtBoot_sec, State.setMode_sec]
  · rw [State.released_of_held (by simpa [Classical.or_iff_not_imp_left] using h)]

/-- The sticky words stand under a release. -/
theorem State.reg_released_sticky {a : Nat} (ha : stickyWord a) : s.released.reg a = s.reg a := by
  by_cases h : s.bootable = true ∧ s.dev.mode = .off
  · have hlt := ha.lt
    rw [State.released_boots hr hb h.2 h.1, State.reg_of_regs_eq (State.atPins_regs ..), State.reg_wdgAtBoot_of_lt _ (by omega),
      State.reg_setMode_ne]
    unfold stickyWord at ha; simp only [Reg.QTZ_FRAME, Reg.FC_STAT] at *; omega
  · rw [State.released_of_held (by simpa [Classical.or_iff_not_imp_left] using h)]

end

theorem State.released_mode {s : State} (hr : s.fc.raised = []) (hb : s.fc.broken = []) (hoff : s.dev.mode = .off) :
    s.released.dev.mode = if s.bootable then .boot else .off := by
  cases h : s.bootable with
  | true => rw [State.released_boots hr hb hoff h, State.atPins_dev, State.wdgAtBoot_dev, State.setMode_mode]; rfl
  | false => rw [State.released_of_held (.inl h)]; simpa using hoff

/-! ### A sticky bit is one bit of its word -/

theorem stickyWord_stickyFld {n : Nat} (hn : n < 1024) : stickyWord (stickyFld n).addr := by
  left; simp only [stickyFld, Reg.FC_STICKY]; omega

/-- A sticky bit reads alike where its word does. -/
theorem State.getF_stickyFld {s u : State} {n : Nat} (h : u.reg (stickyFld n).addr = s.reg (stickyFld n).addr) :
    u.getF (stickyFld n) = s.getF (stickyFld n) :=
  State.getF_of_reg_eq (f := stickyFld n) (Nat.mod_lt _ (by decide)) h

/-- Every sticky word is 0 after reset. -/
theorem resetWord_sticky : ∀ k < 32, resetWord (Reg.FC_STICKY k) = 0 := by decide

/-- A sticky bit whose word reads 0 is clear. -/
theorem State.getF_stickyFld_of_zero {s : State} {n : Nat} (h : s.reg (stickyFld n).addr = 0) : s.getF (stickyFld n) = 0 := by
  have hn : n % 32 < 32 := Nat.mod_lt _ (by decide)
  simp only [State.getF, State.regNat, h, stickyFld] at *
  simp [Nat.div_eq_of_lt hn, State.regNat, bits]

/-- The state that power-on makes before the levels at the pins are looked at. -/
def State.poweredUp (s : State) (pos : Nat) (test : Bool) : State :=
  ({ s.unpowered with pins := { s.unpowered.pins with powered := true, cascPos := pos % 4, testMode := test } }).strapRegs

theorem exec_powerOn {s : State} (pos : Nat) (test : Bool) (h : s.pins.powered = false) :
    exec (.powerOn pos test) s = .next (s.poweredUp pos test).released := by
  change Host.Outcome.next (s.guard (!s.pins.powered) _) = _
  rw [h]; rfl

theorem exec_powerRemoval {s : State} (h : s.pins.powered = true) : exec .powerRemoval s = .next s.powerOff := by
  change Host.Outcome.next (s.guard s.pins.powered _) = _
  rw [h]; rfl

/-- The state that power-on makes holds the straps, the levels at the pins and the fuse array alone. -/
theorem State.poweredUp_sansShown (s : State) (pos : Nat) (test : Bool) : (s.poweredUp pos test).sansShown = State.sansShown
    { s.unpowered with pins := { s.unpowered.pins with powered := true, cascPos := pos % 4, testMode := test } } := by
  rw [State.poweredUp, State.strapRegs_sansShown]

theorem State.reg_poweredUp_sticky (s : State) (pos : Nat) (test : Bool) {k : Nat} (hk : k < 32) :
    (s.poweredUp pos test).reg (Reg.FC_STICKY k) = 0 := by
  rw [State.poweredUp, State.reg_strapRegs_of_lt _ (by unfold Reg.FC_STICKY; omega)]
  exact resetWord_sticky k hk

/-- Settles O8: power-on starts from what `unpowered` leaves, with no source raised or broken; power removal ends there. -/
theorem powerOnAndRemovalComplete : Obligations.PowerOnAndRemovalComplete := by
  unfold Obligations.PowerOnAndRemovalComplete
  refine ⟨fun s pos test hp => ⟨_, exec_powerOn pos test hp, ?_⟩, fun s hp => ⟨_, exec_powerRemoval hp, rfl, rfl, rfl, rfl, rfl⟩⟩
  have hu := s.poweredUp_sansShown pos test
  have hr : (s.poweredUp pos test).fc.raised = [] := State.of_sansShown (g := fun u => u.fc.raised) (fun _ => rfl) hu
  have hb : (s.poweredUp pos test).fc.broken = [] := State.of_sansShown (g := fun u => u.fc.broken) (fun _ => rfl) hu
  have hoff : (s.poweredUp pos test).dev.mode = .off := State.of_sansShown (g := fun u => u.dev.mode) (fun _ => rfl) hu
  have hpins : (s.poweredUp pos test).pins = { s.unpowered.pins with powered := true, cascPos := pos % 4, testMode := test } :=
    State.of_sansShown (g := State.pins) (fun _ => rfl) hu
  have hsec : (s.poweredUp pos test).sec = s.unpowered.sec :=
    (State.of_sansShown (g := State.sec) (fun _ => rfl) hu :)
  have hmem : (s.poweredUp pos test).mem = [] := State.of_sansShown (g := State.mem) (fun _ => rfl) hu
  refine ⟨?_, ?_, ?_, (State.released_mem hr hb).trans hmem, ?_, fun n hn => ?_, ?_⟩
  · rw [State.released_pins, hpins]
  · rw [State.released_pins, hpins]
  · rw [State.released_pins, hpins]
  · rw [State.released_sec hr hb, hsec]; rfl
  · apply State.getF_stickyFld_of_zero
    rw [State.reg_released_sticky hr hb (stickyWord_stickyFld hn)]
    exact s.reg_poweredUp_sticky pos test (by omega)
  · rw [State.released_mode hr hb hoff, State.bootable, hpins]
    simp [State.unpowered]

/-- Settles O9: each falling level is `heldOff` after the level is noted, each rising one `released`. -/
theorem levelsAtThePinsHoldOffAndReleaseBoot : Obligations.LevelsAtThePinsHoldOffAndReleaseBoot := by
  unfold Obligations.LevelsAtThePinsHoldOffAndReleaseBoot
  refine ⟨fun s hp => ⟨?_, fun hok => ?_, ?_, ?_⟩, fun c s u hc => ?_⟩
  · exact ⟨_, rfl, by rw [State.heldOff_pins], State.heldOff_complete hp rfl rfl rfl⟩
  · refine ⟨_, ?_, ?_, State.heldOff_complete (u := { s with pins := { s.pins with supplyOk := false } }) hp rfl rfl rfl⟩
    · change Host.Outcome.next (s.guard (s.pins.powered && s.pins.supplyOk) _) = _
      rw [hp, hok]; rfl
    · rw [State.heldOff_pins]
  · exact ⟨_, rfl, by rw [State.heldOff_pins], State.heldOff_complete hp rfl rfl rfl⟩
  · exact ⟨_, rfl, by rw [State.heldOff_pins], State.heldOff_complete hp rfl rfl rfl⟩
  · have hexec : exec c s = .next u.released := by
      rcases hc with ⟨rfl, rfl⟩ | ⟨rfl, rfl⟩ | ⟨rfl, rfl⟩ <;> rfl
    have hsame : u.dev = s.dev ∧ u.fc = s.fc ∧ u.mem = s.mem := by
      rcases hc with ⟨-, rfl⟩ | ⟨-, rfl⟩ | ⟨-, rfl⟩ <;> exact ⟨rfl, rfl, rfl⟩
    obtain ⟨hdev, hfc, hmem⟩ := hsame
    refine ⟨fun hoff hboot hr hb => ⟨_, hexec, ?_, ?_, ?_⟩, fun h => hexec.trans ?_⟩
    · rw [State.released_mode (hfc ▸ hr) (hfc ▸ hb) (hdev ▸ hoff), hboot]; rfl
    · rw [State.released_boots (hfc ▸ hr) (hfc ▸ hb) (hdev ▸ hoff) hboot, State.atPins_pins, State.wdgAtBoot_pins,
        State.setMode_pins]
    · rw [State.released_mem (hfc ▸ hr) (hfc ▸ hb), hmem]
    · rw [State.released_of_held (h.symm.imp id (fun hm => hdev ▸ hm))]

/-- A level that holds a device off keeps the sticky words, the frame number, the counts of the bases and the broken pairs. -/
theorem State.heldOff_keeps (s : State) : (∀ a, stickyWord a → s.heldOff.reg a = s.reg a) ∧
    (∀ b, (s.heldOff.base b).count = (s.base b).count) ∧ s.heldOff.fc.broken = s.fc.broken := by
  have hpins (u v : State) : (∀ a, (u.atPins v).reg a = v.reg a) ∧ (∀ b, (u.atPins v).base b = v.base b) ∧
      (u.atPins v).fc = v.fc := ⟨fun _ => rfl, fun _ => rfl, rfl⟩
  cases hp : s.pins.powered with
  | false => rw [State.heldOff_off hp]; exact ⟨fun _ _ => rfl, fun _ => rfl, rfl⟩
  | true =>
    rw [State.heldOff_on hp]
    obtain ⟨hreg, hbase, hfc⟩ := hpins s s.toOff
    simp only [hreg, hbase, hfc]
    unfold State.toOff
    split
    next => exact ⟨fun _ _ => rfl, fun _ => rfl, rfl⟩
    next => exact ⟨fun _ _ => rfl, fun _ => rfl, rfl⟩
    next => exact ⟨fun a ha => s.reg_deviceReset_sticky ha, s.deviceReset_count, s.deviceReset_broken⟩

/-- Settles O10: RESET_N notes the level and holds the device off. -/
theorem resetKeepsStickyBits : Obligations.ResetKeepsStickyBits := by
  unfold Obligations.ResetKeepsStickyBits
  intro s t _ ht
  have hexec : exec .resetNAssert s = .next (State.heldOff { s with pins := { s.pins with resetReleased := false } }) := rfl
  obtain ⟨hword, hcount, hbroken⟩ := State.heldOff_keeps { s with pins := { s.pins with resetReleased := false } }
  cases hexec.symm.trans ht
  refine ⟨fun n hn => State.getF_stickyFld (hword _ (stickyWord_stickyFld hn)), ?_, hcount, hbroken⟩
  exact State.getF_of_reg_eq (by decide) (hword _ (.inr rfl))

end Sys2Proof.Machine
end

section
/-! The proof that a programmed fuse bit never returns to 0 (R628): the ends of operations burn bits and clear none. -/

namespace Sys2Proof.Machine

/-- Every bit of the fuse array that is 1 in `s` is 1 in `t`. -/
structure State.FusesStand (s t : State) : Prop where
  /-- A bit of word `w` that is 1 stays 1. -/
  stands : ∀ w i, (s.fuseLive w).testBit i = true → (t.fuseLive w).testBit i = true

theorem State.FusesStand.trans {s t u : State} (h : s.FusesStand t) (k : t.FusesStand u) : s.FusesStand u :=
  ⟨fun w i hi => k.stands w i (h.stands w i hi)⟩

/-- An array that is the same stands. -/
theorem State.fusesStand_of_live {s t : State} (h : t.sec.live = s.sec.live) : s.FusesStand t := ⟨fun w i hi => by
  rwa [State.fuseLive, h, ← State.fuseLive]⟩

theorem State.FusesStand.of_live {s t u : State} (h : s.FusesStand t) (hu : u.sec.live = t.sec.live) : s.FusesStand u :=
  h.trans (State.fusesStand_of_live hu)

/-- A fuse word after bits are burnt. -/
theorem State.fuseLive_burn (s : State) (w b k : Nat) :
    (s.burn w b).fuseLive k = if k = w then s.fuseLive w ||| b % 2 ^ 32 else s.fuseLive k := Sparse.get_set ..

/-- Burning sets bits. -/
theorem State.fusesStand_burn (s : State) (w b : Nat) : s.FusesStand (s.burn w b) := ⟨fun k i hi => by
  rw [State.fuseLive_burn]
  split
  next h => subst h; simp [hi]
  next => exact hi⟩

theorem State.fusesStand_burnAll (s : State) (l : List (Nat × Nat)) : s.FusesStand (l.foldl (fun u p => u.burn p.1 p.2) s) := by
  induction l generalizing s with
  | nil => exact State.fusesStand_of_live rfl
  | cons p l ih => exact (s.fusesStand_burn ..).trans (ih _)

/-- An operation that is cut short burns some of its bits. -/
theorem State.fusesStand_burnSome (s : State) (l : List (Nat × Nat)) : s.FusesStand (s.burnSome l) := by
  induction l generalizing s with
  | nil => exact State.fusesStand_of_live rfl
  | cons p l ih =>
    have hfree : s.FusesStand (s.free 33).2 := State.fusesStand_of_live rfl
    rw [State.burnSome]
    dsimp only
    split
    · exact (hfree.trans (State.fusesStand_burn ..)).trans (ih _)
    · exact hfree.trans (State.fusesStand_burn ..)

/-- The end of a long operation clears no fuse bit. -/
theorem State.fusesStand_endOp (s : State) (n : Nat) : s.FusesStand (s.endOp n) := by
  unfold State.endOp
  split
  · exact State.fusesStand_of_live rfl
  next o _ =>
    by_cases hb : o.code = 3 ∧ n ≠ 0
    · refine (s.fusesStand_burnSome (pairsOf o.args)).of_live ?_
      simp only [if_pos hb, State.putF_sec]
      split_ifs <;> rfl
    · refine State.fusesStand_of_live ?_
      simp only [if_neg hb, State.putF_sec]
      split_ifs <;> rfl

/-- A fuse write that is cut short clears no fuse bit. -/
theorem State.fusesStand_fpgmCut (s : State) : s.FusesStand s.fpgmCut := by
  unfold State.fpgmCut
  split
  · exact State.fusesStand_of_live rfl
  next w b _ =>
    have hfree : s.FusesStand { (s.free 32).2 with sec := { (s.free 32).2.sec with prog := none } } := State.fusesStand_of_live rfl
    exact hfree.trans (State.fusesStand_burn _ w (b &&& (s.free 32).1))

@[simp] theorem State.showSec_sec (s : State) : s.showSec.sec = s.sec := by simp [State.showSec]

theorem State.fusesStand_fpgmDone (s : State) (good : Bool) : s.FusesStand (s.fpgmDone good) := by
  unfold State.fpgmDone
  split
  · exact State.fusesStand_of_live rfl
  next w b _ =>
    have hend : s.FusesStand ({ s with sec := { s.sec with prog := none } }).secBusy := State.fusesStand_of_live rfl
    cases good with
    | true =>
      refine (hend.trans (State.fusesStand_burn _ w b)).of_live ?_
      simp [State.wrapInc]
    | false =>
      have hfree : s.FusesStand (({ s with sec := { s.sec with prog := none } }).secBusy.free 32).2 := State.fusesStand_of_live rfl
      refine (hfree.trans (State.fusesStand_burn _ w
        (b &&& (({ s with sec := { s.sec with prog := none } }).secBusy.free 32).1))).of_live ?_
      simp only [Bool.false_eq_true, if_false, State.showSec_sec, State.putF_sec]

/-- Words set in the register file touch no fuse. -/
theorem State.putResult_sec (s : State) (l : List Byte) : (s.putResult l).sec = s.sec :=
  State.foldl_frame (f := fun u i => u.setReg (Reg.DEV_RESULT i) (BitVec.ofNat 32 (leField l (4 * i) 4))) (g := State.sec)
    (fun _ _ _ => rfl) s

theorem State.fusesStand_opDone (s : State) (output : List Byte) (good : Bool) : s.FusesStand (s.opDone output good) := by
  have hend (u : State) (n : Nat) (h : s.FusesStand u) : s.FusesStand (u.endOp n) := h.trans (u.fusesStand_endOp n)
  have same : s.FusesStand s := State.fusesStand_of_live rfl
  unfold State.opDone
  split
  · exact same
  next o _ =>
    split
    · cases good with
      | true => exact (hend _ 0 (s.fusesStand_burnAll (pairsOf o.args))).of_live (by simp)
      | false => exact (hend _ 3 same).of_live (by simp)
    · unfold State.quoteDone
      cases good with
      | true => exact hend _ 0 (State.fusesStand_of_live (by simp [State.putResult_sec]))
      | false => exact hend _ 3 same
    · exact hend _ 0 (State.fusesStand_of_live (by rw [State.putResult_sec]))
    · exact same

/-! ### The commands -/

/-- A device reset clears no fuse bit. -/
theorem State.fusesStand_deviceReset (s : State) : s.FusesStand s.deviceReset := by
  refine ((s.fusesStand_endOp 5).trans (State.fusesStand_fpgmCut _)).of_live ?_
  exact State.deviceReset_frame (fun u => u.sec.live) (fun _ => rfl) (fun u m => by rw [State.setMode_sec]) s

theorem State.fusesStand_heldOff (s : State) : s.FusesStand s.heldOff := by
  cases hp : s.pins.powered with
  | false => rw [State.heldOff_off hp]; exact State.fusesStand_of_live rfl
  | true =>
    have hout : s.FusesStand s.toOff := by
      unfold State.toOff
      split
      next => exact State.fusesStand_of_live rfl
      next => exact State.fusesStand_of_live rfl
      next => exact s.fusesStand_deviceReset
    rw [State.heldOff_on hp]
    exact hout.of_live (by rw [State.atPins_sec])

theorem State.fusesStand_powerOff (s : State) : s.FusesStand s.powerOff :=
  ((s.fusesStand_endOp 5).trans (State.fusesStand_fpgmCut _)).of_live rfl

/-- A command of a live device clears no fuse bit when its meaning clears none. -/
theorem State.fusesStand_whenLive {f : State → State} {s t : State} (h : s.FusesStand (f s)) (ht : whenLive f s = .next t) :
    s.FusesStand t := by
  cases hl : s.live with
  | true => cases (whenLive_live hl).symm.trans ht; exact h.of_live (by rw [State.inside_sec])
  | false => cases (whenLive_dead hl).symm.trans ht; exact State.fusesStand_of_live rfl

/-- Settles O17: each of the commands ends in a state in which the fuses stand. -/
theorem fuseBitsNeverClear : Obligations.FuseBitsNeverClear := by
  unfold Obligations.FuseBitsNeverClear
  intro s t c w i hc ht
  have hstand : s.FusesStand t := by
    rcases hc with ⟨o, g, rfl⟩ | ⟨g, rfl⟩ | rfl | rfl | rfl
    · exact State.fusesStand_whenLive (f := fun s => s.opDone o g) (s.fusesStand_opDone o g) ht
    · exact State.fusesStand_whenLive (f := fun s => s.fpgmDone g) (s.fusesStand_fpgmDone g) ht
    · refine State.fusesStand_whenLive ?_ ht
      cases s.dev.op.isSome with
      | true => exact s.fusesStand_endOp 4
      | false => exact State.fusesStand_of_live rfl
    · cases ht
      have hlow : s.FusesStand { s with pins := { s.pins with resetReleased := false } } := State.fusesStand_of_live rfl
      exact hlow.trans (State.fusesStand_heldOff _)
    · cases ht
      cases s.pins.powered with
      | true => exact s.fusesStand_powerOff
      | false => exact State.fusesStand_of_live rfl
  exact hstand.stands w i

end Sys2Proof.Machine
end

section
/-! The proof that a register write leaves the bits that no writable field holds (R83, R84). -/

namespace Sys2Proof.Machine

/-! ### Which bits a write can change -/

/-- A bit of a union of masks is a bit of one of them. -/
theorem testBit_foldl_or {α : Type} (f : α → Nat) (l : List α) (m i : Nat) :
    (l.foldl (fun m x => m ||| f x) m).testBit i = (m.testBit i || l.any (fun x => (f x).testBit i)) := by
  induction l generalizing m with
  | nil => simp
  | cons x l ih => simp [ih, Bool.or_assoc]

theorem foldl_or_lt {α : Type} (f : α → Nat) (l : List α) (m n : Nat) (hm : m < 2 ^ n) (hf : ∀ x, f x < 2 ^ n) :
    l.foldl (fun m x => m ||| f x) m < 2 ^ n := by
  induction l generalizing m with
  | nil => exact hm
  | cons x l ih => exact ih _ (Nat.or_lt_two_pow hm (hf x))

theorem RegRow.mask_lt (r : RegRow) (w : Nat) (as : List Acc) : r.mask w as < 2 ^ 32 := by
  unfold RegRow.mask
  refine foldl_or_lt _ _ _ _ (Nat.two_pow_pos _) fun f => ?_
  rw [fieldInWord]
  exact Nat.mod_lt _ (Nat.two_pow_pos _)

/-- A bit outside the fields of some access types is outside the fields of fewer. -/
theorem RegRow.mask_mono (r : RegRow) (w i : Nat) {as bs : List Acc} (h : as ⊆ bs) (hb : (r.mask w bs).testBit i = false) :
    (r.mask w as).testBit i = false := by
  simp only [RegRow.mask, testBit_foldl_or, Nat.zero_testBit, Bool.false_or, List.any_eq_false, List.mem_filter,
    List.contains_iff_mem] at hb ⊢
  exact fun f ⟨hf, ha⟩ => hb f ⟨hf, h ha⟩

theorem testBit_and_compl (x m i : Nat) (hm : m < 2 ^ 32) (hi : i < 32) (h : m.testBit i = false) :
    (x &&& (2 ^ 32 - 1 - m)).testBit i = x.testBit i := by
  rw [Nat.testBit_and, Nat.sub_sub, Nat.add_comm 1, Nat.testBit_two_pow_sub_succ hm, h]
  simp [hi]

/-- A bit that is alike in both words is so after a field of the one is put into the other. -/
theorem testBit_setBits_bits (x y hi lo i : Nat) (h : x.testBit i = y.testBit i) :
    (setBits x hi lo (bits y hi lo)).testBit i = y.testBit i := by
  by_cases hl : lo ≤ hi
  · rw [testBit_setBits _ _ _ _ _ hl]
    split
    next hi' =>
      rw [bits, Nat.testBit_mod_two_pow, Nat.testBit_shiftRight, show lo + (i - lo) = i by omega]
      simp [show i - lo < hi + 1 - lo by omega]
    next => exact h
  · have hw : hi + 1 - lo = 0 := by omega
    simp [setBits, bits, hw, Nat.mod_one, h]

/-- The rules on illegal values put old bits back and change no other. -/
theorem testBit_keepIllegal (old i : Nat) (rules : List (Nat × Nat × (Nat → Bool))) (v : Nat)
    (h : v.testBit i = old.testBit i) : (keepIllegal old rules v).testBit i = old.testBit i := by
  unfold keepIllegal
  induction rules generalizing v with
  | nil => exact h
  | cons r rules ih =>
    rw [List.foldl_cons]
    refine ih _ ?_
    split
    · exact h
    · exact testBit_setBits_bits _ _ _ _ _ h

theorem State.testBit_keepSrc (s : State) (a old v i : Nat) (h : v.testBit i = old.testBit i) :
    (s.keepSrc a old v).testBit i = old.testBit i := by
  unfold State.keepSrc
  dsimp only
  split
  · exact testBit_setBits_bits _ _ _ _ _ h
  · exact h

/-- Settles O20: outside the writable masks each step of the write leaves the bit of the old word. -/
theorem readOnlyBitsStand : Obligations.ReadOnlyBitsStand := by
  unfold Obligations.ReadOnlyBitsStand
  intro s a v i hi hmask
  rw [State.applyWord, State.reg_setReg, if_pos rfl, BitVec.toNat_ofNat, Nat.testBit_mod_two_pow]
  simp only [hi, decide_true, Bool.true_and]
  unfold State.written
  dsimp only
  split at hmask
  next r _ _ _ w hrow =>
    have hrw := r.mask_mono w i (as := [.rw, .rwl]) (by simp) hmask
    have hc := r.mask_mono w i (as := [.w1c]) (by simp) hmask
    have hs := r.mask_mono w i (as := [.w1s]) (by simp) hmask
    have hcv : (v &&& r.mask w [.w1c]).testBit i = false := by simp [hc]
    simp only [hrow]
    refine s.testBit_keepSrc _ _ _ _ (testBit_keepIllegal _ _ _ _ ?_)
    rw [Nat.testBit_or, testBit_and_compl _ _ _ (Nat.and_lt_two_pow _ (r.mask_lt ..)) hi hcv, Nat.testBit_or,
      testBit_and_compl _ _ _ (r.mask_lt ..) hi hrw]
    simp [hrw, hs]
  next hrow => simp only [hrow]

end Sys2Proof.Machine
end

section
/-! What a command is answered with: a command of a live device and a register access that is taken, and what reads alike through the
answer. The proofs about the single commands below start from these. -/

namespace Sys2Proof.Machine

/-! ### Reading through the answer -/

theorem State.getF_of_regs_eq {s u : State} {f : Fld} (h : u.regs = s.regs) : u.getF f = s.getF f := by
  rw [State.getF, State.getF, State.regNat_of_regs_eq h]

theorem State.onF_of_regs_eq {s u : State} {f : Fld} (h : u.regs = s.regs) : u.onF f = s.onF f := by
  rw [State.onF, State.onF, State.getF_of_regs_eq h]

@[simp] theorem State.reg_inside (s t : State) (a : Nat) : (s.inside t).reg a = t.reg a := State.reg_of_regs_eq (s.inside_regs t) a
@[simp] theorem State.getF_inside (s t : State) (f : Fld) : (s.inside t).getF f = t.getF f := State.getF_of_regs_eq (s.inside_regs t)
@[simp] theorem State.onF_inside (s t : State) (f : Fld) : (s.inside t).onF f = t.onF f := State.onF_of_regs_eq (s.inside_regs t)
@[simp] theorem State.block_inside (s t : State) (p : Nat) : (s.inside t).block p = t.block p := by
  rw [State.block, State.inside_blocks]; rfl

section
variable (s : State) (req : Requester) (n : Nat) (l : List Nat)

@[simp] theorem State.respond_regs : (s.respond req n l).regs = s.regs := by rw [State.respond_eq]
@[simp] theorem State.respond_mem : (s.respond req n l).mem = s.mem := by rw [State.respond_eq]
@[simp] theorem State.respond_blocks : (s.respond req n l).blocks = s.blocks := by rw [State.respond_eq]
@[simp] theorem State.respond_qtz : (s.respond req n l).qtz = s.qtz := by rw [State.respond_eq]
@[simp] theorem State.respond_fc : (s.respond req n l).fc = s.fc := by rw [State.respond_eq]
@[simp] theorem State.respond_sch : (s.respond req n l).sch = s.sch := by rw [State.respond_eq]
@[simp] theorem State.respond_tier : (s.respond req n l).tier = s.tier := by rw [State.respond_eq]
@[simp] theorem State.respond_pwr : (s.respond req n l).pwr = s.pwr := by rw [State.respond_eq]
@[simp] theorem State.respond_sec : (s.respond req n l).sec = s.sec := by rw [State.respond_eq]
@[simp] theorem State.respond_wdg : (s.respond req n l).wdg = s.wdg := by rw [State.respond_eq]
@[simp] theorem State.respond_stm : (s.respond req n l).stm = s.stm := by rw [State.respond_eq]
@[simp] theorem State.respond_op : (s.respond req n l).dev.op = s.dev.op := by cases req <;> rfl
@[simp] theorem State.reg_respond (a : Nat) : (s.respond req n l).reg a = s.reg a := State.reg_of_regs_eq (s.respond_regs ..) a
@[simp] theorem State.getF_respond (f : Fld) : (s.respond req n l).getF f = s.getF f := State.getF_of_regs_eq (s.respond_regs ..)
@[simp] theorem State.onF_respond (f : Fld) : (s.respond req n l).onF f = s.onF f := State.onF_of_regs_eq (s.respond_regs ..)
@[simp] theorem State.block_respond (p : Nat) : (s.respond req n l).block p = s.block p := by
  rw [State.block, State.respond_blocks]; rfl
end

/-! ### A field that is written -/

/-- A field of one bit that is written reads on exactly when an odd number is written. -/
theorem State.onF_putF_bit (s : State) (f : Fld) (v : Nat) (h : f.hi = f.lo) : (s.putF f v).onF f = decide (v % 2 = 1) := by
  have hw : f.width = 1 := by rw [Fld.width]; omega
  rw [State.onF, State.getF_putF _ _ _ h.ge, hw, pow_one]
  rcases Nat.mod_two_eq_zero_or_one v with h0 | h0 <;> simp [h0]

/-- A field of one word that is written leaves another of the same word. -/
theorem State.getF_putF_word (s : State) {f g : Fld} (v : Nat) (ha : g.addr = f.addr) (hf : f.hi < 32) (hg : g.hi < 32)
    (h : f.lo ≤ f.hi) (hd : g.hi < f.lo ∨ f.hi < g.lo) : (s.putF f v).getF g = s.getF g :=
  State.getF_putF_same _ _ _ _ ha (by omega) h hd

/-- A field of one word that is written leaves those of every other word. -/
theorem State.getF_putF_other (s : State) {f g : Fld} (v : Nat) (hf : f.hi < 32) (hg : g.hi < 32) (ha : g.addr ≠ f.addr) :
    (s.putF f v).getF g = s.getF g :=
  State.getF_putF_ne _ _ _ _ (by omega)

/-! ### The answer of a command -/

/-- A register access that is taken is answered with 0 and no words. -/
theorem access_does {s : State} {req : Requester} {a v : Nat} {f : State → State} (h : s.Takes req a v) :
    whenLive (fun s => s.access req a v f) s = .next (s.inside ((f s).respond req 0 [])) := by
  obtain ⟨hlive, hturn, hcheck⟩ := h
  rw [whenLive_live hlive, State.access_ok f hturn hcheck]

/-- A command of a live device whose condition holds. -/
theorem guard_does {s : State} {c : State → Bool} {f : State → State} (hlive : s.live = true) (h : c s = true) :
    whenLive (fun s => s.guard (c s) f) s = .next (s.inside (f s)) := by
  rw [whenLive_live hlive, h, State.guard_true]

end Sys2Proof.Machine
end

section
/-! The proof about block commands: enable, disable, soft reset, lock, counter clear, start and stop (R67–R73). -/

namespace Sys2Proof.Machine

theorem State.block_setBlock (s : State) (p : Nat) (b : Block) : (s.setBlock p b).block p = b := Sparse.get_set_same ..

section
variable {s : State} {p : Nat} (hinst : instPage p = p) (halways : alwaysOn p = false)
include hinst halways

/-- A write of PG_CTRL at a block's first page writes EN, after a soft reset that it asks for. -/
theorem State.wrPgCtrl_instance (v : Nat) : s.wrPgCtrl p v =
    ((if bit v 4 then (if bit v 8 then s.putF (Reg.PG_CTRL_LOCK p) 1 else s).softReset p
      else if bit v 8 then s.putF (Reg.PG_CTRL_LOCK p) 1 else s).writeEn p (bit v 0)) := by
  simp [State.wrPgCtrl, hinst, halways]
end

/-- A write of PG_CTRL elsewhere writes LOCK alone. -/
theorem State.wrPgCtrl_other {s : State} {p : Nat} (h : alwaysOn p = true ∨ instPage p ≠ p) (v : Nat) :
    s.wrPgCtrl p v = if bit v 8 then s.putF (Reg.PG_CTRL_LOCK p) 1 else s := by
  unfold State.wrPgCtrl
  rcases h with h | h
  · simp [h]
  · simp [h.symm]

/-- An OFF block that is enabled is STARTING. -/
theorem State.writeEn_off_true {s : State} {p : Nat} (h : (s.block p).state = .off) :
    s.writeEn p true = s.setBlock p { s.block p with en := true, state := .starting, rearm := false, stopPending := false, safePassed := false } := by
  unfold State.writeEn
  dsimp only
  rw [h]
  simp [State.enterBlock]

/-- A STARTING block that is disabled has its stop pending. -/
theorem State.writeEn_starting_false {s : State} {p : Nat} (h : (s.block p).state = .starting) :
    s.writeEn p false = s.setBlock p { s.block p with en := false, stopPending := true } := by
  unfold State.writeEn
  dsimp only
  rw [h]

/-- A RUNNING block that is disabled begins its stop. -/
theorem State.writeEn_running_false {s : State} {p : Nat} (h : (s.block p).state = .running) :
    s.writeEn p false = (s.setBlock p { s.block p with en := false }).beginStop p := by
  unfold State.writeEn
  dsimp only
  rw [h]

@[simp] theorem State.zeroWords_mem (s : State) (a n : Nat) : (s.zeroWords a n).mem = s.mem := by
  induction n generalizing s a with
  | zero => rfl
  | succ n ih => rw [State.zeroWords, ih, State.setReg_mem]

theorem State.reg_zeroWords_ne (s : State) {a n b : Nat} (h : ∀ i < n, b ≠ a + 4 * i) : (s.zeroWords a n).reg b = s.reg b := by
  induction n generalizing s a with
  | zero => rfl
  | succ n ih =>
    rw [State.zeroWords, ih _ fun i hi => by have := h (i + 1) (by omega); omega, State.reg_setReg,
      if_neg (by simpa using h 0 (by omega))]

theorem State.reg_zeroWords (s : State) {a n i : Nat} (h : i < n) : (s.zeroWords a n).reg (a + 4 * i) = 0 := by
  induction n generalizing s a i with
  | zero => omega
  | succ n ih =>
    rw [State.zeroWords]
    cases i with
    | zero => rw [State.reg_zeroWords_ne _ fun j _ => by omega, State.reg_setReg, if_pos (by omega)]
    | succ i => rw [show a + 4 * (i + 1) = a + 4 + 4 * i by ring, ih _ (by omega)]

/-- A clear of a counter outside the tiles sets its words to 0. -/
theorem State.wrClear_counter {s : State} {a v b n : Nat} (htile : isTileClear a = false) (hcnt : clearedBy a = some (b, n))
    (hv : v % 2 = 1) : s.wrClear a (v % 2 ^ 32) = s.zeroWords b n := by
  have hbit : bit (v % 2 ^ 32) 0 = true := by
    simp only [bit, Nat.testBit_zero, decide_eq_true_eq]; omega
  unfold State.wrClear
  rw [htile, hcnt]
  simp only [hbit, if_true, Bool.false_eq_true, if_false]

/-- The words that SOFT_RESET and LOCK write carry EN in bit 0. -/
theorem bit_pgCtrl_softReset (en : Bool) : bit (0x10 + b2n en) 4 = true ∧ bit (0x10 + b2n en) 8 = false ∧ bit (0x10 + b2n en) 0 = en := by
  cases en <;> decide

theorem bit_pgCtrl_lock (en : Bool) : bit (0x100 + b2n en) 4 = false ∧ bit (0x100 + b2n en) 8 = true ∧ bit (0x100 + b2n en) 0 = en := by
  cases en <;> decide

theorem exec_blockEnable {s : State} {req : Requester} {p : Nat} (h : s.Takes req (ctrlWord p) 1) :
    exec (.blockEnable req p) s = .next (s.inside ((s.wrPgCtrl p 1).respond req 0 [])) := access_does h

theorem exec_blockDisable {s : State} {req : Requester} {p : Nat} (h : s.Takes req (ctrlWord p) 0) :
    exec (.blockDisable req p) s = .next (s.inside ((s.wrPgCtrl p 0).respond req 0 [])) := access_does h

theorem exec_softReset {s : State} {req : Requester} {p : Nat} {en : Bool} (h : s.Takes req (ctrlWord p) (0x10 + b2n en)) :
    exec (.softReset req p en) s = .next (s.inside ((s.wrPgCtrl p (0x10 + b2n en)).respond req 0 [])) := access_does h

theorem exec_pageLock {s : State} {req : Requester} {p : Nat} {en : Bool} (h : s.Takes req (ctrlWord p) (0x100 + b2n en)) :
    exec (.pageLock req p en) s = .next (s.inside ((s.wrPgCtrl p (0x100 + b2n en)).respond req 0 [])) := access_does h

theorem exec_counterClear {s : State} {req : Requester} {addr v b n : Nat} (h : s.Takes req addr (v % 2 ^ 32))
    (hcnt : clearedBy addr = some (b, n)) :
    exec (.counterClear req addr v) s = .next (s.inside ((s.wrClear addr (v % 2 ^ 32)).respond req 0 [])) := by
  have hrun : exec (.counterClear req addr v) s = execCounterClear req addr v s := rfl
  have hguard : (isTileClear addr || (clearedBy addr).isSome) = true := by simp [hcnt]
  rw [hrun, execCounterClear, hguard]
  exact access_does h

/-- Settles O21: each write of PG_CTRL comes down to its LOCK, its soft reset and its EN. -/
theorem blockCommandsComplete : Obligations.BlockCommandsComplete := by
  unfold Obligations.BlockCommandsComplete
  refine ⟨?enable, ?disable, ?stop, ?soft, ?lockOther, ?lock, ?clear, ?safePoint, ?startDone, ?stopDone⟩
  case enable =>
    intro s req p htake hinst halways hoff
    refine ⟨_, exec_blockEnable htake, ?_⟩
    rw [State.wrPgCtrl_instance hinst halways, show bit 1 4 = false from rfl, show bit 1 8 = false from rfl,
      show bit 1 0 = true from rfl]
    simp [State.writeEn_off_true hoff, State.block_setBlock]
  case disable =>
    intro s req p htake hinst halways hstart
    refine ⟨_, exec_blockDisable htake, ?_⟩
    rw [State.wrPgCtrl_instance hinst halways, show bit 0 4 = false from rfl, show bit 0 8 = false from rfl,
      show bit 0 0 = false from rfl]
    simp [State.writeEn_starting_false hstart, State.block_setBlock, hstart]
  case stop =>
    intro s req p htake hinst halways hrun
    rw [Does, exec_blockDisable htake, State.wrPgCtrl_instance hinst halways, show bit 0 4 = false from rfl,
      show bit 0 8 = false from rfl, show bit 0 0 = false from rfl]
    simp [State.writeEn_running_false hrun]
  case soft =>
    intro s req p en htake hinst halways
    obtain ⟨h4, h8, h0⟩ := bit_pgCtrl_softReset en
    rw [Does, exec_softReset htake, State.wrPgCtrl_instance hinst halways, h4, h8, h0]
    simp
  case lockOther =>
    intro s req p en htake hother
    obtain ⟨-, h8, -⟩ := bit_pgCtrl_lock en
    refine ⟨_, exec_pageLock htake, ?_⟩
    rw [State.wrPgCtrl_other hother, h8]
    simp [State.locked, State.onF_putF_bit _ (Reg.PG_CTRL_LOCK p) 1 rfl]
  case lock =>
    intro s req p en htake hinst halways
    obtain ⟨h4, h8, h0⟩ := bit_pgCtrl_lock en
    rw [Does, exec_pageLock htake, State.wrPgCtrl_instance hinst halways, h4, h8, h0]
    simp
  case clear =>
    intro s req addr v b n htake htile hcnt hv
    refine ⟨_, exec_counterClear htake hcnt, ?_⟩
    rw [State.wrClear_counter htile hcnt hv]
    simp only [State.reg_inside, State.reg_respond, State.inside_mem, State.respond_mem, State.zeroWords_mem, true_and]
    exact ⟨fun i hi => s.reg_zeroWords hi, fun a ha => s.reg_zeroWords_ne ha⟩
  case safePoint =>
    intro s p hlive hstart hsafe
    exact guard_does (c := fun s => s.blockState p == .starting && !(s.block p).safePassed) hlive (by simp [hstart, hsafe])
  case startDone =>
    intro s p pass hlive hstart hsafe
    have hrun : exec (.startDone p pass) s = execStartDone p pass s := rfl
    rw [Does, hrun, execStartDone, whenLive_live hlive]
    simp [hstart, hsafe]
  case stopDone =>
    intro s p hlive hstop hready
    exact guard_does (c := fun s => s.blockState p == .stopping && s.stopReady p) hlive (by simp [hstop, hready])

end Sys2Proof.Machine
end

section
/-! The proofs about Quartz: time bases, epochs, snapshots, servos and the frame tick (R39, R52, R470–R480). -/

namespace Sys2Proof.Machine

/-! ### What an interrupt leaves -/

theorem State.pageEdge_eq (s old : State) (p : Nat) :
    s.pageEdge old p = { s with regs := (s.pageEdge old p).regs, sent := (s.pageEdge old p).sent } := by
  unfold State.pageEdge State.vectorEdge State.vectorRise
  split
  · split
    · split
      · rfl
      · rw [State.putF_eq]
    · rw [State.putF_eq]
    · rfl
  · rfl

/-- An interrupt changes registers and what is sent to the host, and no other part. -/
theorem State.irq_eq (s : State) (p mask : Nat) :
    s.irq p mask = { s with regs := (s.irq p mask).regs, sent := (s.irq p mask).sent } := by
  rw [State.irq, State.pageEdge_eq, State.putF_eq]

@[simp] theorem State.irq_mem (s : State) (p mask : Nat) : (s.irq p mask).mem = s.mem := by rw [State.irq_eq]
@[simp] theorem State.irq_qtz (s : State) (p mask : Nat) : (s.irq p mask).qtz = s.qtz := by rw [State.irq_eq]
@[simp] theorem State.irq_dev (s : State) (p mask : Nat) : (s.irq p mask).dev = s.dev := by rw [State.irq_eq]
@[simp] theorem State.irq_fc (s : State) (p mask : Nat) : (s.irq p mask).fc = s.fc := by rw [State.irq_eq]
@[simp] theorem State.irq_blocks (s : State) (p mask : Nat) : (s.irq p mask).blocks = s.blocks := by rw [State.irq_eq]

/-- An interrupt leaves the words below the pending-bit array but for the page's IRQ_STAT. -/
theorem State.reg_irq_of_lt (s : State) (p mask : Nat) {a : Nat} (ha : a < Reg.PCIE_PBA) (hne : a ≠ 0x1000 * p + 0x18) :
    (s.irq p mask).reg a = s.reg a := by
  rw [State.irq, State.reg_pageEdge_of_lt _ _ _ ha, State.reg_putF_ne]
  simp only [Reg.PG_IRQ_STAT]; omega

/-- A field of one word below the pending-bit array, outside the page headers, reads through an interrupt. -/
theorem State.getF_irq (s : State) (p mask : Nat) {f : Fld} (hf : f.hi < 32) (ha : f.addr < Reg.PCIE_PBA)
    (hne : 0x40 ≤ f.addr % 0x1000) : (s.irq p mask).getF f = s.getF f :=
  State.getF_of_reg_eq hf (s.reg_irq_of_lt p mask ha (by omega))

/-! ### The bases -/

@[simp] theorem State.base_inside (s t : State) (b : Nat) : (s.inside t).base b = t.base b := by
  rw [State.base, State.inside_qtz, State.base]
@[simp] theorem State.base_respond (s : State) (req : Requester) (n : Nat) (l : List Nat) (b : Nat) :
    (s.respond req n l).base b = s.base b := by rw [State.base, State.respond_qtz, State.base]

theorem State.genInc_qtz (s : State) (b : Nat) : (s.genInc b).qtz = s.qtz := by simp [State.genInc, State.wrapInc]
theorem State.genInc_mem (s : State) (b : Nat) : (s.genInc b).mem = s.mem := by simp [State.genInc, State.wrapInc]
theorem State.genInc_dev (s : State) (b : Nat) : (s.genInc b).dev = s.dev := by simp [State.genInc, State.wrapInc]

/-- A wrap or a step counts in the base's GEN. -/
theorem State.gen_genInc (s : State) {b : Nat} (hb : b < 8) :
    (s.genInc b).getF (Reg.QTZ_TB_GEN_GEN b) = (s.getF (Reg.QTZ_TB_GEN_GEN b) + 1) % 2 ^ 16 := by
  rw [State.genInc, State.getF_irq, State.getF_wrapInc _ _ _ (Nat.zero_le _)]
  · rfl
  · show 15 < 32; norm_num
  · show 0x4141c + 0x40 * b < 0x5c1800; omega
  · show 0x40 ≤ (0x4141c + 0x40 * b) % 0x1000; omega

/-- A state without its triggers: what the edges that a step passes over do not show in. -/
def State.sansTriggers (s : State) : State := { s with qtz := { s.qtz with triggers := [] } }

theorem State.getF_sansTriggers (s : State) (f : Fld) : s.sansTriggers.getF f = s.getF f := State.getF_of_regs_eq rfl

@[simp] theorem State.skipEdges_sansTriggers (s : State) (b : Nat) : (s.skipEdges b).sansTriggers = s.sansTriggers :=
  State.foldl_frame (g := State.sansTriggers) (fun u o _ => by dsimp only; split <;> rfl) s

/-- A step moves its base by the signed amount and counts in GEN. -/
theorem State.stepBase_sansTriggers (s : State) (b : Nat) (x : Int) : (s.stepBase b x).sansTriggers =
    ((s.setBase b { s.base b with count := toBits 64 ((s.base b).count + x) }).genInc b).sansTriggers := by
  unfold State.stepBase
  dsimp only
  split
  · rw [State.skipEdges_sansTriggers]
  · rfl

theorem State.base_stepBase (s : State) (b k : Nat) (x : Int) :
    (s.stepBase b x).base k = if k = b then { s.base b with count := toBits 64 ((s.base b).count + x) } else s.base k := by
  calc (s.stepBase b x).base k = (s.stepBase b x).sansTriggers.base k := rfl
    _ = ((s.setBase b { s.base b with count := toBits 64 ((s.base b).count + x) }).genInc b).base k := by
        rw [State.stepBase_sansTriggers]; rfl
    _ = _ := by rw [State.base, State.genInc_qtz]; exact State.base_setBase ..

theorem State.stepBase_mem (s : State) (b : Nat) (x : Int) : (s.stepBase b x).mem = s.mem := by
  calc (s.stepBase b x).mem = (s.stepBase b x).sansTriggers.mem := rfl
    _ = _ := by rw [State.stepBase_sansTriggers]; exact State.genInc_mem ..

theorem State.gen_stepBase (s : State) {b : Nat} (x : Int) (hb : b < 8) :
    (s.stepBase b x).getF (Reg.QTZ_TB_GEN_GEN b) = (s.getF (Reg.QTZ_TB_GEN_GEN b) + 1) % 2 ^ 16 := by
  have hset (y : TimeBase) : (s.setBase b y).getF (Reg.QTZ_TB_GEN_GEN b) = s.getF (Reg.QTZ_TB_GEN_GEN b) := State.getF_of_regs_eq rfl
  rw [← State.getF_sansTriggers, State.stepBase_sansTriggers, State.getF_sansTriggers, State.gen_genInc _ hb, hset]

/-! ### The next tick -/

/-- The next tick lies ahead of the count by at most a frame, at the origin's phase. -/
theorem nextTickAfter_spec {count org : Nat} (h : org < 1000000) : nextTickAfter count org % 1000000 = org ∧
    count < nextTickAfter count org ∧ nextTickAfter count org ≤ count + 1000000 := by
  unfold nextTickAfter
  dsimp only
  split <;> omega

/-! ### Snapshots -/

/-- A word of each base, set in a row, shows what was set and leaves every other. -/
theorem State.getF_foldl_putF (s : State) {f : Nat → Fld} (v : Nat → Nat) {n b : Nat} (hb : b < n)
    (hf : ∀ k, (f k).hi = 31 ∧ (f k).lo = 0) (hne : ∀ k, k ≠ b → (f k).addr ≠ (f b).addr) :
    ((List.range n).foldl (fun t k => t.putF (f k) (v k)) s).getF (f b) = v b % 2 ^ 32 := by
  obtain ⟨hhi, hlo⟩ := hf b
  induction n with
  | zero => omega
  | succ n ih =>
    rw [List.range_succ, List.foldl_append, List.foldl_cons, List.foldl_nil]
    rcases Nat.lt_or_ge b n with h | h
    · obtain ⟨khi, klo⟩ := hf n
      have hn := hne n (by omega)
      rw [State.getF_putF_ne _ _ _ _ (by rw [hhi, khi]; omega), ih h]
    · obtain rfl : b = n := by omega
      rw [State.getF_putF _ _ _ (by omega)]
      simp [Fld.width, hhi, hlo]

theorem State.now_lt (s : State) (b : Nat) : s.now b < 2 ^ 32 := Nat.mod_lt _ (Nat.two_pow_pos _)

/-- A state without its registers. -/
def State.sansRegs (s : State) : State := { s with regs := [] }

theorem State.putF_sansRegs (s : State) (f : Fld) (v : Nat) : (s.putF f v).sansRegs = s.sansRegs := by rw [State.putF_eq]; rfl

theorem State.foldl_putF_sansRegs {α : Type} (s : State) (f : α → Fld) (v : α → Nat) (l : List α) :
    (l.foldl (fun t x => t.putF (f x) (v x)) s).sansRegs = s.sansRegs :=
  State.foldl_frame (g := State.sansRegs) (fun u _ _ => u.putF_sansRegs _ _) s

/-- What reads a state without its registers reads alike in states that agree in the rest. -/
theorem State.of_sansRegs {β : Type} {g : State → β} {s u : State} (hg : ∀ v, g v.sansRegs = g v) (h : u.sansRegs = s.sansRegs) :
    g u = g s := by rw [← hg u, h, hg]

/-! ### The commands -/

theorem exec_tbStep {s : State} {req : Requester} {b v : Nat} (hb : b < 8) (h : s.Takes req (Reg.QTZ_TB_STEP b) (v % 2 ^ 32)) :
    exec (.tbStep req b v) s = .next (s.inside ((s.stepBase b (signed 32 v)).respond req 0 [])) := by
  have hrun : exec (.tbStep req b v) s = execTbStep req b v s := rfl
  rw [hrun, execTbStep, decide_eq_true hb]
  exact access_does h

theorem exec_frameOrgWrite {s : State} {req : Requester} {v : Nat} (h : s.Takes req Reg.QTZ_FRAME_ORG (v % 2 ^ 32)) :
    exec (.frameOrgWrite req v) s = .next (s.inside ((s.wrFrameOrg v).respond req 0 [])) := access_does h

theorem exec_snap {s : State} {req : Requester} (h : s.Takes req Reg.QTZ_SNAP 1) :
    exec (.snap req) s = .next (s.inside ((s.wrSnap 1).respond req 0 [])) := access_does h

theorem exec_epochCommitTag {s : State} {req : Requester} {d tag : Nat} (hd : d < 2)
    (h : s.Takes req (Reg.QTZ_EPOCH_TAG d) (tag % 2 ^ 32)) :
    exec (.epochCommitTag req d tag) s = .next (s.inside ((s.wrEpochTag d tag).respond req 0 [])) := by
  have hrun : exec (.epochCommitTag req d tag) s = execEpochCommitTag req d tag s := rfl
  rw [hrun, execEpochCommitTag, decide_eq_true hd]
  exact access_does h

theorem exec_servoSample {s : State} {req : Requester} {d v : Nat} (hd : d < 2)
    (h : s.Takes req (Reg.QTZ_SV_OFS d) (v % 2 ^ 32)) :
    exec (.servoSample req d v) s = .next (s.inside ((s.servoSample d (signed 32 v)).respond req 0 [])) := by
  have hrun : exec (.servoSample req d v) s = execServoSample req d v s := rfl
  rw [hrun, execServoSample, decide_eq_true hd]
  exact access_does h

theorem exec_tb2SelWrite {s : State} {req : Requester} {auto : Bool} {sel : Nat} (hsel : sel < 2)
    (h : s.Takes req Reg.QTZ_TB2_SEL (b2n auto * 2 ^ 31 + sel)) :
    exec (.tb2SelWrite req auto sel) s = .next (s.inside ((s.wrTb2Sel (b2n auto * 2 ^ 31 + sel)).respond req 0 [])) := by
  have hrun : exec (.tb2SelWrite req auto sel) s = execTb2SelWrite req auto sel s := rfl
  have hmod : sel % 4 = sel := Nat.mod_eq_of_lt (by omega)
  rw [hrun, execTb2SelWrite, hmod]
  exact access_does h

/-- FRAME_ORG within a frame is written and moves the next tick. -/
theorem State.wrFrameOrg_of_le {s : State} {v : Nat} (h : bits v 19 0 ≤ 999999) : s.wrFrameOrg v =
    { s.putF Reg.QTZ_FRAME_ORG_ORG v with qtz := { s.qtz with nextTick := nextTickAfter (s.base 4).count (bits v 19 0) } } := by
  rw [State.wrFrameOrg, if_pos h]
  simp [State.base]

/-- A snapshot latches the bases and the frame number. -/
theorem State.snap_spec (s : State) : (∀ b < 8, (s.wrSnap 1).getF (Reg.QTZ_TB_SNAP_SNAP b) = s.now b) ∧
    (s.wrSnap 1).getF Reg.QTZ_SNAP_FRAME_FRAME = s.getF Reg.QTZ_FRAME_FRAME ∧ (s.wrSnap 1).sansRegs = s.sansRegs := by
  have hwr : s.wrSnap 1 = ((List.range 8).foldl (fun t b => t.putF (Reg.QTZ_TB_SNAP_SNAP b) (s.now b)) s).putF
      Reg.QTZ_SNAP_FRAME_FRAME (s.getF Reg.QTZ_FRAME_FRAME) := rfl
  have hframe : s.getF Reg.QTZ_FRAME_FRAME < 2 ^ 32 := bits_lt ..
  rw [hwr]
  refine ⟨fun b hb => ?_, ?_, ?_⟩
  · have hbelow : Reg.QTZ_SNAP_FRAME_FRAME.addr + 4 * (Reg.QTZ_SNAP_FRAME_FRAME.hi / 32) < (Reg.QTZ_TB_SNAP_SNAP b).addr := by
      simp only [Reg.QTZ_SNAP_FRAME_FRAME, Reg.QTZ_SNAP_FRAME, Reg.QTZ_TB_SNAP_SNAP, Reg.QTZ_TB_SNAP]; omega
    rw [State.getF_putF_ne _ _ _ _ (.inl hbelow),
      State.getF_foldl_putF s s.now hb (fun _ => ⟨rfl, rfl⟩) (fun k hk => by
        simp only [Reg.QTZ_TB_SNAP_SNAP, Reg.QTZ_TB_SNAP]; omega), Nat.mod_eq_of_lt (s.now_lt b)]
  · rw [State.getF_putF _ _ _ (Nat.zero_le _)]
    exact Nat.mod_eq_of_lt hframe
  · rw [State.putF_sansRegs, State.foldl_putF_sansRegs]

theorem bits_tb2Sel (auto : Bool) {sel : Nat} (h : sel < 2) : bits (b2n auto * 2 ^ 31 + sel) 1 0 = sel := by
  cases auto <;> interval_cases sel <;> rfl

/-- A source that TB2_SEL names is followed on position 0. -/
theorem State.wrTb2Sel_zero {s : State} {auto : Bool} {sel : Nat} (hpos : s.pins.cascPos = 0) (hsel : sel < 2) :
    s.wrTb2Sel (b2n auto * 2 ^ 31 + sel) =
      (s.applyWord Reg.QTZ_TB2_SEL (b2n auto * 2 ^ 31 + sel)).putF Reg.QTZ_STAT_TB2_SRC sel := by
  unfold State.wrTb2Sel
  dsimp only
  rw [bits_tb2Sel auto hsel, if_pos ⟨hpos, by omega⟩]

/-- Settles O22: each command's write, read back field by field. -/
theorem timeBaseAndServoCommandsComplete : Obligations.TimeBaseAndServoCommandsComplete := by
  unfold Obligations.TimeBaseAndServoCommandsComplete
  refine ⟨?wrap, ?step, ?org, ?orgIllegal, ?snap, ?epoch, ?sample, ?timeout, ?select, ?refLost, ?refRecovered⟩
  case wrap =>
    intro s b hp hb
    have hrun : exec (.tbWrap b) s = .next (s.inside (s.genInc b)) := by
      have h : exec (.tbWrap b) s = execTbWrap b s := rfl
      rw [h, execTbWrap, whenPowered_on hp, decide_eq_true hb, State.guard_true]
    refine ⟨_, hrun, ?_, ?_, ?_, ?_⟩
    · rw [State.getF_inside, State.gen_genInc s hb]
    · rw [State.inside_qtz, State.genInc_qtz]
    · rw [State.inside_mem, State.genInc_mem]
    · rw [State.inside_eq]
      simp only [State.genInc_dev]
      split <;> rfl
  case step =>
    intro s req b v hb htake
    refine ⟨_, exec_tbStep hb htake, ?_⟩
    simp only [State.base_inside, State.base_respond, State.getF_inside, State.getF_respond, State.inside_mem, State.respond_mem,
      State.base_stepBase, State.gen_stepBase s _ hb, State.stepBase_mem, if_true, true_and, and_true]
    exact fun k hk => if_neg hk
  case org =>
    intro s req v htake horg
    refine ⟨_, exec_frameOrgWrite htake, ?_⟩
    rw [State.wrFrameOrg_of_le horg]
    obtain ⟨hphase, hahead, hframe⟩ := nextTickAfter_spec (count := (s.base 4).count) (show bits v 19 0 < 1000000 by omega)
    refine ⟨?_, ?_, ?_, ?_, ?_⟩
    · rw [State.getF_inside, State.getF_respond]
      exact (State.getF_of_regs_eq (s := s.putF Reg.QTZ_FRAME_ORG_ORG v) rfl).trans (State.getF_putF _ _ _ (Nat.zero_le _))
    · simpa using hphase
    · simpa using hahead
    · simpa using hframe
    · rw [State.getF_inside, State.getF_respond]
      exact (State.getF_of_regs_eq (s := s.putF Reg.QTZ_FRAME_ORG_ORG v) rfl).trans (State.getF_putF_ne _ _ _ _ (.inr (by decide)))
  case orgIllegal =>
    intro s req v htake horg
    rw [Does, exec_frameOrgWrite htake, State.wrFrameOrg, if_neg (by omega)]
  case snap =>
    intro s req htake
    obtain ⟨hbase, hframe, hrest⟩ := s.snap_spec
    refine ⟨_, exec_snap htake, fun b hb => ?_, ?_, ?_, ?_⟩
    · rw [State.getF_inside, State.getF_respond, hbase b hb]
    · rw [State.getF_inside, State.getF_respond, hframe]
    · rw [State.inside_qtz, State.respond_qtz]; exact State.of_sansRegs (g := State.qtz) (fun _ => rfl) hrest
    · rw [State.inside_mem, State.respond_mem]; exact State.of_sansRegs (g := State.mem) (fun _ => rfl) hrest
  case epoch =>
    intro s req d tag hd htake
    refine ⟨_, exec_epochCommitTag hd htake, ?_, ?_⟩
    · have hsec : (s.putF (Reg.QTZ_EPOCH_TAG_TAG d) tag).getF (Reg.QTZ_EPOCH_SEC_SEC d) = s.getF (Reg.QTZ_EPOCH_SEC_SEC d) :=
        State.getF_putF_ne _ _ _ _ (.inr (by
          simp only [Reg.QTZ_EPOCH_SEC_SEC, Reg.QTZ_EPOCH_SEC, Reg.QTZ_EPOCH_TAG_TAG, Reg.QTZ_EPOCH_TAG]; omega))
      have hns : (s.putF (Reg.QTZ_EPOCH_TAG_TAG d) tag).getF (Reg.QTZ_EPOCH_NS_NS d) = s.getF (Reg.QTZ_EPOCH_NS_NS d) :=
        State.getF_putF_ne _ _ _ _ (.inr (by
          simp only [Reg.QTZ_EPOCH_NS_NS, Reg.QTZ_EPOCH_NS, Reg.QTZ_EPOCH_TAG_TAG, Reg.QTZ_EPOCH_TAG]; omega))
      rw [State.inside_qtz, State.respond_qtz, State.wrEpochTag]
      simp only [hsec, hns, Sparse.get_set_same]
    · rw [State.inside_mem, State.respond_mem]; exact State.putF_mem ..
  case sample =>
    intro s req d v hd htake
    exact exec_servoSample hd htake
  case timeout =>
    intro s d hp hd
    have hrun : exec (.servoTimeout d) s = execServoTimeout d s := rfl
    rw [Does, hrun, execServoTimeout, whenPowered_on hp, decide_eq_true hd, State.guard_true]
  case select =>
    intro s req auto sel htake hpos hsel
    refine ⟨_, exec_tb2SelWrite hsel htake, ?_⟩
    rw [State.wrTb2Sel_zero hpos hsel, State.getF_inside, State.getF_respond, State.getF_putF _ _ _ (by decide)]
    refine ⟨Nat.mod_eq_of_lt (by rw [show Reg.QTZ_STAT_TB2_SRC.width = 2 from rfl]; omega), ?_, ?_⟩
    · rw [State.inside_mem, State.respond_mem, State.putF_mem]; rfl
    · rw [State.inside_qtz, State.respond_qtz, State.putF_qtz]; rfl
  case refLost =>
    intro s hlive hlost
    have hrun : exec .refLost s = execRefLost s := rfl
    have hlive' : (s.putF Reg.QTZ_STAT_REF_LOST 1).live = true := by
      rw [State.live, State.putF_pins, State.putF_dev]; exact hlive
    have hp : s.pins.powered = true := by
      simp only [State.live, Bool.and_eq_true] at hlive
      exact hlive.1
    rw [Does, hrun, execRefLost, whenPowered_on hp, hlost, Bool.not_false, State.guard_true]
    simp only [hlive', if_true]
  case refRecovered =>
    intro s hp
    have hrun : exec .refRecovered s = .next (s.inside (s.putF Reg.QTZ_STAT_REF_LOST 0)) :=
      whenPowered_on (f := fun s => s.putF Reg.QTZ_STAT_REF_LOST 0) hp
    refine ⟨_, hrun, ?_, ?_, ?_⟩
    · rw [State.onF_inside, State.onF_putF_bit _ _ _ rfl]; rfl
    · rw [State.inside_mem, State.putF_mem]
    · rw [State.inside_qtz, State.putF_qtz]

end Sys2Proof.Machine
end

section
/-! The proofs about a servo's sample and the frame tick (R39, R52, R474, R478). -/

namespace Sys2Proof.Machine

theorem sat32_range (x : Int) : -(2 ^ 31) ≤ sat32 x ∧ sat32 x < 2 ^ 31 := by unfold sat32; omega

/-- A number of 32 bits with sign is read back from its pattern. -/
theorem signed_toBits {x : Int} (h : -(2 ^ 31) ≤ x ∧ x < 2 ^ 31) : signed 32 (toBits 32 x % 2 ^ 32) = x := by
  unfold signed toBits
  dsimp only
  norm_num at h ⊢
  split <;> omega

@[simp] theorem State.getF_setBase (s : State) (b : Nat) (x : TimeBase) (f : Fld) : (s.setBase b x).getF f = s.getF f :=
  State.getF_of_regs_eq rfl
@[simp] theorem State.getF_setServo (s : State) (d : Nat) (x : Servo) (f : Fld) : (s.setServo d x).getF f = s.getF f :=
  State.getF_of_regs_eq rfl

/-- A sample shows in LAST alone before it is taken. -/
theorem State.getF_putLast (s : State) (d v : Nat) {f : Fld} (hf : f.hi < 32) (h : f.addr ≠ Reg.QTZ_SV_LAST d) :
    (s.putF (Reg.QTZ_SV_LAST_LAST d) v).getF f = s.getF f := by
  refine State.getF_putF_ne _ _ _ _ ?_
  simp only [Reg.QTZ_SV_LAST_LAST]
  omega

/-- The integrator after a sample `o`. -/
def State.servoInt (s : State) (d : Nat) (o : Int) : Int :=
  sat32 (signed 32 (s.getF (Reg.QTZ_SV_INT_I d)) + o * 2 ^ s.getF (Reg.QTZ_SV_CFG_KI_SH d))

/-- The state after a sample that is no step: LAST, the integrator, the held rate and the run. -/
def State.servoTaken (s : State) (d : Nat) (o : Int) (run : Nat) : State :=
  ((((s.putF (Reg.QTZ_SV_LAST_LAST d) (toBits 32 o)).putF (Reg.QTZ_SV_INT_I d) (toBits 32 (s.servoInt d o))).setBase d
    { s.base d with held := sat32 (s.servoInt d o + o * 2 ^ s.getF (Reg.QTZ_SV_CFG_KP_SH d)) }).setServo d
    { run := run, since := s.qtz.cycles })

/-- A sample that is no step, of a servo that acquires and stays so, changes no state of the servo. -/
theorem State.servoSample_acquiring {s : State} {d : Nat} (o : Int) (hstep : s.getF (Reg.QTZ_SV_STEP_STEP_NS d) = 0)
    (hstate : s.getF (Reg.QTZ_SV_STAT_STATE d) = 1) (hrun : (s.servo d).run < 7) : ∃ run, s.servoSample d o = s.servoTaken d o run := by
  have hint (v : Nat) : (s.putF (Reg.QTZ_SV_LAST_LAST d) v).getF (Reg.QTZ_SV_INT_I d) = s.getF (Reg.QTZ_SV_INT_I d) :=
    s.getF_putLast d v (by decide : 31 < 32) (by simp only [Reg.QTZ_SV_INT_I, Reg.QTZ_SV_INT, Reg.QTZ_SV_LAST]; omega)
  have hki (v : Nat) : (s.putF (Reg.QTZ_SV_LAST_LAST d) v).getF (Reg.QTZ_SV_CFG_KI_SH d) = s.getF (Reg.QTZ_SV_CFG_KI_SH d) :=
    s.getF_putLast d v (by decide : 20 < 32) (by simp only [Reg.QTZ_SV_CFG_KI_SH, Reg.QTZ_SV_CFG, Reg.QTZ_SV_LAST]; omega)
  have hkp (v : Nat) : (s.putF (Reg.QTZ_SV_LAST_LAST d) v).getF (Reg.QTZ_SV_CFG_KP_SH d) = s.getF (Reg.QTZ_SV_CFG_KP_SH d) :=
    s.getF_putLast d v (by decide : 28 < 32) (by simp only [Reg.QTZ_SV_CFG_KP_SH, Reg.QTZ_SV_CFG, Reg.QTZ_SV_LAST]; omega)
  have hbase (v : Nat) : (s.putF (Reg.QTZ_SV_LAST_LAST d) v).base d = s.base d := by rw [State.base, State.putF_qtz, State.base]
  have hkeep (run : Nat) : (s.servoTaken d o run).getF (Reg.QTZ_SV_STAT_STATE d) = 1 := by
    rw [State.servoTaken, State.getF_setServo, State.getF_setBase, State.getF_putF_ne, State.getF_putLast, hstate]
    · exact (by decide : 31 < 32)
    · simp only [Reg.QTZ_SV_STAT_STATE, Reg.QTZ_SV_STAT, Reg.QTZ_SV_LAST]; omega
    · simp only [Reg.QTZ_SV_STAT_STATE, Reg.QTZ_SV_STAT, Reg.QTZ_SV_INT_I, Reg.QTZ_SV_INT]; omega
  unfold State.servoSample
  simp only [hstep, hstate, hint, hki, hkp, hbase, bne_self_eq_false, Bool.false_and, Bool.false_eq_true, if_false]
  by_cases hgood : o.natAbs ≤ s.getF (Reg.QTZ_SV_CFG_LOCK_NS d)
  · refine ⟨(s.servo d).run + 1, ?_⟩
    rw [decide_eq_true hgood, if_pos rfl, if_neg (by omega), if_neg (by simp)]
    exact if_pos (hkeep _)
  · refine ⟨0, ?_⟩
    rw [decide_eq_false hgood, if_neg (by simp), if_neg (by omega), if_neg (by simp)]
    exact if_pos (hkeep _)

/-- Settles O23: the state after the sample is `servoTaken`. -/
theorem servoIntegratesItsSample : Obligations.ServoIntegratesItsSample := by
  unfold Obligations.ServoIntegratesItsSample
  intro s d o _ hstep hstate hrun
  obtain ⟨run, h⟩ := State.servoSample_acquiring o hstep hstate hrun
  have hbase : (s.servoTaken d o run).base d =
      { s.base d with held := sat32 (s.servoInt d o + o * 2 ^ s.getF (Reg.QTZ_SV_CFG_KP_SH d)) } :=
    (State.base_setBase _ d d _).trans (if_pos rfl)
  have hint : (s.servoTaken d o run).getF (Reg.QTZ_SV_INT_I d) = toBits 32 (s.servoInt d o) % 2 ^ 32 := by
    rw [State.servoTaken, State.getF_setServo, State.getF_setBase, State.getF_putF _ _ _ (Nat.zero_le _)]; rfl
  have hrange : -(2 ^ 31) ≤ s.servoInt d o ∧ s.servoInt d o < 2 ^ 31 := sat32_range _
  rw [h, hbase, hint, signed_toBits hrange]
  exact ⟨rfl, rfl, rfl⟩

/-! ### The frame tick -/

/-- A tick latches the bases and holds TB2 and TB4 for the frame's records. -/
theorem State.latchTick_spec (s : State) : (∀ b < 8, s.latchTick.getF (Reg.QTZ_TB_TICK_TICK b) = s.now b) ∧
    s.latchTick.frame.tb2 = s.now 2 ∧ s.latchTick.frame.tb4 = s.now 4 ∧ s.latchTick.mem = s.mem ∧ s.latchTick.qtz = s.qtz := by
  have hrest : ((List.range 8).foldl (fun t b => t.putF (Reg.QTZ_TB_TICK_TICK b) (s.now b)) s).sansRegs = s.sansRegs :=
    State.foldl_putF_sansRegs ..
  have htick (b : Nat) (hb : b < 8) : ((List.range 8).foldl (fun t b => t.putF (Reg.QTZ_TB_TICK_TICK b) (s.now b)) s).getF
      (Reg.QTZ_TB_TICK_TICK b) = s.now b := by
    rw [State.getF_foldl_putF s s.now hb (fun _ => ⟨rfl, rfl⟩) fun k hk => ?_, Nat.mod_eq_of_lt (s.now_lt b)]
    simp only [Reg.QTZ_TB_TICK_TICK, Reg.QTZ_TB_TICK]; omega
  unfold State.latchTick
  dsimp only
  generalize (List.range 8).foldl (fun t b => t.putF (Reg.QTZ_TB_TICK_TICK b) (s.now b)) s = u at hrest htick ⊢
  refine ⟨fun b hb => ?_, rfl, rfl, State.of_sansRegs (g := State.mem) (fun _ => rfl) hrest,
    State.of_sansRegs (g := State.qtz) (fun _ => rfl) hrest⟩
  rw [← htick b hb]
  exact State.getF_of_regs_eq rfl

/-- The next frame's number and tick. -/
theorem State.nextFrame_spec (s : State) :
    s.nextFrame.getF Reg.QTZ_FRAME_FRAME = (s.getF Reg.QTZ_FRAME_FRAME + 1) % 2 ^ 32 ∧
    s.nextFrame.qtz.nextTick = nextTickAfter (s.base 4).count (s.getF Reg.QTZ_FRAME_ORG_ORG) := by
  refine ⟨?_, ?_⟩
  · rw [State.nextFrame, State.getF_wrapInc _ _ _ (Nat.zero_le _)]
    exact congrArg (fun n => (n + 1) % 2 ^ 32) (State.getF_of_regs_eq rfl)
  · rw [State.nextFrame, State.wrapInc, State.putF_qtz]

/-- Settles O25. -/
theorem frameTickComplete : Obligations.FrameTickComplete := by
  unfold Obligations.FrameTickComplete
  refine ⟨?due, ?next, State.latchTick_spec, ?early⟩
  case due =>
    intro s hp hdue
    have hrun : exec .frameTick s = execFrameTick s := rfl
    rw [Does, hrun, execFrameTick, whenPowered_on hp, decide_eq_true hdue, State.guard_true]
  case next =>
    intro s horg
    obtain ⟨hnum, htick⟩ := s.nextFrame_spec
    rw [htick]
    exact ⟨hnum, nextTickAfter_spec horg⟩
  case early =>
    intro s hp hearly
    have hrun : exec .frameTick s = execFrameTick s := rfl
    rw [Does, hrun, execFrameTick, whenPowered_on hp, decide_eq_false (by omega), State.guard_false]

end Sys2Proof.Machine
end

section
/-! The proof about triggers and captures (R481–R491): what an edge drives, what a pulse's end drives, and the capture FIFOs. -/

namespace Sys2Proof.Machine

/-! ### What an edge that rises starts in the ingress unit -/

@[simp] theorem State.setIngStream_regs (s : State) (i : Nat) (x : IngStream) : (s.setIngStream i x).regs = s.regs := rfl
@[simp] theorem State.setIngStream_mem (s : State) (i : Nat) (x : IngStream) : (s.setIngStream i x).mem = s.mem := rfl
@[simp] theorem State.setSpiQueue_regs (s : State) (m : Nat) (l : List Nat) : (s.setSpiQueue m l).regs = s.regs := rfl
@[simp] theorem State.setSpiQueue_mem (s : State) (m : Nat) (l : List Nat) : (s.setSpiQueue m l).mem = s.mem := rfl

/-- `t` is `s` after samples have begun: memory, Quartz, the registers below the ingress unit and the kinds of the streams stand. -/
structure State.Begun (s t : State) : Prop where
  mem : t.mem = s.mem
  qtz : t.qtz = s.qtz
  reg : ∀ a < 0x380000, t.reg a = s.reg a
  kind : ∀ i, t.ingKind i = s.ingKind i

theorem State.Begun.refl (s : State) : s.Begun s := ⟨rfl, rfl, fun _ _ => rfl, fun _ => rfl⟩

theorem State.Begun.trans {s t u : State} (h : s.Begun t) (k : t.Begun u) : s.Begun u :=
  ⟨k.mem.trans h.mem, k.qtz.trans h.qtz, fun a ha => (k.reg a ha).trans (h.reg a ha), fun i => (k.kind i).trans (h.kind i)⟩

/-- A state with the same memory, Quartz and registers. -/
theorem State.Begun.of_regs {s t : State} (hm : t.mem = s.mem) (hq : t.qtz = s.qtz) (hr : t.regs = s.regs) : s.Begun t :=
  ⟨hm, hq, fun a _ => State.reg_of_regs_eq hr a, fun _ => State.getF_of_regs_eq hr⟩

/-- A field above the ingress unit's stream controls, or in another word of a stream, is written. -/
theorem State.begun_putF (s : State) (f : Fld) (v : Nat) (hf : f.hi < 32) (hlow : 0x380000 ≤ f.addr)
    (hctrl : ∀ i, f.addr ≠ Reg.ING_S_CTRL i) : s.Begun (s.putF f v) := by
  refine ⟨State.putF_mem .., State.putF_qtz .., fun a ha => State.reg_putF_ne _ _ _ _ (.inl (by omega)), fun i => ?_⟩
  have hword : f.hi / 32 = 0 := Nat.div_eq_of_lt hf
  have hne := hctrl i
  refine State.getF_putF_ne _ _ _ _ ?_
  simp only [Reg.ING_S_CTRL_KIND, hword]
  omega

theorem State.begun_takeSid (s : State) (i : Nat) : s.Begun (s.takeSid i) := by
  have hset (x : IngStream) : s.Begun (s.setIngStream i x) := .of_regs rfl rfl rfl
  refine (hset _).trans (State.begun_putF _ _ _ (by decide : 31 < 32) ?_ fun j => ?_)
  · simp only [Reg.ING_S_SID_SID, Reg.ING_S_SID]; omega
  · simp only [Reg.ING_S_SID_SID, Reg.ING_S_SID, Reg.ING_S_CTRL]; omega

/-- A sample of a stream that is no camera's takes its SID. -/
theorem State.begun_beginSample (s : State) {i : Nat} (h : s.ingKind i ≠ 0) : s.Begun (s.beginSample i) := by
  rw [State.beginSample, if_neg (fun hk => h hk.1)]
  exact s.begun_takeSid i

theorem State.begun_spiStart (s : State) (m cs : Nat) {i : Nat} (h : s.ingKind i ≠ 0) : s.Begun (s.spiStart m cs i) := by
  have hemit (e : Emission) : s.Begun (s.emit e) := .of_regs rfl rfl rfl
  exact (hemit _).trans (State.begun_beginSample _ (by rwa [(hemit _).kind]))

theorem State.begun_spiTrigger (s : State) {i : Nat} (h : s.ingKind i ≠ 0) : s.Begun (s.spiTrigger i) := by
  have hqueue (m : Nat) (l : List Nat) : s.Begun (s.setSpiQueue m l) := .of_regs rfl rfl rfl
  unfold State.spiTrigger
  dsimp only
  split
  · exact .refl s
  split
  · exact (hqueue _ _).trans (State.begun_spiStart _ _ _ (by rwa [(hqueue _ _).kind]))
  split
  · refine s.begun_putF _ _ (by decide : 15 < 32) ?_ fun j => ?_
    · simp only [Reg.SPI_MISS_MISS, Reg.SPI_MISS]; omega
    · simp only [Reg.SPI_MISS_MISS, Reg.SPI_MISS, Reg.ING_S_CTRL]; omega
  · exact hqueue _ _

/-- A trigger edge begins samples of streams that are no cameras'. -/
theorem State.begun_risen (s : State) (o : Nat) : s.Begun (s.risen o) := by
  unfold State.risen
  refine List.foldlRecOn (motive := fun u => s.Begun u) _ _ (.refl s) fun u hu i hi => ?_
  have hkind : u.ingKind i ≠ 0 := by
    rw [hu.kind i]
    intro h0
    simp [State.edgeKind, h0] at hi
  split
  · exact hu.trans (u.begun_spiTrigger hkind)
  · exact hu.trans (u.begun_beginSample hkind)

theorem State.begun_afterEdge (s t : State) (o : Nat) : t.Begun (s.afterEdge t o) := by
  unfold State.afterEdge
  split
  · exact t.begun_risen o
  · exact .refl t

/-- A field of Quartz reads alike after samples have begun. -/
theorem State.Begun.getF {s t : State} (h : s.Begun t) {f : Fld} (hf : f.hi < 32) (ha : f.addr < 0x380000) : t.getF f = s.getF f :=
  State.getF_of_reg_eq hf (h.reg _ ha)

theorem State.Begun.onF {s t : State} (h : s.Begun t) {f : Fld} (hf : f.hi < 32) (ha : f.addr < 0x380000) : t.onF f = s.onF f := by
  rw [State.onF, State.onF, h.getF hf ha]

/-! ### Triggers -/

@[simp] theorem State.trigger_setTrigger (s : State) (o : Nat) (x : Trigger) : (s.setTrigger o x).trigger o = x := Sparse.get_set_same ..
theorem State.trigger_of_qtz_eq {s t : State} (h : t.qtz = s.qtz) (o : Nat) : t.trigger o = s.trigger o := by
  rw [State.trigger, h, State.trigger]
@[simp] theorem State.getF_setTrigger (s : State) (o : Nat) (x : Trigger) (f : Fld) : (s.setTrigger o x).getF f = s.getF f :=
  State.getF_of_regs_eq rfl
@[simp] theorem State.trigger_inside (s t : State) (o : Nat) : (s.inside t).trigger o = t.trigger o :=
  State.trigger_of_qtz_eq (s.inside_qtz t) o
@[simp] theorem State.trigger_respond (s : State) (req : Requester) (n : Nat) (l : List Nat) (o : Nat) :
    (s.respond req n l).trigger o = s.trigger o := State.trigger_of_qtz_eq (s.respond_qtz ..) o
@[simp] theorem State.trigger_putF (s : State) (f : Fld) (v o : Nat) : (s.putF f v).trigger o = s.trigger o :=
  State.trigger_of_qtz_eq (s.putF_qtz ..) o

theorem trStat_lt {o : Nat} (ho : o < 24) : Reg.QTZ_TR_STAT o < 0x380000 := by simp only [Reg.QTZ_TR_STAT]; omega

theorem exec_triggerEdge {s : State} {o : Nat} (hlive : s.live = true) (ho : o < 24) (hdue : s.edgeDue o = true) :
    exec (.triggerEdge o) s = .next (s.inside (s.afterEdge (s.driveEdge o) o)) :=
  guard_does (c := fun s => decide (o < 24) && s.edgeDue o) (f := fun s => s.afterEdge (s.driveEdge o) o) hlive (by simp [ho, hdue])

theorem exec_triggerPulseEnd {s : State} {o : Nat} (hlive : s.live = true) (ho : o < 24) (hdue : s.pulseEndDue o = true) :
    exec (.triggerPulseEnd o) s = .next (s.inside (s.afterEdge (s.endPulse o) o)) :=
  guard_does (c := fun s => decide (o < 24) && s.pulseEndDue o) (f := fun s => s.afterEdge (s.endPulse o) o) hlive
    (by simp [ho, hdue])

/-- An edge that is driven starts its pulse and counts. -/
theorem State.driveEdge_spec {s : State} {o : Nat} (hsup : (s.trigger o).suppress = false) :
    (s.driveEdge o).onF (Reg.QTZ_TR_STAT_ACTIVE o) = true ∧
    (s.driveEdge o).getF (Reg.QTZ_TR_STAT_EDGES o) = (s.getF (Reg.QTZ_TR_STAT_EDGES o) + 1) % 2 ^ 16 ∧
    ((s.driveEdge o).trigger o).next = (s.trigger o).next + 1 ∧ ((s.driveEdge o).trigger o).level = s.trigLevel o true ∧
    (s.driveEdge o).mem = s.mem := by
  have hlast (u : State) (v : Nat) {f : Fld} (hf : f.addr = Reg.QTZ_TR_STAT o) (hhi : f.hi < 32) :
      (u.putF (Reg.QTZ_TR_LAST_LAST o) v).getF f = u.getF f := by
    refine State.getF_putF_ne _ _ _ _ (.inr ?_)
    simp only [hf, Reg.QTZ_TR_STAT, Reg.QTZ_TR_LAST_LAST, Reg.QTZ_TR_LAST]; omega
  unfold State.driveEdge
  simp only [hsup, Bool.false_eq_true, if_false]
  refine ⟨?_, ?_, ?_, ?_, ?_⟩
  · rw [State.onF, hlast _ _ rfl (by decide : 31 < 32), State.wrapInc,
      State.getF_putF_word (f := Reg.QTZ_TR_STAT_EDGES o) (g := Reg.QTZ_TR_STAT_ACTIVE o) _ _ rfl (by decide : 15 < 32) (by decide : 31 < 32) (Nat.zero_le _)
        (.inr (by decide : 15 < 31)),
      State.getF_putF _ _ _ (Nat.le_refl _)]
    rfl
  · rw [hlast _ _ rfl (by decide : 15 < 32), State.getF_wrapInc _ _ _ (Nat.zero_le _),
      State.getF_putF_word (f := Reg.QTZ_TR_STAT_ACTIVE o) (g := Reg.QTZ_TR_STAT_EDGES o) _ _ rfl (by decide : 31 < 32) (by decide : 15 < 32) (Nat.le_refl _)
        (.inl (by decide : 15 < 31)), State.getF_setTrigger]
    rfl
  · simp [State.wrapInc]
  · simp [State.wrapInc]
  · simp [State.wrapInc]

/-- An edge that a re-arm suppressed drives nothing. -/
theorem State.driveEdge_suppressed {s : State} {o : Nat} (hsup : (s.trigger o).suppress = true) :
    s.driveEdge o = s.setTrigger o { s.trigger o with next := (s.trigger o).next + 1, suppress := false } := if_pos hsup

/-- A pulse that ends takes the output to its resting level. -/
theorem State.endPulse_spec (s : State) (o : Nat) : (s.endPulse o).onF (Reg.QTZ_TR_STAT_ACTIVE o) = false ∧
    ((s.endPulse o).trigger o).level = s.trigLevel o false ∧ (s.endPulse o).mem = s.mem := by
  refine ⟨?_, ?_, ?_⟩
  · rw [State.onF, State.endPulse, State.getF_setTrigger, State.getF_putF _ _ _ (Nat.le_refl _)]; rfl
  · rw [State.endPulse, State.trigger_setTrigger]
  · rw [State.endPulse, State.setTrigger_mem, State.putF_mem]

/-! ### Captures -/

theorem State.capture_of_qtz_eq {s t : State} (h : t.qtz = s.qtz) (i : Nat) : t.capture i = s.capture i := by
  rw [State.capture, h, State.capture]
@[simp] theorem State.capture_inside (s t : State) (i : Nat) : (s.inside t).capture i = t.capture i :=
  State.capture_of_qtz_eq (s.inside_qtz t) i
@[simp] theorem State.capture_respond (s : State) (req : Requester) (n : Nat) (l : List Nat) (i : Nat) :
    (s.respond req n l).capture i = s.capture i := State.capture_of_qtz_eq (s.respond_qtz ..) i
theorem State.capture_setCapture (s : State) (i k : Nat) (l : List CapEdge) :
    (s.setCapture i l).capture k = if k = i then l else s.capture k := by
  unfold State.setCapture
  dsimp only
  rw [State.capture, State.putF_qtz, State.putF_qtz, State.putF_qtz, State.putF_qtz]
  exact Sparse.get_set ..
@[simp] theorem State.setCapture_mem (s : State) (i : Nat) (l : List CapEdge) : (s.setCapture i l).mem = s.mem := by
  simp [State.setCapture]

/-- A FIFO shows in its head register alone. -/
theorem State.getF_setCapture (s : State) (i : Nat) (l : List CapEdge) {f : Fld} (ha : f.addr = Reg.QTZ_CAP_CNT i) :
    (s.setCapture i l).getF f = s.getF f := by
  have hhead (u : State) (g : Fld) (v : Nat) (hg : g.addr = Reg.QTZ_CAP_HEAD i) (h64 : g.hi < 64) :
      (u.putF g v).getF f = u.getF f := by
    refine State.getF_putF_ne _ _ _ _ (.inl ?_)
    simp only [hg, ha, Reg.QTZ_CAP_HEAD, Reg.QTZ_CAP_CNT]; omega
  unfold State.setCapture
  dsimp only
  rw [hhead _ _ _ rfl (by decide : 63 < 64), hhead _ _ _ rfl (by decide : 62 < 64), hhead _ _ _ rfl (by decide : 35 < 64),
    hhead _ _ _ rfl (by decide : 31 < 64)]
  exact State.getF_of_regs_eq rfl

/-- What a captured edge does. -/
def State.captured (s : State) (i : Nat) (rise : Bool) : State :=
  if (s.capture i).length < 8 then
    (s.wrapInc (Reg.QTZ_CAP_CNT_EDGES i)).setCapture i (s.capture i ++ [⟨s.now (s.getF (Reg.QTZ_CAP_CFG_BASE i)), rise⟩])
  else
    (((s.wrapInc (Reg.QTZ_CAP_CNT_EDGES i)).satInc (Reg.QTZ_CAP_CNT_OVF i)).irq (0x47 + i / 8) (2 ^ (i % 8))).raise FS.QTZ_CAPOVF

theorem exec_captureEdge {s : State} {i : Nat} {rise : Bool} (hlive : s.live = true) (hi : i < 24)
    (hen : s.onF (Reg.QTZ_CAP_CFG_EN i) = true) (hedge : bit (s.getF (Reg.QTZ_CAP_CFG_EDGE i)) (if rise then 0 else 1) = true) :
    exec (.captureEdge i rise) s = .next (s.inside (s.captured i rise)) :=
  guard_does (c := fun s => decide (i < 24) && s.onF (Reg.QTZ_CAP_CFG_EN i) && bit (s.getF (Reg.QTZ_CAP_CFG_EDGE i)) (if rise then 0 else 1))
    (f := fun s => s.captured i rise) hlive (by simp only [hi, hen, hedge, decide_true, Bool.and_true])

/-- The write of an enable keeps EN set. -/
theorem bit_enable (v : Nat) : bit (setBits v 31 31 1) 31 = true := by
  rw [bit, testBit_setBits _ _ _ _ _ (Nat.le_refl _)]; rfl

/-- Settles O24. -/
theorem triggerAndCaptureCommandsComplete : Obligations.TriggerAndCaptureCommandsComplete := by
  unfold Obligations.TriggerAndCaptureCommandsComplete
  refine ⟨?enable, ?edge, ?suppressed, ?rise, ?pulseEnd, ?rearm, ?capture, ?overflow, ?pop⟩
  case enable =>
    intro s req o v ho htake hen
    have hrun : exec (.triggerEnable req o v) s = execTriggerEnable req o v s := rfl
    rw [Does, hrun, execTriggerEnable, decide_eq_true ho]
    simp only [State.guard_true]
    rw [access_does htake, State.wrTrigCfg]
    simp only [bit_enable, hen, Bool.not_false, Bool.and_true, if_true]
  case edge =>
    intro s o hlive ho hdue hsup
    have hbegun := s.begun_afterEdge (s.driveEdge o) o
    obtain ⟨hactive, hedges, hnext, hlevel, hmem⟩ := State.driveEdge_spec hsup
    refine ⟨_, exec_triggerEdge hlive ho hdue, ?_, ?_, ?_, ?_, ?_⟩
    · rw [State.onF_inside, hbegun.onF (by decide : 31 < 32) (trStat_lt ho), hactive]
    · rw [State.getF_inside, hbegun.getF (by decide : 15 < 32) (trStat_lt ho), hedges]
    · rw [State.trigger_inside, State.trigger_of_qtz_eq hbegun.qtz, hnext]
    · rw [State.trigger_inside, State.trigger_of_qtz_eq hbegun.qtz, hlevel]
    · rw [State.inside_mem, hbegun.mem, hmem]
  case suppressed =>
    intro s o hlive ho hdue hsup
    have hstay : s.afterEdge (s.driveEdge o) o = s.driveEdge o := by
      rw [State.driveEdge_suppressed hsup, State.afterEdge, State.trigger_setTrigger]
      cases (s.trigger o).level <;> rfl
    refine ⟨_, exec_triggerEdge hlive ho hdue, ?_⟩
    rw [hstay, State.driveEdge_suppressed hsup]
    simp only [State.trigger_inside, State.trigger_setTrigger, State.inside_regs, State.inside_mem, State.setTrigger_mem,
      true_and, and_true]
    rfl
  case rise =>
    intro s o hlive ho hdue hlow hhigh
    rw [Does, exec_triggerEdge hlive ho hdue, State.afterEdge, hlow, hhigh]
    rfl
  case pulseEnd =>
    intro s o hlive ho hdue
    have hbegun := s.begun_afterEdge (s.endPulse o) o
    obtain ⟨hactive, hlevel, hmem⟩ := s.endPulse_spec o
    refine ⟨_, exec_triggerPulseEnd hlive ho hdue, ?_, ?_, ?_⟩
    · rw [State.onF_inside, hbegun.onF (by decide : 31 < 32) (trStat_lt ho), hactive]
    · rw [State.trigger_inside, State.trigger_of_qtz_eq hbegun.qtz, hlevel]
    · rw [State.inside_mem, hbegun.mem, hmem]
  case rearm =>
    intro s req o ho htake
    have hrun : exec (.rearm req o) s = .next (s.inside ((s.trigRearm o).respond req 0 [])) := by
      have h : exec (.rearm req o) s = execRearm req o s := rfl
      rw [h, execRearm, decide_eq_true ho]
      exact access_does htake
    refine ⟨_, hrun, ?_, ?_, ?_⟩
    · simp [State.trigRearm, State.satInc]
    · rw [State.getF_inside, State.getF_respond, State.trigRearm, State.getF_satInc _ _ _ (by decide : 16 ≤ 23),
        State.getF_setTrigger]
      rfl
    · simp [State.trigRearm, State.satInc]
  case capture =>
    intro s i rise hlive hi hen hedge hroom
    refine ⟨_, exec_captureEdge hlive hi hen hedge, ?_⟩
    rw [State.captured, if_pos hroom]
    refine ⟨?_, ?_, ?_⟩
    · rw [State.capture_inside, State.capture_setCapture, if_pos rfl]
    · rw [State.getF_inside, State.getF_setCapture _ _ _ rfl, State.getF_wrapInc _ _ _ (by decide : 16 ≤ 31)]
      rfl
    · rw [State.inside_mem, State.setCapture_mem, State.wrapInc, State.putF_mem]
  case overflow =>
    intro s i rise hlive hi hen hedge hfull
    rw [Does, exec_captureEdge hlive hi hen hedge, State.captured, if_neg (by omega)]
  case pop =>
    intro s req i hi htake
    have hrun : exec (.capturePop req i) s = .next (s.inside ((s.setCapture i (s.capture i).tail).respond req 0 [])) := by
      have h : exec (.capturePop req i) s = execCapturePop req i s := rfl
      rw [h, execCapturePop, decide_eq_true hi]
      exact access_does htake
    refine ⟨_, hrun, ?_, fun k hk => ?_, ?_⟩
    · rw [State.capture_inside, State.capture_respond, State.capture_setCapture, if_pos rfl]
    · rw [State.capture_inside, State.capture_respond, State.capture_setCapture, if_neg hk]
    · rw [State.inside_mem, State.respond_mem, State.setCapture_mem]

end Sys2Proof.Machine
end

section
/-! The proofs about the fault collector: raises, broken pairs, sticky clears and severities (R584–R597). -/

namespace Sys2Proof.Machine

/-! ### Rows of steps of which one counts -/

/-- Of a row of steps of which the one with number `j` alone changes `g`, that step counts. -/
theorem State.foldl_range_at {β : Type} {f : State → Nat → State} {g : State → β} {m j : Nat} (hj : j < m)
    (hother : ∀ u k, k ≠ j → g (f u k) = g u) (s : State) :
    g ((List.range m).foldl f s) = g (f ((List.range j).foldl f s) j) := by
  induction m with
  | zero => omega
  | succ m ih =>
    rw [List.range_succ, List.foldl_append, List.foldl_cons, List.foldl_nil]
    rcases Nat.lt_or_ge j m with h | h
    · rw [hother _ m (by omega), ih h]
    · obtain rfl : j = m := by omega
      rfl

/-! ### Sticky bits -/

theorem getF_stickyFld_self (s : State) (n v : Nat) : (s.putF (stickyFld n) v).getF (stickyFld n) = v % 2 := by
  rw [State.getF_putF _ _ _ (Nat.le_refl _)]
  simp [Fld.width, stickyFld]

theorem getF_stickyFld_putF_ne (s : State) {n k : Nat} (v : Nat) (h : k ≠ n) :
    (s.putF (stickyFld n) v).getF (stickyFld k) = s.getF (stickyFld k) := by
  have hn : (stickyFld n).hi < 32 := Nat.mod_lt _ (by decide)
  have hk : (stickyFld k).hi < 32 := Nat.mod_lt _ (by decide)
  by_cases ha : (stickyFld k).addr = (stickyFld n).addr
  · refine State.getF_putF_word _ _ ha hn hk (Nat.le_refl _) ?_
    simp only [stickyFld, Reg.FC_STICKY] at ha ⊢
    omega
  · exact State.getF_putF_other _ _ hn hk ha

@[simp] theorem State.stick_mem (s : State) (n : Nat) : (s.stick n).mem = s.mem := by simp [State.stick]
@[simp] theorem State.stick_fc (s : State) (n : Nat) : (s.stick n).fc = s.fc := by simp [State.stick]
@[simp] theorem State.stick_dev (s : State) (n : Nat) : (s.stick n).dev = s.dev := by simp [State.stick]
@[simp] theorem State.stick_sch (s : State) (n : Nat) : (s.stick n).sch = s.sch := by simp [State.stick]

/-! ### Raises -/

/-- A source that stands raised reacts no more. -/
theorem State.raise_of_raised {s : State} {n : Nat} (hreal : realSource n = true) (h : s.raisedNow n = true) (ctxs : List Nat) (cause : Nat) :
    s.raise n ctxs cause = s.stick n := by
  simp [State.raise, State.raiseAt, State.raiseOnly, hreal, h]

/-- A source at NOTE sets its sticky bit. -/
theorem State.raise_of_note {s : State} {n : Nat} (hreal : realSource n = true) (h : s.severity n = .note) (ctxs : List Nat) (cause : Nat) :
    s.raise n ctxs cause = s.stick n := by
  have hclass : ¬ (Severity.note = .context ∧ s.raisedNow n = false) := by simp
  rw [State.raise, h, State.raiseAt, if_neg hclass, State.raiseOnly, if_pos hreal]
  exact ite_self _

/-- A source at CORRECTED raises the collector's interrupt bit 0. -/
theorem State.raise_of_corrected {s : State} {n : Nat} (hreal : realSource n = true) (hq : s.raisedNow n = false)
    (h : s.severity n = .corrected) (ctxs : List Nat) (cause : Nat) : s.raise n ctxs cause = (s.stick n).irq 0x20 1 := by
  simp [State.raise, State.raiseAt, State.raiseOnly, h, hreal, hq, State.react]

/-- Settles O29. -/
theorem noteAndCorrectedOnlyReport : Obligations.NoteAndCorrectedOnlyReport := by
  unfold Obligations.NoteAndCorrectedOnlyReport
  exact fun s n ctxs cause hreal => ⟨fun h => State.raise_of_raised hreal h ctxs cause, fun h => State.raise_of_note hreal h ctxs cause,
    fun hq h => State.raise_of_corrected hreal hq h ctxs cause⟩

/-! ### A sticky clear -/

/-- One bit of a sticky clear. -/
def State.clearBit (s : State) (k v j : Nat) : State :=
  if bit v j && !s.raisedNow (32 * k + j) then s.putF (stickyFld (32 * k + j)) 0 else s

theorem State.wrSticky_eq (s : State) (k v : Nat) : s.wrSticky k v = (List.range 32).foldl (fun t j => t.clearBit k v j) s := rfl

theorem State.clearBit_sansRegs (s : State) (k v j : Nat) : (s.clearBit k v j).sansRegs = s.sansRegs := by
  unfold State.clearBit
  split
  · exact s.putF_sansRegs _ _
  · rfl

theorem State.foldl_clearBit_sansRegs (s : State) (k v m : Nat) :
    ((List.range m).foldl (fun t j => t.clearBit k v j) s).sansRegs = s.sansRegs :=
  State.foldl_frame (g := State.sansRegs) (fun u j _ => u.clearBit_sansRegs k v j) s

theorem State.getF_clearBit_ne (s : State) (k v : Nat) {j n : Nat} (h : n ≠ 32 * k + j) :
    (s.clearBit k v j).getF (stickyFld n) = s.getF (stickyFld n) := by
  unfold State.clearBit
  split
  · exact getF_stickyFld_putF_ne _ _ h
  · rfl

/-- A sticky clear clears the written bits of quiet sources of its word. -/
theorem State.getF_wrSticky (s : State) (k v n : Nat) : (s.wrSticky k v).getF (stickyFld n) =
    if n / 32 = k ∧ v.testBit (n % 32) = true ∧ s.raisedNow n = false then 0 else s.getF (stickyFld n) := by
  rw [State.wrSticky_eq]
  by_cases hk : n / 32 = k
  · have hn : 32 * k + n % 32 = n := by omega
    have hother (u : State) (j : Nat) (hj : j ≠ n % 32) : (u.clearBit k v j).getF (stickyFld n) = u.getF (stickyFld n) :=
      u.getF_clearBit_ne k v (by omega)
    rw [State.foldl_range_at (g := fun u => u.getF (stickyFld n)) (Nat.mod_lt _ (by decide)) hother]
    have hfc := State.of_sansRegs (g := State.fc) (fun _ => rfl) (s.foldl_clearBit_sansRegs k v (n % 32))
    have hbefore : ((List.range (n % 32)).foldl (fun t j => t.clearBit k v j) s).getF (stickyFld n) = s.getF (stickyFld n) :=
      State.foldl_frame (g := fun u => u.getF (stickyFld n)) (fun u j hj => hother u j (by have := List.mem_range.mp hj; omega)) s
    have hraised : ((List.range (n % 32)).foldl (fun t j => t.clearBit k v j) s).raisedNow n = s.raisedNow n := by
      rw [State.raisedNow, hfc, State.raisedNow]
    simp only [State.clearBit, hn, hraised, bit, Bool.and_eq_true, Bool.not_eq_true']
    by_cases hclear : v.testBit (n % 32) = true ∧ s.raisedNow n = false
    · rw [if_pos hclear, if_pos ⟨hk, hclear⟩, getF_stickyFld_self]
    · rw [if_neg hclear, if_neg (fun h => hclear h.2), hbefore]
  · rw [if_neg (fun h => hk h.1)]
    refine State.foldl_frame (g := fun u => u.getF (stickyFld n)) (fun u j hj => u.getF_clearBit_ne k v ?_) s
    have := List.mem_range.mp hj
    omega

/-- Settles O27. -/
theorem stickyClearClearsOnlyQuietSources : Obligations.StickyClearClearsOnlyQuietSources := by
  unfold Obligations.StickyClearClearsOnlyQuietSources
  intro s req k v hk htake
  have hrun : exec (.stickyClear req k v) s = .next (s.inside ((s.wrSticky k v).respond req 0 [])) := by
    have h : exec (.stickyClear req k v) s = execStickyClear req k v s := rfl
    rw [h, execStickyClear, decide_eq_true hk]
    exact access_does htake
  have hrest : (s.wrSticky k v).sansRegs = s.sansRegs := s.foldl_clearBit_sansRegs k v 32
  refine ⟨_, hrun, ?_, ?_, fun n _ => ?_⟩
  · rw [State.inside_mem, State.respond_mem]; exact State.of_sansRegs (g := State.mem) (fun _ => rfl) hrest
  · rw [State.inside_fc, State.respond_fc]; exact State.of_sansRegs (g := State.fc) (fun _ => rfl) hrest
  · rw [State.getF_inside, State.getF_respond, State.getF_wrSticky]

/-! ### A severity write -/

theorem getF_sevFld_putF_ne (s : State) {n k : Nat} (v : Nat) (h : k ≠ n) :
    (s.putF (sevFld n) v).getF (sevFld k) = s.getF (sevFld k) := by
  have hhi (m : Nat) : (sevFld m).hi < 32 := by simp only [sevFld]; omega
  by_cases ha : (sevFld k).addr = (sevFld n).addr
  · refine State.getF_putF_word _ _ ha (hhi n) (hhi k) (by simp only [sevFld]; omega) ?_
    simp only [sevFld, Reg.FC_SEV] at ha ⊢
    omega
  · exact State.getF_putF_other _ _ (hhi n) (hhi k) ha

theorem getF_floorFld_putF_sev (s : State) {n k : Nat} (v : Nat) (hn : n < 1024) :
    (s.putF (sevFld n) v).getF (floorFld k) = s.getF (floorFld k) := by
  refine State.getF_putF_other _ _ (by simp only [sevFld]; omega) (by simp only [floorFld]; omega) ?_
  simp only [sevFld, floorFld, Reg.FC_SEV, Reg.FC_FLOOR]; omega

/-- One field of a severity write. -/
def State.setSev (s : State) (w v i : Nat) : State :=
  if bits v (4 * i + 2) (4 * i) ≤ 4 then
    s.putF (sevFld (8 * w + i)) (max (bits v (4 * i + 2) (4 * i)) (s.getF (floorFld (8 * w + i))))
  else s

theorem State.wrSev_eq (s : State) (w v : Nat) : s.wrSev w v = (List.range 8).foldl (fun t i => t.setSev w v i) s := rfl

theorem State.setSev_sansRegs (s : State) (w v i : Nat) : (s.setSev w v i).sansRegs = s.sansRegs := by
  unfold State.setSev
  split
  · exact s.putF_sansRegs _ _
  · rfl

theorem State.getF_setSev_ne (s : State) (w v : Nat) {i n : Nat} (h : n ≠ 8 * w + i) :
    (s.setSev w v i).getF (sevFld n) = s.getF (sevFld n) := by
  unfold State.setSev
  split
  · exact getF_sevFld_putF_ne _ _ h
  · rfl

theorem State.floor_setSev (s : State) {w : Nat} (v n : Nat) {i : Nat} (hw : w < 128) (hi : i < 8) :
    (s.setSev w v i).getF (floorFld n) = s.getF (floorFld n) := by
  unfold State.setSev
  split
  · exact getF_floorFld_putF_sev _ _ (by omega)
  · rfl

/-- A severity write stores the higher of the class and the floor, where the class is no reserved code. -/
theorem State.getF_wrSev (s : State) {w : Nat} (v n : Nat) (hw : w < 128) : (s.wrSev w v).getF (sevFld n) =
    if n / 8 = w ∧ bits v (4 * (n % 8) + 2) (4 * (n % 8)) ≤ 4 then
      max (bits v (4 * (n % 8) + 2) (4 * (n % 8))) (s.getF (floorFld n))
    else s.getF (sevFld n) := by
  rw [State.wrSev_eq]
  by_cases hk : n / 8 = w
  · have hn : 8 * w + n % 8 = n := by omega
    have hother (u : State) (i : Nat) (hi : i ≠ n % 8) : (u.setSev w v i).getF (sevFld n) = u.getF (sevFld n) :=
      u.getF_setSev_ne w v (by omega)
    rw [State.foldl_range_at (g := fun u => u.getF (sevFld n)) (Nat.mod_lt _ (by decide)) hother]
    have hlt (i : Nat) (hi : i ∈ List.range (n % 8)) : i < n % 8 := List.mem_range.mp hi
    have hfloor : ((List.range (n % 8)).foldl (fun t i => t.setSev w v i) s).getF (floorFld n) = s.getF (floorFld n) :=
      State.foldl_frame (g := fun u => u.getF (floorFld n)) (fun u i hi => u.floor_setSev v n hw (by have := hlt i hi; omega)) s
    have hbefore : ((List.range (n % 8)).foldl (fun t i => t.setSev w v i) s).getF (sevFld n) = s.getF (sevFld n) :=
      State.foldl_frame (g := fun u => u.getF (sevFld n)) (fun u i hi => hother u i (by have := hlt i hi; omega)) s
    simp only [State.setSev, hn, hfloor]
    by_cases hclass : bits v (4 * (n % 8) + 2) (4 * (n % 8)) ≤ 4
    · have hfl : s.getF (floorFld n) < 2 ^ 3 := by
        have hw3 : (floorFld n).hi + 1 - (floorFld n).lo = 3 := by simp only [floorFld]; omega
        exact hw3 ▸ bits_lt _ (floorFld n).hi (floorFld n).lo
      have hw3 : (sevFld n).width = 3 := by simp only [Fld.width, sevFld]; omega
      rw [if_pos hclass, if_pos ⟨hk, hclass⟩, State.getF_putF _ _ _ (by simp only [sevFld]; omega), hw3]
      exact Nat.mod_eq_of_lt (by omega)
    · rw [if_neg hclass, if_neg (fun h => hclass h.2), hbefore]
  · rw [if_neg (fun h => hk h.1)]
    refine State.foldl_frame (g := fun u => u.getF (sevFld n)) (fun u i hi => u.getF_setSev_ne w v ?_) s
    have := List.mem_range.mp hi
    omega

/-- Settles O28. -/
theorem severityNeverFallsBelowItsFloor : Obligations.SeverityNeverFallsBelowItsFloor := by
  unfold Obligations.SeverityNeverFallsBelowItsFloor
  intro s req w v hw htake
  have hrun : exec (.severityWrite req w v) s = .next (s.inside ((s.wrSev w v).respond req 0 [])) := by
    have h : exec (.severityWrite req w v) s = execSeverityWrite req w v s := rfl
    rw [h, execSeverityWrite, decide_eq_true hw]
    exact access_does htake
  have hrest : (s.wrSev w v).sansRegs = s.sansRegs := State.foldl_frame (g := State.sansRegs) (fun u i _ => u.setSev_sansRegs w v i) s
  refine ⟨_, hrun, ?_, ?_, fun n _ => ?_⟩
  · rw [State.inside_mem, State.respond_mem]; exact State.of_sansRegs (g := State.mem) (fun _ => rfl) hrest
  · rw [State.inside_fc, State.respond_fc]; exact State.of_sansRegs (g := State.fc) (fun _ => rfl) hrest
  · rw [State.getF_inside, State.getF_respond, State.getF_wrSev s v n hw]

/-! ### The collector's commands -/

theorem dev_inside_of_eq {s t : State} (h : t.dev = s.dev) : (s.inside t).dev = s.dev := by
  rw [State.inside_eq]
  simp only [h]
  split <;> rfl

theorem State.countLink_of_not_link {s : State} {n : Nat} (h : n < 39 ∨ 63 ≤ n) : s.countLink n = s := by
  rw [State.countLink, if_neg (by omega)]

/-- A raise that a level keeps standing joins the raised sources. -/
def State.hold (s : State) (u : State) (n : Nat) (level : Bool) : State :=
  if level && realSource n && !s.fc.raised.contains n then { u with fc := { u.fc with raised := n :: u.fc.raised } } else u

theorem exec_faultRaise {s : State} (hlive : s.live = true) (n : Nat) (level : Bool) (ctxs : List Nat) :
    exec (.faultRaise n level ctxs) s =
      .next (s.inside (s.hold ((s.countLink n).raise n (s.carried n ctxs) (tearCause n)) n level)) :=
  whenLive_live (f := fun s => s.hold ((s.countLink n).raise n (s.carried n ctxs) (tearCause n)) n level) hlive

theorem exec_brokenPair {s : State} (hlive : s.live = true) (n : Nat) : exec (.brokenPair n) s = .next (s.inside (s.breakPair n)) :=
  whenLive_live (f := fun s => s.breakPair n) hlive

/-- What a pair that is inactive again leaves. -/
def State.quieted (s : State) (n : Nat) : State :=
  { s.dropLevel n with fc := { (s.dropLevel n).fc with broken := (s.dropLevel n).fc.broken.filter (fun m => m != n) } }

theorem exec_faultPairInactive {s : State} (hlive : s.live = true) {n : Nat} (h : n < 512 ∨ 1024 ≤ n ∨ n % 16 ≠ 2) :
    exec (.faultPairInactive n) s = .next (s.inside (s.quieted n)) := by
  have hrun : exec (.faultPairInactive n) s = execFaultPairInactive n s := rfl
  have hheld : (decide (512 ≤ n ∧ n < 1024) && n % 16 == 2) = false := by
    simp only [Bool.and_eq_false_iff, decide_eq_false_iff_not, beq_eq_false_iff_ne]
    omega
  rw [hrun, execFaultPairInactive, whenLive_live hlive]
  simp only [hheld, Bool.false_and, Bool.not_false, State.guard_true]
  rfl

theorem exec_collectorMismatch {s : State} (hlive : s.live = true) :
    exec .collectorMismatch s = .next (s.inside ((s.putF Reg.FC_STAT_SELF_FAIL 1).enterTerminal)) :=
  whenLive_live (f := fun s => (s.putF Reg.FC_STAT_SELF_FAIL 1).enterTerminal) hlive

theorem exec_okRefreshLoss {s : State} (hlive : s.live = true) :
    exec .okRefreshLoss s = .next (s.inside (({ s with pins := { s.pins with refreshLost := true } }).setMode s.mode)) := by
  have hrun : exec .okRefreshLoss s = execOkRefreshLoss s := rfl
  rw [hrun, execOkRefreshLoss, whenLive_live hlive]

/-! ### What entering a mode leaves of the sticky words -/

section
variable {a : Nat} (ha : stickyWord a)
include ha

theorem State.reg_irq_sticky (s : State) (p mask : Nat) : (s.irq p mask).reg a = s.reg a := by
  have hlt := stickyWord.lt ha
  refine s.reg_irq_of_lt p mask (by simp only [Reg.PCIE_PBA]; omega) ?_
  unfold stickyWord Reg.QTZ_FRAME at ha; omega

theorem State.reg_stopGrace_sticky (s : State) : s.stopGrace.reg a = s.reg a := by
  rw [State.stopGrace, State.reg_putF_ne]
  · rfl
  · unfold stickyWord Reg.QTZ_FRAME at ha
    simp only [Reg.DEV_GRACE_LEFT, Reg.DEV_GRACE]; omega

theorem State.reg_rampActuators_sticky (s : State) (cause : Nat) : (s.rampActuators cause).reg a = s.reg a := by
  unfold State.rampActuators
  refine State.foldl_frame (g := fun u => u.reg a) (fun u i _ => ?_) s
  split
  · rw [State.reg_irq_sticky ha, State.reg_putF_sticky ha, State.reg_putF_sticky ha]
    all_goals simp only [Reg.GNT_A_STAT_STATE, Reg.GNT_A_STAT_CAUSE, Reg.GNT_A_STAT]; omega
  · rfl

theorem State.reg_enterTerminal_sticky (s : State) : s.enterTerminal.reg a = s.reg a := by
  have hmode : (((s.setMode .terminal).endOp 5).stopGrace.rampActuators 4).reg a = s.reg a := by
    rw [State.reg_rampActuators_sticky ha, State.reg_stopGrace_sticky ha, reg_endOp_ne, State.reg_setMode_ne]
    all_goals unfold stickyWord at ha; simp only [Reg.QTZ_FRAME, Reg.FC_STAT, Reg.DEV_OP] at *; omega
  unfold State.enterTerminal
  split
  · rfl
  · rfl
  · exact hmode
end

theorem State.burnSome_dev (s : State) (l : List (Nat × Nat)) : (s.burnSome l).dev = s.dev := by
  induction l generalizing s with
  | nil => rfl
  | cons p l ih =>
    rw [State.burnSome]
    dsimp only
    split
    · rw [ih]; rfl
    · rfl

theorem State.endOp_mode (s : State) (n : Nat) : (s.endOp n).dev.mode = s.dev.mode := by
  unfold State.endOp
  split
  · rfl
  next o _ =>
    simp only [State.putF_dev]
    by_cases hb : o.code = 3 ∧ n ≠ 0
    · simp only [if_pos hb]
      split_ifs <;> exact congrArg (·.mode) (s.burnSome_dev _)
    · simp only [if_neg hb]
      split_ifs <;> rfl

theorem State.stopGrace_mode (s : State) : s.stopGrace.dev.mode = s.dev.mode := by
  rw [State.stopGrace, State.putF_dev]

theorem State.rampActuators_dev (s : State) (cause : Nat) : (s.rampActuators cause).dev = s.dev :=
  State.foldl_frame (g := State.dev) (fun u i _ => by split <;> simp) s

/-- The state from which a mode that ends the operation and ramps the actuators is entered. -/
theorem State.enterMode_mode (s : State) (m : Mode) (n cause : Nat) :
    ((((s.setMode m).endOp n).stopGrace).rampActuators cause).dev.mode = m := by
  rw [State.rampActuators_dev, State.stopGrace_mode, State.endOp_mode, State.setMode_mode]

/-- A module with power ends in TERMINAL. -/
theorem State.enterTerminal_mode {s : State} (h : s.dev.mode ≠ .off) : s.enterTerminal.dev.mode = .terminal := by
  unfold State.enterTerminal
  split
  next hm => exact absurd hm h
  next hm => exact hm
  next => exact s.enterMode_mode .terminal 5 4

/-- A mode that does not drive the OK pins shows them down, and its heartbeat. -/
theorem State.setMode_of_not_ok {s : State} {m : Mode} (h : s.okDriven m = false) :
    (s.setMode m).onF Reg.FC_STAT_OK = false ∧ (s.setMode m).onF Reg.FC_STAT_HB = false := by
  unfold State.setMode
  simp only [h, Bool.false_eq_true, if_false]
  refine ⟨?_, ?_⟩
  · rw [State.onF, State.getF_putF_word (f := Reg.FC_STAT_HB) (g := Reg.FC_STAT_OK) _ _ rfl (by decide) (by decide) (by decide)
      (.inr (by decide)), ← State.onF, State.onF_putF_bit _ _ _ rfl]
    rfl
  · rw [State.onF_putF_bit _ _ _ rfl]; rfl

/-- Settles O26. -/
theorem faultCommandsComplete : Obligations.FaultCommandsComplete := by
  unfold Obligations.FaultCommandsComplete
  refine ⟨?note, ?edge, ?broken, ?inactive, ?mismatch, ?refresh, ?pin⟩
  case note =>
    intro s n level ctxs hlive hreal hnote hlink
    have hraise : (s.countLink n).raise n (s.carried n ctxs) (tearCause n) = s.stick n := by
      rw [State.countLink_of_not_link hlink, State.raise_of_note hreal hnote]
    have hregs : (s.hold (s.stick n) n level).regs = (s.stick n).regs := by unfold State.hold; split <;> rfl
    refine ⟨_, exec_faultRaise hlive n level ctxs, ?_⟩
    rw [hraise]
    refine ⟨?_, fun hlevel => ?_, ?_, ?_, ?_, fun k _ hk => ?_⟩
    · rw [State.getF_inside, State.getF_of_regs_eq hregs, State.stick, getF_stickyFld_self]
    · rw [State.inside_fc, State.hold, hlevel, hreal]
      by_cases hin : s.fc.raised.contains n = true
      · rw [hin, Bool.not_true, Bool.and_false, if_neg (by simp), State.stick_fc]
        simpa using hin
      · rw [Bool.not_eq_true] at hin
        rw [hin]
        exact List.mem_cons_self ..
    · refine dev_inside_of_eq ?_
      unfold State.hold
      split <;> simp
    · rw [State.inside_sch]
      unfold State.hold
      split <;> simp
    · rw [State.inside_mem]
      unfold State.hold
      split <;> simp
    · rw [State.getF_inside, State.getF_of_regs_eq hregs, State.stick, getF_stickyFld_putF_ne _ _ hk]
  case edge =>
    intro s n ctxs hlive
    exact exec_faultRaise hlive n false ctxs
  case broken =>
    intro s n hlive hreal hbroken
    refine ⟨_, exec_brokenPair hlive n, ?_⟩
    rw [State.inside_fc, State.breakPair, hreal, hbroken]
    simp
  case inactive =>
    intro s n hlive hsrc
    refine ⟨_, exec_faultPairInactive hlive hsrc, ?_, ?_, ?_, ?_, dev_inside_of_eq rfl⟩
    · rw [State.inside_fc]; simp [State.quieted, State.dropLevel]
    · rw [State.inside_fc]; simp [State.quieted, State.dropLevel]
    · rw [State.inside_regs]; rfl
    · rw [State.inside_mem]; rfl
  case mismatch =>
    intro s hlive
    have hmode : s.dev.mode ≠ .off := by simp_all [State.live]
    refine ⟨_, exec_collectorMismatch hlive, ?_, fun n hn => ?_⟩
    · rw [State.inside_mode, State.enterTerminal_mode (by rwa [State.putF_dev])]
      split <;> simp_all
    · have ha := stickyWord_stickyFld hn
      refine State.getF_stickyFld ?_
      rw [State.reg_inside, State.reg_enterTerminal_sticky ha, State.reg_putF_ne]
      unfold stickyWord Reg.QTZ_FRAME at ha
      simp only [Reg.FC_STAT_SELF_FAIL, Reg.FC_STAT]; omega
  case refresh =>
    intro s hlive
    have hok : ({ s with pins := { s.pins with refreshLost := true } } : State).okDriven s.mode = false := by
      simp [State.okDriven]
    obtain ⟨hpin, hbeat⟩ := State.setMode_of_not_ok hok
    refine ⟨_, exec_okRefreshLoss hlive, ?_, ?_, ?_, ?_, ?_⟩
    · rw [State.inside_pins, State.setMode_pins]
    · rw [State.inside_mode, State.setMode_mode]
      exact ite_self _
    · rw [State.onF_inside, hpin]
    · rw [State.onF_inside, hbeat]
    · rw [State.inside_mem, State.setMode_mem]
  case pin =>
    intro s hlive
    exact whenLive_live (f := fun s => s.raise FS.FC_OKPIN) hlive

end Sys2Proof.Machine
end

section
/-! The proofs about watchdogs: kicks, failures, starts and windows (R573–R580). -/

namespace Sys2Proof.Machine

@[simp] theorem State.watch_inside (s t : State) (w : Nat) : (s.inside t).watch w = t.watch w := by
  rw [State.watch, State.inside_wdg, State.watch]
@[simp] theorem State.watch_respond (s : State) (req : Requester) (n : Nat) (l : List Nat) (w : Nat) :
    (s.respond req n l).watch w = s.watch w := by rw [State.watch, State.respond_wdg, State.watch]
@[simp] theorem State.watch_putF (s : State) (f : Fld) (v w : Nat) : (s.putF f v).watch w = s.watch w := by
  rw [State.watch, State.putF_wdg, State.watch]
theorem State.watch_setWatch (s : State) (w k : Nat) (x : Watch) : (s.setWatch w x).watch k = if k = w then x else s.watch k :=
  Sparse.get_set ..
@[simp] theorem State.getF_setWatch (s : State) (w : Nat) (x : Watch) (f : Fld) : (s.setWatch w x).getF f = s.getF f :=
  State.getF_of_regs_eq rfl

/-- STATE of a watchdog that is shown is OPEN or CLOSED. -/
theorem State.state_wdgShow (s : State) (w : Nat) :
    (s.wdgShow w).getF (Reg.WDG_STAT_STATE w) = 1 ∨ (s.wdgShow w).getF (Reg.WDG_STAT_STATE w) = 2 := by
  rw [State.wdgShow, State.getF_putF _ _ _ (by decide : 30 ≤ 31)]
  split
  · exact .inr rfl
  · exact .inl rfl

@[simp] theorem State.watch_wdgShow (s : State) (w k : Nat) : (s.wdgShow w).watch k = s.watch k := by simp [State.wdgShow]

/-- A start sets the watchdog's own state, primed or not, and leaves every other. -/
theorem State.watch_wdgStart (s : State) (w k : Nat) (primed : Bool) : (s.wdgStart w primed).watch k =
    if k = w then { primed := primed, since := if s.wdgInterval w then s.tb4Count else 0 } else s.watch k := by
  rw [State.wdgStart, State.watch_wdgShow, State.watch_putF, State.watch_setWatch]

theorem State.wdgStart_mem (s : State) (w : Nat) (primed : Bool) : (s.wdgStart w primed).mem = s.mem := by
  simp [State.wdgStart, State.wdgShow]

/-- A watchdog that is enabled while it does not run is started. -/
theorem State.wrWdgCfg_enable {s : State} {w v : Nat} (hoff : s.onF (Reg.WDG_CFG_EN w) = false) (hv : bit v 31 = true) :
    s.wrWdgCfg w v = (s.applyWord (Reg.WDG_CFG w) v).wdgStart w true := by
  simp [State.wrWdgCfg, hoff, hv]

theorem exec_wdgKick {s : State} {req : Requester} {w : Nat} (hw : w < 256) (h : s.Takes req (Reg.WDG_KICK w) 1) :
    exec (.wdgKick req w) s = .next (s.inside ((s.wrWdgKick w 1).respond req 0 [])) := by
  have hrun : exec (.wdgKick req w) s = execWdgKick req w s := rfl
  rw [hrun, execWdgKick, decide_eq_true hw]
  exact access_does h

theorem State.live_of_wdgRuns {s : State} {w : Nat} (h : s.wdgRuns w = true) : s.live = true := by
  simp only [State.wdgRuns, Bool.and_eq_true] at h
  exact h.1.1

/-- Settles O30. -/
theorem watchdogCommandsComplete : Obligations.WatchdogCommandsComplete := by
  unfold Obligations.WatchdogCommandsComplete
  refine ⟨?kick, ?reserved, ?late, ?enable, ?opens⟩
  case kick =>
    intro s req w hlow hw htake
    rw [Does, exec_wdgKick hw htake, State.wrWdgKick, decide_eq_true hlow]
    rfl
  case reserved =>
    intro s req w hw htake
    rw [Does, exec_wdgKick (by omega) htake, State.wrWdgKick, decide_eq_false (by omega)]
    rfl
  case late =>
    intro s w hw hruns hlate
    exact guard_does (c := fun s => decide (w < 256) && s.wdgRuns w && s.wdgOverdue w) (f := fun s => s.wdgFail w false)
      (State.live_of_wdgRuns hruns) (by simp [hw, hruns, hlate])
  case enable =>
    intro s req w v hw htake hoff
    have hrun : exec (.watchdogEnable req w v) s =
        .next (s.inside ((s.wrWdgCfg w (setBits (v % 2 ^ 32) 31 31 1)).respond req 0 [])) := by
      have h : exec (.watchdogEnable req w v) s = execWatchdogEnable req w v s := rfl
      rw [h, execWatchdogEnable, decide_eq_true hw]
      exact access_does htake
    refine ⟨_, hrun, ?_⟩
    rw [State.wrWdgCfg_enable hoff (bit_enable _)]
    simp only [State.watch_inside, State.watch_respond, State.getF_inside, State.getF_respond, State.inside_mem,
      State.respond_mem, State.watch_wdgStart, State.wdgStart_mem, if_true]
    refine ⟨trivial, State.state_wdgShow .., rfl, fun k hk => ?_⟩
    rw [if_neg hk]
    rfl
  case opens =>
    intro s w hw hruns hopen
    have hrun : exec (.watchdogWindowOpen w) s = .next (s.inside (s.putF (Reg.WDG_STAT_STATE w) 2)) :=
      guard_does (c := fun s => decide (w < 256) && s.wdgRuns w && s.wdgOpenNow w) (f := fun s => s.putF (Reg.WDG_STAT_STATE w) 2)
        (State.live_of_wdgRuns hruns) (by simp [hw, hruns, hopen])
    refine ⟨_, hrun, ?_, ?_, ?_⟩
    · rw [State.getF_inside, State.getF_putF _ _ _ (by decide : 30 ≤ 31)]; rfl
    · rw [State.inside_mem, State.putF_mem]
    · rw [State.inside_wdg, State.putF_wdg]

/-! ### Kicks in INTERVAL mode -/

/-- A kick of a running watchdog that is not overdue is judged. -/
theorem State.kick_judged {s : State} {w : Nat} (hlow : 6 ≤ w) (hruns : s.wdgRuns w = true) (hint : s.wdgInterval w = true)
    (hlate : s.wdgOverdue w = false) (honce : (s.watch w).kickCycle ≠ some s.qtz.cycles) : s.kick w = s.wdgJudge w := by
  have h6 : ¬ w < 6 := by omega
  simp [State.kick, hruns, h6, hlate, honce, hint]

/-- The watchdog's state after a good kick. -/
def Watch.rearmed (x : Watch) (now cycles : Nat) : Watch := { x with kicked := true, since := now, kickCycle := some cycles }

theorem State.wdgJudge_good {s : State} {w : Nat} (hint : s.wdgInterval w = true)
    (h : (s.watch w).kicked = false ∨ (s.watch w).since + s.getF (Reg.WDG_OPEN_OPEN w) ≤ s.tb4Count) : s.wdgJudge w =
      (((s.putF (Reg.WDG_LAST_LAST w) s.tb4Count).setWatch w ((s.watch w).rearmed s.tb4Count s.qtz.cycles)).wrapInc
        (Reg.WDG_STAT_KICKS w)).wdgShow w := by
  have hopen : ((s.watch w).kicked && decide (s.tb4Count < (s.watch w).since + s.getF (Reg.WDG_OPEN_OPEN w))) = false := by
    rcases h with h | h
    · simp [h]
    · simp [Nat.not_lt.mpr h]
  simp only [State.wdgJudge, hint, if_true, hopen, Bool.false_eq_true, if_false]
  rfl

theorem State.wdgJudge_early {s : State} {w : Nat} (hint : s.wdgInterval w = true) (hkicked : (s.watch w).kicked = true)
    (h : s.tb4Count < (s.watch w).since + s.getF (Reg.WDG_OPEN_OPEN w)) :
    s.wdgJudge w = (s.putF (Reg.WDG_LAST_LAST w) s.tb4Count).wdgFail w true := by
  simp [State.wdgJudge, hint, hkicked, h]

/-- Settles O31. -/
theorem intervalKickIsJudgedByItsWindow : Obligations.IntervalKickIsJudgedByItsWindow := by
  unfold Obligations.IntervalKickIsJudgedByItsWindow
  intro s w hlow _ hruns hint hlate honce
  rw [State.kick_judged hlow hruns hint hlate honce]
  refine ⟨fun hgood => ?_, fun hkicked hearly => State.wdgJudge_early hint hkicked hearly⟩
  have hwatch : (s.wdgJudge w).watch w = (s.watch w).rearmed s.tb4Count s.qtz.cycles := by
    rw [State.wdgJudge_good hint hgood, State.watch_wdgShow, State.wrapInc, State.watch_putF, State.watch_setWatch, if_pos rfl]
  refine ⟨by rw [hwatch]; rfl, by rw [hwatch]; rfl, ?_, ?_⟩
  · rw [State.wdgJudge_good hint hgood, State.wdgShow,
      State.getF_putF_word (f := Reg.WDG_STAT_STATE w) (g := Reg.WDG_STAT_KICKS w) _ _ rfl (by decide : 31 < 32)
        (by decide : 15 < 32) (by decide : 30 ≤ 31) (.inl (by decide : 15 < 30)),
      State.getF_wrapInc _ _ _ (Nat.zero_le _), State.getF_setWatch, State.getF_putF_other _ _ (by decide : 31 < 32)
        (by decide : 15 < 32)]
    · rfl
    · simp only [Reg.WDG_STAT_KICKS, Reg.WDG_STAT, Reg.WDG_LAST_LAST, Reg.WDG_LAST]; omega
  · rw [State.wdgJudge_good hint hgood, State.wdgShow, State.putF_dev, State.wrapInc, State.putF_dev, State.setWatch_dev,
      State.putF_dev]

end Sys2Proof.Machine
end

section
/-! The proofs about the command port and long operations: answers, starts, denials and ends (R526–R531, DEV_OP). -/

namespace Sys2Proof.Machine

/-! ### The end of a long operation -/

@[simp] theorem State.inside_op (s t : State) : (s.inside t).dev.op = t.dev.op := by rw [State.inside_eq]
@[simp] theorem State.opIs_inside (s t : State) (code : Nat) : (s.inside t).opIs code = t.opIs code := by
  rw [State.opIs, State.inside_op, State.opIs]
/-- Inside a device, a command that leaves the mode leaves it after the pins are seen. -/
theorem mode_inside_of_eq {s t : State} (h : t.dev.mode = s.dev.mode) : (s.inside t).dev.mode = s.dev.mode := by
  rw [State.inside_mode, h]
  exact ite_self _

/-- A long operation that ends is gone. -/
theorem State.endOp_op (s : State) (n : Nat) : (s.endOp n).dev.op = none := by
  unfold State.endOp
  split
  next h => exact h
  next o _ =>
    simp only [State.putF_dev]
    split_ifs <;> rfl

section
variable {s : State} {o : LongOp} (h : s.dev.op = some o) (n : Nat)
include h

/-- DEV_OP shows the result of an operation that ends. -/
theorem State.result_endOp : (s.endOp n).getF Reg.DEV_OP_RESULT = n % 2 ^ 8 := by
  unfold State.endOp
  rw [h]
  dsimp only
  rw [State.getF_putF_word (f := Reg.DEV_OP_RUNNING) (g := Reg.DEV_OP_RESULT) _ _ rfl (by decide) (by decide) (by decide)
    (.inr (by decide)), State.getF_putF _ _ _ (by decide)]
  rfl

theorem State.running_endOp : (s.endOp n).getF Reg.DEV_OP_RUNNING = 0 := by
  unfold State.endOp
  rw [h]
  dsimp only
  rw [State.getF_putF _ _ _ (by decide), Nat.zero_mod]
end

theorem exec_armNoPlan {s : State} {o : LongOp} (hlive : s.live = true) (hop : s.dev.op = some o) (hcode : o.code = 1)
    (hframes : 10 ≤ o.frames) : exec .armNoPlan s = .next (s.inside (s.endOp 2)) := by
  have hrun : exec .armNoPlan s = execArmNoPlan s := rfl
  have hcond : (s.opIs 1 && s.dev.op.any (fun o => decide (10 ≤ o.frames))) = true := by simp [State.opIs, hop, hcode, hframes]
  rw [hrun, execArmNoPlan, whenLive_live hlive, hcond, State.guard_true]

theorem exec_longOpTimeout {s : State} {o : LongOp} (hlive : s.live = true) (hop : s.dev.op = some o) :
    exec .longOpTimeout s = .next (s.inside (s.endOp 4)) :=
  guard_does (c := fun s => s.dev.op.isSome) (f := fun s => s.endOp 4) hlive (by simp [hop])

/-- A state that has ended its long operation and differs from `s` by it alone. -/
structure State.Ended (s t : State) : Prop where
  op : t.dev.op = none
  mem : t.mem = s.mem
  mode : t.dev.mode = s.dev.mode

/-- The end of an operation of a state with the memory and mode of `s`. -/
theorem State.ended_endOp {s u : State} (n : Nat) (hm : u.mem = s.mem) (hd : u.dev.mode = s.dev.mode) : s.Ended (u.endOp n) :=
  ⟨u.endOp_op n, (State.of_sansOp (g := State.mem) (fun _ => rfl) (u.endOp_sansOp n)).trans hm, by rw [State.endOp_mode, hd]⟩

theorem State.Ended.showSec {s t : State} (h : s.Ended t) : s.Ended t.showSec := by
  have hmem : t.showSec.mem = t.mem := State.of_sansShown (g := State.mem) (fun _ => rfl) t.showSec_sansShown
  have hdev : t.showSec.dev = t.dev := State.of_sansShown (g := State.dev) (fun _ => rfl) t.showSec_sansShown
  exact ⟨by rw [hdev, h.op], hmem.trans h.mem, by rw [hdev, h.mode]⟩

theorem State.putResult_sansRegs (s : State) (l : List Byte) : (s.putResult l).sansRegs = s.sansRegs :=
  State.foldl_frame (f := fun u i => u.setReg (Reg.DEV_RESULT i) (BitVec.ofNat 32 (leField l (4 * i) 4))) (g := State.sansRegs)
    (fun _ _ _ => rfl) s

theorem State.burnAll_frame (s : State) (l : List (Nat × Nat)) :
    (l.foldl (fun u p => u.burn p.1 p.2) s).mem = s.mem ∧ (l.foldl (fun u p => u.burn p.1 p.2) s).dev = s.dev :=
  ⟨State.foldl_frame (f := fun u (p : Nat × Nat) => u.burn p.1 p.2) (g := State.mem) (fun _ _ _ => rfl) s,
    State.foldl_frame (f := fun u (p : Nat × Nat) => u.burn p.1 p.2) (g := State.dev) (fun _ _ _ => rfl) s⟩

/-- FUSE, QUOTE and LOGDUMP end by themselves. -/
theorem State.ended_opDone {s : State} {o : LongOp} (hop : s.dev.op = some o) (hcode : o.code = 3 ∨ o.code = 4 ∨ o.code = 5)
    (output : List Byte) (good : Bool) : s.Ended (s.opDone output good) := by
  have hres (l : List Byte) : (s.putResult l).mem = s.mem ∧ (s.putResult l).dev = s.dev :=
    ⟨State.of_sansRegs (g := State.mem) (fun _ => rfl) (s.putResult_sansRegs l),
      State.of_sansRegs (g := State.dev) (fun _ => rfl) (s.putResult_sansRegs l)⟩
  unfold State.opDone
  rw [hop]
  rcases hcode with h | h | h <;> simp only [h]
  · obtain ⟨hmem, hdev⟩ := s.burnAll_frame (pairsOf o.args)
    cases good with
    | true => exact (State.ended_endOp 0 hmem (by rw [hdev])).showSec
    | false => exact (State.ended_endOp 3 rfl rfl).showSec
  · unfold State.quoteDone
    cases good with
    | true =>
      refine State.ended_endOp 0 ?_ ?_
      · simp [State.showSec, (hres _).1]
      · simp [State.showSec, (hres _).2]
    | false => exact State.ended_endOp 3 rfl rfl
  · exact State.ended_endOp 0 (hres _).1 (by rw [(hres _).2])

/-- Settles O16. -/
theorem longOperationsEnd : Obligations.LongOperationsEnd := by
  unfold Obligations.LongOperationsEnd
  refine ⟨?noPlan, ?timeout, ?disarm, ?done⟩
  case noPlan =>
    intro s o hlive hop hcode hframes
    have hend : s.Ended (s.endOp 2) := State.ended_endOp 2 rfl rfl
    refine ⟨_, exec_armNoPlan hlive hop hcode hframes, ?_, ?_, ?_, mode_inside_of_eq hend.mode⟩
    · rw [State.inside_op, hend.op]
    · rw [State.getF_inside, State.result_endOp hop]; rfl
    · rw [State.inside_mem, hend.mem]
  case timeout =>
    intro s o hlive hop
    have hend : s.Ended (s.endOp 4) := State.ended_endOp 4 rfl rfl
    refine ⟨_, exec_longOpTimeout hlive hop, ?_, ?_, ?_, ?_, mode_inside_of_eq hend.mode⟩
    · rw [State.inside_op, hend.op]
    · rw [State.getF_inside, State.result_endOp hop]; rfl
    · rw [State.getF_inside, State.running_endOp hop]
    · rw [State.inside_mem, hend.mem]
  case disarm =>
    intro s hlive hop
    exact guard_does (c := fun s => s.opIs 2) (f := fun s => ((s.endOp 3).raise FS.DEV_DISARM).enterSafe) hlive hop
  case done =>
    intro s o output good hlive hop hcode
    have hend := State.ended_opDone hop hcode output good
    refine ⟨_, whenLive_live (f := fun s => s.opDone output good) hlive, ?_, ?_, mode_inside_of_eq hend.mode⟩
    · rw [State.inside_op, hend.op]
    · rw [State.inside_mem, hend.mem]

/-! ### The start of a long operation -/

theorem State.turnedAway_cmdp_of_none {s : State} (h : s.dev.op = none) : s.turnedAway .cmdp = none := by
  simp [State.turnedAway, h]

theorem State.portOp_allowed {s : State} (h : s.dev.op = none) (f : State → State) : s.portOp true f = f s := by
  simp [State.portOp, State.turnedAway_cmdp_of_none h]

theorem State.portOp_denied {s : State} (h : s.dev.op = none) (f : State → State) : s.portOp false f = s.respond .cmdp 5 [] := by
  simp [State.portOp, State.turnedAway_cmdp_of_none h]

/-- What the port starts, by the operation's code. -/
def State.startedOp (s : State) (code : Nat) (words : List Nat) : State :=
  match code with
  | 1 => s.doArm (words.headD 0)
  | 2 => s.doDisarm
  | 3 => s.doFuse (pairsOf words)
  | 4 => s.doQuote ((List.range 8).map (fun i => words.getD i 0))
  | 5 => s.doLogdump
  | _ => s.doSelftest

theorem State.portStart_eq (s : State) (code : Nat) (words : List Nat) :
    s.portStart code words = s.portOp (s.opAllowed code) (fun t => t.startedOp code words) := rfl

/-- The port starts an operation that mode and lifecycle permit. -/
theorem State.portStart_allowed {s : State} {code : Nat} (h : s.dev.op = none) (hallow : s.opAllowed code = true) (words : List Nat) :
    s.portStart code words = s.startedOp code words := by
  rw [State.portStart_eq, hallow, State.portOp_allowed h]

theorem State.portStart_denied {s : State} {code : Nat} (h : s.dev.op = none) (hdeny : s.opAllowed code = false) (words : List Nat) :
    s.portStart code words = s.respond .cmdp 5 [] := by
  rw [State.portStart_eq, hdeny, State.portOp_denied h]

@[simp] theorem State.startOp_mem (s : State) (code : Nat) (args : List Nat) : (s.startOp code args).mem = s.mem := by
  simp [State.startOp]
@[simp] theorem State.startOp_sec (s : State) (code : Nat) (args : List Nat) : (s.startOp code args).sec = s.sec := by
  simp [State.startOp]
@[simp] theorem State.startOp_mode (s : State) (code : Nat) (args : List Nat) : (s.startOp code args).dev.mode = s.dev.mode := by
  simp [State.startOp]
theorem State.startOp_op (s : State) (code : Nat) (args : List Nat) :
    (s.startOp code args).dev.op = some { code := code, args := args, start := s.qtz.cycles, frames := 0 } := by
  simp [State.startOp]
theorem State.opIs_startOp (s : State) (code : Nat) (args : List Nat) : (s.startOp code args).opIs code = true := by
  simp [State.opIs, State.startOp_op]
@[simp] theorem State.startOp_blocks (s : State) (code : Nat) (args : List Nat) : (s.startOp code args).blocks = s.blocks := by
  simp [State.startOp]

/-- An operation's start shows in DEV_OP alone. -/
theorem State.reg_startOp_ne (s : State) (code : Nat) (args : List Nat) {a : Nat} (ha : a ≠ Reg.DEV_OP) :
    (s.startOp code args).reg a = s.reg a := by
  rw [State.startOp, State.reg_respond, State.reg_putF_ne, State.reg_putF_ne]
  · rfl
  all_goals simp only [Reg.DEV_OP_OP, Reg.DEV_OP_RUNNING, Reg.DEV_OP] at *; omega

/-! ### ARM -/

/-- The checks of ARM read the same after its start. -/
theorem State.armReady_startOp (s : State) (args : List Nat) : (s.startOp 1 args).armReady = s.armReady := by
  have hsrc : (s.startOp 1 args).getF Reg.QTZ_STAT_TB2_SRC = s.getF Reg.QTZ_STAT_TB2_SRC :=
    State.getF_of_reg_eq (by decide) (s.reg_startOp_ne 1 args (by decide))
  have hrun (p : Nat) : (s.startOp 1 args).isRunning p = s.isRunning p := by
    simp [State.isRunning, State.blockState, State.block]
  simp only [State.armReady, hsrc, hrun]

/-- The pages that ARM locks are read from the owners' words and the streams' kinds. -/
theorem State.armLocks_congr {s t : State} (howner : ∀ p, t.owner p = s.owner p) (hkind : ∀ i, t.ingKind i = s.ingKind i) :
    t.armLocks = s.armLocks := by
  have hk (i : Nat) : t.getF (Reg.ING_S_CTRL_KIND i) = s.getF (Reg.ING_S_CTRL_KIND i) := hkind i
  simp only [State.armLocks, howner, hk]

/-- Locks set in a row stand. -/
theorem State.locked_lockAll (s : State) (l : List Nat) {p : Nat} (h : p ∈ l ∨ s.locked p = true) :
    (l.foldl (fun u p => u.putF (Reg.PG_CTRL_LOCK p) 1) s).locked p = true := by
  induction l generalizing s with
  | nil => simpa using h
  | cons q l ih =>
    refine ih _ ?_
    by_cases hq : p = q
    · subst hq
      exact .inr (State.onF_putF_bit _ (Reg.PG_CTRL_LOCK p) 1 rfl)
    · have hkeep : (s.putF (Reg.PG_CTRL_LOCK q) 1).locked p = s.locked p := by
        rw [State.locked, State.onF, State.getF_putF_other _ _ (by decide : 8 < 32) (by decide : 8 < 32), ← State.onF, ← State.locked]
        simp only [Reg.PG_CTRL_LOCK]; omega
      rw [hkeep]
      exact h.imp_left fun hm => (List.mem_cons.mp hm).resolve_left hq

/-- The state after ARM's write permissions are cleared, before its locks. -/
def State.armMasked (s : State) (clear : Nat) : State :=
  s.setReg Reg.DEV_PCIE_WMASK (s.reg Reg.DEV_PCIE_WMASK &&& ~~~ BitVec.ofNat 32 (clear &&& 0xFE))

theorem State.armSteps_eq (s : State) (clear : Nat) :
    s.armSteps clear = { (s.armMasked clear).armLocks.foldl (fun u p => u.putF (Reg.PG_CTRL_LOCK p) 1) (s.armMasked clear) with
      dev := { ((s.armMasked clear).armLocks.foldl (fun u p => u.putF (Reg.PG_CTRL_LOCK p) 1) (s.armMasked clear)).dev with
        presentAtArm := ((s.armMasked clear).armLocks.foldl (fun u p => u.putF (Reg.PG_CTRL_LOCK p) 1) (s.armMasked clear)).getF
          Reg.DEV_TILE_PRESENT_PRESENT } } := rfl

theorem State.armLocks_armed (s : State) (clear : Nat) (args : List Nat) :
    ((s.startOp 1 args).armMasked clear).armLocks = s.armLocks := by
  have hreg {a : Nat} (h1 : a ≠ Reg.DEV_PCIE_WMASK) (h2 : a ≠ Reg.DEV_OP) :
      ((s.startOp 1 args).armMasked clear).reg a = s.reg a := by
    rw [State.armMasked, State.reg_setReg, if_neg h1, State.reg_startOp_ne _ _ _ h2]
  refine State.armLocks_congr (fun p => State.getF_of_reg_eq (by decide : 2 < 32) (hreg ?_ ?_))
    (fun i => State.getF_of_reg_eq (by decide : 27 < 32) (hreg ?_ ?_))
  all_goals
    simp only [Reg.PG_PART_OWNER, Reg.ING_S_CTRL_KIND, Reg.ING_S_CTRL, Reg.DEV_PCIE_WMASK, Reg.DEV_OP]
    omega

/-- ARM with its checks met locks its pages and leaves memory and the mode. -/
theorem State.armSteps_spec (s : State) (clear : Nat) : (s.armSteps clear).mem = s.mem ∧ (s.armSteps clear).dev.mode = s.dev.mode ∧
    (s.armSteps clear).dev.op = s.dev.op ∧ ∀ p ∈ (s.armMasked clear).armLocks, (s.armSteps clear).locked p = true := by
  have hrest : ((s.armMasked clear).armLocks.foldl (fun u p => u.putF (Reg.PG_CTRL_LOCK p) 1) (s.armMasked clear)).sansRegs =
      s.sansRegs := State.foldl_putF_sansRegs ..
  have hlock (p : Nat) (hp : p ∈ (s.armMasked clear).armLocks) := State.locked_lockAll (s.armMasked clear) _ (.inl hp)
  rw [State.armSteps_eq]
  generalize (s.armMasked clear).armLocks.foldl (fun u p => u.putF (Reg.PG_CTRL_LOCK p) 1) (s.armMasked clear) = u at hrest hlock ⊢
  have hdev : u.dev = s.dev := State.of_sansRegs (g := State.dev) (fun _ => rfl) hrest
  have hmem : u.mem = s.mem := State.of_sansRegs (g := State.mem) (fun _ => rfl) hrest
  refine ⟨hmem, ?_, ?_, fun p hp => ?_⟩
  · rw [← hdev]
  · rw [← hdev]
  · rw [← hlock p hp]
    exact State.onF_of_regs_eq rfl

theorem exec_arm {s : State} (hlive : s.live = true) (clear : Nat) : exec (.arm clear) s = .next (s.inside (s.portStart 1 [clear])) := by
  have hrun : exec (.arm clear) s = execArm clear s := rfl
  rw [hrun, execArm, whenLive_live hlive]

theorem exec_disarm {s : State} (hlive : s.live = true) : exec .disarm s = .next (s.inside (s.portStart 2 [])) := by
  have hrun : exec .disarm s = execDisarm s := rfl
  rw [hrun, execDisarm, whenLive_live hlive]

theorem exec_fuse {s : State} (hlive : s.live = true) (pairs : List (Nat × Nat)) : exec (.fuse pairs) s = .next (s.inside (s.portStart 3 (pairs.flatMap (fun p => [p.1, p.2])))) := by
  have hrun : exec (.fuse pairs) s = execFuse pairs s := rfl
  rw [hrun, execFuse, whenLive_live hlive]

theorem exec_quote {s : State} (hlive : s.live = true) (nonce : List Byte) : exec (.quote nonce) s = .next (s.inside (s.portStart 4 (wordsOf (padTo 32 nonce) 0 8))) := by
  have hrun : exec (.quote nonce) s = execQuote nonce s := rfl
  rw [hrun, execQuote, whenLive_live hlive]

theorem exec_logdump {s : State} (hlive : s.live = true) : exec .logdump s = .next (s.inside (s.portStart 5 [])) := by
  have hrun : exec .logdump s = execLogdump s := rfl
  rw [hrun, execLogdump, whenLive_live hlive]

theorem exec_selftest {s : State} (hlive : s.live = true) : exec .selftest s = .next (s.inside (s.portStart 6 [])) := by
  have hrun : exec .selftest s = execSelftest s := rfl
  rw [hrun, execSelftest, whenLive_live hlive]

theorem pairsOf_flatMap (l : List (Nat × Nat)) : pairsOf (l.flatMap (fun p => [p.1, p.2])) = l := by
  induction l with
  | nil => rfl
  | cons p l ih => rw [List.flatMap_cons, List.cons_append, List.cons_append, List.nil_append, pairsOf, ih]

/-- With a leaf at hand the signature needs no new block. -/
theorem State.takeLeaf_at_hand {s : State} (hblock : s.sec.block.isSome = true) (hused : s.sec.used < 64) : s.takeLeaf = some s := by
  simp [State.takeLeaf, hblock, hused]

@[simp] theorem State.secBusy_dev (s : State) : s.secBusy.dev = s.dev := rfl
@[simp] theorem State.secBusy_mem (s : State) : s.secBusy.mem = s.mem := rfl
@[simp] theorem State.secBusy_sec (s : State) : s.secBusy.sec = s.sec := rfl

theorem State.opIs_of_dev_eq {s t : State} (h : t.dev = s.dev) (code : Nat) : t.opIs code = s.opIs code := by
  rw [State.opIs, h, State.opIs]

/-- The running operation with the words of the log as its arguments. -/
def State.captureLog (t : State) : State :=
  match t.dev.op with
  | some o => { t with dev := { t.dev with op := some { o with args := t.logWords } } }
  | none => t

theorem State.captureLog_spec {t : State} {o : LongOp} (h : t.dev.op = some o) : t.captureLog.opIs o.code = true ∧ t.captureLog.mem = t.mem := by
  rw [State.captureLog, h]
  simp [State.opIs]

/-- A selftest waits for the next test cycle. -/
def State.askSelftest (t : State) : State := { t with test := { t.test with selftest := 1 } }

theorem State.askSelftest_spec (t : State) : t.askSelftest.dev = t.dev ∧ t.askSelftest.test.selftest = 1 ∧ t.askSelftest.mem = t.mem :=
  ⟨rfl, rfl, rfl⟩

/-- Settles O15. -/
theorem longOperationsStart : Obligations.LongOperationsStart := by
  unfold Obligations.LongOperationsStart
  refine ⟨?arm, ?notReady, ?disarm, ?fuse, ?quote, ?logdump, ?selftest, ?denied⟩
  case arm =>
    intro s clear hlive hop hallow hready
    have hrun : s.portStart 1 [clear] = (s.startOp 1 [clear]).armSteps clear := by
      rw [State.portStart_allowed hop hallow]
      exact if_pos (by rw [State.armReady_startOp, hready])
    obtain ⟨hmem, hmode, hop', hlock⟩ := State.armSteps_spec (s.startOp 1 [clear]) clear
    refine ⟨_, exec_arm hlive clear, ?_, ?_, ?_, fun p hp => ?_⟩
    · rw [hrun, State.opIs_inside, State.opIs, hop']
      exact s.opIs_startOp 1 [clear]
    · rw [hrun]
      exact mode_inside_of_eq (by rw [hmode, State.startOp_mode])
    · rw [hrun, State.inside_mem, hmem, State.startOp_mem]
    · rw [hrun, State.locked, State.onF_inside]
      exact hlock p (by rwa [State.armLocks_armed])
  case notReady =>
    intro s clear hlive hop hallow hready
    have hrun : s.portStart 1 [clear] = (s.startOp 1 [clear]).endOp 1 := by
      rw [State.portStart_allowed hop hallow]
      exact if_neg (by rw [State.armReady_startOp, hready]; simp)
    refine ⟨_, exec_arm hlive clear, ?_, ?_⟩
    · rw [hrun, State.inside_op, State.endOp_op]
    · rw [hrun, State.getF_inside, State.result_endOp (s.startOp_op 1 [clear])]; rfl
  case disarm =>
    intro s hlive hop hallow
    rw [Does, exec_disarm hlive, State.portStart_allowed hop hallow, State.startedOp]
  case fuse =>
    intro s pairs hlive hop hallow hok
    have hrun : s.portStart 3 (pairs.flatMap (fun p => [p.1, p.2])) =
        (s.startOp 3 ((pairs.take 8).flatMap (fun p => [p.1, p.2 % 2 ^ 32]))).secBusy := by
      rw [State.portStart_allowed hop hallow]
      simp only [State.startedOp, pairsOf_flatMap]
      exact if_pos hok
    refine ⟨_, exec_fuse hlive pairs, ?_, ?_, ?_⟩
    · rw [hrun, State.opIs_inside, State.opIs_of_dev_eq (State.secBusy_dev _), State.opIs_startOp]
    · rw [hrun, State.inside_mem, State.secBusy_mem, State.startOp_mem]
    · rw [hrun, State.inside_sec, State.secBusy_sec, State.startOp_sec]
  case quote =>
    intro s nonce hlive hop hallow hblock hused
    have hrun : s.portStart 4 (wordsOf (padTo 32 nonce) 0 8) =
        s.startOp 4 ((List.range 8).map (fun i => (wordsOf (padTo 32 nonce) 0 8).getD i 0)) := by
      rw [State.portStart_allowed hop hallow]
      rw [State.startedOp, State.doQuote, State.takeLeaf_at_hand (by rwa [State.startOp_sec]) (by rwa [State.startOp_sec])]
    refine ⟨_, exec_quote hlive nonce, ?_, ?_⟩
    · rw [hrun, State.opIs_inside, State.opIs_startOp]
    · rw [hrun, State.inside_mem, State.startOp_mem]
  case logdump =>
    intro s hlive hop hallow
    have hrun : s.portStart 5 [] = (s.startOp 5 []).captureLog := State.portStart_allowed hop hallow []
    obtain ⟨hop', hmem⟩ := State.captureLog_spec (s.startOp_op 5 [])
    exact ⟨_, exec_logdump hlive, by rw [hrun, State.opIs_inside, hop'], by rw [hrun, State.inside_mem, hmem, State.startOp_mem]⟩
  case selftest =>
    intro s hlive hop hallow
    have hrun : s.portStart 6 [] = (s.startOp 6 []).askSelftest := State.portStart_allowed hop hallow []
    obtain ⟨hdev, htest, hmem⟩ := (s.startOp 6 []).askSelftest_spec
    exact ⟨_, exec_selftest hlive, by rw [hrun, State.opIs_inside, State.opIs_of_dev_eq hdev, State.opIs_startOp],
      by rw [hrun, State.inside_test, htest], by rw [hrun, State.inside_mem, hmem, State.startOp_mem]⟩
  case denied =>
    intro s c k hlive hop hdeny hc
    have hanswer (words : List Nat) := State.portStart_denied hop hdeny words
    rw [Does]
    rcases hc with ⟨rfl, rfl⟩ | ⟨rfl, rfl⟩ | ⟨rfl, rfl⟩ | ⟨rfl, x, rfl⟩ | ⟨rfl, x, rfl⟩ | ⟨rfl, x, rfl⟩
    · rw [exec_disarm hlive, hanswer]
    · rw [exec_logdump hlive, hanswer]
    · rw [exec_selftest hlive, hanswer]
    · rw [exec_arm hlive, hanswer]
    · rw [exec_fuse hlive, hanswer]
    · rw [exec_quote hlive, hanswer]

/-! ### The command port -/

/-- A good transaction of a port that is not turned away. -/
theorem State.portFree_none {s : State} (h : s.turnedAway .cmdp = none) (f : State → State) : s.portFree f = f s := by
  simp [State.portFree, h]

/-- A run of words on one page of the command port is read. -/
theorem State.portRead_ok {s : State} {page offset n : Nat} (hoff : offset % 4 = 0) (hrun : offset + 4 * n ≤ 0x1000) (hn : 0 < n)
    (hpage : cmdpPage page = true) :
    s.portRead (0x1000 * page + offset) n = s.respond .cmdp 0 (s.readRun (0x1000 * page + offset) 4 n) := by
  have hp : (0x1000 * page + offset) / 0x1000 = page := by omega
  have hfit : ¬ ((0x1000 * page + offset) % 4 ≠ 0 ∨ 0x1000 < (0x1000 * page + offset) % 0x1000 + 4 * n) := by omega
  rw [State.portRead, if_neg hfit, hp]
  simp [State.readRefused, hpage]

/-- A run of words on one page is written word by word. -/
theorem State.portWrite_ok {s : State} {page offset : Nat} {words : List Nat} (hoff : offset % 4 = 0)
    (hrun : offset + 4 * words.length ≤ 0x1000) (hmsg : 0x1000 * page + offset ≠ Reg.ING_CMDP_MSG 0) :
    s.portWrite (0x1000 * page + offset) words = State.conclude .cmdp (s.writeAll .cmdp
      (((List.range words.length).zip words).map (fun e => (0x1000 * page + offset + 4 * e.1, false, e.2 % 2 ^ 32)))) := by
  rw [State.portWrite, if_neg hmsg, if_neg (by omega)]

/-- Settles O13. -/
theorem commandPortAnswers : Obligations.CommandPortAnswers := by
  unfold Obligations.CommandPortAnswers
  refine ⟨?read, ?write, ?stat, fun s hlive => ⟨?crc, ?cmd, ?abort⟩⟩
  case read =>
    intro s page offset len hlive hfree hpage hoff hlen hrun hcmdp
    have h : exec (.cmdpRd page offset len .good) s = execCmdpRd page offset len .good s := rfl
    rw [Does, h, execCmdpRd, whenLive_live hlive, decide_eq_true ⟨hpage, by omega, hlen⟩, State.guard_true, State.portChecked,
      State.portFree_none hfree, State.portRead_ok hoff hrun (by omega) hcmdp]
  case write =>
    intro s page offset words hlive hfree hpage hoff h1 h16 hrun hmsg
    have h : exec (.cmdpWr page offset words .good) s = execCmdpWr page offset words .good s := rfl
    rw [Does, h, execCmdpWr, whenLive_live hlive, decide_eq_true ⟨hpage, by omega, h1, h16⟩, State.guard_true, State.portChecked,
      State.portFree_none hfree, State.portWrite_ok hoff hrun hmsg]
  case stat =>
    intro s hlive hfree
    have h : exec (.cmdpStat .good) s = execCmdpStat .good s := rfl
    rw [Does, h, execCmdpStat, whenLive_live hlive, State.portChecked, State.portFree_none hfree, State.portStat]
  case crc => exact whenLive_live (f := fun s => s.portChecked .badCrc (fun s => s.portFree (fun t => t.portStat))) hlive
  case cmd => exact whenLive_live (f := fun s => s.portChecked .badCmd (fun s => s.portFree (fun t => t.portStat))) hlive
  case abort =>
    have hrun : exec (.cmdpAbort none) s = .next (s.inside (s.satInc Reg.DEV_CMDP_CNT_ABORTS)) :=
      whenLive_live (f := fun s => s.portAbort none) hlive
    refine ⟨_, hrun, ?_, ?_, dev_inside_of_eq ?_⟩
    · rw [State.getF_inside, State.getF_satInc _ _ _ (by decide)]; rfl
    · rw [State.inside_mem, State.satInc, State.putF_mem]
    · rw [State.satInc, State.putF_dev]

end Sys2Proof.Machine
end

section
/-! The proofs about boot, modes and accesses: boot stages 0 to 4, ENGAGE, WARM_RESET, the heartbeat, and register and BAR requests
(chapters 3, 17, 18, 23). -/

namespace Sys2Proof.Machine

/-! ### Stage 0: the fuses as sensed -/

theorem Sparse.get_foldl_set (v : Nat → Nat) (l : List Nat) (m : Sparse Nat) (k : Nat) :
    Sparse.get (fun _ => 0) (l.foldl (fun m w => Sparse.set (fun _ => 0) m w (v w)) m) k =
      if k ∈ l then v k else Sparse.get (fun _ => 0) m k := by
  induction l generalizing m with
  | nil => simp
  | cons w l ih =>
    rw [List.foldl_cons, ih, Sparse.get_set]
    by_cases hk : k = w
    · subst hk; simp
    · simp [hk]

theorem State.fuse_sense (s : State) (first second : List Nat) {w : Nat} (hw : w < 512) :
    (s.sense first second).fuse w = sensedWord first second w := by
  unfold State.sense State.fuse
  simp only [State.putF_sec]
  rw [Sparse.get_foldl_set (fun w => (first.getD w 0 ||| second.getD w 0) % 2 ^ 32), if_pos (List.mem_range.mpr hw), sensedWord]

/-- Sensing changes the fuse arrays and what shows of them. -/
theorem State.sense_frame (s : State) (first second : List Nat) :
    (s.sense first second).mem = s.mem ∧ (s.sense first second).dev = s.dev := by
  unfold State.sense
  simp only [State.putF_mem, State.putF_dev, and_self]

theorem State.fuse_setStage {s u : State} (h : u.sec = s.sec) (n w : Nat) : (u.setStage n).fuse w = s.fuse w := by
  rw [State.setStage, State.fuse, State.putF_sec, h, State.fuse]

/-- What stage 0 leaves before it judges the fuses. -/
def State.sensed (s : State) (first second : List Nat) : State := ((s.sense first second).loadFuses).setStage 0

theorem State.fuse_sensed (s : State) (first second : List Nat) {w : Nat} (hw : w < 512) :
    (s.sensed first second).fuse w = sensedWord first second w :=
  (State.fuse_setStage (State.of_sansShown (g := State.sec) (fun _ => rfl) (State.loadFuses_sansShown _)) 0 w).trans
    (s.fuse_sense first second hw)

theorem State.setStage_spec (s : State) (n : Nat) :
    (s.setStage n).dev.bootStage = n + 1 ∧ (s.setStage n).dev.mode = s.dev.mode ∧ (s.setStage n).mem = s.mem := by
  rw [State.setStage, State.putF_dev, State.putF_mem]
  exact ⟨rfl, rfl, rfl⟩

theorem State.sensed_rest (s : State) (first second : List Nat) : (s.sensed first second).dev.bootStage = 1 ∧
    (s.sensed first second).dev.mode = s.dev.mode ∧ (s.sensed first second).mem = s.mem := by
  obtain ⟨hmem, hdev⟩ := s.sense_frame first second
  have hload := State.loadFuses_sansShown (s.sense first second)
  obtain ⟨hstage, hmode, hrest⟩ := (s.sense first second).loadFuses.setStage_spec 0
  refine ⟨hstage, hmode.trans ?_, hrest.trans ?_⟩
  · rw [State.of_sansShown (g := State.dev) (fun _ => rfl) hload, hdev]
  · rw [State.of_sansShown (g := State.mem) (fun _ => rfl) hload, hmem]

/-- Stage 0 is complete when the CRC of the fuses as sensed is right. -/
theorem State.stage0_good {s : State} {first second : List Nat}
    (hcrc : crc32 ((List.range 71).flatMap (fun w => leBytes 4 (sensedWord first second w))) = sensedWord first second 71) :
    s.stage0 first second = s.sensed first second := by
  have hsum : (s.sensed first second).fuseCrc = (s.sensed first second).fuse 71 := by
    have hwords : (List.range 71).flatMap (fun w => leBytes 4 ((s.sensed first second).fuse w)) =
        (List.range 71).flatMap (fun w => leBytes 4 (sensedWord first second w)) := by
      refine List.flatMap_congr fun w hw => ?_
      have := List.mem_range.mp hw
      rw [s.fuse_sensed first second (by omega)]
    rw [State.fuseCrc, hwords, hcrc, s.fuse_sensed first second (by norm_num)]
  exact if_pos hsum

theorem exec_fuseSenseDone {s : State} (hlive : s.live = true) (hstage : s.atStage 0 = true) (first second : List Nat) :
    exec (.fuseSenseDone first second) s = .next (s.inside (s.stage0 first second)) :=
  guard_does (c := fun s => s.atStage 0) (f := fun s => s.stage0 first second) hlive hstage

@[simp] theorem State.inside_bootStage (s t : State) : (s.inside t).dev.bootStage = t.dev.bootStage := by rw [State.inside_eq]

/-- A stage is reached in BOOT, before any failure. -/
theorem State.atStage_spec {s : State} {n : Nat} (h : s.atStage n = true) :
    s.dev.mode = .boot ∧ s.dev.bootStage = n ∧ s.onF Reg.DEV_MODE_BOOT_FAIL = false := by
  simpa [State.atStage, State.mode, and_assoc] using h

/-! ### Stage 1: the ROM's slot -/

/-- The image that the ROM boots has no reason against it, and so is of kind 0. -/
theorem State.imageReason_bootsB {s : State} {a b : ImageCheck} (h : s.imageReason 0 a = 0 ∨ s.imageReason 0 b = 0) :
    s.imageReason 0 (if bootsB (s.imageReason 0 a) (s.imageReason 0 b) a b then b else a) = 0 := by
  unfold bootsB
  split
  next hb =>
    simp only [Bool.and_eq_true, beq_iff_eq] at hb
    exact hb.1
  next hb =>
    by_contra ha
    have hb0 : s.imageReason 0 b = 0 := h.resolve_left ha
    exact hb (by simp [hb0, ha])

theorem State.kind_of_imageReason {s : State} {k : Nat} {i : ImageCheck} (h : s.imageReason k i = 0) : i.kind = k := by
  by_contra hne
  have hbad : (!i.header || i.kind != k || decide (32 < i.svn)) = true := by simp [hne]
  unfold State.imageReason at h
  dsimp only at h
  rw [if_pos hbad] at h
  split at h <;> omega

/-- The state after the ROM's reasons are shown. -/
def State.showReasons (s : State) (ra rb : Nat) : State := (s.putF Reg.SEC_BOOT_REASON_A ra).putF Reg.SEC_BOOT_REASON_B rb

/-- The state after the ROM has booted an image. -/
def State.booted (s : State) (useB : Bool) (i : ImageCheck) : State :=
  ((s.putF Reg.SEC_BOOT_SLOT (b2n useB)).verified i).setHub.setStage 1

theorem State.stage1_boots {s : State} {a b : ImageCheck} (hlife : s.lifecycle ≠ 3)
    (h : s.imageReason 0 a = 0 ∨ s.imageReason 0 b = 0) : s.stage1 a b =
      (s.showReasons (s.imageReason 0 a) (s.imageReason 0 b)).booted (bootsB (s.imageReason 0 a) (s.imageReason 0 b) a b)
        (if bootsB (s.imageReason 0 a) (s.imageReason 0 b) a b then b else a) := by
  have hnot : ¬ (s.imageReason 0 a ≠ 0 ∧ s.imageReason 0 b ≠ 0) := by tauto
  rw [State.stage1, if_neg hlife]
  exact if_neg hnot

theorem State.stage1_fails {s : State} {a b : ImageCheck} (hlife : s.lifecycle ≠ 3) (ha : s.imageReason 0 a ≠ 0)
    (hb : s.imageReason 0 b ≠ 0) : s.stage1 a b = (s.showReasons (s.imageReason 0 a) (s.imageReason 0 b)).bootFails := by
  rw [State.stage1, if_neg hlife]
  exact if_pos ⟨ha, hb⟩

/-- A booted image of kind 0 shows its slot and completes stage 1. -/
theorem State.booted_spec (s : State) (useB : Bool) {i : ImageCheck} (hkind : i.kind = 0) :
    (s.booted useB i).dev.bootStage = 2 ∧ (s.booted useB i).mem = s.mem ∧ (s.booted useB i).onF Reg.SEC_BOOT_SLOT = useB := by
  refine ⟨?_, ?_, ?_⟩
  · rw [State.booted, State.setStage, State.putF_dev]
  · rw [State.booted, State.setStage, State.putF_mem]
    simp [State.setHub, State.verified]
  · have hhub (u : State) : u.setHub.regs = u.regs := rfl
    have hstage (u : State) : (u.setStage 1).getF Reg.SEC_BOOT_SLOT = u.getF Reg.SEC_BOOT_SLOT := by
      rw [State.setStage, State.getF_putF_word (f := Reg.SEC_BOOT_STAGE) (g := Reg.SEC_BOOT_SLOT) _ _ rfl (by decide) (by decide)
        (by decide) (.inr (by decide))]
      exact State.getF_of_regs_eq rfl
    have hmeas (u : State) : (u.verified i).getF Reg.SEC_BOOT_SLOT = u.getF Reg.SEC_BOOT_SLOT := by
      rw [State.verified, hkind, State.getF_putF_ne _ _ _ _ (.inr (by decide))]
      exact State.getF_of_regs_eq rfl
    rw [State.onF, State.booted, hstage, State.getF_of_regs_eq (hhub _), hmeas, ← State.onF, State.onF_putF_bit _ _ _ rfl]
    cases useB <;> rfl

/-- A boot that fails shows so and the reasons. -/
theorem State.bootFails_reasons (s : State) (ra rb : Nat) :
    (s.showReasons ra rb).bootFails.onF Reg.DEV_MODE_BOOT_FAIL = true ∧ (s.showReasons ra rb).bootFails.dev = s.dev ∧
    (s.showReasons ra rb).bootFails.getF Reg.SEC_BOOT_REASON_A = ra % 16 ∧
    (s.showReasons ra rb).bootFails.getF Reg.SEC_BOOT_REASON_B = rb % 16 := by
  have hother (u : State) {f : Fld} (hf : f.addr = Reg.SEC_BOOT) (hhi : f.hi < 32) : u.bootFails.getF f = u.getF f :=
    State.getF_putF_other _ _ (by decide) hhi (by rw [hf]; decide)
  refine ⟨State.onF_putF_bit _ _ _ rfl, ?_, ?_, ?_⟩
  · rw [State.bootFails, State.showReasons, State.putF_dev, State.putF_dev, State.putF_dev]
  · rw [hother _ rfl (by decide), State.showReasons, State.getF_putF_word (f := Reg.SEC_BOOT_REASON_B) (g := Reg.SEC_BOOT_REASON_A)
      _ _ rfl (by decide) (by decide) (by decide) (.inr (by decide)), State.getF_putF _ _ _ (by decide)]
    rfl
  · rw [hother _ rfl (by decide), State.showReasons, State.getF_putF _ _ _ (by decide)]
    rfl

theorem exec_romVerify {s : State} (hlive : s.live = true) (hstage : s.atStage 1 = true) (a b : ImageCheck) :
    exec (.romVerify a b) s = .next (s.inside (s.stage1 a b)) :=
  guard_does (c := fun s => s.atStage 1) (f := fun s => s.stage1 a b) hlive hstage

/-! ### Stage 2: the firmware -/

/-- The first good image of a kind among those of the firmware load. -/
def State.goodImage (s : State) (images : List ImageCheck) (k : Nat) : Option ImageCheck :=
  images.find? (fun i => i.kind == k && s.imageReason k i == 0)

theorem State.goodImage_isSome (s : State) (images : List ImageCheck) (k : Nat) :
    (s.goodImage images k).isSome = true ↔ ∃ i ∈ images, i.kind = k ∧ s.imageReason k i = 0 := by
  simp [State.goodImage, List.find?_isSome]

/-- The images that verify are noted. -/
def State.noteImage (s : State) : Option ImageCheck → State
  | some i => s.verified i
  | none => s

/-- The state in which the firmware load judges what it has: the link's enable, the images and the tiles' versions. -/
def State.loaded (s : State) (images : List ImageCheck) : State :=
  let u := [1, 2, 3, 4, 5, 6].foldl (fun t k => t.noteImage (s.goodImage images k)) (s.wrPgCtrl 0x5C0 1)
  match s.goodImage images 1 with
  | some i => u.tileFirmware i.version
  | none => u

theorem State.stage2_eq (s : State) (images : List ImageCheck) (hbm : Bool) : s.stage2 images hbm =
    if !([1, 2, 3, 4, 5, 6].all (fun k => (s.goodImage images k).isSome)) then ((s.loaded images).slotReason 8).bootFails
    else if !hbm then ((s.loaded images).slotReason 9).bootFails
    else (s.loaded images).setStage 2 := rfl

theorem State.noteImage_frame (s : State) (x : Option ImageCheck) : (s.noteImage x).mem = s.mem ∧ (s.noteImage x).dev = s.dev := by
  cases x with
  | none => exact ⟨rfl, rfl⟩
  | some i => simp [State.noteImage, State.verified]

theorem State.tileFirmware_sansRegs (s : State) (v : Nat) : (s.tileFirmware v).sansRegs = s.sansRegs :=
  State.foldl_frame (g := State.sansRegs) (fun u i _ => by rw [State.putF_sansRegs, State.putF_sansRegs]) s

/-- An enable changes the block's own state. -/
theorem State.writeEn_true_frame (s : State) (p : Nat) : (s.writeEn p true).mem = s.mem ∧ (s.writeEn p true).dev = s.dev := by
  cases hb : (s.block p).state with
  | off => rw [State.writeEn_off_true hb]; exact ⟨rfl, rfl⟩
  | _ =>
    unfold State.writeEn
    dsimp only
    rw [hb]
    exact ⟨rfl, rfl⟩

/-- A write of PG_CTRL with EN alone changes the block's own state. -/
theorem State.wrPgCtrl_one_frame (s : State) (p : Nat) : (s.wrPgCtrl p 1).mem = s.mem ∧ (s.wrPgCtrl p 1).dev = s.dev := by
  unfold State.wrPgCtrl
  simp only [show bit 1 8 = false from rfl, show bit 1 4 = false from rfl, show bit 1 0 = true from rfl, Bool.false_eq_true, if_false]
  split
  · exact s.writeEn_true_frame p
  · exact ⟨rfl, rfl⟩

theorem State.loaded_frame (s : State) (images : List ImageCheck) : (s.loaded images).mem = s.mem ∧ (s.loaded images).dev = s.dev := by
  obtain ⟨hmem, hdev⟩ := s.wrPgCtrl_one_frame 0x5C0
  have hnote (l : List Nat) (u : State) : (l.foldl (fun t k => t.noteImage (s.goodImage images k)) u).mem = u.mem ∧
      (l.foldl (fun t k => t.noteImage (s.goodImage images k)) u).dev = u.dev :=
    ⟨State.foldl_frame (g := State.mem) (fun t k _ => (t.noteImage_frame _).1) u,
      State.foldl_frame (g := State.dev) (fun t k _ => (t.noteImage_frame _).2) u⟩
  obtain ⟨hmem', hdev'⟩ := hnote [1, 2, 3, 4, 5, 6] (s.wrPgCtrl 0x5C0 1)
  unfold State.loaded
  dsimp only
  generalize [1, 2, 3, 4, 5, 6].foldl (fun t k => t.noteImage (s.goodImage images k)) (s.wrPgCtrl 0x5C0 1) = u at hmem' hdev' ⊢
  split
  next i _ =>
    have hrest := u.tileFirmware_sansRegs i.version
    exact ⟨(State.of_sansRegs (g := State.mem) (fun _ => rfl) hrest).trans (hmem'.trans hmem),
      (State.of_sansRegs (g := State.dev) (fun _ => rfl) hrest).trans (hdev'.trans hdev)⟩
  next => exact ⟨hmem'.trans hmem, hdev'.trans hdev⟩

theorem State.slotFails_spec (s : State) (r : Nat) : (s.slotReason r).bootFails.dev = s.dev ∧
    (s.slotReason r).bootFails.onF Reg.DEV_MODE_BOOT_FAIL = true :=
  ⟨by rw [State.bootFails, State.slotReason, State.putF_dev, State.putF_dev], State.onF_putF_bit _ _ _ rfl⟩

theorem exec_firmwareLoad {s : State} (hlive : s.live = true) (hstage : s.atStage 2 = true) (images : List ImageCheck) (hbm : Bool) :
    exec (.firmwareLoad images hbm) s = .next (s.inside (s.stage2 images hbm)) :=
  guard_does (c := fun s => s.atStage 2) (f := fun s => s.stage2 images hbm) hlive hstage

/-- Settles O11. -/
theorem bootStagesZeroToTwoComplete : Obligations.BootStagesZeroToTwoComplete := by
  unfold Obligations.BootStagesZeroToTwoComplete
  refine ⟨?fuses, ?rom, ?romFails, ?firmware, ?firmwareFails⟩
  case fuses =>
    intro s first second hlive hstage hcrc
    obtain ⟨hnext, hmode, hmem⟩ := s.sensed_rest first second
    refine ⟨_, exec_fuseSenseDone hlive hstage first second, ?_, ?_, ?_, fun w hw => ?_⟩ <;> rw [State.stage0_good hcrc]
    · rw [State.inside_bootStage, hnext]
    · rw [mode_inside_of_eq hmode, (State.atStage_spec hstage).1]
    · rw [State.inside_mem, hmem]
    · rw [State.fuse, State.inside_sec]
      exact s.fuse_sensed first second hw
  case rom =>
    intro s a b hlive hstage hlife hgood
    have hspec := State.booted_spec (s.showReasons (s.imageReason 0 a) (s.imageReason 0 b))
      (bootsB (s.imageReason 0 a) (s.imageReason 0 b) a b) (State.kind_of_imageReason (State.imageReason_bootsB hgood))
    obtain ⟨hnext, hmem, hslot⟩ := hspec
    refine ⟨_, exec_romVerify hlive hstage a b, ?_, ?_, ?_⟩ <;> rw [State.stage1_boots hlife hgood]
    · rw [State.inside_bootStage, hnext]
    · rw [State.inside_mem, hmem, State.showReasons, State.putF_mem, State.putF_mem]
    · rw [State.onF_inside, hslot]
  case romFails =>
    intro s a b hlive hstage hlife ha hb
    obtain ⟨hmode, hnext, -⟩ := State.atStage_spec hstage
    obtain ⟨hfail, hdev, hra, hrb⟩ := s.bootFails_reasons (s.imageReason 0 a) (s.imageReason 0 b)
    refine ⟨_, exec_romVerify hlive hstage a b, ?_, ?_, ?_, ?_, ?_⟩ <;> rw [State.stage1_fails hlife ha hb]
    · rw [State.inside_bootStage, hdev, hnext]
    · rw [State.onF_inside, hfail]
    · rw [dev_inside_of_eq hdev, hmode]
    · rw [State.getF_inside, hra]
    · rw [State.getF_inside, hrb]
  case firmware =>
    intro s images hlive hstage hall
    have hgood : [1, 2, 3, 4, 5, 6].all (fun k => (s.goodImage images k).isSome) = true :=
      List.all_eq_true.mpr fun k hk => (s.goodImage_isSome images k).mpr (hall k hk)
    obtain ⟨hnext, -, hmem⟩ := (s.loaded images).setStage_spec 2
    refine ⟨_, exec_firmwareLoad hlive hstage images true, ?_, ?_⟩ <;>
      rw [State.stage2_eq, hgood, Bool.not_true, if_neg Bool.false_ne_true, if_neg Bool.false_ne_true]
    · rw [State.inside_bootStage, hnext]
    · rw [State.inside_mem, hmem, (s.loaded_frame images).1]
  case firmwareFails =>
    intro s images hbm hlive hstage hbad
    obtain ⟨-, hnext, -⟩ := State.atStage_spec hstage
    have hfails : ∃ r, s.stage2 images hbm = ((s.loaded images).slotReason r).bootFails := by
      rw [State.stage2_eq]
      by_cases hgood : [1, 2, 3, 4, 5, 6].all (fun k => (s.goodImage images k).isSome) = true
      · have hall := List.all_eq_true.mp hgood
        have hmemory : hbm = false := hbad.resolve_right fun ⟨k, hk, hnone⟩ => by
          obtain ⟨i, hi, hik, hreason⟩ := (s.goodImage_isSome images k).mp (hall k hk)
          exact hnone i hi hik hreason
        exact ⟨9, by rw [hgood, hmemory]; rfl⟩
      · rw [Bool.not_eq_true] at hgood
        exact ⟨8, by rw [hgood]; rfl⟩
    obtain ⟨r, hr⟩ := hfails
    obtain ⟨hdev, hfail⟩ := (s.loaded images).slotFails_spec r
    refine ⟨_, exec_firmwareLoad hlive hstage images hbm, ?_, ?_⟩ <;> rw [hr]
    · rw [State.inside_bootStage, hdev, (s.loaded_frame images).2, hnext]
    · rw [State.onF_inside, hfail]

/-! ### Stages 3 and 4 -/

/-- A state without what the ages and derates of the units show in. -/
def State.sansAge (s : State) : State := { s with regs := [], freeCtr := 0, pwr := State.reset.pwr }

/-- What reads a state without these reads alike in states that agree in the rest. -/
theorem State.of_sansAge {β : Type} {g : State → β} {s u : State} (hg : ∀ v, g v.sansAge = g v) (h : u.sansAge = s.sansAge) :
    g u = g s := by rw [← hg u, h, hg]

@[simp] theorem State.putF_sansAge (s : State) (f : Fld) (v : Nat) : (s.putF f v).sansAge = s.sansAge := by rw [State.putF_eq]; rfl
@[simp] theorem State.free_sansAge (s : State) (w : Nat) : (s.free w).2.sansAge = s.sansAge := rfl
@[simp] theorem State.quotient_sansAge (s : State) (num den : Nat) : (s.quotient num den).2.sansAge = s.sansAge := by
  unfold State.quotient
  split <;> rfl

theorem State.ageUnit_sansAge (s : State) (u margin : Nat) : (s.ageUnit u margin).sansAge = s.sansAge := by
  unfold State.ageUnit
  dsimp only
  rw [State.putF_sansAge, State.putF_sansAge]
  split
  · exact s.free_sansAge 16
  · exact s.quotient_sansAge _ _

theorem State.ageAll_sansAge (s : State) (margins : List Nat) : (s.ageAll margins).sansAge = s.sansAge := by
  unfold State.ageAll
  dsimp only
  rw [State.putF_sansAge, State.putF_sansAge]
  exact State.foldl_frame (g := State.sansAge) (fun t u _ => t.ageUnit_sansAge u _) s

theorem State.restoreAge_sansAge (s : State) (h : Option (Nat × Nat × Nat)) : (s.restoreAge h).sansAge = s.sansAge := by
  cases h with
  | none => rfl
  | some x => rw [State.restoreAge, State.putF_sansAge, State.putF_sansAge, State.putF_sansAge]

theorem State.derateAtBoot_sansAge (s : State) (t : Nat) : (s.derateAtBoot t).sansAge = s.sansAge := by
  unfold State.derateAtBoot
  split
  · exact (State.putF_sansAge _ _ _).trans (s.free_sansAge 4)
  · rfl

theorem State.formDerates_sansAge (s : State) : s.formDerates.sansAge = s.sansAge := by
  unfold State.formDerates
  split
  · rfl
  · exact State.foldl_frame (g := State.sansAge) (fun t i _ => t.derateAtBoot_sansAge i) s

/-- A boot test without a failure fences no tile. -/
theorem State.bootTest_zero (s : State) : s.bootTest 0 = s :=
  State.foldl_frame (g := id) (fun t i _ => by simp [bit]) s

/-- A controller whose channels are all trained shows so. -/
theorem State.lpcTrained_all (s : State) {c : Nat} (hc : c < 4) (density : Nat) (ranks2 : Bool) (rate : Nat) :
    (s.lpcTrained c 0xFFFF density ranks2 rate).sansRegs = s.sansRegs := by
  have hok : (bits 0xFFFF (4 * c + 3) (4 * c) == 15) = true := by interval_cases c <;> rfl
  unfold State.lpcTrained
  simp only [hok, if_true, State.putF_sansRegs]

/-- Training with every channel trained fixes the capacity from density and ranks. -/
theorem State.trainLpd_all (s : State) (density : Nat) (ranks2 : Bool) (rate : Nat) :
    (s.trainLpd 0xFFFF density ranks2 rate).sansRegs =
      { s.sansRegs with tier := { s.tier with lpdBytes := 16 * (1 + b2n ranks2) * density * 2 ^ 30 / 8 } } := by
  have hchan (u : State) : ([0, 1, 2, 3].foldl (fun t c => t.lpcTrained c 0xFFFF density ranks2 rate) u).sansRegs = u.sansRegs := by
    refine State.foldl_frame (g := State.sansRegs) (fun t c hc => t.lpcTrained_all ?_ density ranks2 rate) u
    simp only [List.mem_cons, List.not_mem_nil, or_false] at hc
    omega
  unfold State.trainLpd
  dsimp only
  rw [if_pos (by norm_num), hchan]
  generalize 16 * (1 + b2n ranks2) * density * 2 ^ 30 / 8 = bytes
  rfl

/-- The state of stage 3 before ages and derates, with every channel trained. -/
def State.memTrained (s : State) (density : Nat) (ranks2 : Bool) (rate : Nat) : State :=
  (s.setStage 3).trainLpd 0xFFFF density ranks2 rate

theorem State.stage3_sansAge (s : State) (density : Nat) (ranks2 : Bool) (rate : Nat) (margins : List Nat)
    (history : Option (Nat × Nat × Nat)) :
    (s.stage3 0xFFFF density ranks2 rate 0 margins history).sansAge = (s.memTrained density ranks2 rate).sansAge := by
  unfold State.stage3
  dsimp only
  rw [State.formDerates_sansAge, State.restoreAge_sansAge, State.ageAll_sansAge, State.bootTest_zero, State.memTrained]

theorem State.of_lpdBytes_eq {s u : State} {n : Nat} (h : u.sansRegs = { s.sansRegs with tier := { s.tier with lpdBytes := n } }) :
    u.dev = s.dev ∧ u.tier.lpdBytes = n ∧ u.mem = s.mem :=
  ⟨(congrArg State.dev h :), (congrArg (fun v : State => v.tier.lpdBytes) h :), (congrArg State.mem h :)⟩

theorem State.memTrained_spec (s : State) (density : Nat) (ranks2 : Bool) (rate : Nat) :
    (s.memTrained density ranks2 rate).dev.bootStage = 4 ∧
    (s.memTrained density ranks2 rate).tier.lpdBytes = 16 * (1 + b2n ranks2) * density * 2 ^ 30 / 8 ∧
    (s.memTrained density ranks2 rate).mem = s.mem := by
  obtain ⟨hstage, -, hmem⟩ := s.setStage_spec 3
  obtain ⟨hdev, hbytes, hmem'⟩ := State.of_lpdBytes_eq ((s.setStage 3).trainLpd_all density ranks2 rate)
  refine ⟨?_, hbytes, hmem'.trans hmem⟩
  rw [State.memTrained, hdev, hstage]

theorem exec_memoryTraining {s : State} (hlive : s.live = true) (hstage : s.atStage 3 = true) (trained density : Nat) (ranks2 : Bool)
    (rate fails : Nat) (margins : List Nat) (history : Option (Nat × Nat × Nat)) :
    exec (.memoryTraining trained density ranks2 rate fails margins history) s =
      .next (s.inside (s.stage3 trained density ranks2 rate fails margins history)) :=
  guard_does (c := fun s => s.atStage 3) (f := fun s => s.stage3 trained density ranks2 rate fails margins history) hlive hstage

theorem exec_partitionSetup {s : State} (hlive : s.live = true) (hstage : s.atStage 4 = true) (owners : List (Nat × Nat))
    (locks : List Nat) (writes : List (Nat × Nat)) (enables : List Nat) (advance : List (Nat × Nat)) :
    exec (.partitionSetup owners locks writes enables advance) s =
      .next (s.inside (s.stage4 owners locks writes enables advance)) :=
  guard_does (c := fun s => s.atStage 4) (f := fun s => s.stage4 owners locks writes enables advance) hlive hstage

theorem State.evalDegrade_of_not_active {s : State} (h : s.dev.mode ≠ .active) : s.evalDegrade.sansRegs = s.sansRegs := by
  have hif (c : Prop) [Decidable c] (f : Fld) (v : Nat) : (if c then s else s.putF f v).sansRegs = s.sansRegs := by
    split
    · rfl
    · exact s.putF_sansRegs f v
  unfold State.evalDegrade
  dsimp only
  split
  next hm =>
    refine absurd ?_ h
    rw [State.mode, State.putF_dev, State.putF_dev] at hm
    split at hm <;> simpa using hm
  next => rw [State.putF_sansRegs, State.putF_sansRegs, hif]

/-- A host that is lost in READY degrades nothing. -/
theorem State.loseHost_ready {s : State} (h : s.dev.mode = .ready) : s.loseHost.sansRegs = s.sansRegs := by
  unfold State.loseHost
  have hm : s.mode = .ready := h
  simp only [hm, reduceCtorEq, or_self, if_false]
  split
  · rfl
  · rw [State.evalDegrade_of_not_active, State.putF_sansRegs, State.putF_sansRegs]
    simp [h]

/-- The state in READY before the host's link is seen. -/
def State.readied (s : State) : State :=
  { s.setMode .ready with dev := { (s.setMode .ready).dev with hbSince := (s.setMode .ready).qtz.cycles } }

theorem State.enterReady_eq (s : State) : s.enterReady =
    if s.readied.onF Reg.DEV_HOSTLOSS_LINK_IS_LOSS && !s.readied.onF Reg.PCIE_LINK_LINK_UP then s.readied.loseHost else s.readied := rfl

/-- READY is entered with the mode alone changed, but for registers and the heartbeat. -/
theorem State.enterReady_spec (s : State) : s.enterReady.dev.mode = .ready ∧ s.enterReady.mem = s.mem ∧
    s.enterReady.dev.bootStage = s.dev.bootStage := by
  have hset := s.setMode_eq .ready
  have hmode : s.readied.dev.mode = .ready := s.setMode_mode .ready
  have hmem : s.readied.mem = s.mem := s.setMode_mem .ready
  have hstage : s.readied.dev.bootStage = s.dev.bootStage := by
    have hdev := congrArg (fun u : State => u.dev.bootStage) hset
    exact hdev
  have hrest : s.enterReady.sansRegs = s.readied.sansRegs := by
    rw [State.enterReady_eq]
    split
    · exact State.loseHost_ready hmode
    · rfl
  have hdev : s.enterReady.dev = s.readied.dev := State.of_sansRegs (g := State.dev) (fun _ => rfl) hrest
  exact ⟨by rw [hdev, hmode], (State.of_sansRegs (g := State.mem) (fun _ => rfl) hrest).trans hmem, by rw [hdev, hstage]⟩

/-- Partition setup that changes nothing, with no counter to advance, ends in READY. -/
theorem State.stage4_nil {s : State} (hmode : s.dev.mode = .boot) (himages : ∀ i ∈ s.sec.images, i.2.2 = false) :
    s.stage4 [] [] [] [] [] = (s.setStage 4).enterReady := by
  have hcount : s.sec.images.foldl (fun t i => t.advanceCounter [] i) s = s :=
    State.foldl_frame (g := id) (fun t i hi => by simp [State.advanceCounter, himages i hi]) s
  unfold State.stage4
  simp only [List.foldl_nil, hcount, State.mode, hmode, beq_self_eq_true, if_true]

/-- Settles O12. -/
theorem bootStagesThreeAndFourComplete : Obligations.BootStagesThreeAndFourComplete := by
  unfold Obligations.BootStagesThreeAndFourComplete
  refine ⟨?training, ?allTrained, ?setup, ?ready⟩
  case training =>
    intro s trained density ranks2 rate fails margins history hlive hstage
    exact exec_memoryTraining hlive hstage trained density ranks2 rate fails margins history
  case allTrained =>
    intro s density ranks2 rate margins history hlive hstage
    have hrest := s.stage3_sansAge density ranks2 rate margins history
    obtain ⟨hnext, hbytes, hmem⟩ := s.memTrained_spec density ranks2 rate
    refine ⟨_, exec_memoryTraining hlive hstage 0xFFFF density ranks2 rate 0 margins history, ?_, ?_, ?_⟩
    · rw [State.inside_bootStage, State.of_sansAge (g := fun u => u.dev.bootStage) (fun _ => rfl) hrest, hnext]
    · rw [State.inside_tier, State.of_sansAge (g := State.tier) (fun _ => rfl) hrest, hbytes]
    · rw [State.inside_mem, State.of_sansAge (g := State.mem) (fun _ => rfl) hrest, hmem]
  case setup =>
    intro s owners locks writes enables advance hlive hstage
    exact exec_partitionSetup hlive hstage owners locks writes enables advance
  case ready =>
    intro s hlive hstage himages
    obtain ⟨hmode, -, -⟩ := State.atStage_spec hstage
    obtain ⟨hnext, -, hmem⟩ := s.setStage_spec 4
    obtain ⟨hready, hmem', hnext'⟩ := (s.setStage 4).enterReady_spec
    refine ⟨_, exec_partitionSetup hlive hstage [] [] [] [] [], ?_, ?_, ?_⟩ <;> rw [State.stage4_nil hmode himages]
    · rw [State.inside_bootStage, hnext', hnext]
    · rw [State.inside_mode, hready, hmode]; rfl
    · rw [State.inside_mem, hmem', hmem]

end Sys2Proof.Machine
end

section
/-! The proofs about modes and accesses: ENGAGE, WARM_RESET, the heartbeat, the host's loss, and register and BAR requests (chapters 3,
17, 18). -/

namespace Sys2Proof.Machine

/-! ### Modes -/

@[simp] theorem State.respond_lastWpr (s : State) (req : Requester) (n : Nat) (l : List Nat) :
    (s.respond req n l).dev.lastWpr = s.dev.lastWpr := by cases req <;> rfl
@[simp] theorem State.respond_engagePending (s : State) (req : Requester) (n : Nat) (l : List Nat) :
    (s.respond req n l).dev.engagePending = s.dev.engagePending := by cases req <;> rfl
@[simp] theorem State.respond_hbSince (s : State) (req : Requester) (n : Nat) (l : List Nat) :
    (s.respond req n l).dev.hbSince = s.dev.hbSince := by cases req <;> rfl
@[simp] theorem State.inside_engagePending (s t : State) : (s.inside t).dev.engagePending = t.dev.engagePending := by
  rw [State.inside_eq]
@[simp] theorem State.inside_hbSince (s t : State) : (s.inside t).dev.hbSince = t.dev.hbSince := by rw [State.inside_eq]
@[simp] theorem State.inside_graceSince (s t : State) : (s.inside t).dev.graceSince = t.dev.graceSince := by rw [State.inside_eq]

theorem exec_engage {s : State} {req : Requester} (h : s.Takes req Reg.DEV_MODECMD 0x10000000) :
    exec (.engage req) s = .next (s.inside (s.engage.respond req 0 [])) := access_does h

theorem exec_warmReset {s : State} {req : Requester} (h : s.Takes req Reg.DEV_MODECMD 0x20000000) :
    exec (.warmReset req) s = .next (s.inside (s.warmReset.respond req 0 [])) := access_does h

theorem exec_hostHeartbeat {s : State} {req : Requester} {v : Nat} (h : s.Takes req Reg.DEV_HOST_HB (v % 2 ^ 32)) :
    exec (.hostHeartbeat req v) s = .next (s.inside (s.wrHostHb.respond req 0 [])) := access_does h

/-- ENGAGE waits for the next tick in ARMED with a valid record and no loss of the host. -/
theorem State.engage_ok {s : State} (hmode : s.dev.mode = .armed) (hhost : s.onF Reg.DEV_MODE_HOST_LOST = false)
    (hwpr : s.dev.lastWpr.valid = true) :
    s.engage = ({ s with dev := { s.dev with engagePending := true } }).putF Reg.DEV_MODE_ENG_REFUSED 0 := by
  simp [State.engage, State.mode, hmode, hhost, hwpr]

/-- Otherwise it is refused. -/
theorem State.engage_refused {s : State}
    (h : s.dev.mode ≠ .armed ∨ s.onF Reg.DEV_MODE_HOST_LOST = true ∨ s.dev.lastWpr.valid = false) :
    s.engage = s.putF Reg.DEV_MODE_ENG_REFUSED 1 := by
  rcases h with h | h | h <;> simp [State.engage, State.mode, h]

theorem State.warmReset_safe {s : State} (h : s.dev.mode = .safe) :
    s.warmReset = if s.fcSumCrit = 0 then s.deviceReset.tryBoot else s.putF Reg.FC_STAT_WR_REFUSED 1 := by
  have hm : s.mode = .safe := h
  rw [State.warmReset, hm]

theorem State.warmReset_elsewhere {s : State} (h : s.dev.mode ≠ .safe) : s.warmReset = s := by
  unfold State.warmReset
  split
  next hm => exact absurd hm h
  next => rfl

/-- A heartbeat of a host that is not lost restarts the timeout. -/
theorem State.wrHostHb_present {s : State} (hoff : s.dev.mode ≠ .off) (hboot : s.dev.mode ≠ .boot)
    (hhost : s.onF Reg.DEV_MODE_HOST_LOST = false) : s.wrHostHb = { s with dev := { s.dev with hbSince := s.qtz.cycles } } := by
  have hhost' : ({ s with dev := { s.dev with hbSince := s.qtz.cycles } } : State).onF Reg.DEV_MODE_HOST_LOST = false := by
    rw [← hhost]; exact State.onF_of_regs_eq rfl
  unfold State.wrHostHb
  split
  next hm => exact absurd hm hoff
  next hm => exact absurd hm hboot
  next => simp [hhost']

theorem State.not_off_of_live {s : State} (h : s.live = true) : s.dev.mode ≠ .off := by
  intro hm
  simp [State.live, hm] at h

/-- The grace timer's end is noted for the planner. -/
def State.noteGrace (s : State) : State := { s with flt := { s.flt with grace := true } }

theorem State.noteGrace_spec (s : State) : s.noteGrace.regs = s.regs ∧ s.noteGrace.dev = s.dev ∧ s.noteGrace.mem = s.mem ∧
    s.noteGrace.flt.grace = true := ⟨rfl, rfl, rfl, rfl⟩

/-- What the expiry of the grace timer leaves. -/
def State.graceExpired (s : State) : State := (s.stopGrace.putF Reg.DEV_GRACE_EXPIRED 1).noteGrace

theorem exec_graceExpiry {s : State} (hlive : s.live = true) (hgrace : s.dev.graceSince.isSome = true) :
    exec .graceExpiry s = .next (s.inside s.graceExpired) := by
  have hrun : exec .graceExpiry s = execGraceExpiry s := rfl
  rw [hrun, execGraceExpiry, whenLive_live hlive, hgrace, State.guard_true, State.graceExpired, State.noteGrace]

theorem State.graceExpired_spec (s : State) : s.graceExpired.dev.graceSince = none ∧ s.graceExpired.flt.grace = true ∧
    s.graceExpired.onF Reg.DEV_GRACE_EXPIRED = true ∧ s.graceExpired.getF Reg.DEV_GRACE_LEFT = 0 ∧ s.graceExpired.mem = s.mem := by
  obtain ⟨hregs, hdev, hmem, hflt⟩ := (s.stopGrace.putF Reg.DEV_GRACE_EXPIRED 1).noteGrace_spec
  rw [← State.graceExpired] at hregs hdev hmem hflt
  refine ⟨?_, hflt, ?_, ?_, ?_⟩
  · rw [hdev, State.putF_dev, State.stopGrace, State.putF_dev]
  · rw [State.onF_of_regs_eq hregs, State.onF_putF_bit _ _ _ rfl]; rfl
  · rw [State.getF_of_regs_eq hregs, State.getF_putF_word (f := Reg.DEV_GRACE_EXPIRED) (g := Reg.DEV_GRACE_LEFT) _ _ rfl (by decide)
      (by decide) (by decide) (.inl (by decide)), State.stopGrace, State.getF_putF _ _ _ (by decide), Nat.zero_mod]
  · rw [hmem, State.putF_mem, State.stopGrace, State.putF_mem]

/-- Settles O18. -/
theorem modeCommandsComplete : Obligations.ModeCommandsComplete := by
  unfold Obligations.ModeCommandsComplete
  refine ⟨?engage, ?engageRefused, ?reset, ?resetRefused, ?resetElsewhere, ?beat, ?lost, ?grace⟩
  case engage =>
    intro s req htake hmode hhost hwpr
    refine ⟨_, exec_engage htake, ?_, ?_, ?_, ?_⟩ <;> rw [State.engage_ok hmode hhost hwpr]
    · simp
    · rw [State.onF_inside, State.onF_respond, State.onF_putF_bit _ _ _ rfl]; rfl
    · rw [mode_inside_of_eq (by simp), hmode]
    · rw [State.inside_mem, State.respond_mem, State.putF_mem]
  case engageRefused =>
    intro s req htake hno
    refine ⟨_, exec_engage htake, ?_, ?_, ?_⟩ <;> rw [State.engage_refused hno]
    · simp
    · rw [State.onF_inside, State.onF_respond, State.onF_putF_bit _ _ _ rfl]; rfl
    · exact mode_inside_of_eq (by simp)
  case reset =>
    intro s req htake hmode hsum
    rw [Does, exec_warmReset htake, State.warmReset_safe hmode, if_pos hsum]
  case resetRefused =>
    intro s req htake hmode hsum
    refine ⟨_, exec_warmReset htake, ?_, ?_, ?_⟩ <;> rw [State.warmReset_safe hmode, if_neg hsum]
    · rw [mode_inside_of_eq (by simp), hmode]
    · rw [State.onF_inside, State.onF_respond, State.onF_putF_bit _ _ _ rfl]; rfl
    · rw [State.inside_mem, State.respond_mem, State.putF_mem]
  case resetElsewhere =>
    intro s req htake hmode
    rw [Does, exec_warmReset htake, State.warmReset_elsewhere hmode]
  case beat =>
    intro s req v htake hboot hhost
    refine ⟨_, exec_hostHeartbeat htake, ?_, ?_, ?_⟩ <;>
      rw [State.wrHostHb_present (State.not_off_of_live htake.1) hboot hhost]
    · simp
    · rw [State.inside_regs, State.respond_regs]
    · rw [State.inside_mem, State.respond_mem]
  case lost =>
    intro s hlive
    exact whenLive_live (f := fun s => s.loseHost) hlive
  case grace =>
    intro s hlive hgrace
    obtain ⟨hsince, hflt, hexp, hleft, hmem⟩ := s.graceExpired_spec
    exact ⟨_, exec_graceExpiry hlive hgrace, by rw [State.inside_graceSince, hsince], by rw [State.inside_flt, hflt],
      by rw [State.onF_inside, hexp], by rw [State.getF_inside, hleft], by rw [State.inside_mem, hmem]⟩

/-! ### Register and BAR requests -/

/-- A register write of a requester that is not turned away. -/
theorem exec_registerWrite {s : State} {req : Requester} {addr : Nat} (hlive : s.live = true) (hfree : s.turnedAway req = none)
    (haddr : addr < 0x10000000) (size value : Nat) : exec (.registerWrite req addr size value) s =
      .next (s.inside (if req == .cmdp && size == 4 then s.portWrite addr [value % 2 ^ 32] else s.writeAccess req addr size value)) := by
  have hrun : exec (.registerWrite req addr size value) s = execRegisterWrite req addr size value s := rfl
  rw [hrun, execRegisterWrite, whenLive_live hlive, decide_eq_true haddr, State.guard_true, hfree]

theorem State.pcieRequest_none {s : State} (h : s.turnedAway .pcie = none) (f : State → State) : s.pcieRequest f = f s := by
  rw [State.pcieRequest, h]

theorem exec_pcieBar0Request {s : State} {a n : Nat} (hlive : s.live = true) (hfree : s.turnedAway .pcie = none) (hn : 0 < n)
    (ha : a + n ≤ 0x10000000) (write : Bool) (data : List Byte) :
    exec (.pcieBar0Request write a n data) s = .next (s.inside (s.bar0 write a n (padTo n data))) := by
  have hrun : exec (.pcieBar0Request write a n data) s = execPcieBar0Request write a n data s := rfl
  rw [hrun, execPcieBar0Request, whenLive_live hlive, decide_eq_true ⟨hn, ha⟩, State.guard_true, State.pcieRequest_none hfree]

theorem exec_pcieBar2Request {s : State} {n : Nat} (hlive : s.live = true) (hfree : s.turnedAway .pcie = none) (hn : 0 < n)
    (write : Bool) (o : Nat) (data : List Byte) :
    exec (.pcieBar2Request write o n data) s = .next (s.inside (s.bar2 write o n data)) := by
  have hrun : exec (.pcieBar2Request write o n data) s = execPcieBar2Request write o n data s := rfl
  rw [hrun, execPcieBar2Request, whenLive_live hlive, decide_eq_true hn, State.guard_true, State.pcieRequest_none hfree]

/-- A BAR0 request whose accesses all have a size that is allowed. -/
theorem State.bar0_ok {s : State} {write : Bool} {a n : Nat} {data : List Byte} (hn : n ≤ 64)
    (h : ∀ x ∈ bar0Accesses a n, (if write then sizeOk x.1 x.2 else readSizeOk x.1 x.2) = true) : s.bar0 write a n data =
      if write then
        State.conclude .pcie (s.writeAll .pcie
          ((bar0Accesses a n).flatMap (fun x => s.writePieces x.1 x.2 (leField data (x.1 - a) x.2))))
      else if (bar0Accesses a n).any (fun x => s.readRefused .pcie (x.1 / 0x1000)) then s.refuse .pcie .rights
      else s.respond .pcie 0 (s.readBytes a n) := by
  have hsize : (bar0Accesses a n).any (fun x => if write then !sizeOk x.1 x.2 else !readSizeOk x.1 x.2) = false := by
    rw [List.any_eq_false]
    intro x hx
    have := h x hx
    cases write <;> simp_all
  unfold State.bar0
  dsimp only
  rw [hsize, if_neg (by simp; omega)]

/-- A BAR2 request that is refused answers its cause. `State.bar2` is unfolded as a function, before it meets its arguments: the
kernel would otherwise evaluate `bar2Refused` at an address that is a multiple of 2^36. -/
theorem State.bar2_refused {s : State} {write : Bool} {o n : Nat} {c : Cause}
    (h : s.bar2Refused write (s.getF Reg.PCIE_WIN_WIN * 2 ^ 36 + o % 2 ^ 36) n = some c) (data : List Byte) :
    s.bar2 write o n data = s.refuse .pcie c := by
  obtain ⟨F, hF⟩ : ∃ F, F = @State.bar2 := ⟨_, rfl⟩
  rw [← hF]
  delta State.bar2 at hF
  subst hF
  beta_reduce
  extract_lets +onlyGivenNames a part
  have hcause : s.bar2Refused write a n = some c := h
  rw [hcause]

/-- A BAR2 read of this device's own memory answers its bytes. -/
theorem State.bar2_read {s : State} {o n : Nat}
    (h : s.bar2Refused false (s.getF Reg.PCIE_WIN_WIN * 2 ^ 36 + o % 2 ^ 36) n = none)
    (hlocal : s.isNeighbour (s.getF Reg.PCIE_WIN_WIN * 2 ^ 36 + o % 2 ^ 36) = false) (data : List Byte) :
    s.bar2 false o n data =
      ((s.readsFind [(s.canon (s.getF Reg.PCIE_WIN_WIN * 2 ^ 36 + o % 2 ^ 36), n)]).traffic pciePort
        (s.getF Reg.PCIE_WIN_PART) false (s.getF Reg.PCIE_WIN_WIN * 2 ^ 36 + o % 2 ^ 36) n).respond .pcie 0
        ((s.fetch (s.getF Reg.PCIE_WIN_WIN * 2 ^ 36 + o % 2 ^ 36) n).map (fun b => b.toNat)) := by
  obtain ⟨F, hF⟩ : ∃ F, F = @State.bar2 := ⟨_, rfl⟩
  rw [← hF]
  delta State.bar2 at hF
  subst hF
  beta_reduce
  extract_lets +onlyGivenNames a part
  have hok : s.bar2Refused false a n = none := h
  have hown : s.isNeighbour a = false := hlocal
  rw [hok, hown]
  rfl

/-- Settles O19. -/
theorem registerAccessesComplete : Obligations.RegisterAccessesComplete := by
  unfold Obligations.RegisterAccessesComplete
  refine ⟨?write, ?badSize, ?port, ?bar0Read, ?bar0Write, ?bar2Refused, ?bar2Read, ?bar2Write⟩
  case write =>
    intro s req addr size value hlive hfree haddr hport hsize
    have hno : (req == .cmdp && size == 4) = false := by simpa using hport
    rw [Does, exec_registerWrite hlive hfree haddr, hno, State.writeAccess, hsize]
    rfl
  case badSize =>
    intro s req addr size value hlive hfree haddr hport hsize
    have hno : (req == .cmdp && size == 4) = false := by simpa using hport
    rw [Does, exec_registerWrite hlive hfree haddr, hno, State.writeAccess, hsize]
    rfl
  case port =>
    intro s addr value hlive hfree haddr
    rw [Does, exec_registerWrite hlive hfree haddr]
    rfl
  case bar0Read =>
    intro s a n data hlive hfree hn h64 ha hok
    have hread : (bar0Accesses a n).any (fun x => s.readRefused .pcie (x.1 / 0x1000)) = false := by
      rw [List.any_eq_false]
      exact fun x hx => by simp [(hok x hx).2]
    rw [Does, exec_pcieBar0Request hlive hfree hn ha, State.bar0_ok (write := false) h64 fun x hx => (hok x hx).1, hread]
    rfl
  case bar0Write =>
    intro s a n data hlive hfree hn h64 ha hok
    rw [Does, exec_pcieBar0Request hlive hfree hn ha, State.bar0_ok (write := true) h64 fun x hx => hok x hx]
    rfl
  case bar2Refused =>
    intro s write o n data c hlive hfree hn hrefused
    rw [Does, exec_pcieBar2Request hlive hfree hn, State.bar2_refused hrefused]
  case bar2Read =>
    intro s o n A data hlive hfree hn hA hok hlocal
    subst hA
    rw [Does, exec_pcieBar2Request hlive hfree hn, State.bar2_read hok hlocal]
  case bar2Write =>
    intro s o n data hlive hfree hn _
    exact exec_pcieBar2Request hlive hfree hn true o data

end Sys2Proof.Machine
end

section
/-! Sync objects: what their registers read after an object is updated, and the registers that a raise without a context leaves. -/

namespace Sys2Proof.Machine

/-! ### Words that a raise without a context leaves

Between the fault collector's pages and the key-value unit's a raise, and what it brings about, writes page headers and the status words
of weight-window channels only. -/

def calmWord (a : Nat) : Prop := 0x22000 ≤ a ∧ a < 0x338000 ∧ 0x40 ≤ a % 0x1000 ∧ (a < 0x332000 ∨ 0x10 ≤ a % 0x20)

section
variable {a : Nat} (ha : calmWord a)
include ha

theorem State.reg_putF_calm (s : State) {f : Fld} (v : Nat) (hf : f.addr + 4 * (f.hi / 32) < 0x22000 ∨ 0x338000 ≤ f.addr) :
    (s.putF f v).reg a = s.reg a := by
  obtain ⟨hlo, hhi, -, -⟩ := ha
  exact State.reg_putF_ne _ _ _ _ (by omega)

theorem State.reg_irq_calm (s : State) (p mask : Nat) : (s.irq p mask).reg a = s.reg a := by
  obtain ⟨-, hhi, hoff, -⟩ := ha
  exact s.reg_irq_of_lt p mask (by simp only [Reg.PCIE_PBA]; omega) (by omega)

theorem State.reg_enterBlock_calm (s : State) (p : Nat) (b : Block) : (s.enterBlock p b).reg a = s.reg a := by
  unfold State.enterBlock
  dsimp only
  split
  · rw [State.reg_foldl (fun u q => u.reg_irq_calm ha q _), State.reg_setBlock]
  · rfl

theorem State.reg_stopGrace_calm (s : State) : s.stopGrace.reg a = s.reg a := by
  rw [State.stopGrace, State.reg_putF_calm ha _ _ (.inl (by decide))]; rfl

theorem State.reg_rampActuators_calm (s : State) (cause : Nat) : (s.rampActuators cause).reg a = s.reg a := by
  unfold State.rampActuators
  refine State.reg_foldl (fun u i => ?_) _ s
  split
  · rw [State.reg_irq_calm ha, State.reg_putF_calm ha, State.reg_putF_calm ha]
    all_goals simp only [Reg.GNT_A_STAT_STATE, Reg.GNT_A_STAT_CAUSE, Reg.GNT_A_STAT]; omega
  · rfl

theorem State.reg_enterMode_calm (s : State) (m : Mode) : ((((s.setMode m).endOp 5).stopGrace).rampActuators 4).reg a = s.reg a := by
  rw [State.reg_rampActuators_calm ha, State.reg_stopGrace_calm ha, State.reg_endOp_ne, State.reg_setMode_ne]
  all_goals obtain ⟨hlo, -, -, -⟩ := ha; simp only [Reg.FC_STAT, Reg.DEV_OP]; omega

theorem State.reg_enterSafe_calm (s : State) : s.enterSafe.reg a = s.reg a := by
  unfold State.enterSafe
  split
  case h_6 | h_7 | h_8 => rfl
  all_goals exact s.reg_enterMode_calm ha .safe

theorem State.reg_enterTerminal_calm (s : State) : s.enterTerminal.reg a = s.reg a := by
  unfold State.enterTerminal
  split
  case h_1 | h_2 => rfl
  case h_3 => exact s.reg_enterMode_calm ha .terminal

theorem State.reg_kvUndo_calm (s : State) (k : KvUndo) : (s.kvUndo k).reg a = s.reg a := by
  cases k with
  | page p l page =>
    rw [State.kvUndo, State.freePage, State.kvStackPush, State.reg_of_regs_eq (State.granted_regs ..), State.reg_putF_calm ha]
    · exact State.reg_of_regs_eq (State.write_regs ..) a
    · simp only [Reg.KVP_FL_COUNT_COUNT, Reg.KVP_FL_COUNT]; omega
  | ref page =>
    exact State.reg_of_regs_eq (State.write_regs ..) a

theorem State.reg_kill_calm (s : State) (t start : Nat) (rerun leave : Bool) : (s.kill t start rerun leave).reg a = s.reg a := by
  have hland (u : State) (w : Nat × List Byte) : (u.landSome w).reg a = u.reg a := State.reg_of_regs_eq (u.landSome_regs w) a
  have hentry (u : State) (e : WEntry) : (u.killEntry t e).reg a = u.reg a := by
    rw [State.killEntry, State.reg_foldl (fun u k => u.reg_kvUndo_calm ha k), State.reg_foldl (fun u o => hland u _),
      State.reg_foldl (fun u w => hland u w)]
  unfold State.kill
  dsimp only
  split
  · rfl
  · rw [State.reg_setTile]
    exact State.reg_foldl hentry _ s

theorem State.reg_faultBlock_calm (s : State) (p : Nat) : (s.faultBlock p).reg a = s.reg a := by
  unfold State.faultBlock
  dsimp only
  split_ifs
  · rfl
  · rw [State.reg_kill_calm ha, State.reg_enterBlock_calm ha]
  · rw [State.reg_enterBlock_calm ha]

theorem State.reg_react_calm (s : State) (n : Nat) (cls : Severity) (cause : Nat) : (s.react n cls [] cause).reg a = s.reg a := by
  cases cls with
  | note => rfl
  | corrected => exact s.reg_irq_calm ha ..
  | context => exact s.reg_irq_calm ha ..
  | critical => rw [State.react, State.reg_faultBlock_calm ha, State.reg_enterSafe_calm ha, State.reg_irq_calm ha]
  | terminal => rw [State.react, State.reg_faultBlock_calm ha, State.reg_enterTerminal_calm ha, State.reg_irq_calm ha]

theorem State.reg_raiseOnly_calm (s : State) (n : Nat) (cls : Severity) (cause : Nat) :
    (s.raiseOnly n cls [] cause).reg a = s.reg a := by
  unfold State.raiseOnly
  split
  next hn =>
    have hstick : (s.stick n).reg a = s.reg a := by
      refine s.reg_putF_calm ha 1 (.inl ?_)
      simp [realSource] at hn
      simp only [stickyFld, Reg.FC_STICKY]
      omega
    split
    · exact hstick
    · rw [State.reg_react_calm ha, hstick]
  next => rfl

theorem State.reg_raiseChans_calm (s : State) : s.raiseChans.reg a = s.reg a := by
  unfold State.raiseChans
  split
  · rw [State.reg_raiseOnly_calm ha]; rfl
  · rfl
end

/-! ### The words of sync objects -/

theorem calmWord_synState {i : Nat} (hi : i < 16384) : calmWord (Reg.SYN_STATE i) := by
  unfold calmWord Reg.SYN_STATE; omega

theorem calmWord_synValue {i : Nat} (hi : i < 16384) : calmWord (Reg.SYN_VALUE i) ∧ calmWord (Reg.SYN_VALUE i + 4) := by
  unfold calmWord Reg.SYN_VALUE; omega

/-- States that agree in every calm word show the same sync objects. -/
structure State.SameObjects (s u : State) : Prop where
  calm : ∀ a, calmWord a → u.reg a = s.reg a

theorem State.SameObjects.refl (s : State) : s.SameObjects s := ⟨fun _ _ => rfl⟩

theorem State.SameObjects.trans {s t u : State} (h : s.SameObjects t) (k : t.SameObjects u) : s.SameObjects u :=
  ⟨fun a ha => (k.calm a ha).trans (h.calm a ha)⟩

section
variable {s u : State} (h : s.SameObjects u) {i : Nat} (hi : i < 16384)
include h hi

theorem State.SameObjects.stateWord {f : Fld} (ha : f.addr = Reg.SYN_STATE i) (hf : f.hi < 32) : u.getF f = s.getF f :=
  State.getF_of_reg_eq hf (h.calm _ (ha ▸ calmWord_synState hi))

theorem State.SameObjects.syncState : u.syncState i = s.syncState i := h.stateWord hi rfl (by simp [Reg.SYN_STATE_STATE])

theorem State.SameObjects.syncValue : u.syncValue i = s.syncValue i := by
  obtain ⟨hlow, hhigh⟩ := calmWord_synValue hi
  simp only [State.syncValue, State.getF, State.regNat, Reg.SYN_VALUE_VALUE, Nat.reduceDiv, Nat.mul_zero, Nat.add_zero,
    h.calm _ hlow, h.calm _ hhigh]
end

/-! ### What an update of an object does to the objects -/

theorem State.sameObjects_raiseChans (s : State) : s.SameObjects s.raiseChans := ⟨fun _ ha => s.reg_raiseChans_calm ha⟩

theorem State.leaveTile_regs (s : State) (c : Nat) : (s.leaveTile c).regs = s.regs := by
  unfold State.leaveTile; split <;> rfl

theorem State.store_regs (s : State) (a : Nat) (l : List Byte) : (s.store a l).regs = s.regs := by
  rw [State.store_eq]

theorem State.record_regs (s : State) (c : Nat) (cmd : Cmd) (status flags : Nat) : (s.record c cmd status flags).regs = s.regs := by
  unfold State.record
  dsimp only
  split
  · exact s.store_regs ..
  · rfl

theorem State.reg_holdIfDrained_calm (s : State) (c : Nat) {a : Nat} (ha : calmWord a) : (s.holdIfDrained c).reg a = s.reg a := by
  unfold State.holdIfDrained
  dsimp only
  split
  · rw [State.reg_irq_calm ha]
    exact State.reg_of_regs_eq (s.leaveTile_regs c) a
  · rfl

theorem State.reg_holdCtx_calm (s : State) (c cause : Nat) {a : Nat} (ha : calmWord a) : (s.holdCtx c cause).reg a = s.reg a := by
  unfold State.holdCtx
  dsimp only
  split
  · rw [State.reg_holdIfDrained_calm _ _ ha]; rfl
  · rfl

theorem State.reg_endBrokenWait_calm (s : State) (c : Nat) {a : Nat} (ha : calmWord a) : (s.endBrokenWait c).reg a = s.reg a := by
  unfold State.endBrokenWait
  dsimp only
  split
  · split
    · rw [State.reg_holdCtx_calm _ _ _ ha, State.reg_of_regs_eq (State.record_regs ..)]
    · rfl
  · rfl

theorem State.reg_syncSeen_calm (s : State) (c i : Nat) {a : Nat} (ha : calmWord a) : (s.syncSeen c i).reg a = s.reg a := by
  unfold State.syncSeen
  dsimp only
  split
  · rw [State.reg_endBrokenWait_calm _ _ ha]; rfl
  · rfl

theorem State.reg_noteChans_calm (s : State) (i : Nat) {a : Nat} (ha : calmWord a) : (s.noteChans i).reg a = s.reg a := by
  have hmark (u : State) (e : Nat × WwChan) :
      ((u.putF (Reg.TIER_WW_STAT_STATE e.1) 4).putF (Reg.TIER_WW_STAT_ERR e.1) 6).reg a = u.reg a := by
    obtain ⟨-, -, -, hdone⟩ := ha
    rw [State.reg_putF_ne, State.reg_putF_ne]
    all_goals simp only [Reg.TIER_WW_STAT_STATE, Reg.TIER_WW_STAT_ERR, Reg.TIER_WW_STAT]; omega
  unfold State.noteChans
  dsimp only
  split_ifs
  · rfl
  · rfl
  · exact State.reg_foldl hmark _ s

theorem State.sameObjects_syncUpdated (s : State) (i : Nat) : s.SameObjects (s.syncUpdated i) := ⟨fun a ha => by
  rw [State.syncUpdated, State.reg_foldl (f := fun t (e : Nat × Ctx) => t.syncSeen e.1 i) (fun u e => u.reg_syncSeen_calm e.1 i ha), State.reg_noteChans_calm _ _ ha]⟩

/-! ### Writes of one object's words -/

section
variable (s : State) {i k : Nat}

theorem State.syncState_putState (hi : i < 16384) (hk : k < 16384) (v : Nat) :
    (s.putF (Reg.SYN_STATE_STATE i) v).syncState k = if k = i then v % 4 else s.syncState k := by
  split_ifs with h
  · subst h; exact State.getF_putF _ _ _ (Nat.le_of_ble_eq_true rfl)
  · refine State.getF_putF_other (f := Reg.SYN_STATE_STATE i) (g := Reg.SYN_STATE_STATE k) _ v (by simp [Reg.SYN_STATE_STATE])
      (by simp [Reg.SYN_STATE_STATE]) ?_
    simp only [Reg.SYN_STATE_STATE, Reg.SYN_STATE]; omega

theorem State.syncState_putValue (v : Nat) :
    (s.putF (Reg.SYN_VALUE_VALUE i) v).syncState k = s.syncState k := by
  refine State.getF_putF_ne _ (Reg.SYN_VALUE_VALUE i) (Reg.SYN_STATE_STATE k) _ ?_
  simp only [Reg.SYN_STATE_STATE, Reg.SYN_STATE, Reg.SYN_VALUE_VALUE, Reg.SYN_VALUE]; omega

theorem State.syncValue_putValue (hi : i < 16384) (hk : k < 16384) (v : Nat) :
    (s.putF (Reg.SYN_VALUE_VALUE i) v).syncValue k = if k = i then v % 2 ^ 64 else s.syncValue k := by
  split_ifs with h
  · subst h; exact State.getF_putF _ _ _ (Nat.zero_le _)
  · refine State.getF_putF_ne _ (Reg.SYN_VALUE_VALUE i) (Reg.SYN_VALUE_VALUE k) _ ?_
    simp only [Reg.SYN_VALUE_VALUE, Reg.SYN_VALUE]; omega

/-- A field of another word than the object's value leaves the value. -/
theorem State.syncValue_putF {f : Fld} (hf : f.hi < 32) (v : Nat) (h : f.addr < Reg.SYN_VALUE k ∨ Reg.SYN_VALUE k + 4 < f.addr) :
    (s.putF f v).syncValue k = s.syncValue k := by
  refine State.getF_putF_ne _ f (Reg.SYN_VALUE_VALUE k) _ ?_
  simp only [Reg.SYN_VALUE_VALUE]; omega

theorem State.syncValue_putStateWord {f : Fld} (hf : f.hi < 32) (ha : f.addr = Reg.SYN_STATE i) (v : Nat) :
    (s.putF f v).syncValue k = s.syncValue k := by
  refine s.syncValue_putF hf v ?_
  rw [ha]; simp only [Reg.SYN_STATE, Reg.SYN_VALUE]; omega
end

/-! ### Signals -/

theorem State.syncAdd_adds {s : State} {i n : Nat} (hlive : s.syncState i = 1) (hfit : s.syncValue i + n < 2 ^ 64) :
    s.syncAdd i n = (s.putF (Reg.SYN_VALUE_VALUE i) (s.syncValue i + n)).syncUpdated i := by
  have hno : s.addOverflows i n = false := by simp only [State.addOverflows, hlive]; simpa using hfit
  rw [State.syncAdd, hno]; simp [hlive]

theorem State.syncAdd_poisons {s : State} {i n : Nat} (hlive : s.syncState i = 1) (hover : 2 ^ 64 ≤ s.syncValue i + n) :
    s.syncAdd i n = s.poison i := by
  have hyes : s.addOverflows i n = true := by simp only [State.addOverflows, hlive]; simpa using hover
  rw [State.syncAdd, hyes]; simp [hlive]

theorem State.syncAdd_drops {s : State} {i : Nat} (n : Nat) (h : s.syncState i ≠ 1) : s.syncAdd i n = s.dropSignal i := by
  rw [State.syncAdd, if_pos (by simpa using h)]

theorem State.syncAdd_adds_objects {s : State} {i n k : Nat} (hi : i < 16384) (hk : k < 16384) (hlive : s.syncState i = 1)
    (hfit : s.syncValue i + n < 2 ^ 64) : (s.syncAdd i n).syncState k = s.syncState k ∧
      (s.syncAdd i n).syncValue k = if k = i then s.syncValue i + n else s.syncValue k := by
  have hsame := (s.putF (Reg.SYN_VALUE_VALUE i) (s.syncValue i + n)).sameObjects_syncUpdated i
  rw [State.syncAdd_adds hlive hfit, hsame.syncState hk, hsame.syncValue hk, State.syncState_putValue,
    State.syncValue_putValue _ hi hk, Nat.mod_eq_of_lt hfit]
  exact ⟨rfl, rfl⟩

theorem State.poison_objects (s : State) {i k : Nat} (hi : i < 16384) (hk : k < 16384) :
    (s.poison i).syncState k = (if k = i then 2 else s.syncState k) ∧ (s.poison i).syncValue k = s.syncValue k := by
  have hsame := (s.putF (Reg.SYN_STATE_STATE i) 2).sameObjects_syncUpdated i
  rw [State.poison, hsame.syncState hk, hsame.syncValue hk, State.syncState_putState _ hi hk,
    State.syncValue_putStateWord _ (by simp [Reg.SYN_STATE_STATE]) rfl]
  exact ⟨rfl, rfl⟩

theorem State.dropSignal_objects (s : State) (i k : Nat) :
    (s.dropSignal i).syncState k = s.syncState k ∧ (s.dropSignal i).syncValue k = s.syncValue k := by
  rw [State.dropSignal, State.satInc]
  constructor
  · refine State.getF_putF_other (f := Reg.SYN_DROPS_COUNT (i / 256)) (g := Reg.SYN_STATE_STATE k) _ _ (by simp [Reg.SYN_DROPS_COUNT])
      (by simp [Reg.SYN_STATE_STATE]) ?_
    simp only [Reg.SYN_DROPS_COUNT, Reg.SYN_DROPS, Reg.SYN_STATE_STATE, Reg.SYN_STATE]; omega
  · refine s.syncValue_putF (by simp [Reg.SYN_DROPS_COUNT]) _ ?_
    simp only [Reg.SYN_DROPS_COUNT, Reg.SYN_DROPS, Reg.SYN_VALUE]; omega

/-- Settles O38: by the three cases of an ADD. -/
theorem signalsAddPoisonOrDrop : Obligations.SignalsAddPoisonOrDrop := by
  unfold Obligations.SignalsAddPoisonOrDrop
  intro s i n hi _
  refine ⟨fun hlive hfit => ?_, fun hlive hover => ?_, fun hdead => ?_, fun k hk hne => ?_⟩
  · obtain ⟨hstate, hvalue⟩ := State.syncAdd_adds_objects hi hi hlive hfit
    exact ⟨hvalue.trans (if_pos rfl), hstate.trans hlive⟩
  · obtain ⟨hstate, hvalue⟩ := s.poison_objects hi hi
    rw [State.syncAdd_poisons hlive hover]
    exact ⟨hvalue, hstate.trans (if_pos rfl)⟩
  · obtain ⟨hstate, hvalue⟩ := s.dropSignal_objects i i
    rw [State.syncAdd_drops n hdead]
    exact ⟨hvalue, hstate, State.getF_satInc _ _ _ (Nat.zero_le _)⟩
  · by_cases hlive : s.syncState i = 1
    · by_cases hfit : s.syncValue i + n < 2 ^ 64
      · obtain ⟨hstate, hvalue⟩ := State.syncAdd_adds_objects hi hk hlive hfit
        exact ⟨hvalue.trans (if_neg hne), hstate⟩
      · obtain ⟨hstate, hvalue⟩ := s.poison_objects hi hk
        rw [State.syncAdd_poisons hlive (not_lt.mp hfit)]
        exact ⟨hvalue, hstate.trans (if_neg hne)⟩
    · obtain ⟨hstate, hvalue⟩ := s.dropSignal_objects i k
      rw [State.syncAdd_drops n hlive]
      exact ⟨hvalue, hstate⟩

/-! ### The registers of the objects -/

/-- A double-word access that is taken is answered with 0 and no words. -/
theorem accessWide_does {s : State} {req : Requester} {a v : Nat} {f : State → State} (h : s.TakesWide req a v) :
    whenLive (fun s => s.accessWide req a v f) s = .next (s.inside ((f s).respond req 0 [])) := by
  obtain ⟨hlive, hturn, hlow, hhigh⟩ := h
  rw [whenLive_live hlive, State.accessWide, hturn, hlow, hhigh]

theorem exec_synAdd {s : State} {req : Requester} {p idx n : Nat} (hp : p < 64) (hidx : idx < 256) (hn : n < 2 ^ 32)
    (h : s.TakesWide req (Reg.SYN_ADD p) (idx + n * 2 ^ 32)) :
    exec (.synAdd req p idx n) s = .next (s.inside ((s.wrSynAdd req p (idx + n * 2 ^ 32)).respond req 0 [])) := by
  have hrun : exec (.synAdd req p idx n) s = execSynAdd req p idx n s := rfl
  rw [hrun, execSynAdd, Nat.mod_eq_of_lt hidx, Nat.mod_eq_of_lt hn, whenLive_live h.1, decide_eq_true hp, State.guard_true,
    ← whenLive_live (f := fun s => s.accessWide req (Reg.SYN_ADD p) (idx + n * 2 ^ 32) _) h.1, accessWide_does h]

theorem exec_synValueWrite {s : State} {req : Requester} {i v : Nat} (hi : i < 16384) (hv : v < 2 ^ 64)
    (h : s.TakesWide req (Reg.SYN_VALUE i) v) :
    exec (.synValueWrite req i v) s = .next (s.inside ((s.setSignal (syncPortOf req) i v).respond req 0 [])) := by
  have hrun : exec (.synValueWrite req i v) s = execSynValueWrite req i v s := rfl
  rw [hrun, execSynValueWrite, Nat.mod_eq_of_lt hv, whenLive_live h.1, decide_eq_true hi, State.guard_true,
    ← whenLive_live (f := fun s => s.accessWide req (Reg.SYN_VALUE i) v _) h.1, accessWide_does h]

theorem exec_synStateWrite {s : State} {req : Requester} {i state owner v : Nat} (hi : i < 16384) (hs : state < 4) (ho : owner < 4096)
    (hv : v = state * 2 ^ 30 + owner * 2 ^ 16) (h : s.Takes req (Reg.SYN_STATE i) v) :
    exec (.synStateWrite req i state owner) s = .next (s.inside ((s.wrSynState i v).respond req 0 [])) := by
  have hrun : exec (.synStateWrite req i state owner) s = execSynStateWrite req i state owner s := rfl
  rw [hrun, execSynStateWrite, Nat.mod_eq_of_lt hs, Nat.mod_eq_of_lt ho, ← hv, whenLive_live h.1, decide_eq_true hi, State.guard_true,
    ← whenLive_live (f := fun s => s.access req (Reg.SYN_STATE i) v _) h.1, access_does h]

theorem State.wrSynAdd_zero {s : State} (req : Requester) (p : Nat) {idx : Nat} (hidx : idx < 256) : s.wrSynAdd req p idx = s := by
  rw [State.wrSynAdd, if_pos (Nat.div_eq_of_lt (by omega))]

theorem State.wrSynAdd_signal {s : State} (req : Requester) (p : Nat) {idx n : Nat} (hidx : idx < 256) (hn : 0 < n) (hlt : n < 2 ^ 32) :
    s.wrSynAdd req p (idx + n * 2 ^ 32) = s.signal (syncPortOf req) (256 * p + idx) n := by
  have hamount : (idx + n * 2 ^ 32) / 2 ^ 32 = n := by omega
  have hindex : bits (idx + n * 2 ^ 32) 7 0 = idx := by rw [bits]; omega
  rw [State.wrSynAdd, hamount, hindex, if_neg hn.ne', Nat.mod_eq_of_lt hlt]

/-- What a write of STATE and OWNER makes of an object. -/
def State.owned (s : State) (i state owner : Nat) : State :=
  (s.putF (Reg.SYN_STATE_STATE i) state).putF (Reg.SYN_STATE_OWNER_CTX i) owner

theorem bits_synState {state owner : Nat} (hs : state < 2) (ho : owner < 4096) :
    bits (state * 2 ^ 30 + owner * 2 ^ 16) 31 30 = state ∧ bits (state * 2 ^ 30 + owner * 2 ^ 16) 27 16 = owner := by
  simp only [bits]; omega

theorem State.owned_objects (s : State) {i state owner : Nat} (hi : i < 16384) (hs : state < 4) (ho : owner < 4096) :
    (s.owned i state owner).syncState i = state ∧ (s.owned i state owner).syncValue i = s.syncValue i ∧
      (s.owned i state owner).getF (Reg.SYN_STATE_OWNER_CTX i) = owner := by
  rw [State.owned]
  refine ⟨?_, ?_, ?_⟩
  · refine (State.getF_putF_word (f := Reg.SYN_STATE_OWNER_CTX i) (g := Reg.SYN_STATE_STATE i) _ owner rfl ?_ ?_ ?_ ?_).trans
      ((s.syncState_putState hi hi state).trans ?_)
    · simp [Reg.SYN_STATE_OWNER_CTX]
    · simp [Reg.SYN_STATE_STATE]
    · simp [Reg.SYN_STATE_OWNER_CTX]
    · simp [Reg.SYN_STATE_OWNER_CTX, Reg.SYN_STATE_STATE]
    · rw [if_pos rfl, Nat.mod_eq_of_lt hs]
  · rw [State.syncValue_putStateWord _ (i := i) (by simp [Reg.SYN_STATE_OWNER_CTX]) rfl,
      State.syncValue_putStateWord _ (i := i) (by simp [Reg.SYN_STATE_STATE]) rfl]
  · exact (State.getF_putF _ _ _ (by simp [Reg.SYN_STATE_OWNER_CTX])).trans (Nat.mod_eq_of_lt ho)

theorem State.wrSynState_live {s : State} {i owner : Nat} (ho : owner < 4096) (h : s.syncState i ≠ 1) :
    s.wrSynState i (1 * 2 ^ 30 + owner * 2 ^ 16) =
      (((s.owned i 1 owner).putF (Reg.SYN_VALUE_VALUE i) 0).syncUpdated i).raiseChans := by
  obtain ⟨hstate, howner⟩ := bits_synState (state := 1) (by decide) ho
  rw [State.wrSynState, hstate, howner, if_pos ⟨rfl, h⟩, State.owned]

theorem State.wrSynState_free {s : State} {i owner : Nat} (ho : owner < 4096) (h : s.syncState i ≠ 0) :
    s.wrSynState i (0 * 2 ^ 30 + owner * 2 ^ 16) = ((s.owned i 0 owner).syncUpdated i).raiseChans := by
  obtain ⟨hstate, howner⟩ := bits_synState (state := 0) (by decide) ho
  rw [State.wrSynState, hstate, howner, if_neg (by simp), if_pos ⟨rfl, h⟩, State.owned]

theorem State.wrSynState_alike {s : State} {i owner : Nat} (ho : owner < 4096) (h : s.syncState i = 1) :
    s.wrSynState i (1 * 2 ^ 30 + owner * 2 ^ 16) = s := by
  obtain ⟨hstate, -⟩ := bits_synState (state := 1) (by decide) ho
  rw [State.wrSynState, hstate, if_neg (by simp [h]), if_neg (by simp)]

@[simp] theorem State.syncState_answered (s t : State) (req : Requester) (n : Nat) (l : List Nat) (i : Nat) :
    (s.inside (t.respond req n l)).syncState i = t.syncState i := by simp [State.syncState]
@[simp] theorem State.syncValue_answered (s t : State) (req : Requester) (n : Nat) (l : List Nat) (i : Nat) :
    (s.inside (t.respond req n l)).syncValue i = t.syncValue i := by simp [State.syncValue]

/-- Settles O37. -/
theorem syncObjectWritesComplete : Obligations.SyncObjectWritesComplete := by
  unfold Obligations.SyncObjectWritesComplete
  refine ⟨?add, ?addZero, ?value, ?live, ?free, ?alike⟩
  case add =>
    intro s req p idx n hp hidx hpos hn h
    rw [Does, exec_synAdd hp hidx hn h, State.wrSynAdd_signal req p hidx hpos hn]
  case addZero =>
    intro s req p idx hp hidx h
    have h0 : idx + 0 * 2 ^ 32 = idx := by omega
    rw [Does, exec_synAdd hp hidx (by decide) (by rwa [h0]), h0, State.wrSynAdd_zero req p hidx]
  case value =>
    intro s req i v hi hv h
    exact exec_synValueWrite hi hv h
  case live =>
    intro s req i owner hi ho h hne
    obtain ⟨hstate, -, howner⟩ := s.owned_objects (state := 1) hi (by decide) ho
    have hsame := (((s.owned i 1 owner).putF (Reg.SYN_VALUE_VALUE i) 0).sameObjects_syncUpdated i).trans (State.sameObjects_raiseChans _)
    refine ⟨_, exec_synStateWrite (state := 1) hi (by decide) ho (by omega) h, ?_, ?_, ?_⟩
    · rw [State.syncState_answered, ← Nat.one_mul (2 ^ 30), State.wrSynState_live ho hne, hsame.syncState hi,
        State.syncState_putValue, hstate]
    · rw [State.syncValue_answered, ← Nat.one_mul (2 ^ 30), State.wrSynState_live ho hne, hsame.syncValue hi,
        State.syncValue_putValue _ hi hi, if_pos rfl, Nat.zero_mod]
    · rw [State.getF_inside, State.getF_respond, ← Nat.one_mul (2 ^ 30), State.wrSynState_live ho hne,
        hsame.stateWord hi rfl (by simp [Reg.SYN_STATE_OWNER_CTX])]
      refine (State.getF_putF_ne _ (Reg.SYN_VALUE_VALUE i) (Reg.SYN_STATE_OWNER_CTX i) _ ?_).trans howner
      simp only [Reg.SYN_STATE_OWNER_CTX, Reg.SYN_STATE, Reg.SYN_VALUE_VALUE, Reg.SYN_VALUE]; omega
  case free =>
    intro s req i owner hi ho h hne
    obtain ⟨hstate, hvalue, -⟩ := s.owned_objects (state := 0) hi (by decide) ho
    have hsame := ((s.owned i 0 owner).sameObjects_syncUpdated i).trans (State.sameObjects_raiseChans _)
    refine ⟨_, exec_synStateWrite (state := 0) hi (by decide) ho (v := 0 * 2 ^ 30 + owner * 2 ^ 16) rfl (by simpa using h), ?_, ?_⟩
    · rw [State.syncState_answered, State.wrSynState_free ho hne, hsame.syncState hi, hstate]
    · rw [State.syncValue_answered, State.wrSynState_free ho hne, hsame.syncValue hi, hvalue]
  case alike =>
    intro s req i owner hi ho h hlive
    have hrun := exec_synStateWrite (state := 1) hi (by decide) ho rfl (by rwa [Nat.one_mul])
    rw [Does, hrun, State.wrSynState_alike ho hlive]

end Sys2Proof.Machine
end

section
/-! Operations on contexts: SCH_CMD and its result register. -/

namespace Sys2Proof.Machine

/-! ### Contexts and tiles -/

@[simp] theorem State.ctx_setCtx_same (s : State) (c : Nat) (x : Ctx) : (s.setCtx c x).ctx c = x := Sparse.get_set_same ..
theorem State.ctx_setCtx_ne (s : State) {c k : Nat} (x : Ctx) (h : k ≠ c) : (s.setCtx c x).ctx k = s.ctx k := Sparse.get_set_ne _ _ _ h
@[simp] theorem State.tile_setTile_same (s : State) (t : Nat) (x : Tile) : (s.setTile t x).tile t = x := Sparse.get_set_same ..
theorem State.tile_setTile_ne (s : State) {t k : Nat} (x : Tile) (h : k ≠ t) : (s.setTile t x).tile k = s.tile k :=
  Sparse.get_set_ne _ _ _ h

theorem State.ctx_of_sch {s u : State} (h : u.sch = s.sch) (c : Nat) : u.ctx c = s.ctx c := by rw [State.ctx, State.ctx, h]
theorem State.tile_of_sch {s u : State} (h : u.sch = s.sch) (t : Nat) : u.tile t = s.tile t := by rw [State.tile, State.tile, h]

@[simp] theorem State.ctx_setTile (s : State) (t c : Nat) (x : Tile) : (s.setTile t x).ctx c = s.ctx c := rfl
@[simp] theorem State.tile_setCtx (s : State) (c t : Nat) (x : Ctx) : (s.setCtx c x).tile t = s.tile t := rfl
@[simp] theorem State.ctx_putF (s : State) (f : Fld) (v c : Nat) : (s.putF f v).ctx c = s.ctx c := State.ctx_of_sch (by simp) c
@[simp] theorem State.tile_putF (s : State) (f : Fld) (v t : Nat) : (s.putF f v).tile t = s.tile t := State.tile_of_sch (by simp) t
@[simp] theorem State.ctx_inside (s t : State) (c : Nat) : (s.inside t).ctx c = t.ctx c := State.ctx_of_sch (by simp) c
@[simp] theorem State.tile_inside (s t : State) (k : Nat) : (s.inside t).tile k = t.tile k := State.tile_of_sch (by simp) k
@[simp] theorem State.ctx_respond (s : State) (req : Requester) (n : Nat) (l : List Nat) (c : Nat) :
    (s.respond req n l).ctx c = s.ctx c := State.ctx_of_sch (by simp) c
@[simp] theorem State.tile_respond (s : State) (req : Requester) (n : Nat) (l : List Nat) (t : Nat) :
    (s.respond req n l).tile t = s.tile t := State.tile_of_sch (by simp) t

/-! ### The result register -/

section
variable (s : State) (p op result arg : Nat)

@[simp] theorem State.schResult_mem : (s.schResult p op result arg).mem = s.mem := by simp [State.schResult]
@[simp] theorem State.schResult_sch : (s.schResult p op result arg).sch = s.sch := by simp [State.schResult]
@[simp] theorem State.ctx_schResult (c : Nat) : (s.schResult p op result arg).ctx c = s.ctx c := State.ctx_of_sch (by simp) c

theorem State.reg_schResult_ne {a : Nat} (h : a ≠ Reg.SCH_RES p) : (s.schResult p op result arg).reg a = s.reg a := by
  rw [State.schResult, State.reg_putF_ne, State.reg_putF_ne, State.reg_putF_ne]
  all_goals simp only [Reg.SCH_RES_OP, Reg.SCH_RES_RESULT, Reg.SCH_RES_ARG]; omega

theorem State.getF_schResult : (s.schResult p op result arg).getF (Reg.SCH_RES_OP p) = op % 16 ∧
    (s.schResult p op result arg).getF (Reg.SCH_RES_RESULT p) = result % 16 ∧
    (s.schResult p op result arg).getF (Reg.SCH_RES_ARG p) = arg % 4096 := by
  have hsame (u : State) (f g : Fld) (v : Nat) (ha : g.addr = f.addr) (hf : f.hi < 32) (hg : g.hi < 32) (h : f.lo ≤ f.hi)
      (hd : g.hi < f.lo ∨ f.hi < g.lo) : (u.putF f v).getF g = u.getF g := u.getF_putF_word v ha hf hg h hd
  rw [State.schResult]
  refine ⟨?_, ?_, State.getF_putF _ _ _ (by simp [Reg.SCH_RES_ARG])⟩
  · rw [hsame _ (Reg.SCH_RES_ARG p), hsame _ (Reg.SCH_RES_RESULT p)]
    · exact State.getF_putF _ _ _ (by simp [Reg.SCH_RES_OP])
    all_goals simp [Reg.SCH_RES_OP, Reg.SCH_RES_RESULT, Reg.SCH_RES_ARG]
  · rw [hsame _ (Reg.SCH_RES_ARG p)]
    · exact State.getF_putF _ _ _ (by simp [Reg.SCH_RES_RESULT])
    all_goals simp [Reg.SCH_RES_RESULT, Reg.SCH_RES_ARG]
end

/-! ### SCH_CMD -/

/-- What a write of an operation to SCH_CMD does: it carries the operation out and shows its result. -/
def State.schAnswer (s : State) (req : Requester) (p op arg : Nat) (r : Nat × State) : State :=
  s.inside ((r.2.schResult p op r.1 arg).respond req 0 [])

theorem State.schOp_does {s : State} {req : Requester} {p op arg : Nat} {r : Nat × State} (hp : p < 8) (hop : op < 16) (harg : arg < 4096)
    (h : s.Takes req (Reg.SCH_CMD p) (op * 2 ^ 28 + arg)) (hr : s.wrSchCmd p (op * 2 ^ 28 + arg) = r.2.schResult p op r.1 arg) :
    whenLive (fun s => s.schOp req p op arg) s = .next (s.schAnswer req p op arg r) := by
  have hword : schWord op arg = op * 2 ^ 28 + arg := by rw [schWord, Nat.mod_eq_of_lt hop, Nat.mod_eq_of_lt harg]
  rw [whenLive_live h.1, State.schOp, decide_eq_true hp, State.guard_true, hword,
    ← whenLive_live (f := fun s => s.access req (Reg.SCH_CMD p) (op * 2 ^ 28 + arg) _) h.1, access_does h, hr, State.schAnswer]

theorem bits_schWord {op arg : Nat} (hop : op < 16) (harg : arg < 4096) :
    bits (op * 2 ^ 28 + arg) 31 28 = op ∧ bits (op * 2 ^ 28 + arg) 11 0 = arg := by
  simp only [bits]; omega

section
variable {s : State} {req : Requester} {p c : Nat} (hp : p < 8) (hc : c < 4096)
include hp hc

theorem exec_activate (h : s.Takes req (Reg.SCH_CMD p) (1 * 2 ^ 28 + c)) :
    exec (.activate req p c) s = .next (s.schAnswer req p 1 c (s.activate p c)) := by
  obtain ⟨hop, harg⟩ := bits_schWord (op := 1) (by decide) hc
  exact State.schOp_does hp (by decide) hc h (by rw [State.wrSchCmd, hop, harg]; rfl)

theorem exec_update (h : s.Takes req (Reg.SCH_CMD p) (2 * 2 ^ 28 + c)) :
    exec (.update req p c) s = .next (s.schAnswer req p 2 c (s.updateCtx p c)) := by
  obtain ⟨hop, harg⟩ := bits_schWord (op := 2) (by decide) hc
  exact State.schOp_does hp (by decide) hc h (by rw [State.wrSchCmd, hop, harg]; rfl)

theorem exec_hold (h : s.Takes req (Reg.SCH_CMD p) (3 * 2 ^ 28 + c)) :
    exec (.hold req p c) s = .next (s.schAnswer req p 3 c (s.holdOp p c)) := by
  obtain ⟨hop, harg⟩ := bits_schWord (op := 3) (by decide) hc
  exact State.schOp_does hp (by decide) hc h (by rw [State.wrSchCmd, hop, harg]; rfl)

theorem exec_release (h : s.Takes req (Reg.SCH_CMD p) (4 * 2 ^ 28 + c)) :
    exec (.release req p c) s = .next (s.schAnswer req p 4 c (s.releaseOp p c)) := by
  obtain ⟨hop, harg⟩ := bits_schWord (op := 4) (by decide) hc
  exact State.schOp_does hp (by decide) hc h (by rw [State.wrSchCmd, hop, harg]; rfl)

theorem exec_teardown (h : s.Takes req (Reg.SCH_CMD p) (5 * 2 ^ 28 + c)) :
    exec (.teardown req p c) s = .next (s.schAnswer req p 5 c (s.teardownOp p c)) := by
  obtain ⟨hop, harg⟩ := bits_schWord (op := 5) (by decide) hc
  exact State.schOp_does hp (by decide) hc h (by rw [State.wrSchCmd, hop, harg]; rfl)

theorem exec_retire (h : s.Takes req (Reg.SCH_CMD p) (6 * 2 ^ 28 + c)) :
    exec (.retire req p c) s = .next (s.schAnswer req p 6 c (s.retireOp p c)) := by
  obtain ⟨hop, harg⟩ := bits_schWord (op := 6) (by decide) hc
  exact State.schOp_does hp (by decide) hc h (by rw [State.wrSchCmd, hop, harg]; rfl)

theorem exec_modelApply (hm : c < 256) (h : s.Takes req (Reg.SCH_CMD p) (7 * 2 ^ 28 + c)) :
    exec (.modelApply req p c) s = .next (s.schAnswer req p 7 c (s.applyModel p c)) := by
  obtain ⟨hop, harg⟩ := bits_schWord (op := 7) (by decide) hc
  have hrun : exec (.modelApply req p c) s = whenLive (fun s => s.schOp req p 7 (c % 256)) s := rfl
  rw [hrun, Nat.mod_eq_of_lt hm]
  exact State.schOp_does hp (by decide) hc h (by rw [State.wrSchCmd, hop, harg, Nat.mod_eq_of_lt hm]; rfl)
end

/-! ### Operations that the context's state allows or forbids -/

theorem State.ctxOp_ok {s : State} {p c : Nat} {ok : CtxState → Bool} (f : State → State)
    (hpart : (s.ctx c).state = .free ∨ (s.ctx c).part = p) (hok : ok (s.ctx c).state = true) : s.ctxOp p c ok f = (0, f s) := by
  rw [State.ctxOp]
  rw [if_neg (by tauto), if_pos hok]

theorem State.ctxOp_forbidden {s : State} {p c : Nat} {ok : CtxState → Bool} (f : State → State)
    (hpart : (s.ctx c).state = .free ∨ (s.ctx c).part = p) (hno : ok (s.ctx c).state = false) : s.ctxOp p c ok f = (1, s) := by
  rw [State.ctxOp]
  rw [if_neg (by tauto), hno]; rfl

/-- An operation that only answers changes the result register and nothing else. -/
theorem State.schAnswer_only (s : State) (req : Requester) {p op arg : Nat} (result : Nat) :
    let u := s.schAnswer req p op arg (result, s)
    u.getF (Reg.SCH_RES_RESULT p) = result % 16 ∧ u.getF (Reg.SCH_RES_OP p) = op % 16 ∧ u.getF (Reg.SCH_RES_ARG p) = arg % 4096 ∧
      u.sch = s.sch ∧ u.mem = s.mem ∧ ∀ a, a ≠ Reg.SCH_RES p → u.reg a = s.reg a := by
  obtain ⟨hop, hresult, harg⟩ := s.getF_schResult p op result arg
  refine ⟨?_, ?_, ?_, ?_, ?_, fun a ha => ?_⟩
  · rw [State.schAnswer, State.getF_inside, State.getF_respond, hresult]
  · rw [State.schAnswer, State.getF_inside, State.getF_respond, hop]
  · rw [State.schAnswer, State.getF_inside, State.getF_respond, harg]
  · simp [State.schAnswer]
  · simp [State.schAnswer]
  · rw [State.schAnswer, State.reg_inside, State.reg_respond, State.reg_schResult_ne _ _ _ _ _ ha]

/-- Settles O45. -/
theorem forbiddenOperationsOnlyAnswer : Obligations.ForbiddenOperationsOnlyAnswer := by
  unfold Obligations.ForbiddenOperationsOnlyAnswer
  intro s req p c n k hp hc h hpart hk
  have honly (op : Nat) (hop : op < 16) := s.schAnswer_only req (p := p) (op := op) (arg := c) 1
  suffices hrun : n < 16 ∧ exec k s = .next (s.schAnswer req p n c (1, s)) by
    obtain ⟨hn, hrun⟩ := hrun
    obtain ⟨hresult, hop, harg, hrest⟩ := honly n hn
    exact ⟨_, hrun, hresult, hop.trans (Nat.mod_eq_of_lt hn), harg.trans (Nat.mod_eq_of_lt hc), hrest⟩
  rcases hk with ⟨rfl, rfl, hactive, hheld⟩ | ⟨rfl, rfl, hheld⟩ | ⟨rfl, rfl, hfree⟩ | ⟨rfl, rfl, htorn⟩
  · exact ⟨by decide, by rw [exec_hold hp hc h, State.holdOp, State.ctxOp_forbidden _ hpart (by simp [hactive, hheld])]⟩
  · exact ⟨by decide, by rw [exec_release hp hc h, State.releaseOp, State.ctxOp_forbidden _ hpart (by simp [hheld])]⟩
  · exact ⟨by decide, by rw [exec_teardown hp hc h, State.teardownOp, State.ctxOp_forbidden _ hpart (by simp [hfree])]⟩
  · exact ⟨by decide, by rw [exec_retire hp hc h, State.retireOp, State.ctxOp_forbidden _ hpart (by simp [htorn])]⟩

/-! ### ACTIVATE and UPDATE -/

/-- A raised virtual time changes the context's virtual time and nothing else. -/
theorem State.raiseVt_eq (s : State) (c : Nat) : ∃ v, s.raiseVt c = s ∨ s.raiseVt c = s.setCtx c { s.ctx c with vt := v } := by
  unfold State.raiseVt
  dsimp only
  split
  · exact ⟨_, .inr rfl⟩
  · exact ⟨0, .inl rfl⟩

theorem State.raiseVt_spec (s : State) (c : Nat) : (∃ v, (s.raiseVt c).ctx c = { s.ctx c with vt := v }) ∧
    (∀ k, k ≠ c → (s.raiseVt c).ctx k = s.ctx k) ∧ (s.raiseVt c).mem = s.mem := by
  obtain ⟨v, h | h⟩ := s.raiseVt_eq c <;> rw [h]
  · exact ⟨⟨(s.ctx c).vt, rfl⟩, fun _ _ => rfl, rfl⟩
  · exact ⟨⟨v, s.ctx_setCtx_same ..⟩, fun k hk => s.ctx_setCtx_ne _ hk, rfl⟩

/-- A context as an ACTIVATE of partition `p` makes it from its row. -/
def freshCtx (p : Nat) (l : List Byte) : Ctx where
  state := .active
  part := p
  entry := entryOf l
  next := entryBits l 0 8 47 0
  seq := leField l 8 2

theorem State.activate_ok {s : State} {p c : Nat} (hreach : s.schReach (s.ctxAddr c) 64 false = true) (hfree : (s.ctx c).state = .free)
    (hpart : rowPart (s.ctxRow c) = p) (hrow : s.ctxRowOk (s.ctxRow c) p = true) :
    s.activate p c = (0, (s.setCtx c (freshCtx p (s.ctxRow c))).raiseVt c) := by
  rw [State.activate]
  rw [if_neg (by simp [hreach, hpart, hfree]), if_neg (by simp [hfree]), hrow]
  rfl

theorem State.updateCtx_ok {s : State} {p c : Nat} (hreach : s.schReach (s.ctxAddr c) 64 false = true)
    (hstate : (s.ctx c).state = .active ∨ (s.ctx c).state = .held) (hown : (s.ctx c).part = p) (hpart : rowPart (s.ctxRow c) = p) :
    s.updateCtx p c = (0, s.setCtx c { s.ctx c with entry := { (s.ctx c).entry with
      weight := if (entryOf (s.ctxRow c)).weight = 0 then (s.ctx c).entry.weight else (entryOf (s.ctxRow c)).weight,
      tiles := if (entryOf (s.ctxRow c)).tiles = 0 then (s.ctx c).entry.tiles else (entryOf (s.ctxRow c)).tiles,
      wdg := (entryOf (s.ctxRow c)).wdg } }) := by
  rw [State.updateCtx]
  dsimp only
  rw [if_neg (by simp [hreach, hpart, hown]), if_neg (by tauto)]

theorem State.getF_schAnswer (s : State) (req : Requester) (p op arg : Nat) (r : Nat × State) :
    (s.schAnswer req p op arg r).getF (Reg.SCH_RES_RESULT p) = r.1 % 16 ∧
      (s.schAnswer req p op arg r).getF (Reg.SCH_RES_ARG p) = arg % 4096 := by
  obtain ⟨-, hresult, harg⟩ := r.2.getF_schResult p op r.1 arg
  rw [State.schAnswer, State.getF_inside, State.getF_inside, State.getF_respond, State.getF_respond]
  exact ⟨hresult, harg⟩

/-- An operation that was carried out shows result 0. -/
theorem State.result_schAnswer {s t : State} {p op arg : Nat} {r : Nat × State} (h : r = (0, t)) (req : Requester) :
    (s.schAnswer req p op arg r).getF (Reg.SCH_RES_RESULT p) = 0 := by
  obtain ⟨hresult, -⟩ := s.getF_schAnswer req p op arg r
  rw [h] at hresult ⊢
  exact hresult

@[simp] theorem State.ctx_schAnswer (s : State) (req : Requester) (p op arg : Nat) (r : Nat × State) (c : Nat) :
    (s.schAnswer req p op arg r).ctx c = r.2.ctx c := by simp [State.schAnswer]
@[simp] theorem State.schAnswer_mem (s : State) (req : Requester) (p op arg : Nat) (r : Nat × State) :
    (s.schAnswer req p op arg r).mem = r.2.mem := by simp [State.schAnswer]

/-- Settles O44. -/
theorem schedulerOperationsComplete : Obligations.SchedulerOperationsComplete := by
  unfold Obligations.SchedulerOperationsComplete
  refine ⟨?activate, ?update, ?hold, ?release, ?teardown, ?retire, ?model⟩
  case activate =>
    intro s req p c hp hc h hreach hfree hpart hrow
    have hact := State.activate_ok hreach hfree hpart hrow
    obtain ⟨⟨v, hown⟩, hothers, hmem⟩ := (s.setCtx c (freshCtx p (s.ctxRow c))).raiseVt_spec c
    obtain ⟨-, harg⟩ := s.getF_schAnswer req p 1 c (s.activate p c)
    have hctx : (s.schAnswer req p 1 c (s.activate p c)).ctx c = { freshCtx p (s.ctxRow c) with vt := v } := by
      rw [State.ctx_schAnswer, hact, hown, State.ctx_setCtx_same]
    refine ⟨_, exec_activate hp hc h, ?_, ?_, ?_, ?_, ?_, fun k hk => ?_, ?_, ?_, ?_⟩
    iterate 5 · rw [hctx]; rfl
    · rw [State.ctx_schAnswer, hact]; exact (hothers k hk).trans (s.ctx_setCtx_ne _ hk)
    · exact State.result_schAnswer hact req
    · rw [harg, Nat.mod_eq_of_lt hc]
    · rw [State.schAnswer_mem, hact]; exact hmem
  case update =>
    intro s req p c hp hc h hstate hown hreach hpart
    have hupd := State.updateCtx_ok hreach hstate hown hpart
    refine ⟨_, exec_update hp hc h, fun hw ht => ?_, ?_, fun k hk => ?_, ?_, ?_⟩
    · rw [State.ctx_schAnswer, hupd, State.ctx_setCtx_same, if_neg hw, if_neg ht]
    · rw [State.ctx_schAnswer, hupd, State.ctx_setCtx_same]
    · rw [State.ctx_schAnswer, hupd, State.ctx_setCtx_ne _ _ hk]
    · exact State.result_schAnswer hupd req
    · rw [State.schAnswer_mem, hupd]; rfl
  case hold =>
    intro s req p c hp hc h hstate hown
    rw [Does, exec_hold hp hc h, State.holdOp, State.ctxOp_ok _ (.inr hown) (by simpa using hstate), State.schAnswer]
  case release =>
    intro s req p c hp hc h hheld hown
    rw [Does, exec_release hp hc h, State.releaseOp, State.ctxOp_ok _ (.inr hown) (by simpa using hheld), State.schAnswer]
  case teardown =>
    intro s req p c hp hc h hstate hown
    rw [Does, exec_teardown hp hc h, State.teardownOp, State.ctxOp_ok _ (.inr hown) (by simpa using hstate), State.schAnswer]
  case retire =>
    intro s req p c hp hc h htorn hown
    have hop : s.retireOp p c = (0, s.setCtx c {}) := by rw [State.retireOp, State.ctxOp_ok _ (.inr hown) (by simpa using htorn)]
    refine ⟨_, exec_retire hp hc h, ?_, fun k hk => ?_, ?_, ?_⟩
    · rw [State.ctx_schAnswer, hop, State.ctx_setCtx_same]
    · rw [State.ctx_schAnswer, hop, State.ctx_setCtx_ne _ _ hk]
    · exact State.result_schAnswer hop req
    · rw [State.schAnswer_mem, hop]; rfl
  case model =>
    intro s req p m hp hm h
    exact exec_modelApply hp (by omega) hm h

end Sys2Proof.Machine
end

section
/-! Events of the scheduler. -/

namespace Sys2Proof.Machine

/-! ### Holds -/

@[simp] theorem State.irq_sch (s : State) (p mask : Nat) : (s.irq p mask).sch = s.sch := by rw [State.irq_eq]
@[simp] theorem State.ctx_irq (s : State) (p mask c : Nat) : (s.irq p mask).ctx c = s.ctx c := State.ctx_of_sch (by simp) c
@[simp] theorem State.tile_irq (s : State) (p mask t : Nat) : (s.irq p mask).tile t = s.tile t := State.tile_of_sch (by simp) t
@[simp] theorem State.block_irq (s : State) (p mask q : Nat) : (s.irq p mask).block q = s.block q := by
  rw [State.block, State.irq_blocks, State.block]

/-- A context that leaves its tile keeps its data there and its state. -/
theorem State.leaveTile_spec (s : State) (c : Nat) : ((s.leaveTile c).ctx c).onTile = none ∧
    ((s.leaveTile c).ctx c).resident = (s.ctx c).resident ∧ (∀ k, k ≠ c → (s.leaveTile c).ctx k = s.ctx k) ∧
    (s.leaveTile c).mem = s.mem := by
  unfold State.leaveTile
  split
  next h => exact ⟨h, rfl, fun _ _ => rfl, rfl⟩
  next t h =>
    refine ⟨?_, ?_, fun k hk => ?_, rfl⟩
    · rw [State.ctx_setTile, State.ctx_setCtx_same]
    · rw [State.ctx_setTile, State.ctx_setCtx_same, State.chargeOccupy, State.ctx_setCtx_same]
    · rw [State.ctx_setTile, State.ctx_setCtx_ne _ _ hk, State.chargeOccupy, State.ctx_setCtx_ne _ _ hk]

theorem State.holdIfDrained_closing {s : State} {c : Nat} (hclosing : (s.ctx c).closing = true) (hempty : s.windowEmpty c = true) :
    s.holdIfDrained c = ((s.leaveTile c).setCtx c { (s.leaveTile c).ctx c with closing := false, state := .held }).irq
      (schPage (s.ctx c).part) 1 := by
  rw [State.holdIfDrained, hclosing, hempty]; rfl

theorem exec_holdDrained {s : State} (hlive : s.live = true) (c : Nat) : exec (.holdDrained c) s = .next (s.inside (s.holdIfDrained c)) := by
  have hrun : exec (.holdDrained c) s = execHoldDrained c s := rfl
  rw [hrun, execHoldDrained, whenLive_live hlive]

theorem exec_teardownDone {s : State} (hlive : s.live = true) (c : Nat) :
    exec (.teardownDone c) s = .next (s.inside (s.teardownStep c)) := by
  have hrun : exec (.teardownDone c) s = execTeardownDone c s := rfl
  rw [hrun, execTeardownDone, whenLive_live hlive]

/-! ### SCH_TILE_CMD and the accounting dump -/

theorem bits_tileCmd {t : Nat} (ht : t < 32) :
    bits (2 ^ 30 + t) 31 30 = 1 ∧ bits (2 ^ 30 + t) 4 0 = t ∧ bits (2 ^ 31 + t) 31 30 = 2 ∧ bits (2 ^ 31 + t) 4 0 = t := by
  simp only [bits]; omega

theorem exec_evacuate {s : State} {req : Requester} {t : Nat} (ht : t < 32) (h : s.Takes req Reg.SCH_TILE_CMD (2 ^ 30 + t)) :
    exec (.evacuate req t) s = .next (s.inside ((s.evacuateTile t).respond req 0 [])) := by
  obtain ⟨hcode, htile, -, -⟩ := bits_tileCmd ht
  have hwr : s.wrTileCmd (2 ^ 30 + t) = s.evacuateTile t := by rw [State.wrTileCmd, hcode, htile]; rfl
  have hrun : exec (.evacuate req t) s = execEvacuate req t s := rfl
  rw [hrun, execEvacuate, Nat.mod_eq_of_lt ht, whenLive_live h.1, decide_eq_true ht, State.guard_true,
    ← whenLive_live (f := fun s => s.access req Reg.SCH_TILE_CMD (2 ^ 30 + t) _) h.1, access_does h, hwr]

theorem exec_admitTile {s : State} {req : Requester} {t : Nat} (ht : t < 32) (h : s.Takes req Reg.SCH_TILE_CMD (2 ^ 31 + t)) :
    exec (.admitTile req t) s = .next (s.inside ((s.admitTile t).respond req 0 [])) := by
  obtain ⟨-, -, hcode, htile⟩ := bits_tileCmd ht
  have hwr : s.wrTileCmd (2 ^ 31 + t) = s.admitTile t := by rw [State.wrTileCmd, hcode, htile]; rfl
  have hrun : exec (.admitTile req t) s = execAdmitTile req t s := rfl
  rw [hrun, execAdmitTile, Nat.mod_eq_of_lt ht, whenLive_live h.1, decide_eq_true ht, State.guard_true,
    ← whenLive_live (f := fun s => s.access req Reg.SCH_TILE_CMD (2 ^ 31 + t) _) h.1, access_does h, hwr]

theorem exec_acctDump {s : State} {req : Requester} (h : s.Takes req Reg.SCH_ACCT_DUMP 1) :
    exec (.acctDump req) s = .next (s.inside ((s.wrAcctDump 1).respond req 0 [])) := by
  have hrun : exec (.acctDump req) s = execAcctDump req s := rfl
  rw [hrun, execAcctDump, access_does h]

@[simp] theorem State.block_setBlock_same (s : State) (p : Nat) (b : Block) : (s.setBlock p b).block p = b := Sparse.get_set_same ..

/-- The bytes of an accounting dump. -/
def dumpBytes (l : List (Nat × Nat × Nat × Nat)) : List Byte :=
  l.flatMap (fun r => leBytes 8 r.1 ++ leBytes 8 r.2.1 ++ leBytes 8 r.2.2.1 ++ leBytes 8 r.2.2.2)

/-- The state in which the accounting dump has ended, from the state `t` in which its bytes are stored. -/
def State.dumped (t : State) : State :=
  { t.setBlock 0x80 { t.block 0x80 with busy := false } with sch := { t.sch with dump := none } }

theorem State.dumped_spec (t : State) : t.dumped.sch.dump = none ∧ (t.dumped.block 0x80).busy = false ∧ t.dumped.mem = t.mem :=
  ⟨rfl, congrArg Block.busy (t.block_setBlock_same ..), rfl⟩

theorem exec_acctDumpDone {s : State} {l : List (Nat × Nat × Nat × Nat)} (hlive : s.live = true) (hdump : s.sch.dump = some l) :
    exec .acctDumpDone s = .next (s.inside ((State.dumped (if s.schReach (s.getF Reg.SCH_ACCT_BASE_BASE * 2 ^ 17) (dumpBytes l).length true
      then s.store (s.getF Reg.SCH_ACCT_BASE_BASE * 2 ^ 17) (dumpBytes l) else s)).irq 0x80 1)) := by
  have hrun : exec .acctDumpDone s = execAcctDumpDone s := rfl
  rw [hrun, execAcctDumpDone, whenLive_live hlive, hdump]
  rfl

/-! ### Windows and placement -/

/-- Whether a context wants a tile is up to the context alone. -/
theorem State.wantsTile_of_ctx {s u : State} {c : Nat} (h : u.ctx c = s.ctx c) : u.wantsTile c = s.wantsTile c := by
  have hfront : u.frontReady c = s.frontReady c := by rw [State.frontReady, State.frontReady, State.dispatching, State.dispatching, h]
  rw [State.wantsTile, State.wantsTile, h, hfront]

/-- Where no context wants a tile, none waits for this one. -/
theorem State.ownerWaits_of_unwanted {s : State} (h : ∀ c ∈ s.contexts, s.wantsTile c = false) (t : Nat) : s.ownerWaits t = false := by
  unfold State.ownerWaits
  split
  · rfl
  · rw [Bool.and_eq_false_iff]
    refine .inr (List.any_eq_false.mpr fun c hc => ?_)
    simp [h c hc]

theorem State.windowStart_unwanted {s : State} (h : ∀ c ∈ s.contexts, s.wantsTile c = false) (t phase : Nat) :
    s.windowStart t phase = s.setTile t { s.tile t with owner := s.windowOwner t phase } := by
  have hwants : ∀ c ∈ (s.setTile t { s.tile t with owner := s.windowOwner t phase }).contexts,
      (s.setTile t { s.tile t with owner := s.windowOwner t phase }).wantsTile c = false :=
    fun c hc => (State.wantsTile_of_ctx rfl).trans (h c hc)
  unfold State.windowStart
  dsimp only
  rw [State.ownerWaits_of_unwanted hwants, List.filter_eq_nil_iff.mpr fun c hc => by simp [hwants c hc]]
  rfl

theorem exec_tileWindowStart {s : State} {t : Nat} (hlive : s.live = true) (ht : t < 32) (hrun80 : s.isRunning 0x80 = true) (phase : Nat) :
    exec (.tileWindowStart t phase) s = .next (s.inside (s.windowStart t phase)) := by
  have hrun : exec (.tileWindowStart t phase) s = execTileWindowStart t phase s := rfl
  rw [hrun, execTileWindowStart, whenLive_live hlive, decide_eq_true ht, hrun80, Bool.true_and, State.guard_true]

theorem exec_contextPlace {s : State} (hlive : s.live = true) (hrun80 : s.isRunning 0x80 = true) (c : Nat) :
    exec (.contextPlace c) s = .next (s.inside (s.place c)) := by
  have hrun : exec (.contextPlace c) s = execContextPlace c s := rfl
  rw [hrun, execContextPlace, whenLive_live hlive, hrun80, State.guard_true]

theorem State.place_chosen {s : State} {c t : Nat} (hwants : s.wantsTile c = true) (hchoose : s.choose c = some t)
    (hyields : s.yields c t = false) : s.place c = s.placeOn c t := by
  rw [State.place, hwants, hchoose]
  dsimp only
  rw [hyields]; rfl

/-! ### Saves and restores -/

@[simp] theorem State.setStatus_sch (s : State) (i v : Nat) : (s.setStatus i v).sch = s.sch := by simp [State.setStatus]

theorem State.trySwap_sch (s : State) (i : Nat) : (s.trySwap i).sch = s.sch := by
  unfold State.trySwap; split <;> simp

theorem State.wantSwap_sch (s : State) (i : Nat) (park : Bool) : (s.wantSwap i park).sch = s.sch := by
  unfold State.wantSwap
  dsimp only
  split_ifs
  · rw [State.trySwap_sch]; rfl
  · rfl
  · rfl

theorem State.swapOutOf_sch (s : State) (c t : Nat) : (s.swapOutOf c t).sch = s.sch := by
  unfold State.swapOutOf
  refine State.foldl_frame (g := State.sch) (fun u i _ => ?_) s
  split
  · exact u.wantSwap_sch i false
  · rfl

/-- What the preparations that begin leave of a context: its tile, its place and, while nothing of it lies in a tile, its save. -/
structure State.PrepKeeps (s u : State) (c : Nat) : Prop where
  onTile : (u.ctx c).onTile = (s.ctx c).onTile
  resident : (u.ctx c).resident = (s.ctx c).resident
  saved : (u.ctx c).saved = (s.ctx c).saved
  saving : (s.ctx c).resident = none → (u.ctx c).saving = (s.ctx c).saving

theorem State.PrepKeeps.refl (s : State) (c : Nat) : s.PrepKeeps s c := ⟨rfl, rfl, rfl, fun _ => rfl⟩

theorem State.PrepKeeps.trans {s t u : State} {c : Nat} (h : s.PrepKeeps t c) (k : t.PrepKeeps u c) : s.PrepKeeps u c :=
  ⟨k.onTile.trans h.onTile, k.resident.trans h.resident, k.saved.trans h.saved,
    fun hr => (k.saving (h.resident.trans hr)).trans (h.saving hr)⟩

theorem State.prepKeeps_setPrep (s : State) (c d : Nat) (l : List Preparation) :
    s.PrepKeeps (s.setCtx d { s.ctx d with prep := l }) c := by
  by_cases h : c = d
  · subst h; exact ⟨by simp, by simp, by simp, fun _ => by simp⟩
  · constructor <;> simp [State.ctx_setCtx_ne _ _ h]

theorem State.prepKeeps_beginSave (s : State) (c d t : Nat) : s.PrepKeeps (s.beginSave d t) c := by
  unfold State.beginSave
  split
  next hr =>
    have hctx : ((s.setCtx d { s.ctx d with saving := true }).swapOutOf d t).ctx c =
        (s.setCtx d { s.ctx d with saving := true }).ctx c := State.ctx_of_sch (State.swapOutOf_sch ..) c
    by_cases h : c = d
    · subst h
      rw [State.ctx_setCtx_same] at hctx
      exact ⟨by rw [hctx], by rw [hctx], by rw [hctx], fun hnone => by simp [hnone] at hr⟩
    · rw [State.ctx_setCtx_ne _ _ h] at hctx
      exact ⟨by rw [hctx], by rw [hctx], by rw [hctx], fun _ => by rw [hctx]⟩
  next => exact .refl s c

theorem State.prepKeeps_startPrep (s : State) (c d n : Nat) : s.PrepKeeps (s.startPrep d n) c := by
  induction n generalizing s with
  | zero => exact .refl s c
  | succ n ih =>
    have hskip := (s.prepKeeps_setPrep c d ((s.ctx d).prep.drop 1)).trans (ih _)
    rw [State.startPrep]
    dsimp only
    split
    · split
      · split
        · exact .refl s c
        · exact s.prepKeeps_beginSave ..
      · exact hskip
    · split
      · split
        · exact .refl s c
        · exact s.prepKeeps_beginSave ..
      · exact hskip
    · split
      · exact hskip
      · exact .refl s c
    · exact .refl s c

theorem State.prepKeeps_startPreps (s : State) (c : Nat) : s.PrepKeeps s.startPreps c := by
  unfold State.startPreps
  generalize s.contexts = l
  induction l generalizing s with
  | nil => exact .refl s c
  | cons d l ih => exact (s.prepKeeps_startPrep c d _).trans (ih _)

/-- Time on the link is charged to a context's account and changes nothing else of it. -/
theorem State.chargeXfer_spec (s : State) (c : Nat) : ∃ n, (s.chargeXfer c).ctx c = { s.ctx c with xfer := n } ∧
    (s.chargeXfer c).tile = s.tile :=
  ⟨_, State.ctx_setCtx_same .., rfl⟩

theorem exec_contextSaveDone {s : State} (hlive : s.live = true) (c : Nat) :
    exec (.contextSaveDone c) s = .next (s.inside (s.saveDone c)) := by
  have hrun : exec (.contextSaveDone c) s = execContextSaveDone c s := rfl
  rw [hrun, execContextSaveDone, whenLive_live hlive]

theorem exec_contextRestoreDone {s : State} (hlive : s.live = true) (c : Nat) :
    exec (.contextRestoreDone c) s = .next (s.inside (s.restoreCtx c)) := by
  have hrun : exec (.contextRestoreDone c) s = execContextRestoreDone c s := rfl
  rw [hrun, execContextRestoreDone, whenLive_live hlive]

theorem exec_zeroFillDone {s : State} (hlive : s.live = true) (c : Nat) :
    exec (.zeroFillDone c) s = .next (s.inside (s.zeroFilled c)) := by
  have hrun : exec (.zeroFillDone c) s = execZeroFillDone c s := rfl
  rw [hrun, execZeroFillDone, whenLive_live hlive]

theorem exec_modelLoadDone {s : State} (hlive : s.live = true) (c : Nat) :
    exec (.modelLoadDone c) s = .next (s.inside (s.modelLoaded c)) := by
  have hrun : exec (.modelLoadDone c) s = execModelLoadDone c s := rfl
  rw [hrun, execModelLoadDone, whenLive_live hlive]

/-- The state in which a context's image is in memory. -/
def State.imageStored (s : State) (c t : Nat) : State :=
  let s0 := s.readsFind ((s.ownRanges c).map (fun r => (sramAddr t r.1, r.2)))
  if s.memOk (s.ctx c).part (s.ctx c).entry.save (s.saveImage c t).length true then
    s0.put (s.imagePort t) (s.ctx c).part (s.ctx c).entry.save (s.saveImage c t)
  else s0

/-- A context whose image is in memory: it lies in no tile. -/
def State.leftTile (s : State) (c : Nat) : State := s.setCtx c { s.ctx c with saved := true, saving := false, resident := none }

theorem State.saveDone_eq {s : State} {c t : Nat} (hres : (s.ctx c).resident = some t) (hsaving : (s.ctx c).saving = true)
    (htile : (s.ctx c).onTile ≠ some t) (hstreams : s.streamsOn c t = false) :
    s.saveDone c = (((s.imageStored c t).leftTile c).chargeXfer c).startPreps := by
  rw [State.saveDone]
  dsimp only
  rw [hres]
  dsimp only
  rw [if_neg (by simp [hsaving, htile, hstreams])]
  rfl

/-- A context whose preparation has laid its data into tile `t` and goes on with `r`. -/
def State.laidOn (s : State) (c t : Nat) (r : List Preparation) : State :=
  s.setCtx c { s.ctx c with resident := some t, prep := r }

theorem State.layRanges_ctx (s : State) (t : Nat) (rs : List (Nat × Nat)) (l : List Byte) (c : Nat) :
    (s.layRanges t rs l).ctx c = s.ctx c := by
  unfold State.layRanges
  refine (State.foldl_frame (g := fun u => u.ctx c) (fun u o _ => ?_) _).trans ?_
  · exact State.ctx_of_sch (by rw [State.writeLocal, State.heal_sch, State.write_sch]) c
  · unfold State.clearModel
    dsimp only
    split <;> rfl

theorem State.restoreCtx_good {s : State} {c t : Nat} {r : List Preparation} (htile : (s.ctx c).onTile = some t)
    (hprep : (s.ctx c).prep = .restore :: r)
    (hmem : s.memOk (s.ctx c).part (s.ctx c).entry.save (64 + s.bodyBytes c) false = true)
    (hgood : s.saveGood c (s.fetch (s.ctx c).entry.save (64 + s.bodyBytes c)) = true) :
    s.restoreCtx c = (((((s.layRanges t (s.ownRanges c) ((s.fetch (s.ctx c).entry.save (64 + s.bodyBytes c)).drop 64)).traffic t
      (s.ctx c).part false (s.ctx c).entry.save (64 + s.bodyBytes c)).laidOn c t r).chargeXfer c).startPrep c (r.length + 1)) := by
  rw [State.restoreCtx, htile, hprep]
  dsimp only
  rw [if_pos (by rw [hmem, hgood]; rfl), State.laidOn]

theorem State.zeroFilled_eq {s : State} {c t : Nat} {r : List Preparation} (htile : (s.ctx c).onTile = some t)
    (hprep : (s.ctx c).prep = .zeroFill :: r) : s.zeroFilled c =
      ((s.layRanges t (s.ownRanges c) (List.replicate (s.bodyBytes c) 0)).laidOn c t r).startPrep c (r.length + 1) := by
  rw [State.zeroFilled, htile, hprep]
  rfl

theorem State.laidOn_ctx (s : State) (c t : Nat) (r : List Preparation) : ((s.laidOn c t r).ctx c).resident = some t ∧
    ((s.laidOn c t r).ctx c).onTile = (s.ctx c).onTile := by
  rw [State.laidOn, State.ctx_setCtx_same]; exact ⟨rfl, rfl⟩

theorem State.modelLoaded_eq {s : State} {c t : Nat} {r : List Preparation} (htile : (s.ctx c).onTile = some t)
    (hprep : (s.ctx c).prep = .modelLoad :: r) : s.modelLoaded c = (s.loadModel (s.ctx c).entry.model t).setCtx c
      { (s.loadModel (s.ctx c).entry.model t).ctx c with prep := r } := by
  rw [State.modelLoaded, htile, hprep]

theorem State.model_loadModel (s : State) (m t : Nat) : ((s.loadModel m t).tile t).model = m := by
  have hinc (u : State) (f : Fld) : (u.satInc f).tile t = u.tile t := u.tile_putF ..
  rw [State.loadModel]
  dsimp only
  rw [hinc]
  exact congrArg Tile.model (State.tile_setTile_same ..)

/-! ### Quanta -/

theorem exec_quantumExpiry {s : State} {t : Nat} (hlive : s.live = true) (hrun80 : s.isRunning 0x80 = true) :
    exec (.quantumExpiry t) s = .next (s.inside (s.quantumEnd t)) := by
  have hrun : exec (.quantumExpiry t) s = execQuantumExpiry t s := rfl
  rw [hrun, execQuantumExpiry, whenLive_live hlive, hrun80, State.guard_true]

/-- The state in which a quantum is charged to the context that holds the tile. -/
def State.quantumCharged (s : State) (c : Nat) : State := s.chargeOccupy c (s.getF Reg.SCH_CFG_QUANTUM * 10000)

theorem State.quantumCharged_spec (s : State) (c : Nat) :
    ((s.quantumCharged c).ctx c).occupy = ((s.ctx c).occupy + s.getF Reg.SCH_CFG_QUANTUM * 10000) % 2 ^ 64 ∧
    ((s.quantumCharged c).ctx c).vt =
      ((s.ctx c).vt + s.getF Reg.SCH_CFG_QUANTUM * 10000 * 65536 / max (s.ctx c).entry.weight 1) % 2 ^ 64 ∧
    ((s.quantumCharged c).ctx c).part = (s.ctx c).part ∧ ∀ k, k ≠ c → (s.quantumCharged c).ctx k = s.ctx k := by
  refine ⟨?_, ?_, ?_, fun k hk => s.ctx_setCtx_ne _ hk⟩
  all_goals rw [State.quantumCharged, State.chargeOccupy, State.ctx_setCtx_same]

/-- Another context of the partition that waits and has used less. -/
def State.fairer (s : State) (c d : Nat) : Bool :=
  d != c && (s.ctx d).part == (s.ctx c).part && s.wantsTile d && decide ((s.ctx d).vt < (s.ctx c).vt)

theorem State.fairer_iff {s : State} {c d : Nat} : s.fairer c d = true ↔
    d ≠ c ∧ (s.ctx d).part = (s.ctx c).part ∧ s.wantsTile d = true ∧ (s.ctx d).vt < (s.ctx c).vt := by
  simp [State.fairer, and_assoc]

theorem State.quantumEnd_free {s : State} {t : Nat} (h : (s.tile t).ctx = none) : s.quantumEnd t = s := by
  rw [State.quantumEnd, h]

theorem State.quantumEnd_held {s : State} {t c : Nat} (h : (s.tile t).ctx = some c) : s.quantumEnd t =
    if (s.quantumCharged c).contexts.any ((s.quantumCharged c).fairer c) then
      ((s.quantumCharged c).setTile t { (s.quantumCharged c).tile t with draining := true }).settle t
    else s.quantumCharged c := by
  rw [State.quantumEnd, h]; rfl

theorem State.quantumEnd_stays {s : State} {t c : Nat} (h : (s.tile t).ctx = some c)
    (hnone : ∀ d ∈ (s.quantumCharged c).contexts, (s.quantumCharged c).fairer c d = false) : s.quantumEnd t = s.quantumCharged c := by
  rw [State.quantumEnd_held h, if_neg (by simpa using hnone)]

theorem State.quantumEnd_drains {s : State} {t c d : Nat} (h : (s.tile t).ctx = some c) (hd : d ∈ (s.quantumCharged c).contexts)
    (hfair : (s.quantumCharged c).fairer c d = true) : s.quantumEnd t =
      ((s.quantumCharged c).setTile t { (s.quantumCharged c).tile t with draining := true }).settle t := by
  rw [State.quantumEnd_held h, if_pos (List.any_eq_true.mpr ⟨d, hd, hfair⟩)]

theorem Sparse.key_of_mem_insert {α : Type} {l : Sparse α} {k : Nat} {v : α} {e : Nat × α} (h : e ∈ Sparse.insert l k v) :
    e = (k, v) ∨ e ∈ l := by
  induction l with
  | nil => simpa [Sparse.insert] using h
  | cons a l ih =>
    obtain ⟨j, u⟩ := a
    rw [Sparse.insert] at h
    split at h
    · simpa using h
    · rcases List.mem_cons.mp h with rfl | h
      · simp
      · exact (ih h).imp id (List.mem_cons_of_mem _)

/-- A context that is listed after one is written is the one written or was listed before. -/
theorem State.mem_contexts_setCtx {s : State} {c d : Nat} {x : Ctx} (h : d ∈ (s.setCtx c x).contexts) : d = c ∨ d ∈ s.contexts := by
  obtain ⟨e, he, rfl⟩ := List.mem_map.mp h
  replace he : e ∈ Sparse.set (fun _ => {}) s.sch.ctxs c x := he
  rw [Sparse.set] at he
  have herase (hmem : e ∈ Sparse.erase s.sch.ctxs c) : e.1 ∈ s.contexts := List.mem_map.mpr ⟨e, (Sparse.mem_erase hmem).1, rfl⟩
  split at he
  · exact .inr (herase he)
  · exact (Sparse.key_of_mem_insert he).imp (fun h => by rw [h]) herase

theorem exec_drainExpiry {s : State} {t : Nat} (hlive : s.live = true) (h : (s.tile t).draining = true) :
    exec (.drainExpiry t) s = .next (s.inside (s.kill t 0 true true)) := by
  have hrun : exec (.drainExpiry t) s = execDrainExpiry t s := rfl
  rw [hrun, execDrainExpiry, whenLive_live hlive, h, State.guard_true]

/-- Settles O46. -/
theorem schedulingEventsComplete : Obligations.SchedulingEventsComplete := by
  unfold Obligations.SchedulingEventsComplete
  refine ⟨?drained, ?torn, ?evacuate, ?admitted, ?dump, ?dumpDone, ?window, ?place, ?saved, ?restored, ?filled, ?loaded, ?quantumFree,
    ?quantumAlone, ?quantum, ?drain⟩
  case drained =>
    intro s c hlive hclosing hempty
    obtain ⟨htile, hres, hothers, hmem⟩ := s.leaveTile_spec c
    have hctx : ((s.leaveTile c).setCtx c { (s.leaveTile c).ctx c with closing := false, state := .held }).ctx c = _ :=
      State.ctx_setCtx_same ..
    refine ⟨_, exec_holdDrained hlive c, ?_, ?_, ?_, ?_, fun k hk => ?_, ?_⟩
    · rw [State.ctx_inside, State.holdIfDrained_closing hclosing hempty, State.ctx_irq, hctx]
    · rw [State.ctx_inside, State.holdIfDrained_closing hclosing hempty, State.ctx_irq, hctx]
    · rw [State.ctx_inside, State.holdIfDrained_closing hclosing hempty, State.ctx_irq, hctx]; exact htile
    · rw [State.ctx_inside, State.holdIfDrained_closing hclosing hempty, State.ctx_irq, hctx]; exact hres
    · rw [State.ctx_inside, State.holdIfDrained_closing hclosing hempty, State.ctx_irq, State.ctx_setCtx_ne _ _ hk]
      exact hothers k hk
    · rw [State.inside_mem, State.holdIfDrained_closing hclosing hempty, State.irq_mem]; exact hmem
  case torn =>
    intro s c hlive hstate htile hsaving hbusy
    have hstep : s.teardownStep c = (s.parkStreams c).finishTeardown c := by
      rw [State.teardownStep]
      dsimp only
      rw [hstate, htile, hsaving, hbusy]
      rfl
    rw [Does, exec_teardownDone hlive, hstep]
  case evacuate =>
    intro s req t ht h
    exact exec_evacuate ht h
  case admitted =>
    intro s req t ht h
    refine ⟨_, exec_admitTile ht h, ?_, fun k hk => ?_, ?_, ?_⟩
    · rw [State.tile_inside, State.tile_respond, State.admitTile, State.tile_setTile_same]
    · rw [State.tile_inside, State.tile_respond, State.admitTile, State.tile_setTile_ne _ _ hk]
    · rw [State.inside_mem, State.respond_mem]; rfl
    · rw [State.inside_regs, State.respond_regs]; rfl
  case dump =>
    intro s req h
    refine ⟨_, exec_acctDump h, ?_, ?_, ?_, fun c => ?_⟩
    · rw [State.block_inside, State.block_respond]; exact congrArg Block.busy (s.block_setBlock_same ..)
    · rw [State.inside_sch, State.respond_sch]; rfl
    · rw [State.inside_mem, State.respond_mem]; rfl
    · rw [State.ctx_inside, State.ctx_respond]; rfl
  case dumpDone =>
    intro s l b hlive hdump hb
    have hb' : dumpBytes l = b := hb.symm
    refine ⟨_, exec_acctDumpDone hlive hdump, ?_, ?_, fun hok => ?_, fun hno => ?_⟩
    · rw [State.inside_sch, State.irq_sch]; rfl
    · rw [State.block_inside, State.block_irq]; exact (State.dumped_spec _).2.1
    · rw [State.inside_mem, State.irq_mem, (State.dumped_spec _).2.2, hb', if_pos hok]
    · rw [State.inside_mem, State.irq_mem, (State.dumped_spec _).2.2, hb', if_neg (Bool.eq_false_iff.mp hno)]
  case window =>
    intro s t phase hlive ht hrun80 hnone
    rw [Does, exec_tileWindowStart hlive ht hrun80, State.windowStart_unwanted hnone]
  case place =>
    intro s c t hlive hrun80 hwants hchoose hyields
    rw [Does, exec_contextPlace hlive hrun80, State.place_chosen hwants hchoose hyields]
  case saved =>
    intro s c t hlive hres hsaving htile hstreams
    obtain ⟨n, hctx, -⟩ := ((s.imageStored c t).leftTile c).chargeXfer_spec c
    have hkeeps := (((s.imageStored c t).leftTile c).chargeXfer c).prepKeeps_startPreps c
    rw [State.leftTile, State.ctx_setCtx_same] at hctx
    refine ⟨_, exec_contextSaveDone hlive c, ?_, ?_, ?_⟩
    · rw [State.ctx_inside, State.saveDone_eq hres hsaving htile hstreams, hkeeps.saved, State.leftTile, hctx]
    · rw [State.ctx_inside, State.saveDone_eq hres hsaving htile hstreams, hkeeps.saving, State.leftTile, hctx]
      rw [State.leftTile, hctx]
    · rw [State.ctx_inside, State.saveDone_eq hres hsaving htile hstreams, hkeeps.resident, State.leftTile, hctx]
  case restored =>
    intro s c t r hlive htile hprep hmem hgood
    generalize hv : (s.layRanges t (s.ownRanges c) ((s.fetch (s.ctx c).entry.save (64 + s.bodyBytes c)).drop 64)).traffic t
      (s.ctx c).part false (s.ctx c).entry.save (64 + s.bodyBytes c) = v
    have hon : (v.ctx c).onTile = some t := by
      rw [← hv, State.ctx_of_sch (s := State.layRanges ..) (by rw [State.traffic_eq]), State.layRanges_ctx, htile]
    obtain ⟨hlaid, hstays⟩ := v.laidOn_ctx c t r
    obtain ⟨n, hctx, -⟩ := (v.laidOn c t r).chargeXfer_spec c
    have hkeeps := ((v.laidOn c t r).chargeXfer c).prepKeeps_startPrep c c (r.length + 1)
    refine ⟨_, exec_contextRestoreDone hlive c, ?_, ?_⟩
    · rw [State.ctx_inside, State.restoreCtx_good htile hprep hmem hgood, hv, hkeeps.resident, hctx]; exact hlaid
    · rw [State.ctx_inside, State.restoreCtx_good htile hprep hmem hgood, hv, hkeeps.onTile, hctx]; exact hstays.trans hon
  case filled =>
    intro s c t r hlive htile hprep
    generalize hv : s.layRanges t (s.ownRanges c) (List.replicate (s.bodyBytes c) 0) = v
    have hon : (v.ctx c).onTile = some t := by rw [← hv, State.layRanges_ctx, htile]
    obtain ⟨hlaid, hstays⟩ := v.laidOn_ctx c t r
    have hkeeps := (v.laidOn c t r).prepKeeps_startPrep c c (r.length + 1)
    refine ⟨_, exec_zeroFillDone hlive c, ?_, ?_⟩
    · rw [State.ctx_inside, State.zeroFilled_eq htile hprep, hv, hkeeps.resident, hlaid]
    · rw [State.ctx_inside, State.zeroFilled_eq htile hprep, hv, hkeeps.onTile, hstays, hon]
  case loaded =>
    intro s c t r hlive htile hprep
    refine ⟨_, exec_modelLoadDone hlive c, ?_, ?_⟩
    · rw [State.tile_inside, State.modelLoaded_eq htile hprep, State.tile_setCtx, State.model_loadModel]
    · rw [State.ctx_inside, State.modelLoaded_eq htile hprep, State.ctx_setCtx_same]
  case quantumFree =>
    intro s t hlive hrun80 hfree
    refine ⟨_, exec_quantumExpiry hlive hrun80, ?_, ?_, ?_⟩ <;> simp [State.quantumEnd_free hfree]
  case quantumAlone =>
    intro s t c hlive hrun80 hctx halone
    obtain ⟨hocc, hvt, hpart, hothers⟩ := s.quantumCharged_spec c
    have hend : s.quantumEnd t = s.quantumCharged c := by
      refine State.quantumEnd_stays hctx fun d hd => Bool.eq_false_iff.mpr fun hfair => ?_
      obtain ⟨hne, hsame, hwants, -⟩ := State.fairer_iff.mp hfair
      rw [hothers d hne, hpart] at hsame
      rw [State.wantsTile_of_ctx (hothers d hne)] at hwants
      have hlisted := (State.mem_contexts_setCtx hd).resolve_left hne
      simp [halone d hlisted hne hsame] at hwants
    refine ⟨_, exec_quantumExpiry hlive hrun80, ?_, ?_, ?_, fun k hk => ?_, ?_, ?_⟩
    · rw [State.ctx_inside, hend, hocc]
    · rw [State.ctx_inside, hend, hvt]
    · rw [State.tile_inside, hend]; rfl
    · rw [State.ctx_inside, hend, hothers k hk]
    · rw [State.inside_regs, hend]; rfl
    · rw [State.inside_mem, hend]; rfl
  case quantum =>
    intro s t c u hlive hrun80 hctx hu
    have hcharged : s.quantumCharged c = u := hu.symm
    refine ⟨fun hleast => ?_, fun ⟨d, hd, hfair⟩ => ?_⟩
    · rw [Does, exec_quantumExpiry hlive hrun80, State.quantumEnd_stays hctx, hcharged]
      rw [hcharged]
      intro d hd
      refine Bool.eq_false_iff.mpr fun hfair => ?_
      obtain ⟨hne, hsame, hwants, hless⟩ := State.fairer_iff.mp hfair
      exact absurd (hleast d hd hne hsame hwants) (not_le.mpr hless)
    · rw [Does, exec_quantumExpiry hlive hrun80, State.quantumEnd_drains (d := d) hctx, hcharged]
      · rwa [hcharged]
      · rwa [hcharged, State.fairer_iff]
  case drain =>
    intro s t hlive h
    exact exec_drainExpiry hlive h

end Sys2Proof.Machine
end

section
/-! Free lists and recurrent streams. -/

namespace Sys2Proof.Machine

/-- A register access of one unit that exists. -/
theorem guarded_access {s : State} {req : Requester} {a v : Nat} {p : Prop} [Decidable p] {f : State → State} (hp : p)
    (h : s.Takes req a v) : whenLive (fun s => s.guard (decide p) (fun s => s.access req a v f)) s =
      .next (s.inside ((f s).respond req 0 [])) := by
  rw [whenLive_live h.1, decide_eq_true hp, State.guard_true, ← whenLive_live (f := fun s => s.access req a v f) h.1, access_does h]

theorem exec_kvpFlPush {s : State} {req : Requester} {p k frame page : Nat} (hp : p < 8) (hk : k < 3) (hframe : frame < 2 ^ 34)
    (hpage : page < 2 ^ 20) (h : s.TakesWide req (Reg.KVP_FL_PUSH p k) (frame * 2 ^ 20 + page)) :
    exec (.kvpFlPush req p k frame page) s =
      .next (s.inside ((s.wrFlPush req p k (frame * 2 ^ 20 + page)).respond req 0 [])) := by
  have hrun : exec (.kvpFlPush req p k frame page) s = execKvpFlPush req p k frame page s := rfl
  rw [hrun, execKvpFlPush, Nat.mod_eq_of_lt hframe, Nat.mod_eq_of_lt hpage, whenLive_live h.1, decide_eq_true hp, decide_eq_true hk,
    Bool.true_and, State.guard_true,
    ← whenLive_live (f := fun s => s.accessWide req (Reg.KVP_FL_PUSH p k) (frame * 2 ^ 20 + page) _) h.1, accessWide_does h]

/-! ### Streams -/

@[simp] theorem State.stream_setStream_same (s : State) (i : Nat) (x : Stream) : (s.setStream i x).stream i = x := Sparse.get_set_same ..
theorem State.stream_of_stm {s u : State} (h : u.stm = s.stm) (i : Nat) : u.stream i = s.stream i := by
  rw [State.stream, State.stream, h]
@[simp] theorem State.stream_putF (s : State) (f : Fld) (v i : Nat) : (s.putF f v).stream i = s.stream i := State.stream_of_stm (by simp) i
@[simp] theorem State.stream_setStatus (s : State) (i v k : Nat) : (s.setStatus i v).stream k = s.stream k := s.stream_putF ..
@[simp] theorem State.stream_inside (s t : State) (i : Nat) : (s.inside t).stream i = t.stream i := State.stream_of_stm (by simp) i
@[simp] theorem State.stream_respond (s : State) (req : Requester) (n : Nat) (l : List Nat) (i : Nat) :
    (s.respond req n l).stream i = s.stream i := State.stream_of_stm (by simp) i
@[simp] theorem State.stmStatus_inside (s t : State) (i : Nat) : (s.inside t).stmStatus i = t.stmStatus i := by simp [State.stmStatus]
@[simp] theorem State.stmStatus_respond (s : State) (req : Requester) (n : Nat) (l : List Nat) (i : Nat) :
    (s.respond req n l).stmStatus i = s.stmStatus i := by simp [State.stmStatus]
theorem State.stmStatus_setStatus (s : State) (i : Nat) {v : Nat} (hv : v < 8) : (s.setStatus i v).stmStatus i = v :=
  (State.getF_putF _ _ _ (by simp [Reg.STM_STAT_STATUS])).trans (Nat.mod_eq_of_lt hv)
theorem State.setStatus_mem (s : State) (i v : Nat) : (s.setStatus i v).mem = s.mem := s.putF_mem ..

theorem exec_stmEnable {s : State} {req : Requester} {i v : Nat} (hi : i < 4096)
    (h : s.Takes req (Reg.STM_CTRL i) (setBits (v % 2 ^ 32) 31 31 1)) :
    exec (.stmEnable req i v) s = .next (s.inside ((s.wrStmCtrl i (setBits (v % 2 ^ 32) 31 31 1)).respond req 0 [])) := by
  have hrun : exec (.stmEnable req i v) s = execStmEnable req i v s := rfl
  rw [hrun, execStmEnable, guarded_access hi h]

theorem exec_stmDisable {s : State} {req : Requester} {i v : Nat} (hi : i < 4096)
    (h : s.Takes req (Reg.STM_CTRL i) (setBits (v % 2 ^ 32) 31 31 0)) :
    exec (.stmDisable req i v) s = .next (s.inside ((s.wrStmCtrl i (setBits (v % 2 ^ 32) 31 31 0)).respond req 0 [])) := by
  have hrun : exec (.stmDisable req i v) s = execStmDisable req i v s := rfl
  rw [hrun, execStmDisable, guarded_access hi h]

theorem exec_stmResetWrite {s : State} {req : Requester} {i v w : Nat} (hi : i < 4096)
    (hw : w = setBits (setBits (v % 2 ^ 32) 31 31 (s.getF (Reg.STM_CTRL_EN i))) 0 0 1) (h : s.Takes req (Reg.STM_CTRL i) w) :
    exec (.stmResetWrite req i v) s = .next (s.inside ((s.wrStmCtrl i w).respond req 0 [])) := by
  subst hw
  have hrun : exec (.stmResetWrite req i v) s = execStmResetWrite req i v s := rfl
  rw [hrun, execStmResetWrite, whenLive_live h.1, decide_eq_true hi, State.guard_true,
    ← whenLive_live (f := fun u => u.access req (Reg.STM_CTRL i)
      (setBits (setBits (v % 2 ^ 32) 31 31 (s.getF (Reg.STM_CTRL_EN i))) 0 0 1) _) h.1, access_does h]

theorem exec_swapOut {s : State} {req : Requester} {i : Nat} (hi : i < 4096) (h : s.Takes req (Reg.STM_OP i) 1) :
    exec (.swapOut req i) s = .next (s.inside ((s.wrStmOp i 1).respond req 0 [])) := by
  have hrun : exec (.swapOut req i) s = execSwapOut req i s := rfl
  rw [hrun, execSwapOut, guarded_access hi h]

theorem exec_unpark {s : State} {req : Requester} {i : Nat} (hi : i < 4096) (h : s.Takes req (Reg.STM_OP i) 2) :
    exec (.unpark req i) s = .next (s.inside ((s.wrStmOp i 2).respond req 0 [])) := by
  have hrun : exec (.unpark req i) s = execUnpark req i s := rfl
  rw [hrun, execUnpark, guarded_access hi h]

/-! ### STM_CTRL -/

/-- A bit that is written reads the low bit of what is written. -/
theorem bit_setBits (x k v : Nat) : bit (setBits x k k v) k = v.testBit 0 := by
  rw [bit, testBit_setBits _ _ _ _ _ le_rfl]; simp

/-- A field that is written leaves the bits below and above it. -/
theorem bit_setBits_ne (x hi lo v k : Nat) (h : lo ≤ hi) (hk : k < lo ∨ hi < k) : bit (setBits x hi lo v) k = bit x k := by
  rw [bit, testBit_setBits _ _ _ _ _ h, if_neg (by omega), bit]

/-- The state after a write of STM_CTRL is stored and its RESET noted. -/
def State.stmCtrlStored (s : State) (i v : Nat) : State :=
  if bit v 0 then (s.applyWord (Reg.STM_CTRL i) v).noteReset i else s.applyWord (Reg.STM_CTRL i) v

theorem State.noteReset_mem (s : State) (i : Nat) : (s.noteReset i).mem = s.mem :=
  State.foldl_frame (f := fun (u : State) (e : Nat × Tile) => u.setTile e.1 { u.tile e.1 with window := (u.tile e.1).window.map (fun w =>
    if w.cmd.op == 0x28 && w.cmd.stream == i then { w with rewritten := true } else w) }) (g := State.mem) (fun _ _ _ => rfl) s

theorem State.stmCtrlStored_mem (s : State) (i v : Nat) : (s.stmCtrlStored i v).mem = s.mem := by
  unfold State.stmCtrlStored
  split
  · rw [State.noteReset_mem]; rfl
  · rfl

theorem State.wrStmCtrl_enable {s : State} {i v : Nat} (hen : bit v 31 = true) (h : s.stmStatus i = 0) : s.wrStmCtrl i v =
    ((((s.stmCtrlStored i v).setStream i {}).putF (Reg.STM_GEN_GEN i) 0).putF (Reg.STM_STAT_LAST_SEG i) 0xFFFF).setStatus i 1 := by
  rw [State.wrStmCtrl]
  rw [if_pos hen, if_pos h, State.stmCtrlStored]

theorem State.wrStmCtrl_disable {s : State} {i v : Nat} (hen : bit v 31 = false) (h : s.stmStatus i ≠ 0) : s.wrStmCtrl i v =
    (((s.stmCtrlStored i v).setStream i {}).putF (Reg.STM_STAT_WAITING i) 0).setStatus i 0 := by
  rw [State.wrStmCtrl]
  rw [if_neg (by simp [hen]), if_neg h, State.stmCtrlStored]

theorem State.wrStmCtrl_reset {s : State} {i v : Nat} (hen : bit v 31 = true) (hreset : bit v 0 = true) (h : s.stmStatus i ≠ 0) :
    s.wrStmCtrl i v = (s.applyWord (Reg.STM_CTRL i) v).noteReset i := by
  rw [State.wrStmCtrl]
  rw [if_pos hen, if_neg h, if_pos hreset]

/-! ### Images -/

/-- The state after a stream's image is in memory. -/
def State.swapStored (s : State) (i : Nat) : State :=
  let home := s.getF (Reg.STM_HOME_TILE i)
  let l := s.stmImage i (s.stmCopy home i (s.bankSel i))
  let s0 := s.readsFind ((s.stmPieces i (s.bankSel i)).map (fun p => (sramAddr home p.1, p.2)))
  if s.memOk (s.stmPart i) (s.stmPtr i) l.length true then s0.put swapPort (s.stmPart i) (s.stmPtr i) l else s0

/-- A stream of the state `u` whose swap-out has ended as its stream data `x` ask. -/
def State.swappedOut (u : State) (i : Nat) (x : Stream) : State :=
  ((u.setStream i { x with imageWritten := true, park := false }).setStatus i (if x.park then 6 else 4)).satInc Reg.STM_CNT_SWAPS

theorem exec_swapOutDone {s : State} {i : Nat} (hlive : s.live = true) (hi : i < 4096) (hstatus : s.stmStatus i = 3) :
    exec (.swapOutDone i) s = .next (s.inside ((s.swapStored i).swappedOut i (s.stream i))) := by
  have hrun : exec (.swapOutDone i) s = execSwapOutDone i s := rfl
  rw [hrun, execSwapOutDone, whenLive_live hlive, decide_eq_true hi, hstatus]
  rfl

theorem State.swapStored_ok {s : State} {i : Nat} {l : List Byte}
    (hl : l = s.stmImage i (s.stmCopy (s.getF (Reg.STM_HOME_TILE i)) i (s.bankSel i)))
    (hok : s.memOk (s.stmPart i) (s.stmPtr i) l.length true = true) : s.swapStored i =
      (s.readsFind ((s.stmPieces i (s.bankSel i)).map (fun p => (sramAddr (s.getF (Reg.STM_HOME_TILE i)) p.1, p.2)))).put
        swapPort (s.stmPart i) (s.stmPtr i) l := by
  subst hl
  rw [State.swapStored]
  rw [if_pos hok]

theorem State.swappedOut_spec (u : State) (i : Nat) (x : Stream) : (u.swappedOut i x).stmStatus i = (if x.park then 6 else 4) ∧
    ((u.swappedOut i x).stream i).imageWritten = true ∧ ((u.swappedOut i x).stream i).park = false ∧
    (u.swappedOut i x).mem = u.mem ∧
    (u.swappedOut i x).getF Reg.STM_CNT_SWAPS = min (u.getF Reg.STM_CNT_SWAPS + 1) (2 ^ Reg.STM_CNT_SWAPS.width - 1) := by
  have hstream : (u.swappedOut i x).stream i = { x with imageWritten := true, park := false } := by
    rw [State.swappedOut, State.satInc, State.stream_putF, State.stream_setStatus, State.stream_setStream_same]
  have hcount (v : State) (n : Nat) : (v.setStatus i n).getF Reg.STM_CNT_SWAPS = v.getF Reg.STM_CNT_SWAPS := by
    refine State.getF_putF_other (f := Reg.STM_STAT_STATUS i) (g := Reg.STM_CNT_SWAPS) _ n ?_ (by decide) ?_
    · simp [Reg.STM_STAT_STATUS]
    · simp only [Reg.STM_STAT_STATUS, Reg.STM_STAT, Reg.STM_CNT_SWAPS, Reg.STM_CNT]; omega
  refine ⟨?_, by rw [hstream], by rw [hstream], ?_, ?_⟩
  · rw [State.swappedOut, State.satInc]
    refine (State.getF_putF_other (f := Reg.STM_CNT_SWAPS) (g := Reg.STM_STAT_STATUS i) _ _ (by decide) ?_ ?_).trans
      (State.stmStatus_setStatus _ i ?_)
    · simp [Reg.STM_STAT_STATUS]
    · simp only [Reg.STM_STAT_STATUS, Reg.STM_STAT, Reg.STM_CNT_SWAPS, Reg.STM_CNT]; omega
    · split <;> decide
  · rw [State.swappedOut, State.satInc, State.putF_mem, State.setStatus_mem]; rfl
  · rw [State.swappedOut, State.getF_satInc _ _ _ (by decide), hcount]; rfl

theorem State.put_local {s : State} {a : Nat} (h : s.isNeighbour a = false) (req part : Nat) (l : List Byte) :
    s.put req part a l = (s.store a l).traffic req part true a l.length := by
  rw [State.put, h]; rfl

@[simp] theorem State.traffic_mem (s : State) (port part : Nat) (write : Bool) (a n : Nat) :
    (s.traffic port part write a n).mem = s.mem := by rw [State.traffic_eq]
@[simp] theorem State.traffic_regs (s : State) (port part : Nat) (write : Bool) (a n : Nat) :
    (s.traffic port part write a n).regs = s.regs := by rw [State.traffic_eq]
@[simp] theorem State.traffic_stm (s : State) (port part : Nat) (write : Bool) (a n : Nat) :
    (s.traffic port part write a n).stm = s.stm := by rw [State.traffic_eq]

theorem State.swapped_local (u : State) {a : Nat} (h : u.isNeighbour a = false) (req part : Nat) (l : List Byte) (f : Fld) :
    (u.put req part a l).mem = (u.store a l).mem ∧ (u.put req part a l).getF f = u.getF f := by
  rw [State.put_local h]
  exact ⟨State.traffic_mem .., State.getF_of_regs_eq ((State.traffic_regs ..).trans (u.store_regs ..))⟩

/-- The state after a good image is in its tile. -/
def State.imageRestored (s : State) (i : Nat) (l : List Byte) : State :=
  (((s.setStmCopy (s.stream i).dest i (s.bankSel i) (s.imageState i l)).setStatus i 2).satInc Reg.STM_CNT_RESTORES).traffic swapPort
    (s.stmPart i) false (s.stmPtr i) l.length

theorem exec_restoreDone {s : State} {i : Nat} {l : List Byte} (hlive : s.live = true) (hi : i < 4096) (hstatus : s.stmStatus i = 5)
    (hpark : (s.stream i).park = false) (hblock : s.blockState 0x340 ≠ .stopping) (hl : l = s.fetch (s.stmPtr i) (s.imageBytes i))
    (hok : s.memOk (s.stmPart i) (s.stmPtr i) l.length false = true) (hgood : s.imageGood i l = true) :
    exec (.restoreDone i) s = .next (s.inside (s.imageRestored i l)) := by
  subst hl
  have hrun : exec (.restoreDone i) s = execRestoreDone i s := rfl
  rw [hrun, execRestoreDone, whenLive_live hlive, decide_eq_true hi, hstatus, BEq.rfl, Bool.and_true, State.guard_true]
  dsimp only
  rw [if_pos (by rw [hok, hgood]; rfl), hpark, if_neg Bool.false_ne_true, if_neg (by simpa using hblock), State.imageRestored]

theorem State.setStmCopy_frame (s : State) (t i k : Nat) (l : List Byte) :
    (s.setStmCopy t i k l).regs = s.regs ∧ (s.setStmCopy t i k l).stm = s.stm :=
  ⟨State.foldl_frame (g := State.regs) (fun u w _ => u.store_regs ..) s,
    State.foldl_frame (g := State.stm) (fun u w _ => by rw [State.store_eq]) s⟩

theorem State.imageRestored_spec (s : State) (i : Nat) (l : List Byte) : (s.imageRestored i l).stmStatus i = 2 ∧
    (s.imageRestored i l).getF Reg.STM_CNT_RESTORES =
      min (s.getF Reg.STM_CNT_RESTORES + 1) (2 ^ Reg.STM_CNT_RESTORES.width - 1) ∧
    (s.imageRestored i l).stream i = s.stream i := by
  obtain ⟨hregs, hstm⟩ := s.setStmCopy_frame (s.stream i).dest i (s.bankSel i) (s.imageState i l)
  have hcount (v : State) (n : Nat) : (v.setStatus i n).getF Reg.STM_CNT_RESTORES = v.getF Reg.STM_CNT_RESTORES := by
    refine State.getF_putF_other (f := Reg.STM_STAT_STATUS i) (g := Reg.STM_CNT_RESTORES) _ n ?_ (by decide) ?_
    · simp [Reg.STM_STAT_STATUS]
    · simp only [Reg.STM_STAT_STATUS, Reg.STM_STAT, Reg.STM_CNT_RESTORES, Reg.STM_CNT]; omega
  refine ⟨?_, ?_, ?_⟩
  · rw [State.imageRestored, State.stmStatus, State.getF_of_regs_eq (State.traffic_regs ..), State.satInc]
    refine (State.getF_putF_other (f := Reg.STM_CNT_RESTORES) (g := Reg.STM_STAT_STATUS i) _ _ (by decide) ?_ ?_).trans
      (State.stmStatus_setStatus _ i (by decide))
    · simp [Reg.STM_STAT_STATUS]
    · simp only [Reg.STM_STAT_STATUS, Reg.STM_STAT, Reg.STM_CNT_RESTORES, Reg.STM_CNT]; omega
  · rw [State.imageRestored, State.getF_of_regs_eq (State.traffic_regs ..), State.getF_satInc _ _ _ (by decide), hcount,
      State.getF_of_regs_eq hregs]
  · rw [State.imageRestored, State.stream_of_stm (State.traffic_stm ..), State.satInc, State.stream_putF, State.stream_setStatus,
      State.stream_of_stm hstm]

/-- Settles O47. -/
theorem streamAndFreeListCommandsComplete : Obligations.StreamAndFreeListCommandsComplete := by
  unfold Obligations.StreamAndFreeListCommandsComplete
  refine ⟨?push, ?enable, ?disable, ?reset, ?swapOut, ?unpark, ?swapPut, ?swapLocal, ?restore⟩
  case push =>
    intro s req p k frame page hp hk hframe hpage h
    exact exec_kvpFlPush hp hk hframe hpage h
  case enable =>
    intro s req i v hi h hstatus
    have hen : bit (setBits (v % 2 ^ 32) 31 31 1) 31 = true := bit_setBits ..
    have hlow (u : State) : (u.setStatus i 1).getF (Reg.STM_GEN_GEN i) = u.getF (Reg.STM_GEN_GEN i) := by
      refine State.getF_putF_other (f := Reg.STM_STAT_STATUS i) (g := Reg.STM_GEN_GEN i) _ 1 ?_ ?_ ?_ <;>
        simp [Reg.STM_STAT_STATUS, Reg.STM_GEN_GEN, Reg.STM_STAT, Reg.STM_GEN]
    refine ⟨_, exec_stmEnable hi h, ?_, ?_, ?_, ?_, ?_⟩
    · rw [State.stmStatus_inside, State.stmStatus_respond, State.wrStmCtrl_enable hen hstatus]
      exact State.stmStatus_setStatus _ i (by decide)
    · rw [State.getF_inside, State.getF_respond, State.wrStmCtrl_enable hen hstatus, hlow]
      refine (State.getF_putF_other (f := Reg.STM_STAT_LAST_SEG i) (g := Reg.STM_GEN_GEN i) _ _ ?_ ?_ ?_).trans
        ((State.getF_putF _ _ _ ?_).trans (Nat.zero_mod _)) <;>
        simp [Reg.STM_STAT_LAST_SEG, Reg.STM_GEN_GEN, Reg.STM_STAT, Reg.STM_GEN]
    · rw [State.getF_inside, State.getF_respond, State.wrStmCtrl_enable hen hstatus]
      refine (State.getF_putF_word (f := Reg.STM_STAT_STATUS i) (g := Reg.STM_STAT_LAST_SEG i) _ 1 rfl ?_ ?_ ?_ ?_).trans
        (State.getF_putF _ _ _ ?_) <;> simp [Reg.STM_STAT_LAST_SEG, Reg.STM_STAT_STATUS]
    · rw [State.stream_inside, State.stream_respond, State.wrStmCtrl_enable hen hstatus, State.stream_setStatus, State.stream_putF,
        State.stream_putF, State.stream_setStream_same]
    · rw [State.inside_mem, State.respond_mem, State.wrStmCtrl_enable hen hstatus, State.setStatus_mem, State.putF_mem, State.putF_mem,
        State.setStream_mem, State.stmCtrlStored_mem]
  case disable =>
    intro s req i v hi h hstatus
    have hen : bit (setBits (v % 2 ^ 32) 31 31 0) 31 = false := bit_setBits ..
    refine ⟨_, exec_stmDisable hi h, ?_, ?_, ?_⟩
    · rw [State.stmStatus_inside, State.stmStatus_respond, State.wrStmCtrl_disable hen hstatus]
      exact State.stmStatus_setStatus _ i (by decide)
    · rw [State.stream_inside, State.stream_respond, State.wrStmCtrl_disable hen hstatus, State.stream_setStatus, State.stream_putF,
        State.stream_setStream_same]
    · rw [State.inside_mem, State.respond_mem, State.wrStmCtrl_disable hen hstatus, State.setStatus_mem, State.putF_mem,
        State.setStream_mem, State.stmCtrlStored_mem]
  case reset =>
    intro s req i v w hi hw h hen hstatus
    have h0 : bit w 0 = true := by rw [hw]; exact bit_setBits ..
    have h31 : bit w 31 = true := by
      have hone : s.getF (Reg.STM_CTRL_EN i) = 1 := by
        have hlt : s.getF (Reg.STM_CTRL_EN i) < 2 := bits_lt ..
        rw [State.onF] at hen
        simp only [bne_iff_ne, ne_eq] at hen
        omega
      rw [hw, bit_setBits_ne _ _ _ _ _ le_rfl (.inr (by decide)), hone]
      exact bit_setBits ..
    rw [Does, exec_stmResetWrite hi hw h, State.wrStmCtrl_reset h31 h0 hstatus]
  case swapOut =>
    intro s req i hi h hw
    have hop : s.wrStmOp i 1 = s.wantSwap i false := (if_pos hw : (if s.stmW i = 0 then s.wantSwap i false else s) = _)
    rw [Does, exec_swapOut hi h, hop]
  case unpark =>
    intro s req i hi h hstatus
    have hop : s.wrStmOp i 2 = s.setStatus i (if (s.stream i).imageWritten then 4 else 1) :=
      (if_pos hstatus : (if s.stmStatus i = 6 then s.setStatus i (if (s.stream i).imageWritten then 4 else 1) else s) = _)
    refine ⟨_, exec_unpark hi h, ?_, ?_, ?_⟩
    · rw [State.stmStatus_inside, State.stmStatus_respond, hop, State.stmStatus_setStatus]
      split <;> decide
    · rw [State.stream_inside, State.stream_respond, hop, State.stream_setStatus]
    · rw [State.inside_mem, State.respond_mem, hop, State.setStatus_mem]
  case swapPut =>
    intro s i l u hlive hi hstatus hl hok hu
    rw [Does, exec_swapOutDone hlive hi hstatus, State.swapStored_ok hl hok, ← hu, State.swappedOut]
  case swapLocal =>
    intro s i l v hlive hi hstatus hl hok hv hlocal
    obtain ⟨hst, himg, hpark, hmem, hcount⟩ := (s.swapStored i).swappedOut_spec i (s.stream i)
    have hstored : s.swapStored i = v.put swapPort (s.stmPart i) (s.stmPtr i) l := by rw [State.swapStored_ok hl hok, ← hv]
    obtain ⟨hputMem, hputCount⟩ := v.swapped_local hlocal swapPort (s.stmPart i) l Reg.STM_CNT_SWAPS
    refine ⟨_, exec_swapOutDone hlive hi hstatus, ?_, ?_, ?_, ?_, ?_⟩
    · rw [State.stmStatus_inside, hst]
    · rw [State.stream_inside, himg]
    · rw [State.stream_inside, hpark]
    · rw [State.inside_mem, hmem, hstored, hputMem]
    · rw [State.getF_inside, hcount, hstored, hputCount]
  case restore =>
    intro s i l hlive hi hstatus hpark hblock hl hok hgood
    obtain ⟨hst, hcount, hstream⟩ := s.imageRestored_spec i l
    refine ⟨_, exec_restoreDone hlive hi hstatus hpark hblock hl hok hgood, ?_, ?_, ?_⟩
    · rw [State.stmStatus_inside, hst]
    · rw [State.getF_inside, hcount]
    · rw [State.stream_inside, hstream]

end Sys2Proof.Machine
end

section
/-! Temperature and voltage samples. -/

namespace Sys2Proof.Machine

/-- A field of one word that is written leaves the fields of other words. -/
theorem State.getF_putF_far (s : State) {f g : Fld} (v : Nat) (h : f.hi < 32 ∧ g.hi < 32 ∧ g.addr ≠ f.addr) :
    (s.putF f v).getF g = s.getF g := s.getF_putF_other v h.1 h.2.1 h.2.2

/-- A field of one word that is written leaves the other fields of the word. -/
theorem State.getF_putF_beside (s : State) {f g : Fld} (v : Nat)
    (h : g.addr = f.addr ∧ f.hi < 32 ∧ g.hi < 32 ∧ f.lo ≤ f.hi ∧ (g.hi < f.lo ∨ f.hi < g.lo)) : (s.putF f v).getF g = s.getF g :=
  s.getF_putF_word v h.1 h.2.1 h.2.2.1 h.2.2.2.1 h.2.2.2.2

/-! ### Readings -/

/-- A temperature of 16 bits with sign is read back from its pattern. -/
theorem signed16_toBits {x : Int} (h : -(2 ^ 15) ≤ x ∧ x < 2 ^ 15) : signed 16 (toBits 16 x % 2 ^ 16) = x := by
  unfold signed toBits
  dsimp only
  norm_num at h ⊢
  split <;> omega

/-- A reading that is not out of range is taken as it is. -/
theorem State.checkReading_good {s : State} {v : Int} (h : (s.checkReading v).2 = false) :
    s.checkReading v = (v, false) ∧ -240 ≤ v ∧ v ≤ 640 := by
  unfold State.checkReading at h ⊢
  split at h
  · cases h
  next hin =>
    rw [if_neg hin]
    refine ⟨Prod.ext rfl h, ?_, ?_⟩ <;> omega

/-! ### The hottest sensor -/

theorem State.showHottest_sansRegs (s : State) : s.showHottest.sansRegs = s.sansRegs := by
  rw [State.showHottest]
  rw [State.putF_sansRegs, State.putF_sansRegs]

theorem State.reg_showHottest_ne (s : State) {a : Nat} (h : a ≠ Reg.PWR_THERM) : s.showHottest.reg a = s.reg a := by
  rw [State.showHottest]
  rw [State.reg_putF_ne, State.reg_putF_ne]
  all_goals simp only [Reg.PWR_THERM_HOT, Reg.PWR_THERM_TMAX]; omega

theorem State.tjMax_showHottest (s : State) : s.showHottest.tjMax = s.tjMax := by
  rw [State.tjMax, State.showHottest]
  rw [State.getF_putF_beside _ _ (by decide), State.getF_putF_beside _ _ (by decide), State.tjMax]

/-! ### A tile's sample -/

theorem State.free_regs (s : State) (w : Nat) : (s.free w).2.regs = s.regs := rfl

theorem State.measureFreq_spec (s : State) (t : Nat) : (∀ a, a ≠ Reg.TILE_FMEAS t → (s.measureFreq t).reg a = s.reg a) ∧
    (s.measureFreq t).mem = s.mem ∧ (s.measureFreq t).sch = s.sch ∧ (s.measureFreq t).dev = s.dev ∧ (s.measureFreq t).pwr = s.pwr := by
  unfold State.measureFreq
  refine ⟨fun a ha => ?_, State.putF_mem .., State.putF_sch .., State.putF_dev .., State.putF_pwr ..⟩
  rw [State.reg_putF_ne]
  · rfl
  · simp only [Reg.TILE_FMEAS_MHZ]; omega

/-- The state after a reading of a tile is shown and its frequency measured. -/
def State.tempShown (s : State) (t : Nat) (v : Int) : State :=
  ((s.putF (Reg.TILE_TEMP_TEMP t) (toBits 16 v)).measureFreq t).showHottest

/-- What a shown reading leaves: every word but the tile's temperature and frequency and the hottest sensor's. -/
theorem State.reg_tempShown (s : State) {t a : Nat} (v : Int) (h1 : a ≠ Reg.TILE_TEMP t) (h2 : a ≠ Reg.TILE_FMEAS t)
    (h3 : a ≠ Reg.PWR_THERM) : (s.tempShown t v).reg a = s.reg a := by
  obtain ⟨hreg, -⟩ := (s.putF (Reg.TILE_TEMP_TEMP t) (toBits 16 v)).measureFreq_spec t
  rw [State.tempShown, State.reg_showHottest_ne _ h3, hreg a h2, State.reg_putF_ne]
  simp only [Reg.TILE_TEMP_TEMP]; omega

theorem State.tempShown_frame (s : State) (t : Nat) (v : Int) : (s.tempShown t v).mem = s.mem ∧ (s.tempShown t v).sch = s.sch ∧
    (s.tempShown t v).dev = s.dev ∧ (s.tempShown t v).pwr = s.pwr := by
  obtain ⟨-, hmem, hsch, hdev, hpwr⟩ := (s.putF (Reg.TILE_TEMP_TEMP t) (toBits 16 v)).measureFreq_spec t
  have hhot := ((s.putF (Reg.TILE_TEMP_TEMP t) (toBits 16 v)).measureFreq t).showHottest_sansRegs
  rw [State.tempShown]
  refine ⟨?_, ?_, ?_, ?_⟩
  · rw [State.of_sansRegs (g := State.mem) (fun _ => rfl) hhot, hmem, State.putF_mem]
  · rw [State.of_sansRegs (g := State.sch) (fun _ => rfl) hhot, hsch, State.putF_sch]
  · rw [State.of_sansRegs (g := State.dev) (fun _ => rfl) hhot, hdev, State.putF_dev]
  · rw [State.of_sansRegs (g := State.pwr) (fun _ => rfl) hhot, hpwr, State.putF_pwr]

theorem State.thermal_tempShown (s : State) (t n : Nat) (v : Int) :
    (s.tempShown t v).getF (Reg.TILE_ISSUE_THERMAL n) = s.getF (Reg.TILE_ISSUE_THERMAL n) := by
  refine State.getF_of_reg_eq (by simp [Reg.TILE_ISSUE_THERMAL]) (s.reg_tempShown v ?_ ?_ ?_) <;>
    simp only [Reg.TILE_ISSUE_THERMAL, Reg.TILE_ISSUE, Reg.TILE_TEMP, Reg.TILE_FMEAS, Reg.PWR_THERM] <;> omega

theorem State.tileTemp_of_reg {s u : State} {n : Nat} (h : u.reg (Reg.TILE_TEMP n) = s.reg (Reg.TILE_TEMP n)) :
    u.tileTemp n = s.tileTemp n := by
  rw [State.tileTemp, State.tileTemp, State.getF_of_reg_eq (f := Reg.TILE_TEMP_TEMP n) (by simp [Reg.TILE_TEMP_TEMP]) h]

theorem State.tileTemp_tempShown (s : State) (t n : Nat) {v : Int} (hv : -240 ≤ v ∧ v ≤ 640) :
    (s.tempShown t v).tileTemp n = if n = t then v else s.tileTemp n := by
  split_ifs with h
  · subst h
    obtain ⟨hreg, -⟩ := (s.putF (Reg.TILE_TEMP_TEMP n) (toBits 16 v)).measureFreq_spec n
    have hword : (s.tempShown n v).reg (Reg.TILE_TEMP n) = (s.putF (Reg.TILE_TEMP_TEMP n) (toBits 16 v)).reg (Reg.TILE_TEMP n) := by
      rw [State.tempShown, State.reg_showHottest_ne, hreg]
      · simp only [Reg.TILE_TEMP, Reg.TILE_FMEAS]; omega
      · simp only [Reg.TILE_TEMP, Reg.PWR_THERM]; omega
    rw [State.tileTemp_of_reg hword, State.tileTemp, State.getF_putF _ _ _ (by simp [Reg.TILE_TEMP_TEMP])]
    exact signed16_toBits (by omega)
  · refine State.tileTemp_of_reg (s.reg_tempShown v ?_ ?_ ?_) <;>
      simp only [Reg.TILE_TEMP, Reg.TILE_FMEAS, Reg.PWR_THERM] <;> omega

theorem State.tjThr_tempShown (s : State) (t : Nat) (v : Int) : (s.tempShown t v).tjThr = s.tjThr := by
  have hcfg : (s.tempShown t v).getF Reg.PWR_CFG_THR_OFS = s.getF Reg.PWR_CFG_THR_OFS := by
    refine State.getF_of_reg_eq (by decide) (s.reg_tempShown v ?_ ?_ (by decide)) <;>
      simp only [Reg.PWR_CFG_THR_OFS, Reg.PWR_CFG, Reg.TILE_TEMP, Reg.TILE_FMEAS] <;> omega
  have hmax : (s.tempShown t v).tjMax = s.tjMax := by
    obtain ⟨hreg, -⟩ := (s.putF (Reg.TILE_TEMP_TEMP t) (toBits 16 v)).measureFreq_spec t
    rw [State.tempShown, State.tjMax_showHottest, State.tjMax, State.tjMax]
    congr 2
    refine State.getF_of_reg_eq (by decide) ((hreg _ ?_).trans (State.reg_putF_ne _ _ _ _ ?_)) <;>
      simp only [Reg.PWR_THERM_TJ_MAX, Reg.PWR_THERM, Reg.TILE_FMEAS, Reg.TILE_TEMP_TEMP, Reg.TILE_TEMP] <;> omega
  rw [State.tjThr, State.tjThr, hcfg, hmax]

/-- A tile is much hotter than one of its neighbours. -/
def State.steep (s : State) (t : Nat) (v : Int) : Bool := (meshNeighbours t).any (fun n => decide (s.tileTemp n + 120 < v))

theorem not_mem_meshNeighbours : ∀ t < 32, t ∉ meshNeighbours t := by decide

theorem State.steep_tempShown (s : State) {t : Nat} (ht : t < 32) {v : Int} (hv : -240 ≤ v ∧ v ≤ 640) :
    (s.tempShown t v).steep t v = s.steep t v := by
  rw [State.steep, State.steep, Bool.eq_iff_iff, List.any_eq_true, List.any_eq_true]
  refine exists_congr fun n => and_congr_right fun hn => ?_
  have hne : n ≠ t := fun h => not_mem_meshNeighbours t ht (h ▸ hn)
  rw [s.tileTemp_tempShown t n hv, if_neg hne]

theorem State.noteCapped_eq (s : State) : s.noteCapped = s ∨ s.noteCapped = s.putF Reg.PWR_MODE_REPEAT_CAPPED 1 := by
  unfold State.noteCapped; split <;> simp

theorem State.noteCapped_sansRegs (s : State) : s.noteCapped.sansRegs = s.sansRegs := by
  obtain h | h := s.noteCapped_eq <;> rw [h]
  exact State.putF_sansRegs ..

theorem State.reg_noteCapped (s : State) {a : Nat} (h : a ≠ Reg.PWR_MODE) : s.noteCapped.reg a = s.reg a := by
  obtain h' | h' := s.noteCapped_eq <;> rw [h']
  exact State.reg_putF_ne _ _ _ _ (by simp only [Reg.PWR_MODE_REPEAT_CAPPED]; omega)

/-- What a tile that shows reading `v` does about its neighbours and its threshold. -/
def State.limitTile (u : State) (t : Nat) (v : Int) : State :=
  let th := u.getF (Reg.TILE_ISSUE_THERMAL t)
  let s3 := if u.steep t v then (u.putF (Reg.TILE_ISSUE_THERMAL t) (max 16 (th - 1))).throttleIrq (th == 64) else u
  let s4 := if u.steep t v && th == 64 then s3.raise FS.PWR_TGRAD_THR else s3
  let c := s4.thermCode t
  if s4.tjThr < v then (s4.setThermCode t (max 16 (c - 1))).throttleIrq (c == 54) else s4

theorem exec_tileTempSample {s : State} {t temp : Nat} (hlive : s.live = true) (ht : t < 32)
    (hgood : (s.checkReading (signed 16 temp)).2 = false) : exec (.tileTempSample t temp) s =
      .next (s.inside ((s.tempShown t (signed 16 temp)).limitTile t (signed 16 temp)).noteCapped) := by
  obtain ⟨hread, -⟩ := State.checkReading_good hgood
  have hrun : exec (.tileTempSample t temp) s = execTileTempSample t temp s := rfl
  rw [hrun, execTileTempSample, whenLive_live hlive, decide_eq_true ht, State.guard_true, hread]
  rfl

theorem State.limitTile_level {u : State} {t : Nat} {v : Int} (h : u.steep t v = false) (hlim : v ≤ u.tjThr) : u.limitTile t v = u := by
  rw [State.limitTile, h]
  simp only [Bool.false_eq_true, if_false, Bool.false_and, not_lt.mpr hlim]

theorem State.tjThr_putThermal (u : State) (t v : Nat) : (u.putF (Reg.TILE_ISSUE_THERMAL t) v).tjThr = u.tjThr := by
  rw [State.tjThr, State.tjThr, State.tjMax, State.tjMax,
    u.getF_putF_far (f := Reg.TILE_ISSUE_THERMAL t) (g := Reg.PWR_THERM_TJ_MAX) v
      (by simp only [Reg.TILE_ISSUE_THERMAL, Reg.TILE_ISSUE, Reg.PWR_THERM_TJ_MAX, Reg.PWR_THERM]; omega),
    u.getF_putF_far (f := Reg.TILE_ISSUE_THERMAL t) (g := Reg.PWR_CFG_THR_OFS) v
      (by simp only [Reg.TILE_ISSUE_THERMAL, Reg.TILE_ISSUE, Reg.PWR_CFG_THR_OFS, Reg.PWR_CFG]; omega)]

theorem State.limitTile_steep {u : State} {t : Nat} {v : Int} (h : u.steep t v = true) (hlim : v ≤ u.tjThr)
    (hne : u.getF (Reg.TILE_ISSUE_THERMAL t) ≠ 64) : u.limitTile t v =
      u.putF (Reg.TILE_ISSUE_THERMAL t) (max 16 (u.getF (Reg.TILE_ISSUE_THERMAL t) - 1)) := by
  have hfull : (u.getF (Reg.TILE_ISSUE_THERMAL t) == 64) = false := by simpa using hne
  rw [State.limitTile, h, hfull]
  simp only [if_true, Bool.and_false, Bool.false_eq_true, if_false, State.throttleIrq, State.tjThr_putThermal, not_lt.mpr hlim]

theorem State.noteCapped_frame (s : State) : s.noteCapped.mem = s.mem ∧ s.noteCapped.sch = s.sch ∧ s.noteCapped.dev = s.dev ∧
    s.noteCapped.pwr = s.pwr := by
  have h := s.noteCapped_sansRegs
  exact ⟨State.of_sansRegs (g := State.mem) (fun _ => rfl) h, State.of_sansRegs (g := State.sch) (fun _ => rfl) h,
    State.of_sansRegs (g := State.dev) (fun _ => rfl) h, State.of_sansRegs (g := State.pwr) (fun _ => rfl) h⟩

theorem State.tileTemp_noteCapped (s : State) (n : Nat) : s.noteCapped.tileTemp n = s.tileTemp n :=
  State.tileTemp_of_reg (s.reg_noteCapped (by simp only [Reg.TILE_TEMP, Reg.PWR_MODE]; omega))

theorem State.thermal_noteCapped (s : State) (n : Nat) :
    s.noteCapped.getF (Reg.TILE_ISSUE_THERMAL n) = s.getF (Reg.TILE_ISSUE_THERMAL n) :=
  State.getF_of_reg_eq (by simp [Reg.TILE_ISSUE_THERMAL])
    (s.reg_noteCapped (by simp only [Reg.TILE_ISSUE_THERMAL, Reg.TILE_ISSUE, Reg.PWR_MODE]; omega))

@[simp] theorem State.tileTemp_inside (s t : State) (n : Nat) : (s.inside t).tileTemp n = t.tileTemp n := by simp [State.tileTemp]

/-! ### The other sensors -/

theorem exec_throttleRecovery {s : State} {t : Nat} (hlive : s.live = true) (ht : t < 32)
    (hcool : ∀ n ∈ meshNeighbours t, s.tileTemp t ≤ s.tileTemp n + 100) : exec (.throttleRecovery t) s =
      .next (s.inside (s.putF (Reg.TILE_ISSUE_THERMAL t) (min 64 (s.getF (Reg.TILE_ISSUE_THERMAL t) + 1)))) := by
  have hrun : exec (.throttleRecovery t) s = execThrottleRecovery t s := rfl
  have hall : (meshNeighbours t).all (fun n => decide (s.tileTemp t ≤ s.tileTemp n + 100)) = true :=
    List.all_eq_true.mpr fun n hn => decide_eq_true (hcool n hn)
  rw [hrun, execThrottleRecovery, whenLive_live hlive, decide_eq_true ht, hall, Bool.true_and, State.guard_true]

theorem exec_tgradTimeout {s : State} {t n : Nat} (hlive : s.live = true) (ht : t < 32) (hn : n ∈ meshNeighbours t)
    (hhot : s.tileTemp n + 160 < s.tileTemp t) : exec .tgradTimeout s = .next (s.inside (s.raise FS.PWR_TGRAD)) := by
  have hrun : exec .tgradTimeout s = execTgradTimeout s := rfl
  have hany : (List.range 32).any (fun t => (meshNeighbours t).any (fun n => decide (s.tileTemp n + 160 < s.tileTemp t))) = true :=
    List.any_eq_true.mpr ⟨t, List.mem_range.mpr ht, List.any_eq_true.mpr ⟨n, hn, decide_eq_true hhot⟩⟩
  rw [hrun, execTgradTimeout, whenLive_live hlive, hany, State.guard_true]

theorem exec_overtempTimeout {s : State} {n : Nat} (hlive : s.live = true) (hn : n < 48) (hhot : s.tjMax < s.sensorTemp n) :
    exec .overtempTimeout s = .next (s.inside (s.raise FS.PWR_OVERTEMP)) := by
  have hrun : exec .overtempTimeout s = execOvertempTimeout s := rfl
  have hany : (List.range 48).any (fun n => decide (s.tjMax < s.sensorTemp n)) = true :=
    List.any_eq_true.mpr ⟨n, List.mem_range.mpr hn, decide_eq_true hhot⟩
  rw [hrun, execOvertempTimeout, whenLive_live hlive, hany, State.guard_true]

theorem exec_clkratioDetect {s : State} (hlive : s.live = true) :
    exec .clkratioDetect s = .next (s.inside (s.raise FS.PWR_CLKRATIO)) := by
  have hrun : exec .clkratioDetect s = execClkratioDetect s := rfl
  rw [hrun, execClkratioDetect, whenLive_live hlive]

theorem exec_lpddr5xTempAlert {s : State} {k : Nat} (hlive : s.live = true) (hk : k < 4) :
    exec (.lpddr5xTempAlert k) s = .next (s.inside (s.raise (FS.LPC_TEMP k))) := by
  have hrun : exec (.lpddr5xTempAlert k) s = execLpddr5xTempAlert k s := rfl
  rw [hrun, execLpddr5xTempAlert, whenLive_live hlive, decide_eq_true hk, State.guard_true]

/-- The state with a hub sensor's reading. -/
def State.setHubTemp (s : State) (k : Nat) (v : Int) : State :=
  { s with pwr := { s.pwr with hubTemps := Sparse.set (fun _ => 0) s.pwr.hubTemps k (toBits 16 v) } }

theorem State.setHubTemp_frame (s : State) (k : Nat) (v : Int) : (s.setHubTemp k v).mem = s.mem ∧ (s.setHubTemp k v).dev = s.dev :=
  ⟨rfl, rfl⟩

theorem State.hubTemp_setHubTemp (s : State) (k n : Nat) {v : Int} (hv : -240 ≤ v ∧ v ≤ 640) :
    (s.setHubTemp k v).hubTemp n = if n = k then v else s.hubTemp n := by
  have hmod : toBits 16 v % 2 ^ 16 = toBits 16 v := by
    refine Nat.mod_eq_of_lt ?_
    unfold toBits
    norm_num
    omega
  rw [State.hubTemp, State.setHubTemp, Sparse.get_set]
  split_ifs with h
  · rw [← hmod]; exact signed16_toBits (by omega)
  · rfl

theorem State.hubTemp_of_pwr {s u : State} (h : u.pwr = s.pwr) (n : Nat) : u.hubTemp n = s.hubTemp n := by
  rw [State.hubTemp, State.hubTemp, h]

theorem exec_hubTempSample {s : State} {k temp : Nat} (hlive : s.live = true) (hk : k < 16)
    (hgood : (s.checkReading (signed 16 temp)).2 = false) :
    exec (.hubTempSample k temp) s = .next (s.inside (s.setHubTemp k (signed 16 temp)).showHottest) := by
  obtain ⟨hread, -⟩ := State.checkReading_good hgood
  have hrun : exec (.hubTempSample k temp) s = execHubTempSample k temp s := rfl
  rw [hrun, execHubTempSample, whenLive_live hlive, decide_eq_true hk, State.guard_true, hread]
  rfl

/-! ### Voltages -/

/-- The islands that a sample shows too far apart. -/
def pairsApart (volts : List Nat) : List (Nat × Nat) :=
  islandPairs.filter (fun p => decide (volts.getD p.1 0 + 250 < volts.getD p.2 0) || decide (volts.getD p.2 0 + 250 < volts.getD p.1 0))

/-- The state with the islands' voltages shown. -/
def State.voltsMeasured (s : State) (volts : List Nat) : State :=
  (List.range 8).foldl (fun t n => t.putF (Reg.PWR_ISL_V_MEAS n) (volts.getD n 0)) s

/-- The state with pairs of islands noted as too far apart. -/
def State.noteApart (s : State) (l : List (Nat × Nat)) : State := { s with pwr := { s.pwr with vdiffOver := l } }

theorem State.noteApart_frame (s : State) (l : List (Nat × Nat)) : (s.noteApart l).regs = s.regs ∧
    (s.noteApart l).mem = s.mem ∧ (s.noteApart l).dev = s.dev ∧ (s.noteApart l).pwr.vdiffOver = l := ⟨rfl, rfl, rfl, rfl⟩

/-- The state with the islands' voltages shown and the pairs too far apart noted. -/
def State.voltsShown (s : State) (volts : List Nat) : State := (s.voltsMeasured volts).noteApart (pairsApart volts)

theorem State.voltsMeasured_spec (s : State) (volts : List Nat) :
    (∀ n < 8, (s.voltsMeasured volts).getF (Reg.PWR_ISL_V_MEAS n) = volts.getD n 0 % 2 ^ (Reg.PWR_ISL_V_MEAS n).width) ∧
    (s.voltsMeasured volts).sansRegs = s.sansRegs := by
  refine ⟨fun n hn => ?_, s.foldl_putF_sansRegs (fun n => Reg.PWR_ISL_V_MEAS n) (fun n => volts.getD n 0) (List.range 8)⟩
  rw [State.voltsMeasured, State.foldl_range_at (f := fun t n => t.putF (Reg.PWR_ISL_V_MEAS n) (volts.getD n 0))
    (g := fun u => u.getF (Reg.PWR_ISL_V_MEAS n)) hn]
  · exact State.getF_putF _ _ _ (by simp [Reg.PWR_ISL_V_MEAS])
  · intro u k hk
    refine u.getF_putF_far (f := Reg.PWR_ISL_V_MEAS k) (g := Reg.PWR_ISL_V_MEAS n) _ ?_
    simp only [Reg.PWR_ISL_V_MEAS, Reg.PWR_ISL_V]; omega

theorem exec_vdiffSample {s : State} (hlive : s.live = true) (volts : List Nat) : exec (.vdiffSample volts) s =
    .next (s.inside (if (pairsApart volts).any (fun p => s.pwr.vdiffOver.contains p) then (s.voltsShown volts).raise FS.PWR_VDIFF
      else s.voltsShown volts)) := by
  have hrun : exec (.vdiffSample volts) s = execVdiffSample volts s := rfl
  rw [hrun, execVdiffSample, whenLive_live hlive]
  rfl

theorem mem_pairsApart (volts : List Nat) (p : Nat × Nat) : p ∈ pairsApart volts ↔
    p ∈ islandPairs ∧ (volts.getD p.1 0 + 250 < volts.getD p.2 0 ∨ volts.getD p.2 0 + 250 < volts.getD p.1 0) := by
  rw [pairsApart, List.mem_filter, Bool.or_eq_true, decide_eq_true_eq, decide_eq_true_eq]

/-- Settles O39. -/
theorem temperatureAndVoltageCommandsComplete : Obligations.TemperatureAndVoltageCommandsComplete := by
  unfold Obligations.TemperatureAndVoltageCommandsComplete
  refine ⟨?level, ?steep, ?recovery, ?gradient, ?volts, ?ratio, ?hub, ?overtemp, ?alert⟩
  case level =>
    intro s t temp hlive ht hgood hlevel hlim
    obtain ⟨-, hrange⟩ := State.checkReading_good hgood
    obtain ⟨hmem, hsch, hdev, -⟩ := s.tempShown_frame t (signed 16 temp)
    obtain ⟨hmem', hsch', hdev', -⟩ := (s.tempShown t (signed 16 temp)).noteCapped_frame
    have hflat : (s.tempShown t (signed 16 temp)).steep t (signed 16 temp) = false := by
      rw [s.steep_tempShown ht hrange, State.steep, List.any_eq_false]
      exact fun n hn => by simpa using hlevel n hn
    have hstep := exec_tileTempSample hlive ht hgood
    rw [State.limitTile_level hflat (by rwa [State.tjThr_tempShown])] at hstep
    refine ⟨_, hstep, ?_, fun n hn hne => ?_, fun n hn => ?_, ?_, ?_, ?_⟩
    · rw [State.tileTemp_inside, State.tileTemp_noteCapped, State.tileTemp_tempShown _ _ _ hrange, if_pos rfl]
    · rw [State.tileTemp_inside, State.tileTemp_noteCapped, State.tileTemp_tempShown _ _ _ hrange, if_neg hne]
    · rw [State.getF_inside, State.thermal_noteCapped, State.thermal_tempShown]
    · rw [State.inside_mem, hmem', hmem]
    · rw [State.inside_sch, hsch', hsch]
    · exact dev_inside_of_eq (hdev'.trans hdev)
  case steep =>
    intro s t temp hlive ht hgood ⟨n, hn, hhot⟩ hlim hne
    obtain ⟨-, hrange⟩ := State.checkReading_good hgood
    obtain ⟨hmem, -, hdev, -⟩ := s.tempShown_frame t (signed 16 temp)
    have hflat : (s.tempShown t (signed 16 temp)).steep t (signed 16 temp) = true := by
      rw [s.steep_tempShown ht hrange, State.steep, List.any_eq_true]
      exact ⟨n, hn, decide_eq_true hhot⟩
    have hstep := exec_tileTempSample hlive ht hgood
    rw [State.limitTile_steep hflat (by rwa [State.tjThr_tempShown]) (by rwa [State.thermal_tempShown]), State.thermal_tempShown] at hstep
    have hrate : s.getF (Reg.TILE_ISSUE_THERMAL t) < 2 ^ 7 := bits_lt ..
    have hcode : max 16 (s.getF (Reg.TILE_ISSUE_THERMAL t) - 1) < 2 ^ (Reg.TILE_ISSUE_THERMAL t).width := by
      have hwidth : (Reg.TILE_ISSUE_THERMAL t).width = 7 := rfl
      rw [hwidth]; omega
    obtain ⟨hmem', -, hdev', -⟩ := ((s.tempShown t (signed 16 temp)).putF (Reg.TILE_ISSUE_THERMAL t)
      (max 16 (s.getF (Reg.TILE_ISSUE_THERMAL t) - 1))).noteCapped_frame
    refine ⟨_, hstep, ?_, ?_, ?_, ?_⟩
    · rw [State.tileTemp_inside, State.tileTemp_noteCapped]
      refine (State.tileTemp_of_reg (State.reg_putF_ne _ _ _ _ ?_)).trans ((s.tileTemp_tempShown t t hrange).trans (if_pos rfl))
      simp only [Reg.TILE_ISSUE_THERMAL, Reg.TILE_ISSUE, Reg.TILE_TEMP]; omega
    · rw [State.getF_inside, State.thermal_noteCapped, State.getF_putF _ _ _ (by simp [Reg.TILE_ISSUE_THERMAL]), Nat.mod_eq_of_lt hcode]
    · rw [State.inside_mem, hmem', State.putF_mem, hmem]
    · exact dev_inside_of_eq (hdev'.trans ((State.putF_dev ..).trans hdev))
  case recovery =>
    intro s t hlive ht hcool
    refine ⟨_, exec_throttleRecovery hlive ht hcool, ?_, ?_, ?_⟩
    · rw [State.getF_inside, State.getF_putF _ _ _ (by simp [Reg.TILE_ISSUE_THERMAL])]
      refine Nat.mod_eq_of_lt ?_
      simp only [Reg.TILE_ISSUE_THERMAL, Fld.width]; omega
    · rw [State.inside_mem, State.putF_mem]
    · rw [State.inside_pwr, State.putF_pwr]
  case gradient =>
    intro s t n hlive ht hn hhot
    exact exec_tgradTimeout hlive ht hn hhot
  case volts =>
    intro s volts hlive
    obtain ⟨hmeas, hrest⟩ := s.voltsMeasured_spec volts
    obtain ⟨hregs, hmem, hdev, hover⟩ := (s.voltsMeasured volts).noteApart_frame (pairsApart volts)
    refine ⟨s.voltsShown volts, fun n hn => ?_, fun p => ?_, ?_, ?_, fun hfresh => ?_, fun ⟨p, hp, hold⟩ => ?_⟩
    · rw [State.voltsShown, State.getF_of_regs_eq hregs, hmeas n hn]
    · rw [State.voltsShown, hover, mem_pairsApart]
    · rw [State.voltsShown, hmem, State.of_sansRegs (g := State.mem) (fun _ => rfl) hrest]
    · rw [State.voltsShown, hdev, State.of_sansRegs (g := State.dev) (fun _ => rfl) hrest]
    · rw [Does, exec_vdiffSample hlive, if_neg]
      rw [List.any_eq_true]
      rintro ⟨p, hp, hold⟩
      exact hfresh p (hover ▸ hp) (List.contains_iff_mem.mp hold)
    · rw [Does, exec_vdiffSample hlive, if_pos]
      exact List.any_eq_true.mpr ⟨p, hover ▸ hp, List.contains_iff_mem.mpr hold⟩
  case ratio =>
    intro s hlive
    exact exec_clkratioDetect hlive
  case hub =>
    intro s k temp hlive hk hgood
    obtain ⟨-, hrange⟩ := State.checkReading_good hgood
    have hshow := (s.setHubTemp k (signed 16 temp)).showHottest_sansRegs
    have htemp (n : Nat) : (s.inside (s.setHubTemp k (signed 16 temp)).showHottest).hubTemp n =
        if n = k then signed 16 temp else s.hubTemp n := by
      rw [← s.hubTemp_setHubTemp k n hrange]
      exact State.hubTemp_of_pwr ((State.inside_pwr ..).trans (State.of_sansRegs (g := State.pwr) (fun _ => rfl) hshow)) n
    refine ⟨_, exec_hubTempSample hlive hk hgood, ?_, fun n hn => ?_, ?_, ?_⟩
    · rw [htemp, if_pos rfl]
    · rw [htemp, if_neg hn]
    · rw [State.inside_mem, State.of_sansRegs (g := State.mem) (fun _ => rfl) hshow, (s.setHubTemp_frame ..).1]
    · refine dev_inside_of_eq ?_
      rw [State.of_sansRegs (g := State.dev) (fun _ => rfl) hshow, (s.setHubTemp_frame ..).2]
  case overtemp =>
    intro s n hlive hn hhot
    exact exec_overtempTimeout hlive hn hhot
  case alert =>
    intro s k hlive hk
    exact exec_lpddr5xTempAlert hlive hk

end Sys2Proof.Machine
end

section
/-! Caps, rails, regulators, droops and ageing. -/

namespace Sys2Proof.Machine

/-! ### What a cap period keeps -/

/-- What the end of a cap period reads and leaves outside the power manager's own account. -/
def State.periodKept (s : State) : Sparse Byte × Tier × Bool × Nat := (s.mem, s.tier, s.pwr.repeatOn, s.pwr.cap)

theorem State.putF_periodKept (s : State) (f : Fld) (v : Nat) : (s.putF f v).periodKept = s.periodKept := by
  rw [State.periodKept, State.periodKept, State.putF_mem, State.putF_tier, State.putF_pwr]

theorem State.setPwr_periodKept (s : State) (x : Power) : { s with pwr := x }.periodKept = (s.mem, s.tier, x.repeatOn, x.cap) := rfl

theorem State.quotient_periodKept (s : State) (num den : Nat) : (s.quotient num den).2.periodKept = s.periodKept := by
  unfold State.quotient; split <;> rfl

theorem State.irq_periodKept (s : State) (p mask : Nat) : (s.irq p mask).periodKept = s.periodKept := by
  rw [State.irq_eq]; rfl

theorem State.throttleIrq_periodKept (s : State) (fresh : Bool) : (s.throttleIrq fresh).periodKept = s.periodKept := by
  unfold State.throttleIrq
  split
  · exact s.irq_periodKept ..
  · rfl

theorem State.account_periodKept (s : State) (p : Nat) : (s.account p).periodKept = s.periodKept := by
  unfold State.account
  dsimp only
  rw [State.putF_periodKept]
  split
  · rw [State.irq_periodKept, State.satInc, State.putF_periodKept]; rfl
  · rfl

theorem State.learnStep_periodKept (s : State) (f : Fld) (x lim : Nat) : (s.learnStep f x lim).periodKept = s.periodKept := by
  rw [State.learnStep, State.putF_periodKept, State.quotient_periodKept]

theorem State.learn_periodKept (s : State) (x : Nat × Nat × Nat) : (s.learn x).periodKept = s.periodKept := by
  unfold State.learn
  split
  · rw [State.putF_periodKept, State.learnStep_periodKept, State.learnStep_periodKept]
  · rfl

theorem State.thermRise_frame (s : State) (n : Nat) : (s.thermRise n).periodKept = s.periodKept ∧ (s.thermRise n).regs = s.regs := by
  unfold State.thermRise
  split <;> exact ⟨rfl, rfl⟩

/-- The state with the hub sensors' heat and cut. -/
def State.setHubHeat (s : State) (hot : Bool) (cut : Nat) : State := { s with pwr := { s.pwr with hubHot := hot, hubCut := cut } }

/-- The state with a throttled period counted. -/
def State.countThrottled (s : State) : State := if s.throttled then s.satInc Reg.PWR_CNT_THROTTLES else s

/-- The hub's part of a thermal period: its cut and the count of throttled periods. -/
def State.hubPeriod (s1 : State) (wasHot : Bool) : State :=
  let hot := (List.range 16).any (fun n => decide (s1.tjThr < s1.hubTemp n))
  let cool := (List.range 16).all (fun n => decide (s1.hubTemp n + 12 < s1.tjThr))
  let h := hot || (s1.pwr.hubHot && !cool)
  ((s1.setHubHeat h (if h then s1.pwr.hubCut + 1 else s1.pwr.hubCut - 1)).countThrottled).throttleIrq (h && !wasHot)

theorem State.thermalPeriod_eq (s : State) :
    s.thermalPeriod = ((List.range 32).foldl (fun t n => t.thermRise n) s).hubPeriod s.pwr.hubHot := rfl

theorem State.hubPeriod_periodKept (s : State) (wasHot : Bool) : (s.hubPeriod wasHot).periodKept = s.periodKept := by
  have hcount (u : State) : u.countThrottled.periodKept = u.periodKept := by
    unfold State.countThrottled
    split
    · exact u.putF_periodKept ..
    · rfl
  unfold State.hubPeriod
  dsimp only
  rw [State.throttleIrq_periodKept, hcount]
  rfl

theorem State.thermalPeriod_periodKept (s : State) : s.thermalPeriod.periodKept = s.periodKept := by
  rw [State.thermalPeriod_eq, State.hubPeriod_periodKept]
  exact State.foldl_frame (g := State.periodKept) (fun u n _ => (u.thermRise_frame n).1) s

theorem State.setGoal_periodKept (s : State) (t c : Nat) : (s.setGoal t c).periodKept = s.periodKept := by
  unfold State.setGoal
  dsimp only
  split
  · exact State.putF_periodKept ..
  · rfl

theorem State.ramp_periodKept (s : State) (n : Nat) : (s.ramp n).periodKept = s.periodKept := by
  rw [State.ramp, State.putF_periodKept, State.putF_periodKept]

theorem State.takeGoal_periodKept (s : State) (t : Nat) : (s.takeGoal t).periodKept = s.periodKept := s.putF_periodKept ..

theorem State.fallIslands_periodKept (s : State) : s.fallIslands.periodKept = s.periodKept :=
  State.foldl_frame (f := fun u n => State.ramp u n) (g := State.periodKept) (fun u n _ => u.ramp_periodKept n) s

theorem State.rampIslands_periodKept (s : State) : s.rampIslands.periodKept = s.periodKept := by
  have hup (u : State) (l : List Nat) : (l.foldl (fun v n => v.ramp n) u).periodKept = u.periodKept :=
    State.foldl_frame (g := State.periodKept) (fun v n _ => v.ramp_periodKept n) u
  have htake (u : State) (n : Nat) : ((islandTiles n).foldl (fun w t => w.takeGoal t) u).periodKept = u.periodKept :=
    State.foldl_frame (g := State.periodKept) (fun v t _ => v.takeGoal_periodKept t) u
  unfold State.rampIslands
  dsimp only
  refine (State.foldl_frame (g := State.periodKept) (fun u n _ => htake u n) _).trans ?_
  rw [State.fallIslands_periodKept, hup]
  rfl

theorem State.setIslands_periodKept (s : State) : s.setIslands.periodKept = s.periodKept := by
  rw [State.setIslands, State.rampIslands_periodKept, State.setPwr_periodKept, State.periodKept]

theorem State.allocGoal_periodKept (s : State) (t grant : Nat) : (s.allocGoal t grant).2.periodKept = s.periodKept := by
  unfold State.allocGoal
  dsimp only
  split
  · exact (show _ = (s.putF (Reg.PWR_TILE_CAP_TARGET t) _).periodKept from rfl).trans (s.putF_periodKept ..)
  · exact s.putF_periodKept ..

theorem State.allocate_periodKept (s : State) : s.allocate.periodKept = s.periodKept := by
  unfold State.allocate
  dsimp only
  rw [State.setIslands_periodKept]
  rw [State.foldl_frame (g := State.periodKept) (fun u g _ => ?_), State.setPwr_periodKept]
  · rfl
  · rw [State.setGoal_periodKept, State.allocGoal_periodKept, State.putF_periodKept, State.setPwr_periodKept]
    exact u.quotient_periodKept ..

theorem State.noteCapped_periodKept (s : State) : s.noteCapped.periodKept = s.periodKept := by
  obtain h | h := s.noteCapped_eq <;> rw [h]
  exact s.putF_periodKept ..

/-! ### The mode and the cap through a cap period -/

/-- The words that a cap period reads at its end: the cap and the power mode. -/
def capWord (a : Nat) : Prop := a = Reg.PWR_CAP ∨ a = Reg.PWR_MODE

section
variable {a : Nat} (ha : capWord a)
include ha

theorem State.cap_irq (s : State) (mask : Nat) : (s.irq 0x50 mask).reg a = s.reg a :=
  s.reg_irq_of_lt 0x50 mask (by rcases ha with rfl | rfl <;> decide) (by rcases ha with rfl | rfl <;> decide)

theorem State.cap_putF (s : State) {f : Fld} (v : Nat) (h : f.addr ≠ Reg.PWR_CAP ∧ f.addr ≠ Reg.PWR_MODE) (hf : f.hi < 32) :
    (s.putF f v).reg a = s.reg a := by
  refine State.reg_putF_ne _ _ _ _ ?_
  rcases ha with rfl | rfl <;> omega

theorem State.cap_putF_above (s : State) {f : Fld} (v : Nat) (h : 0x51400 ≤ f.addr) : (s.putF f v).reg a = s.reg a := by
  refine State.reg_putF_ne _ _ _ _ (.inl ?_)
  rcases ha with rfl | rfl <;> simp only [Reg.PWR_CAP, Reg.PWR_MODE] <;> omega

theorem State.cap_account (s : State) (p : Nat) : (s.account p).reg a = s.reg a := by
  unfold State.account
  dsimp only
  rw [State.cap_putF ha _ _ (by decide) (by decide)]
  split
  · rw [State.cap_irq ha, State.satInc, State.cap_putF ha _ _ (by decide) (by decide)]; rfl
  · rfl

theorem State.cap_learn (s : State) (x : Nat × Nat × Nat) : (s.learn x).reg a = s.reg a := by
  have hph : 0x51400 ≤ Reg.PWR_PH x.1 := by simp only [Reg.PWR_PH]; omega
  have hstep (u : State) (f : Fld) (y lim : Nat) (h : 0x51400 ≤ f.addr) : (u.learnStep f y lim).reg a = u.reg a := by
    rw [State.learnStep, State.cap_putF_above ha _ _ h, State.reg_quotient]
  unfold State.learn
  split
  · rw [State.cap_putF_above ha _ _ hph, hstep _ _ _ _ hph, hstep _ _ _ _ hph]
  · rfl

theorem State.cap_thermalPeriod (s : State) : s.thermalPeriod.reg a = s.reg a := by
  have hthrottle (u : State) (fresh : Bool) : (u.throttleIrq fresh).reg a = u.reg a := by
    unfold State.throttleIrq
    split
    · exact u.cap_irq ha 2
    · rfl
  have hhub (u : State) (wasHot : Bool) : (u.hubPeriod wasHot).reg a = u.reg a := by
    have hcount (v : State) : v.countThrottled.reg a = v.reg a := by
      unfold State.countThrottled
      split
      · exact State.cap_putF ha _ _ (by decide) (by decide)
      · rfl
    unfold State.hubPeriod
    dsimp only
    rw [hthrottle, hcount]
    rfl
  rw [State.thermalPeriod_eq, hhub]
  exact State.reg_foldl (fun u n => State.reg_of_regs_eq (u.thermRise_frame n).2 a) _ s

theorem State.cap_showPower (s : State) (power : PowerSample) : (s.showPower power).reg a = s.reg a := by
  rw [State.showPower, State.cap_putF ha _ _ (by decide) (by decide), State.cap_putF ha _ _ (by decide) (by decide), State.reg_quotient]
  refine State.reg_foldl (fun u n => State.cap_putF_above ha _ _ ?_) _ s
  simp only [Reg.PWR_ISL_P_P, Reg.PWR_ISL_P]; omega
end

theorem State.takeCap_spec (s : State) : s.takeCap.periodKept = (s.mem, s.tier, s.onF Reg.PWR_MODE_REPEAT, s.getF Reg.PWR_CAP_CAP) := by
  unfold State.takeCap
  dsimp only
  split
  next h => rw [h]; rfl
  next => rfl

/-- The end of a cap period takes the mode and the cap as the registers hold them before it. -/
theorem State.endPeriod_periodKept (s : State) (power : PowerSample) :
    ((s.showPower power).endPeriod (s.periodPower power) power.phases).periodKept =
      (s.mem, s.tier, s.onF Reg.PWR_MODE_REPEAT, s.getF Reg.PWR_CAP_CAP) := by
  generalize hw : (power.phases.foldl (fun t x => t.learn x) ((s.showPower power).account (s.periodPower power))).thermalPeriod = w
  have hreg {a : Nat} (ha : capWord a) : w.reg a = s.reg a := by
    rw [← hw, State.cap_thermalPeriod ha, State.reg_foldl (fun u x => u.cap_learn ha x), State.cap_account ha, State.cap_showPower ha]
  have hkept : w.periodKept = s.periodKept := by
    rw [← hw, State.thermalPeriod_periodKept, State.foldl_frame (g := State.periodKept) (fun u x _ => u.learn_periodKept x),
      State.account_periodKept, State.showPower, State.putF_periodKept, State.putF_periodKept, State.quotient_periodKept]
    exact State.foldl_frame (g := State.periodKept) (fun u n _ => u.putF_periodKept _ _) s
  obtain ⟨hmem, hrest⟩ := Prod.ext_iff.mp hkept
  obtain ⟨htier, -⟩ := Prod.ext_iff.mp hrest
  have hmode : w.onF Reg.PWR_MODE_REPEAT = s.onF Reg.PWR_MODE_REPEAT := by
    rw [State.onF, State.onF, State.getF_of_reg_eq (f := Reg.PWR_MODE_REPEAT) (by decide) (hreg (.inr rfl))]
  have hcap : w.getF Reg.PWR_CAP_CAP = s.getF Reg.PWR_CAP_CAP := State.getF_of_reg_eq (by decide) (hreg (.inl rfl))
  rw [State.endPeriod, hw, State.noteCapped_periodKept, State.allocate_periodKept, State.takeCap_spec, hmode, hcap]
  exact Prod.ext hmem (Prod.ext htier rfl)

/-! ### The cap -/

theorem exec_capWrite {s : State} {req : Requester} {cap : Nat} (hcap : cap < 512) (h : s.Takes req Reg.PWR_CAP cap) :
    exec (.capWrite req cap) s = .next (s.inside ((s.wrCap cap).respond req 0 [])) := by
  have hrun : exec (.capWrite req cap) s = execCapWrite req cap s := rfl
  rw [hrun, execCapWrite, Nat.mod_eq_of_lt (by omega), access_does h]

theorem State.wrCap_spec (s : State) {cap : Nat} (hcap : cap < 512) : (s.wrCap cap).getF Reg.PWR_CAP_CAP =
      (if s.getF Reg.PWR_CAP_FUSED_CAP < cap then s.getF Reg.PWR_CAP_FUSED_CAP
       else if cap < 60 then s.getF Reg.PWR_CAP_CAP else cap) ∧
    (s.wrCap cap).getF Reg.PWR_CAP_FUSED_CAP = s.getF Reg.PWR_CAP_FUSED_CAP ∧ (s.wrCap cap).mem = s.mem ∧
    (s.wrCap cap).pwr = s.pwr := by
  have hfused : s.getF Reg.PWR_CAP_FUSED_CAP < 512 := bits_lt ..
  have hbits : bits cap 8 0 = cap := by rw [bits]; omega
  have hput (v : Nat) (hv : v < 512) : (s.putF Reg.PWR_CAP_CAP v).getF Reg.PWR_CAP_CAP = v :=
    (State.getF_putF _ _ _ (by decide)).trans (Nat.mod_eq_of_lt hv)
  have hkeep (v : Nat) : (s.putF Reg.PWR_CAP_CAP v).getF Reg.PWR_CAP_FUSED_CAP = s.getF Reg.PWR_CAP_FUSED_CAP :=
    s.getF_putF_beside v (by decide)
  rw [State.wrCap]
  rw [hbits]
  split_ifs
  · exact ⟨hput _ hfused, hkeep _, s.putF_mem .., s.putF_pwr ..⟩
  · exact ⟨rfl, rfl, rfl, rfl⟩
  · exact ⟨hput _ hcap, hkeep _, s.putF_mem .., s.putF_pwr ..⟩

/-! ### Islands -/

theorem State.fallSet_nil (s : State) (k : Nat) : s.fallSet k [] = [] := by
  induction k with
  | zero => rfl
  | succ k ih => exact ih

theorem State.mem_fallSet {s : State} {k n : Nat} {l : List Nat} (h : n ∈ s.fallSet k l) : n ∈ l := by
  induction k generalizing l with
  | zero => exact h
  | succ k ih => exact (List.mem_filter.mp (ih h)).1

theorem State.lt_of_mem_islandsDown {s : State} {n : Nat} (h : n ∈ s.islandsDown) : n < 8 :=
  List.mem_range.mp (List.mem_filter.mp h).1

theorem State.fallIslands_none {s : State} (h : s.islandsDown = []) : s.fallIslands = s := by
  rw [State.fallIslands, h]
  exact congrArg (List.foldl _ s) (s.fallSet_nil 8)

/-- Islands that fall change the words of islands only. -/
theorem State.fallIslands_spec (s : State) : s.fallIslands.sansRegs = s.sansRegs ∧
    ∀ a, (a < 0x52400 ∨ 0x52480 ≤ a) → s.fallIslands.reg a = s.reg a := by
  refine ⟨State.foldl_frame (f := fun u n => State.ramp u n) (g := State.sansRegs) (fun u n _ => ?_) s, fun a ha => ?_⟩
  · rw [State.ramp, State.putF_sansRegs, State.putF_sansRegs]
  · refine State.foldl_frame (f := fun u n => State.ramp u n) (g := fun u => u.reg a) (fun u n hn => ?_) s
    have hlt : n < 8 := State.lt_of_mem_islandsDown (List.mem_filter.mp (State.mem_fallSet hn)).1
    rw [State.ramp, State.reg_putF_ne, State.reg_putF_ne]
    all_goals simp only [Reg.PWR_ISL_V_SET, Reg.PWR_ISL_V, Reg.PWR_ISL_STAT_SETTLING, Reg.PWR_ISL_STAT]; omega

/-- A tile's target and the word that holds it, through a change of goal of another. -/
theorem State.target_takeGoal (s : State) (t n : Nat) : (s.takeGoal n).getF (Reg.TILE_FREQ_TARGET t) =
    if t = n then min (s.goal t) (s.getF (Reg.TILE_FREQ_FMAX_DERATED t)) % 2 ^ (Reg.TILE_FREQ_TARGET t).width
    else s.getF (Reg.TILE_FREQ_TARGET t) := by
  split_ifs with h
  · subst h; exact State.getF_putF _ _ _ (by simp [Reg.TILE_FREQ_TARGET])
  · refine s.getF_putF_far (f := Reg.TILE_FREQ_TARGET n) (g := Reg.TILE_FREQ_TARGET t) _ ?_
    simp only [Reg.TILE_FREQ_TARGET, Reg.TILE_FREQ]; omega

theorem State.derated_takeGoal (s : State) (t n : Nat) :
    (s.takeGoal n).getF (Reg.TILE_FREQ_FMAX_DERATED t) = s.getF (Reg.TILE_FREQ_FMAX_DERATED t) := by
  by_cases h : t = n
  · subst h
    exact s.getF_putF_beside (f := Reg.TILE_FREQ_TARGET t) (g := Reg.TILE_FREQ_FMAX_DERATED t) _
      (by simp [Reg.TILE_FREQ_TARGET, Reg.TILE_FREQ_FMAX_DERATED])
  · refine s.getF_putF_far (f := Reg.TILE_FREQ_TARGET n) (g := Reg.TILE_FREQ_FMAX_DERATED t) _ ?_
    simp only [Reg.TILE_FREQ_TARGET, Reg.TILE_FREQ_FMAX_DERATED, Reg.TILE_FREQ]; omega

theorem State.takeGoal_sansRegs (s : State) (n : Nat) : (s.takeGoal n).sansRegs = s.sansRegs := s.putF_sansRegs ..

/-- The state in which every tile of a list has taken its goal. -/
def State.takeGoals (s : State) (l : List Nat) : State := l.foldl (fun t n => t.takeGoal n) s

theorem State.takeGoals_sansRegs (s : State) (l : List Nat) : (s.takeGoals l).sansRegs = s.sansRegs :=
  State.foldl_frame (f := fun t n => State.takeGoal t n) (g := State.sansRegs) (fun u n _ => u.takeGoal_sansRegs n) s

theorem State.reg_takeGoals (s : State) (l : List Nat) {a : Nat} (h : ∀ n, a ≠ Reg.TILE_FREQ n) : (s.takeGoals l).reg a = s.reg a := by
  refine State.foldl_frame (f := fun t n => State.takeGoal t n) (g := fun u => u.reg a) (fun u n _ => ?_) s
  refine State.reg_putF_ne _ _ _ _ ?_
  have := h n
  simp only [Reg.TILE_FREQ_TARGET]; omega

theorem State.target_takeGoals (s : State) (l : List Nat) (t : Nat) : (s.takeGoals l).getF (Reg.TILE_FREQ_TARGET t) =
    if t ∈ l then min (s.goal t) (s.getF (Reg.TILE_FREQ_FMAX_DERATED t)) % 2 ^ (Reg.TILE_FREQ_TARGET t).width
    else s.getF (Reg.TILE_FREQ_TARGET t) := by
  induction l generalizing s with
  | nil => rfl
  | cons n l ih =>
    have hgoal : (s.takeGoal n).goal t = s.goal t := State.of_sansRegs (g := fun u => u.goal t) (fun _ => rfl) (s.takeGoal_sansRegs n)
    refine (ih (s.takeGoal n)).trans ?_
    rw [hgoal, s.derated_takeGoal, s.target_takeGoal]
    by_cases h : t ∈ l <;> by_cases hn : t = n <;> simp [h, hn]

/-- The state in which an island is known to have settled. -/
def State.settledIsland (s : State) (i : Nat) : State :=
  { s with pwr := { s.pwr with islRising := s.pwr.islRising.filter (fun n => n != i) } }

theorem State.settledIsland_frame (s : State) (i : Nat) : (s.settledIsland i).regs = s.regs ∧ (s.settledIsland i).mem = s.mem ∧
    (s.settledIsland i).pwr = { s.pwr with islRising := s.pwr.islRising.filter (fun n => n != i) } := ⟨rfl, rfl, rfl⟩

/-- The state in which an island shows that it has settled and its tiles have taken their goals. -/
def State.islandTaken (s : State) (i : Nat) : State :=
  ((s.putF (Reg.PWR_ISL_STAT_SETTLING i) 0).takeGoals (islandTiles i)).settledIsland i

theorem exec_voltageSettled {s : State} {i : Nat} (hlive : s.live = true) (hi : i < 8) :
    exec (.voltageSettled i) s = .next (s.inside (s.islandTaken i).fallIslands) := by
  have hrun : exec (.voltageSettled i) s = execVoltageSettled i s := rfl
  rw [hrun, execVoltageSettled, whenLive_live hlive, decide_eq_true hi, State.guard_true, State.islandTaken, State.settledIsland,
    State.takeGoals]

section
variable (s : State) {i : Nat}

theorem State.islandTaken_frame : (s.islandTaken i).mem = s.mem ∧
    (s.islandTaken i).pwr = { s.pwr with islRising := s.pwr.islRising.filter (fun n => n != i) } := by
  have hgoals := ((s.putF (Reg.PWR_ISL_STAT_SETTLING i) 0).takeGoals_sansRegs (islandTiles i)).trans (s.putF_sansRegs _ _)
  obtain ⟨-, hmem, hpwr⟩ := ((s.putF (Reg.PWR_ISL_STAT_SETTLING i) 0).takeGoals (islandTiles i)).settledIsland_frame i
  rw [State.islandTaken, hmem, hpwr, State.of_sansRegs (g := State.mem) (fun _ => rfl) hgoals,
    State.of_sansRegs (g := State.pwr) (fun _ => rfl) hgoals]
  exact ⟨rfl, rfl⟩

theorem State.reg_islandTaken {a : Nat} (ha : a ≠ Reg.PWR_ISL_STAT i) (hfreq : ∀ n, a ≠ Reg.TILE_FREQ n) :
    (s.islandTaken i).reg a = s.reg a := by
  rw [State.islandTaken, State.reg_of_regs_eq (State.settledIsland_frame ..).1, State.reg_takeGoals _ _ hfreq, State.reg_putF_ne]
  simp only [Reg.PWR_ISL_STAT_SETTLING]; omega

theorem State.islandSet_islandTaken {n : Nat} (hn : n < 8) : (s.islandTaken i).islandSet n = s.islandSet n := by
  refine State.getF_of_reg_eq (by simp [Reg.PWR_ISL_V_SET]) (s.reg_islandTaken ?_ fun m => ?_) <;>
    simp only [Reg.PWR_ISL_V_SET, Reg.PWR_ISL_V, Reg.PWR_ISL_STAT, Reg.TILE_FREQ] <;> omega

theorem State.islandsDown_islandTaken : (s.islandTaken i).islandsDown = s.islandsDown := by
  refine List.filter_congr fun n hn => ?_
  have hwant : (s.islandTaken i).pwr.islWant = s.pwr.islWant := by rw [s.islandTaken_frame.2]
  rw [State.islandWant, State.islandWant, hwant, s.islandSet_islandTaken (List.mem_range.mp hn)]

theorem State.settling_islandTaken : (s.islandTaken i).onF (Reg.PWR_ISL_STAT_SETTLING i) = false := by
  have hword : (s.islandTaken i).reg (Reg.PWR_ISL_STAT i) = (s.putF (Reg.PWR_ISL_STAT_SETTLING i) 0).reg (Reg.PWR_ISL_STAT i) := by
    rw [State.islandTaken, State.reg_of_regs_eq (State.settledIsland_frame ..).1, State.reg_takeGoals]
    intro n; simp only [Reg.PWR_ISL_STAT, Reg.TILE_FREQ]; omega
  rw [State.onF, State.getF_of_reg_eq (f := Reg.PWR_ISL_STAT_SETTLING i) (by simp [Reg.PWR_ISL_STAT_SETTLING]) hword,
    State.getF_putF _ _ _ (by simp [Reg.PWR_ISL_STAT_SETTLING]), Nat.zero_mod]
  rfl

theorem State.target_islandTaken (t : Nat) : (s.islandTaken i).getF (Reg.TILE_FREQ_TARGET t) =
    if t ∈ islandTiles i then min (s.goal t) (s.getF (Reg.TILE_FREQ_FMAX_DERATED t)) % 2 ^ (Reg.TILE_FREQ_TARGET t).width
    else s.getF (Reg.TILE_FREQ_TARGET t) := by
  have hgoal : (s.putF (Reg.PWR_ISL_STAT_SETTLING i) 0).goal t = s.goal t := by rw [State.goal, State.putF_pwr, State.goal]
  have hfield {f : Fld} (hf : f.hi < 32) (ha : f.addr = Reg.TILE_FREQ t) :
      (s.putF (Reg.PWR_ISL_STAT_SETTLING i) 0).getF f = s.getF f := by
    refine s.getF_putF_far (f := Reg.PWR_ISL_STAT_SETTLING i) _ ?_
    simp only [Reg.PWR_ISL_STAT_SETTLING, Reg.PWR_ISL_STAT, Reg.TILE_FREQ, ha]; omega
  rw [State.islandTaken, State.getF_of_regs_eq (State.settledIsland_frame ..).1, State.target_takeGoals, hgoal,
    hfield (f := Reg.TILE_FREQ_FMAX_DERATED t) (by simp [Reg.TILE_FREQ_FMAX_DERATED]) rfl,
    hfield (f := Reg.TILE_FREQ_TARGET t) (by simp [Reg.TILE_FREQ_TARGET]) rfl]
end

/-! ### Droops -/

theorem State.droop_of_pwr {s u : State} (h : u.pwr.droops = s.pwr.droops) (n : Nat) : u.droop n = s.droop n := by
  rw [State.droop, State.droop, h]

theorem State.droop_setDroop (s : State) (i k : Nat) (d : Droop) : (s.setDroop i d).droop k = if k = i then d else s.droop k :=
  Sparse.get_set ..

/-- The state in which a droop is shown and counted. -/
def State.droopShown (s : State) (i : Nat) : State := (s.putF (Reg.PWR_ISL_STAT_DROOP i) 1).satInc Reg.PWR_CNT_DROOPS

theorem State.setDroop_frame (s : State) (i : Nat) (d : Droop) : (s.setDroop i d).regs = s.regs ∧ (s.setDroop i d).mem = s.mem :=
  ⟨rfl, rfl⟩

theorem State.droopShown_frame (s : State) (i : Nat) : (s.droopShown i).mem = s.mem ∧
    (s.droopShown i).reg (Reg.PWR_ISL_STAT i) = (s.putF (Reg.PWR_ISL_STAT_DROOP i) 1).reg (Reg.PWR_ISL_STAT i) := by
  rw [State.droopShown, State.satInc, State.putF_mem, State.putF_mem, State.reg_putF_ne]
  · exact ⟨rfl, rfl⟩
  · simp only [Reg.PWR_ISL_STAT, Reg.PWR_CNT_DROOPS, Reg.PWR_CNT]; omega

theorem exec_droopAlert {s : State} {i : Nat} (hlive : s.live = true) (hi : i < 8) : exec (.droopAlert i) s = .next (s.inside
    ((s.droopShown i).setDroop i { rate := (s.droopShown i).getF Reg.PWR_CFG_DROOP_RATE, rising := none }).noteCapped) := by
  have hrun : exec (.droopAlert i) s = execDroopAlert i s := rfl
  rw [hrun, execDroopAlert, whenLive_live hlive, decide_eq_true hi, State.guard_true, State.droopShown]

theorem exec_droopClear {s : State} {i : Nat} (hlive : s.live = true) (hi : i < 8) :
    exec (.droopClear i) s = .next (s.inside (s.putF (Reg.PWR_ISL_STAT_DROOP i) 0)) := by
  have hrun : exec (.droopClear i) s = execDroopClear i s := rfl
  rw [hrun, execDroopClear, whenLive_live hlive, decide_eq_true hi, State.guard_true]

theorem exec_droopHoldExpiry {s : State} {i : Nat} (hlive : s.live = true) (hi : i < 8)
    (hdroop : s.onF (Reg.PWR_ISL_STAT_DROOP i) = false) (hrising : (s.droop i).rising = none) :
    exec (.droopHoldExpiry i) s = .next (s.inside (s.setDroop i { s.droop i with rising := some s.qtz.cycles })) := by
  have hrun : exec (.droopHoldExpiry i) s = execDroopHoldExpiry i s := rfl
  rw [hrun, execDroopHoldExpiry, whenLive_live hlive, decide_eq_true hi, hdroop, hrising]
  rfl

theorem exec_droopLong {s : State} {i : Nat} (hlive : s.live = true) (hi : i < 8)
    (hdroop : s.onF (Reg.PWR_ISL_STAT_DROOP i) = true) : exec (.droopLong i) s = .next (s.inside (s.raise FS.PWR_DROOP)) := by
  have hrun : exec (.droopLong i) s = execDroopLong i s := rfl
  rw [hrun, execDroopLong, whenLive_live hlive, decide_eq_true hi, hdroop, Bool.and_true, State.guard_true]

theorem exec_vregFault {s : State} {i : Nat} (hlive : s.live = true) (hi : i < 8) :
    exec (.vregFault i) s = .next (s.inside (s.raise FS.PWR_VREG)) := by
  have hrun : exec (.vregFault i) s = execVregFault i s := rfl
  rw [hrun, execVregFault, whenLive_live hlive, decide_eq_true hi, State.guard_true]

/-! ### Ageing -/

/-- The unit with the most wear: the first of the largest. -/
theorem le_foldl_largest (f : Nat → Nat) (m : Nat) :
    ∀ n < m, f n ≤ f ((List.range m).foldl (fun b u => if f b < f u then u else b) 0) := by
  induction m with
  | zero => omega
  | succ m ih =>
    intro n hn
    rw [List.range_succ, List.foldl_append, List.foldl_cons, List.foldl_nil]
    rcases Nat.lt_succ_iff_lt_or_eq.mp hn with hlt | rfl
    · have hle := ih n hlt
      split <;> omega
    · split <;> omega

theorem State.ageUnit_spec (s : State) (u margin : Nat) : (s.ageUnit u margin).getF (Reg.AGE_UNIT_MARGIN u) = min margin 65535 ∧
    (∀ n, n ≠ u → (s.ageUnit u margin).getF (Reg.AGE_UNIT_MARGIN n) = s.getF (Reg.AGE_UNIT_MARGIN n)) ∧
    (s.ageUnit u margin).mem = s.mem ∧ (s.ageUnit u margin).pwr = s.pwr := by
  have hquotient (num den : Nat) : (s.quotient num den).2.mem = s.mem ∧ (s.quotient num den).2.pwr = s.pwr := by
    unfold State.quotient; split <;> exact ⟨rfl, rfl⟩
  unfold State.ageUnit
  dsimp only
  refine ⟨?_, fun n hn => ?_, ?_, ?_⟩
  · rw [State.getF_putF_beside (f := Reg.AGE_UNIT_WEAR u) (g := Reg.AGE_UNIT_MARGIN u) _ _
      (by simp [Reg.AGE_UNIT_WEAR, Reg.AGE_UNIT_MARGIN]), State.getF_putF _ _ _ (by simp [Reg.AGE_UNIT_MARGIN])]
    have hwidth : (Reg.AGE_UNIT_MARGIN u).width = 16 := rfl
    rw [hwidth]; omega
  · rw [State.getF_putF_far (f := Reg.AGE_UNIT_WEAR u) (g := Reg.AGE_UNIT_MARGIN n),
      State.getF_putF_far (f := Reg.AGE_UNIT_MARGIN u) (g := Reg.AGE_UNIT_MARGIN n)]
    · split
      · exact State.getF_of_regs_eq (s.free_regs 16)
      · exact State.getF_of_regs_eq (s.quotient_regs ..)
    all_goals simp only [Reg.AGE_UNIT_WEAR, Reg.AGE_UNIT_MARGIN, Reg.AGE_UNIT]; omega
  · rw [State.putF_mem, State.putF_mem]
    split
    · rfl
    · exact (hquotient ..).1
  · rw [State.putF_pwr, State.putF_pwr]
    split
    · rfl
    · exact (hquotient ..).2

/-- The state with every unit's margin and wear measured. -/
def State.ageMeasured (s : State) (margins : List Nat) : State :=
  (List.range 40).foldl (fun t u => t.ageUnit u (margins.getD u 0)) s

theorem State.ageMeasured_spec (s : State) (margins : List Nat) :
    (∀ n < 40, (s.ageMeasured margins).getF (Reg.AGE_UNIT_MARGIN n) = min (margins.getD n 0) 65535) ∧
    (s.ageMeasured margins).mem = s.mem ∧ (s.ageMeasured margins).pwr = s.pwr := by
  refine ⟨fun n hn => ?_, ?_, ?_⟩
  · rw [State.ageMeasured, State.foldl_range_at (f := fun t u => t.ageUnit u (margins.getD u 0))
      (g := fun u => u.getF (Reg.AGE_UNIT_MARGIN n)) hn fun u k hk => (u.ageUnit_spec k _).2.1 n hk.symm]
    exact (State.ageUnit_spec _ n _).1
  · exact State.foldl_frame (f := fun t u => State.ageUnit t u (margins.getD u 0)) (g := State.mem)
      (fun u k _ => (u.ageUnit_spec k _).2.2.1) s
  · exact State.foldl_frame (f := fun t u => State.ageUnit t u (margins.getD u 0)) (g := State.pwr)
      (fun u k _ => (u.ageUnit_spec k _).2.2.2) s

/-- The unit with the most wear. -/
def State.mostWorn (s : State) : Nat :=
  (List.range 40).foldl (fun m u => if s.getF (Reg.AGE_UNIT_WEAR m) < s.getF (Reg.AGE_UNIT_WEAR u) then u else m) 0

/-- The state that shows the unit with the most wear. -/
def State.wearShown (s : State) : State :=
  (s.putF Reg.AGE_WEAR_MAX_UNIT s.mostWorn).putF Reg.AGE_WEAR_MAX_WEAR (s.getF (Reg.AGE_UNIT_WEAR s.mostWorn))

theorem State.ageAll_eq (s : State) (margins : List Nat) : s.ageAll margins = (s.ageMeasured margins).wearShown := by
  rw [State.ageAll, State.wearShown, State.mostWorn, State.ageMeasured]

theorem exec_ageMeasure {s : State} (hlive : s.live = true) (margins : List Nat) :
    exec (.ageMeasure margins) s = .next (s.inside (s.ageMeasured margins).wearShown) := by
  have hrun : exec (.ageMeasure margins) s = execAgeMeasure margins s := rfl
  rw [hrun, execAgeMeasure, whenLive_live hlive, State.ageAll_eq]

theorem State.wearShown_spec (s : State) : (∀ n, s.wearShown.getF (Reg.AGE_UNIT_MARGIN n) = s.getF (Reg.AGE_UNIT_MARGIN n)) ∧
    (∀ n < 40, s.wearShown.getF (Reg.AGE_UNIT_WEAR n) ≤ s.wearShown.getF Reg.AGE_WEAR_MAX_WEAR) ∧ s.wearShown.sansRegs = s.sansRegs := by
  have hunit {f : Fld} (n : Nat) (hf : f.hi < 32) (ha : f.addr = Reg.AGE_UNIT n) : s.wearShown.getF f = s.getF f := by
    rw [State.wearShown, State.getF_putF_far (f := Reg.AGE_WEAR_MAX_WEAR) (g := f), State.getF_putF_far (f := Reg.AGE_WEAR_MAX_UNIT) (g := f)]
    all_goals
      simp only [Reg.AGE_WEAR_MAX_WEAR, Reg.AGE_WEAR_MAX_UNIT, Reg.AGE_WEAR_MAX, ha, Reg.AGE_UNIT]; omega
  refine ⟨fun n => hunit n (by simp [Reg.AGE_UNIT_MARGIN]) rfl, fun n hn => ?_, ?_⟩
  · have hmax : s.wearShown.getF Reg.AGE_WEAR_MAX_WEAR = s.getF (Reg.AGE_UNIT_WEAR s.mostWorn) := by
      rw [State.wearShown, State.getF_putF _ _ _ (by decide)]
      exact Nat.mod_eq_of_lt (bits_lt ..)
    rw [hmax, hunit n (f := Reg.AGE_UNIT_WEAR n) (by simp [Reg.AGE_UNIT_WEAR]) rfl]
    exact le_foldl_largest (fun u => s.getF (Reg.AGE_UNIT_WEAR u)) 40 n hn
  · rw [State.wearShown, State.putF_sansRegs, State.putF_sansRegs]

theorem State.derate_ample {s : State} {t : Nat} (h : 15 ≤ s.getF (Reg.AGE_UNIT_MARGIN t)) : s.derate t = s := by
  rw [State.derate]
  exact if_neg (by omega)

/-- Tiles with margin enough are not derated. -/
theorem State.foldl_derate_ample {s : State} {l : List Nat} (h : ∀ t ∈ l, 15 ≤ s.getF (Reg.AGE_UNIT_MARGIN t)) :
    l.foldl (fun t u => t.derate u) s = s := by
  induction l with
  | nil => rfl
  | cons t l ih =>
    rw [List.foldl_cons, State.derate_ample (h t (List.mem_cons_self ..)), ih fun u hu => h u (List.mem_cons_of_mem _ hu)]

/-- The state after the hour's wear is set against the wear of a thousand hours before. -/
def State.historyKept (s : State) : State :=
  let now := s.getF Reg.AGE_HOURS_HOURS
  let wear := s.getF Reg.AGE_WEAR_MAX_WEAR
  if s.getF Reg.AGE_HIST_HOURS_THEN + 1000 ≤ now then
    let s4 := { s with pwr := { s.pwr with wearRise := some (wear - s.getF Reg.AGE_HIST_WEAR_THEN) } }
    (s4.putF Reg.AGE_HIST_HOURS_THEN now).putF Reg.AGE_HIST_WEAR_THEN wear
  else s

theorem exec_ageHour {s : State} (hlive : s.live = true) (hample : ∀ t < 32, 15 ≤ s.getF (Reg.AGE_UNIT_MARGIN t)) :
    exec .ageHour s = .next (s.inside ((s.wrapInc Reg.AGE_HOURS_HOURS).historyKept.raiseHub.remaining)) := by
  have hcount : ∀ t ∈ List.range 32, 15 ≤ (s.wrapInc Reg.AGE_HOURS_HOURS).getF (Reg.AGE_UNIT_MARGIN t) := by
    intro t ht
    rw [State.wrapInc, State.getF_putF_far (f := Reg.AGE_HOURS_HOURS) (g := Reg.AGE_UNIT_MARGIN t)]
    · exact hample t (List.mem_range.mp ht)
    · simp only [Reg.AGE_HOURS_HOURS, Reg.AGE_HOURS, Reg.AGE_UNIT_MARGIN, Reg.AGE_UNIT]; omega
  have hrun : exec .ageHour s = execAgeHour s := rfl
  rw [hrun, execAgeHour, whenLive_live hlive]
  dsimp only
  rw [State.foldl_derate_ample hcount, State.historyKept]

theorem State.historyKept_spec (s : State) : (∀ a, a < Reg.AGE_HIST ∨ Reg.AGE_HIST + 4 < a → s.historyKept.reg a = s.reg a) ∧
    s.historyKept.mem = s.mem := by
  unfold State.historyKept
  dsimp only
  split
  · refine ⟨fun a h => ?_, by rw [State.putF_mem, State.putF_mem]⟩
    rw [State.reg_putF_ne, State.reg_putF_ne]
    · rfl
    all_goals simp only [Reg.AGE_HIST_HOURS_THEN, Reg.AGE_HIST_WEAR_THEN]; omega
  · exact ⟨fun _ _ => rfl, rfl⟩

theorem State.raiseHub_frame (s : State) : s.raiseHub.regs = s.regs ∧ s.raiseHub.mem = s.mem := ⟨rfl, rfl⟩

/-- Where the life that remains has fallen below its note before, an hour raises nothing. -/
theorem State.remaining_noted {s : State} (h : s.getF Reg.AGE_LIFE_REM_H < s.getF Reg.AGE_CFG_LIFE_NOTE) :
    (∀ a, a ≠ Reg.AGE_LIFE → s.remaining.reg a = s.reg a) ∧ s.remaining.mem = s.mem := by
  have hquotient (num den : Nat) : (s.quotient num den).2.regs = s.regs ∧ (s.quotient num den).2.mem = s.mem := by
    unfold State.quotient; split <;> exact ⟨rfl, rfl⟩
  have hput (u : State) (v : Nat) (hu : u.regs = s.regs ∧ u.mem = s.mem) :
      let t := u.putF Reg.AGE_LIFE_REM_H v
      let n := t.getF Reg.AGE_CFG_LIFE_NOTE
      let r := if v < n ∧ n ≤ s.getF Reg.AGE_LIFE_REM_H then t.raise FS.AGE_LIFE else t
      (∀ a, a ≠ Reg.AGE_LIFE → r.reg a = s.reg a) ∧ r.mem = s.mem := by
    obtain ⟨hregs, hmem⟩ := hu
    have hnote : (u.putF Reg.AGE_LIFE_REM_H v).getF Reg.AGE_CFG_LIFE_NOTE = s.getF Reg.AGE_CFG_LIFE_NOTE := by
      rw [State.getF_putF_far _ _ (by decide), State.getF_of_regs_eq hregs]
    dsimp only
    rw [hnote, if_neg (by omega)]
    refine ⟨fun a ha => ?_, (State.putF_mem ..).trans hmem⟩
    rw [State.reg_putF_ne, State.reg_of_regs_eq hregs]
    simp only [Reg.AGE_LIFE_REM_H]; omega
  unfold State.remaining
  dsimp only
  split
  · exact hput _ _ (hquotient ..)
  · exact hput _ _ ⟨rfl, rfl⟩
  · exact hput _ _ (hquotient ..)

/-- Settles O40. -/
theorem powerAndAgeingCommandsComplete : Obligations.PowerAndAgeingCommandsComplete := by
  unfold Obligations.PowerAndAgeingCommandsComplete
  refine ⟨?period, ?cap, ?vreg, by decide, ?settled, ?droopAlert, ?droopClear, ?droopHold, ?droopLong, ?measure, ?hour⟩
  case period =>
    intro s power hlive
    have hkept := s.endPeriod_periodKept power
    obtain ⟨hmem, hrest⟩ := Prod.ext_iff.mp hkept
    obtain ⟨htier, hpwr⟩ := Prod.ext_iff.mp hrest
    obtain ⟨hrepeat, hcap⟩ := Prod.ext_iff.mp hpwr
    refine ⟨_, exec_capPeriodEnd hlive power, ?_, ?_, ?_, ?_⟩
    · rw [State.inside_mem]; exact hmem
    · rw [State.inside_pwr]; exact hrepeat
    · rw [State.inside_pwr]; exact hcap
    · rw [State.inside_tier]; exact htier
  case cap =>
    intro s req cap hcap h
    obtain ⟨hval, hfused, hmem, hpwr⟩ := s.wrCap_spec hcap
    refine ⟨_, exec_capWrite hcap h, ?_, ?_, ?_, ?_⟩
    · rw [State.getF_inside, State.getF_respond, hval]
    · rw [State.getF_inside, State.getF_respond, hfused]
    · rw [State.inside_mem, State.respond_mem, hmem]
    · rw [State.inside_pwr, State.respond_pwr, hpwr]
  case vreg =>
    intro s i hlive hi
    exact exec_vregFault hlive hi
  case settled =>
    intro s i hlive hi
    obtain ⟨hrest, hreg⟩ := (s.islandTaken i).fallIslands_spec
    obtain ⟨hmem, hpwr⟩ := s.islandTaken_frame (i := i)
    have htarget (t : Nat) : (s.islandTaken i).fallIslands.getF (Reg.TILE_FREQ_TARGET t) =
        (s.islandTaken i).getF (Reg.TILE_FREQ_TARGET t) :=
      State.getF_of_reg_eq (by simp [Reg.TILE_FREQ_TARGET]) (hreg _ (by simp only [Reg.TILE_FREQ_TARGET, Reg.TILE_FREQ]; omega))
    refine ⟨_, exec_voltageSettled hlive hi, fun hdown => ?_, fun t ht => ?_, fun t _ ht => ?_, ?_, ?_⟩
    · rw [State.fallIslands_none (s.islandsDown_islandTaken.trans hdown), State.onF_inside]
      refine ⟨s.settling_islandTaken, fun n hn => ?_⟩
      rw [State.islandSet, State.getF_inside]
      exact s.islandSet_islandTaken hn
    · rw [State.getF_inside, htarget, s.target_islandTaken, if_pos ht]
    · rw [State.getF_inside, htarget, s.target_islandTaken, if_neg ht]
    · rw [State.inside_mem, State.of_sansRegs (g := State.mem) (fun _ => rfl) hrest, hmem]
    · rw [State.inside_pwr, State.of_sansRegs (g := State.pwr) (fun _ => rfl) hrest, hpwr]
  case droopAlert =>
    intro s i hlive hi
    obtain ⟨hmem, -, -, hpwr⟩ := ((s.droopShown i).setDroop i
      { rate := (s.droopShown i).getF Reg.PWR_CFG_DROOP_RATE, rising := none }).noteCapped_frame
    have hdroop (k : Nat) := (s.droopShown i).droop_setDroop i k
      { rate := (s.droopShown i).getF Reg.PWR_CFG_DROOP_RATE, rising := none }
    have hold (k : Nat) : (s.droopShown i).droop k = s.droop k := by
      rw [State.droop, State.droopShown, State.satInc, State.putF_pwr, State.putF_pwr, State.droop]
    have hrate : (s.droopShown i).getF Reg.PWR_CFG_DROOP_RATE = s.getF Reg.PWR_CFG_DROOP_RATE := by
      rw [State.droopShown, State.satInc, State.getF_putF_far _ _ (by decide), State.getF_putF_far (f := Reg.PWR_ISL_STAT_DROOP i)]
      simp only [Reg.PWR_ISL_STAT_DROOP, Reg.PWR_ISL_STAT, Reg.PWR_CFG_DROOP_RATE, Reg.PWR_CFG]; omega
    have hnow (k : Nat) : (s.inside ((s.droopShown i).setDroop i
        { rate := (s.droopShown i).getF Reg.PWR_CFG_DROOP_RATE, rising := none }).noteCapped).droop k =
        if k = i then { rate := s.getF Reg.PWR_CFG_DROOP_RATE, rising := none } else s.droop k := by
      rw [State.droop_of_pwr (congrArg Power.droops ((State.inside_pwr ..).trans hpwr)), hdroop, hold, hrate]
    refine ⟨_, exec_droopAlert hlive hi, ?_, ?_, ?_, fun k hk => ?_, ?_⟩
    · have hword : ((s.droopShown i).setDroop i { rate := (s.droopShown i).getF Reg.PWR_CFG_DROOP_RATE, rising := none }).noteCapped.reg
          (Reg.PWR_ISL_STAT i) = (s.putF (Reg.PWR_ISL_STAT_DROOP i) 1).reg (Reg.PWR_ISL_STAT i) := by
        rw [State.reg_noteCapped, State.reg_of_regs_eq (State.setDroop_frame ..).1, (s.droopShown_frame i).2]
        simp only [Reg.PWR_ISL_STAT, Reg.PWR_MODE]; omega
      rw [State.onF_inside, State.onF, State.getF_of_reg_eq (f := Reg.PWR_ISL_STAT_DROOP i) (by simp [Reg.PWR_ISL_STAT_DROOP]) hword,
        State.getF_putF _ _ _ (by simp [Reg.PWR_ISL_STAT_DROOP])]
      rfl
    · rw [hnow, if_pos rfl]
    · rw [hnow, if_pos rfl]
    · rw [hnow, if_neg hk]
    · rw [State.inside_mem, hmem, (State.setDroop_frame ..).2, (s.droopShown_frame i).1]
  case droopClear =>
    intro s i hlive hi
    refine ⟨_, exec_droopClear hlive hi, ?_, ?_, ?_⟩
    · rw [State.onF_inside, State.onF_putF_bit _ _ _ rfl]; rfl
    · rw [State.inside_pwr, State.putF_pwr]
    · rw [State.inside_mem, State.putF_mem]
  case droopHold =>
    intro s i hlive hi hdroop hrising
    have hnow : (s.inside (s.setDroop i { s.droop i with rising := some s.qtz.cycles })).droop i =
        { s.droop i with rising := some s.qtz.cycles } := by
      rw [State.droop_of_pwr (congrArg Power.droops (State.inside_pwr ..)), State.droop_setDroop, if_pos rfl]
    refine ⟨_, exec_droopHoldExpiry hlive hi hdroop hrising, ?_, ?_, ?_, ?_⟩
    · rw [hnow]
    · rw [hnow]
    · rw [State.inside_regs]; rfl
    · rw [State.inside_mem]; rfl
  case droopLong =>
    intro s i hlive hi hdroop
    exact exec_droopLong hlive hi hdroop
  case measure =>
    intro s margins hlive
    obtain ⟨hmargin, hmem, hpwr⟩ := s.ageMeasured_spec margins
    obtain ⟨hstands, hwear, hrest⟩ := (s.ageMeasured margins).wearShown_spec
    refine ⟨_, exec_ageMeasure hlive margins, fun n hn => ?_, fun n hn => ?_, ?_, ?_⟩
    · rw [State.getF_inside, hstands, hmargin n hn]
    · rw [State.getF_inside, State.getF_inside]; exact hwear n hn
    · rw [State.inside_mem, State.of_sansRegs (g := State.mem) (fun _ => rfl) hrest, hmem]
    · rw [State.inside_pwr, State.of_sansRegs (g := State.pwr) (fun _ => rfl) hrest, hpwr]
  case hour =>
    intro s hlive hample hnoted
    obtain ⟨hhist, hmem⟩ := (s.wrapInc Reg.AGE_HOURS_HOURS).historyKept_spec
    obtain ⟨hregs, hmem'⟩ := (s.wrapInc Reg.AGE_HOURS_HOURS).historyKept.raiseHub_frame
    have hbefore {f : Fld} (hf : f.hi < 32) (ha : f.addr < Reg.AGE_HIST ∨ Reg.AGE_HIST + 4 < f.addr) :
        (s.wrapInc Reg.AGE_HOURS_HOURS).historyKept.raiseHub.getF f = (s.wrapInc Reg.AGE_HOURS_HOURS).getF f :=
      (State.getF_of_regs_eq hregs).trans (State.getF_of_reg_eq hf (hhist _ ha))
    have hsame {f : Fld} (hf : f.hi < 32) (ha : f.addr ≠ Reg.AGE_HOURS) : (s.wrapInc Reg.AGE_HOURS_HOURS).getF f = s.getF f :=
      s.getF_putF_far _ ⟨by decide, hf, ha⟩
    obtain ⟨hleft, hmem''⟩ := State.remaining_noted (s := (s.wrapInc Reg.AGE_HOURS_HOURS).historyKept.raiseHub) (by
      rw [hbefore (by decide) (by decide), hbefore (by decide) (by decide), hsame (by decide) (by decide), hsame (by decide) (by decide)]
      exact hnoted)
    refine ⟨_, exec_ageHour hlive hample, ?_, fun t ht => ?_, ?_⟩
    · rw [State.getF_inside, State.getF_of_reg_eq (f := Reg.AGE_HOURS_HOURS) (by decide) (hleft _ (by decide)),
        hbefore (by decide) (by decide), State.getF_wrapInc _ _ _ (by decide)]
    · rw [State.getF_inside, State.getF_of_reg_eq (f := Reg.TILE_FREQ_FMAX_DERATED t) (by simp [Reg.TILE_FREQ_FMAX_DERATED]) (hleft _ ?_),
        hbefore (by simp [Reg.TILE_FREQ_FMAX_DERATED]), hsame (by simp [Reg.TILE_FREQ_FMAX_DERATED])]
      all_goals
        simp only [Reg.TILE_FREQ_FMAX_DERATED, Reg.TILE_FREQ, Reg.AGE_HOURS, Reg.AGE_HIST, Reg.AGE_LIFE]; omega
    · rw [State.inside_mem, hmem'', hmem', hmem]
      exact s.putF_mem ..

end Sys2Proof.Machine
end

section
/-! Test slots and known-answer checks. -/

namespace Sys2Proof.Machine

theorem State.inside_self (s : State) : s.inside s = s := by
  rw [State.inside_eq, ite_self]

/-! ### The commands -/

theorem exec_testCycleStart {s : State} (hlive : s.live = true) : exec .testCycleStart s = .next (s.inside s.cycleStart) := by
  have hrun : exec .testCycleStart s = execTestCycleStart s := rfl
  rw [hrun, execTestCycleStart, whenLive_live hlive]

theorem exec_testSlotPrehold {s : State} {k : Nat} (hlive : s.live = true) (hk : k < 16) :
    exec (.testSlotPrehold k) s = .next (s.inside ((s.prehold k).prehold (k + 16)).setIslands) := by
  have hrun : exec (.testSlotPrehold k) s = execTestSlotPrehold k s := rfl
  rw [hrun, execTestSlotPrehold, whenLive_live hlive, decide_eq_true hk, State.guard_true, pairTiles]
  rfl

theorem exec_testSlotStart {s : State} {k : Nat} (hlive : s.live = true) (hk : k < 16) :
    exec (.testSlotStart k) s = .next (s.inside ((s.slotStart k).slotStart (k + 16))) := by
  have hrun : exec (.testSlotStart k) s = execTestSlotStart k s := rfl
  rw [hrun, execTestSlotStart, whenLive_live hlive, decide_eq_true hk, State.guard_true, pairTiles]
  rfl

/-- Only the end of the last pair can end a self-test. -/
theorem State.selftestEnd_early (s : State) {k : Nat} (hk : k < 15) : s.selftestEnd k = s := by
  rw [State.selftestEnd, if_neg (by omega)]

theorem exec_testSlotEnd {s : State} {k : Nat} (hlive : s.live = true) (hk : k < 15) (a b : Bool) :
    exec (.testSlotEnd k a b) s = .next (s.inside ((s.slotEnd k a).slotEnd (k + 16) b)) := by
  have hrun : exec (.testSlotEnd k a b) s = execTestSlotEnd k a b s := rfl
  rw [hrun, execTestSlotEnd, whenLive_live hlive, decide_eq_true (by omega : k < 16), State.guard_true, State.selftestEnd_early _ hk]

theorem exec_testSlotTimeout {s : State} {k t : Nat} (hlive : s.live = true) (hk : k < 15) (ht : t ∈ pairTiles k) :
    exec (.testSlotTimeout k t) s = .next (s.inside (s.slotEnd t false)) := by
  have hrun : exec (.testSlotTimeout k t) s = execTestSlotTimeout k t s := rfl
  rw [hrun, execTestSlotTimeout, whenLive_live hlive, decide_eq_true (by omega : k < 16), List.contains_iff_mem.mpr ht, Bool.true_and,
    State.guard_true, State.selftestEnd_early _ hk]

theorem exec_knownAnswer_wrong {s : State} {n : Nat} (hlive : s.live = true) (hn : n ∈ katSources) :
    exec (.knownAnswerCheck n false) s = .next (s.inside (s.raise n).testFailed) := by
  have hrun : exec (.knownAnswerCheck n false) s = execKnownAnswerCheck n false s := rfl
  rw [hrun, execKnownAnswerCheck, whenLive_live hlive, List.contains_iff_mem.mpr hn, Bool.not_false, Bool.and_true, State.guard_true]

theorem exec_knownAnswer_right (s : State) (n : Nat) : exec (.knownAnswerCheck n true) s = .next (s.inside s) := by
  have hrun : exec (.knownAnswerCheck n true) s = execKnownAnswerCheck n true s := rfl
  rw [hrun, execKnownAnswerCheck, whenLive, Bool.not_true, Bool.and_false, State.guard_false, State.inside_self, ite_self]

/-! ### Goals before a slot -/

theorem State.goal_setGoal (s : State) (t c k : Nat) : (s.setGoal t c).goal k = if k = t then c else s.goal k := by
  have hset (v : Power) (h : v.goals = Sparse.set (fun _ => 44) s.pwr.goals t c) :
      Sparse.get (fun _ => 44) v.goals k = if k = t then c else s.goal k := by rw [h, Sparse.get_set]; rfl
  unfold State.setGoal
  dsimp only
  split
  · rw [State.goal, State.putF_pwr]; exact hset _ rfl
  · exact hset _ rfl

theorem State.setGoal_frame (s : State) (t c : Nat) : (s.setGoal t c).sch = s.sch ∧ (s.setGoal t c).mem = s.mem := by
  unfold State.setGoal
  dsimp only
  split
  · exact ⟨State.putF_sch .., State.putF_mem ..⟩
  · exact ⟨rfl, rfl⟩

theorem State.prehold_spec (s : State) (t : Nat) : ((s.prehold t).tile t).preHold = true ∧ 44 ≤ (s.prehold t).goal t ∧
    (∀ k, k ≠ t → (s.prehold t).tile k = s.tile k ∧ (s.prehold t).goal k = s.goal k) ∧ (s.prehold t).mem = s.mem := by
  obtain ⟨hsch, hmem⟩ := (s.setTile t { s.tile t with preHold := true }).setGoal_frame t (max 44 (s.goal t))
  have hgoal (k : Nat) := (s.setTile t { s.tile t with preHold := true }).goal_setGoal t (max 44 (s.goal t)) k
  rw [State.prehold]
  refine ⟨?_, ?_, fun k hk => ⟨?_, ?_⟩, hmem⟩
  · rw [State.tile_of_sch hsch, State.tile_setTile_same]
  · rw [hgoal, if_pos rfl]; exact le_max_left ..
  · rw [State.tile_of_sch hsch, State.tile_setTile_ne _ _ hk]
  · rw [hgoal, if_neg hk]; rfl

/-- What the islands' voltages leave: goals, tiles and memory. -/
def State.goalsKept (s : State) : Sparse Nat × Sched × Sparse Byte := (s.pwr.goals, s.sch, s.mem)

theorem State.putF_goalsKept (s : State) (f : Fld) (v : Nat) : (s.putF f v).goalsKept = s.goalsKept := by
  rw [State.goalsKept, State.goalsKept, State.putF_mem, State.putF_sch, State.putF_pwr]

theorem State.setPwr_goalsKept (s : State) (x : Power) : { s with pwr := x }.goalsKept = (x.goals, s.sch, s.mem) := rfl

theorem State.rampIslands_goalsKept (s : State) : s.rampIslands.goalsKept = s.goalsKept := by
  have hramp (u : State) (n : Nat) : (u.ramp n).goalsKept = u.goalsKept := by
    rw [State.ramp, State.putF_goalsKept, State.putF_goalsKept]
  have hup (u : State) (l : List Nat) : (l.foldl (fun v n => v.ramp n) u).goalsKept = u.goalsKept :=
    State.foldl_frame (g := State.goalsKept) (fun v n _ => hramp v n) u
  have htake (u : State) (n : Nat) : ((islandTiles n).foldl (fun w t => w.takeGoal t) u).goalsKept = u.goalsKept :=
    State.foldl_frame (g := State.goalsKept) (fun v t _ => v.putF_goalsKept _ _) u
  unfold State.rampIslands
  dsimp only
  refine (State.foldl_frame (g := State.goalsKept) (fun u n _ => htake u n) _).trans ?_
  rw [State.fallIslands, hup, hup]
  rfl

theorem State.setIslands_spec (s : State) : (∀ k, s.setIslands.goal k = s.goal k) ∧ (∀ t, s.setIslands.tile t = s.tile t) ∧
    s.setIslands.mem = s.mem := by
  have hkept : s.setIslands.goalsKept = s.goalsKept := by
    rw [State.setIslands, State.rampIslands_goalsKept, State.setPwr_goalsKept, State.goalsKept]
  obtain ⟨hgoals, hrest⟩ := Prod.ext_iff.mp hkept
  obtain ⟨hsch, hmem⟩ := Prod.ext_iff.mp hrest
  exact ⟨fun k => by rw [State.goal, State.goal]; exact congrArg (fun l => Sparse.get (fun _ => 44) l k) hgoals,
    fun t => State.tile_of_sch hsch t, hmem⟩

/-! ### Slots -/

theorem State.slotStart_skips {s : State} {t : Nat} (hfence : s.fenced t = false) (hstop : s.isRunning (tilePage t) = false) :
    s.slotStart t = ((s.setTile t { s.tile t with preHold := false }).satInc Reg.GRN_TST_CNT_SKIPS).testFailed := by
  rw [State.slotStart, hfence, hstop]; rfl

theorem State.slotStart_enters {s : State} {t : Nat} (h : s.fenced t = true ∨ s.isRunning (tilePage t) = true) :
    s.slotStart t = (s.setTile t { s.tile t with inSlot := true }).kill t 0 true true := by
  rw [State.slotStart, if_neg]
  rcases h with h | h <;> simp [h]

theorem State.testFailed_frame (s : State) : s.testFailed.regs = s.regs ∧ s.testFailed.sch = s.sch ∧ s.testFailed.mem = s.mem ∧
    s.testFailed.blocks = s.blocks ∧ s.testFailed.test.passed = false := ⟨rfl, rfl, rfl, rfl, rfl⟩

theorem fence_ne_tstCnt (t : Nat) : (Reg.TILE_FENCE_FENCED t).hi < 32 ∧ (Reg.TILE_FENCE_FENCED t).addr ≠ Reg.GRN_TST_CNT := by
  simp only [Reg.TILE_FENCE_FENCED, Reg.TILE_FENCE, Reg.GRN_TST_CNT]; omega

/-- A count of tests leaves which tiles are fenced. -/
theorem State.fenced_putCount (s : State) {f : Fld} (hf : f.addr = Reg.GRN_TST_CNT ∧ f.hi < 32) (v t : Nat) :
    (s.putF f v).fenced t = s.fenced t := by
  obtain ⟨hhi, hne⟩ := fence_ne_tstCnt t
  rw [State.fenced, State.onF, s.getF_putF_far v ⟨hf.2, hhi, hf.1 ▸ hne⟩, State.fenced, State.onF]

theorem State.fenced_of_regs {s u : State} (h : u.regs = s.regs) (t : Nat) : u.fenced t = s.fenced t := State.onF_of_regs_eq h

theorem State.isRunning_of_blocks {s u : State} (h : u.blocks = s.blocks) (p : Nat) : u.isRunning p = s.isRunning p := by
  rw [State.isRunning, State.isRunning, State.blockState, State.blockState, State.block, State.block, h]

/-- The state after a tile skips its slot. -/
def State.skipSlot (s : State) (t : Nat) : State :=
  ((s.setTile t { s.tile t with preHold := false }).satInc Reg.GRN_TST_CNT_SKIPS).testFailed

theorem State.skipSlot_spec (s : State) (t : Nat) : (s.skipSlot t).tile t = { s.tile t with preHold := false } ∧
    (∀ k, k ≠ t → (s.skipSlot t).tile k = s.tile k) ∧ (∀ k, (s.skipSlot t).fenced k = s.fenced k) ∧
    (s.skipSlot t).blocks = s.blocks ∧ (s.skipSlot t).mem = s.mem ∧ (s.skipSlot t).test.passed = false := by
  obtain ⟨hregs, hsch, hmem, hblocks, hpassed⟩ :=
    ((s.setTile t { s.tile t with preHold := false }).satInc Reg.GRN_TST_CNT_SKIPS).testFailed_frame
  rw [State.skipSlot]
  refine ⟨?_, fun k hk => ?_, fun k => ?_, ?_, ?_, hpassed⟩
  · rw [State.tile_of_sch hsch, State.satInc, State.tile_putF, State.tile_setTile_same]
  · rw [State.tile_of_sch hsch, State.satInc, State.tile_putF, State.tile_setTile_ne _ _ hk]
  · rw [State.fenced_of_regs hregs, State.satInc, State.fenced_putCount _ (by decide)]; exact State.fenced_of_regs (State.setTile_regs ..) k
  · rw [hblocks, State.satInc, State.putF_blocks]; rfl
  · rw [hmem, State.satInc, State.putF_mem]; rfl

/-- The state after a tile passes its slot. -/
def State.passSlot (s : State) (t : Nat) : State :=
  (s.setTile t { s.tile t with inSlot := false, preHold := false }).wrapInc Reg.GRN_TST_CNT_PASSES

theorem State.passSlot_spec (s : State) (t : Nat) : (s.passSlot t).tile t = { s.tile t with inSlot := false, preHold := false } ∧
    (∀ k, k ≠ t → (s.passSlot t).tile k = s.tile k) ∧ (∀ k, (s.passSlot t).fenced k = s.fenced k) ∧ (s.passSlot t).mem = s.mem ∧
    (s.passSlot t).getF Reg.GRN_TST_CNT_PASSES =
      (s.getF Reg.GRN_TST_CNT_PASSES + 1) % 2 ^ Reg.GRN_TST_CNT_PASSES.width := by
  rw [State.passSlot]
  refine ⟨?_, fun k hk => ?_, fun k => ?_, ?_, ?_⟩
  · rw [State.wrapInc, State.tile_putF, State.tile_setTile_same]
  · rw [State.wrapInc, State.tile_putF, State.tile_setTile_ne _ _ hk]
  · rw [State.wrapInc, State.fenced_putCount _ (by decide)]; exact State.fenced_of_regs (State.setTile_regs ..) k
  · rw [State.wrapInc, State.putF_mem]; rfl
  · rw [State.getF_wrapInc _ _ _ (by decide), State.getF_of_regs_eq (State.setTile_regs ..)]

theorem State.slotEnd_passes {s : State} {t : Nat} (hslot : (s.tile t).inSlot = true) (hfence : s.fenced t = false) :
    s.slotEnd t true = s.passSlot t := by
  have hnow : (s.passSlot t).fenced t = false := ((s.passSlot_spec t).2.2.1 t).trans hfence
  have hverdict : s.slotEnd t true = (s.passSlot t).testVerdict t true := by rw [State.slotEnd, hslot]; rfl
  rw [hverdict, State.testVerdict, hnow]; rfl

/-- Settles O42. -/
theorem testCommandsComplete : Obligations.TestCommandsComplete := by
  unfold Obligations.TestCommandsComplete
  refine ⟨?cycle, ?prehold, ?skips, ?enters, ?ends, ?timeout, ?wrong, fun s n => exec_knownAnswer_right s n⟩
  case cycle =>
    intro s hlive
    refine ⟨_, exec_testCycleStart hlive, ?_, fun hwait => ?_, ?_, ?_⟩
    · rw [State.inside_test, State.cycleStart]; split <;> rfl
    · rw [State.inside_test, State.cycleStart, if_pos hwait]; exact ⟨rfl, rfl⟩
    · rw [State.inside_regs, State.cycleStart]; split <;> rfl
    · rw [State.inside_mem, State.cycleStart]; split <;> rfl
  case prehold =>
    intro s k hlive hk
    obtain ⟨hhold, hgoal, -, hmem⟩ := s.prehold_spec k
    obtain ⟨hhold', hgoal', hothers, hmem'⟩ := (s.prehold k).prehold_spec (k + 16)
    obtain ⟨htile, hgoalK⟩ := hothers k (by omega)
    obtain ⟨hgoals, htiles, hmem''⟩ := ((s.prehold k).prehold (k + 16)).setIslands_spec
    have hgoalIn (t : Nat) : (s.inside ((s.prehold k).prehold (k + 16)).setIslands).goal t = ((s.prehold k).prehold (k + 16)).goal t := by
      rw [← hgoals t, State.goal, State.inside_pwr, State.goal]
    refine ⟨_, exec_testSlotPrehold hlive hk, ?_, ?_, ?_, ?_, ?_⟩
    · rw [State.tile_inside, htiles, htile, hhold]
    · rw [State.tile_inside, htiles, hhold']
    · rw [hgoalIn, hgoalK]; exact hgoal
    · rw [hgoalIn]; exact hgoal'
    · rw [State.inside_mem, hmem'', hmem', hmem]
  case skips =>
    intro s k hlive hk hfence hfence' hstop hstop'
    obtain ⟨htile, -, hfenced, hblocks, hmem, -⟩ := s.skipSlot_spec k
    obtain ⟨-, hothers, -, -, hmem', hpassed⟩ := (s.skipSlot k).skipSlot_spec (k + 16)
    have hrun := exec_testSlotStart hlive hk
    rw [State.slotStart_skips hfence hstop, ← State.skipSlot, State.slotStart_skips ((hfenced _).trans hfence')
      ((State.isRunning_of_blocks hblocks _).trans hstop'), ← State.skipSlot] at hrun
    refine ⟨_, hrun, ?_, ?_, ?_, ?_⟩
    · rw [State.tile_inside, hothers k (by omega), htile]
    · rw [State.tile_inside, hothers k (by omega), htile]
    · rw [State.inside_test, hpassed]
    · rw [State.inside_mem, hmem', hmem]
  case enters =>
    intro s k hlive hk hall
    rw [Does, exec_testSlotStart hlive hk, State.slotStart_enters (hall k (by simp [pairTiles]))]
  case ends =>
    intro s k hlive hk hslot hslot' hfence hfence'
    obtain ⟨htile, hothers, hfenced, hmem, hcount⟩ := s.passSlot_spec k
    obtain ⟨htile', hothers', hfenced', hmem', hcount'⟩ := (s.passSlot k).passSlot_spec (k + 16)
    have hrun := exec_testSlotEnd hlive hk true true
    rw [State.slotEnd_passes hslot hfence, State.slotEnd_passes (by rwa [hothers _ (by omega)]) ((hfenced _).trans hfence')] at hrun
    refine ⟨_, hrun, ?_, ?_, ?_, ?_, ?_, ?_⟩
    · rw [State.tile_inside, hothers' k (by omega), htile]
    · rw [State.tile_inside, htile']
    · rw [State.getF_inside, hcount', hcount, Nat.mod_add_mod]
    · rw [State.fenced_of_regs (State.inside_regs ..), hfenced', hfenced, hfence]
    · rw [State.fenced_of_regs (State.inside_regs ..), hfenced', hfenced, hfence']
    · rw [State.inside_mem, hmem', hmem]
  case timeout =>
    intro s k t hlive hk ht _
    exact exec_testSlotTimeout hlive hk ht
  case wrong =>
    intro s n hlive hn
    exact exec_knownAnswer_wrong hlive hn

end Sys2Proof.Machine
end

section
/-! Commands on a tile's units: work held in the window, work that fails, and work that meets an uncorrectable error. -/

namespace Sys2Proof.Machine

theorem whenLive_exec {k : Instr} {s : State} {f : State → State} (hexec : exec k s = whenLive f s) (hlive : s.live = true) :
    exec k s = .next (s.inside (f s)) := hexec.trans (whenLive_live hlive)

/-! ### One run of a command on its tile -/

theorem State.runnable_ok {s : State} {t i c : Nat} {ok : Cmd → Bool} {e : WEntry} (h : s.runnable t i ok = some (c, e)) :
    ok e.cmd = true := by
  rw [State.runnable] at h
  split at h
  · split at h
    next hall =>
      obtain ⟨rfl, rfl⟩ := Prod.mk.inj (Option.some.inj h)
      simp only [Bool.and_eq_true] at hall
      exact hall.1.1.1
    · cases h
  · cases h

theorem hasOp_iff {op : Nat} {c : Cmd} : hasOp op c = true ↔ c.op = op := by
  rw [hasOp, beq_iff_eq]

theorem hasKvOp_op {n : Nat} {c : Cmd} (h : hasKvOp n c = true) : c.op = 0x21 ∧ c.kvOp = n := by
  simpa [hasKvOp] using h

theorem hasKvOp_of_op_ne {n : Nat} {c : Cmd} (h : c.op ≠ 0x21) : hasKvOp n c = false := by
  simp [hasKvOp, h]

/-- Commands other than those on attention and key-value pages read memory by rows. -/
theorem State.farReads_rows (s : State) (t : Nat) {c : Cmd} (hattn : c.op ≠ 0x20) (hkv : c.op ≠ 0x21) :
    s.farReads t c = s.rowReads t c := by
  rw [State.farReads, if_neg hattn]
  simp only [hasKvOp_of_op_ne hkv, Bool.false_eq_true, if_false]

theorem State.farReads_attn (s : State) (t : Nat) {c : Cmd} (h : hasOp 0x20 c = true) : s.farReads t c = s.attnReads t c := by
  rw [State.farReads, if_pos (hasOp_iff.1 h)]

theorem State.farReads_append (s : State) (t : Nat) {c : Cmd} (h : hasKvOp 0 c = true) : s.farReads t c = s.appendReads c := by
  rw [State.farReads, if_neg (by rw [(hasKvOp_op h).1]; decide), if_pos h]

theorem State.farReads_share (s : State) (t : Nat) {c : Cmd} (h : hasKvOp 1 c = true) : s.farReads t c = c.linkReads 1 := by
  obtain ⟨hop, hkind⟩ := hasKvOp_op h
  rw [State.farReads, if_neg (by rw [hop]; decide), if_neg (by simp [hasKvOp, hkind]), if_pos h]

theorem State.farReads_release (s : State) (t : Nat) {c : Cmd} (h : hasKvOp 2 c = true) :
    s.farReads t c = c.linkReads (c.f 0x10 11 0) := by
  obtain ⟨hop, hkind⟩ := hasKvOp_op h
  rw [State.farReads, if_neg (by rw [hop]; decide), if_neg (by simp [hasKvOp, hkind]), if_neg (by simp [hasKvOp, hkind]), if_pos h]

section run
variable {s : State} {t i c : Nat} {ok : Cmd → Bool} {ecc : List EccError} {e : WEntry}
  {reads : State → Cmd → List (Nat × Nat)} {f : State → Nat → Cmd → Done × State}

/-- A command whose far reads are mapped, asked for and answered meets its ECC errors: an uncorrectable one ends its context, and
without one it works. -/
theorem State.executeFar_answered (hrun : s.runnable t i ok = some (c, e)) (hreads : reads s e.cmd = s.farReads t e.cmd)
    (hfar : ∀ r ∈ s.farReads t e.cmd, s.isNeighbour r.1 = true → s.mapped r.1 = true ∧ e.asked.contains r = true)
    (hbusy : s.remoteBusy t e.cmd.seq = false) :
    s.executeFar t i ok ecc reads f =
      if (s.eccMet t e.cmd (s.farReads t e.cmd) ecc).any (fun x => x.double) then
        ((s.record c e.cmd 0x11 0).reading t c e.cmd (s.farReads t e.cmd) ecc).endContext c 0x11
      else (s.corrected t c e.cmd ecc).finish t i c e (f (s.corrected t c e.cmd ecc) c e.cmd) := by
  have hmapped : ((s.farReads t e.cmd).filter (fun r => s.isNeighbour r.1)).all (fun r => s.mapped r.1) = true := by
    rw [List.all_eq_true]
    exact fun r hr => (hfar r (List.mem_filter.1 hr).1 (List.mem_filter.1 hr).2).1
  have hasked : ((s.farReads t e.cmd).filter (fun r => s.isNeighbour r.1)).all (fun r => e.asked.contains r) = true := by
    rw [List.all_eq_true]
    exact fun r hr => (hfar r (List.mem_filter.1 hr).1 (List.mem_filter.1 hr).2).2
  simp only [State.executeFar, hrun, hreads, hmapped, hasked, hbusy, Bool.not_true, Bool.false_eq_true, if_false,
    State.corrected]

theorem State.executeFar_ready (h : s.Ready t i ok ecc c e) (hreads : reads s e.cmd = s.farReads t e.cmd) :
    s.executeFar t i ok ecc reads f = (s.corrected t c e.cmd ecc).finish t i c e (f (s.corrected t c e.cmd ecc) c e.cmd) := by
  obtain ⟨-, hrun, hfar, hbusy, hclean⟩ := h
  rw [State.executeFar_answered hrun hreads hfar hbusy, if_neg]
  rw [List.any_eq_true]
  rintro ⟨x, hx, hdouble⟩
  exact absurd hdouble (by rw [hclean x hx]; decide)

end run

/-! ### Refuting O33: `u.sch = s.sch` leaves no room for the entry's results -/

/-- A command without a descriptor. -/
def noCmd : Cmd := { desc := [], slot := 0, seq := 0, reruns := 0, checked := true, waitOk := true, waitBroken := false }

/-- O33's last conjuncts ask that the scheduler's part of the state stand, and the window is in it. -/
def heldState : State := State.reset.setTile 0 { window := [{ cmd := noCmd }] }

theorem heldState_window : (heldState.tile 0).window = [{ cmd := noCmd }] := by
  rw [heldState, State.tile_setTile_same]

/-- Refutes O33: the entry of a tile's window is part of `sch`, so no state both holds the results and keeps `sch`. The counterexample
is one unfinished entry in the window of tile 0 whose work passes without results. -/
theorem not_finishedWorkWaitsForItsCommit : ¬ Obligations.FinishedWorkWaitsForItsCommit := by
  unfold Obligations.FinishedWorkWaitsForItsCommit
  intro h
  obtain ⟨u, -, htile, -, -, hsch, -⟩ := h heldState 0 0 0 { cmd := noCmd } { verdict := .passed } (Or.inl rfl)
    (fun w hw => absurd hw List.not_mem_nil)
  have hwindow := congrArg Tile.window ((State.tile_of_sch hsch 0).symm.trans htile)
  simp [heldState_window, WEntry.done] at hwindow

/-! ### Every unit command runs through `executeFar` -/

section works
variable {s : State} {k : Instr} {t i : Nat} {ecc : List EccError}

theorem State.works_far {ok : Cmd → Bool} {reads : State → Cmd → List (Nat × Nat)} {f : State → Nat → Cmd → Done × State}
    (hexec : s.live = true → exec k s = .next (s.inside (s.executeFar t i ok ecc reads f)))
    (hreads : ∀ c, ok c = true → reads s c = s.farReads t c) : s.Works k t i ok ecc f := by
  intro c e h
  rw [Does, hexec h.1, State.executeFar_ready h (hreads e.cmd (State.runnable_ok h.2.1))]

theorem State.works_live {ok : Cmd → Bool} {reads : State → Cmd → List (Nat × Nat)} {f : State → Nat → Cmd → Done × State}
    (hexec : exec k s = whenLive (fun u => u.executeFar t i ok ecc reads f) s)
    (hreads : ∀ c, ok c = true → reads s c = s.farReads t c) : s.Works k t i ok ecc f :=
  State.works_far (fun h => hexec.trans (whenLive_live h)) hreads

theorem State.farReads_hasOp {op : Nat} (hop : op ≠ 0x20 ∧ op ≠ 0x21) (c : Cmd) (h : hasOp op c = true) :
    s.rowReads t c = s.farReads t c := by
  obtain rfl := hasOp_iff.1 h
  exact (s.farReads_rows t hop.1 hop.2).symm

theorem State.works_rows {op : Nat} {f : State → Nat → Cmd → Done × State}
    (hexec : exec k s = whenLive (fun u => u.execute t i (hasOp op) ecc f) s)
    (hop : op ≠ 0x20 ∧ op ≠ 0x21 := by decide) : s.Works k t i (hasOp op) ecc f :=
  State.works_far (fun h => hexec.trans (whenLive_live h)) (State.farReads_hasOp hop)

end works

section scatterConv
variable {s : State} {t i c : Nat} {ecc : List EccError} {e : WEntry}

/-- Rows of a SCATTER land ahead only where one of them is refused and no uncorrectable error is met. -/
theorem exec_scatter (hlive : s.live = true) (hrun : s.runnable t i (hasOp 0x04) = some (c, e))
    (hwhole : (runScatter s (s.ctx c).part t e.cmd).verdict ≠ .region ∨
      (s.eccMet t e.cmd (s.rowReads t e.cmd) ecc).any (fun m => m.double) = true) :
    exec (.scatter t i ecc) s = .next (s.inside
      (s.execute t i (hasOp 0x04) ecc (fun u x c => (runScatter u (u.ctx x).part t c, u)))) := by
  have hexec : exec (.scatter t i ecc) s = execScatter t i ecc s := rfl
  have hnone : ((runScatter s (s.ctx c).part t e.cmd).verdict == Verdict.region &&
      !(s.eccMet t e.cmd (s.rowReads t e.cmd) ecc).any (fun m => m.double)) = false := by
    rcases hwhole with h | h
    · rw [beq_false_of_ne h, Bool.false_and]
    · rw [h, Bool.not_true, Bool.and_false]
  rw [hexec, execScatter, whenLive_live hlive]
  simp only [hrun, hnone, Bool.false_eq_true, if_false]

theorem exec_conv (hlive : s.live = true) (hrun : s.runnable t i (hasOp 0x11) = some (c, e)) (upset : Upset) :
    exec (.conv t i upset ecc) s = .next (s.inside (match s.bodyCheck c t e.cmd with
      | some status => s.failCommand c e.cmd status (FS.TILE_DESC t)
      | none => s.execute t i (hasOp 0x11) ecc
          (fun u _ c => (runMatrix c (u.matrixProduct t c (u.rowConv t c)) upset, u)))) := by
  have hexec : exec (.conv t i upset ecc) s = execConv t i upset ecc s := rfl
  rw [hexec, execConv, whenLive_live hlive]
  simp only [hrun] <;> rfl

theorem exec_conv_passed (hlive : s.live = true) (hrun : s.runnable t i (hasOp 0x11) = some (c, e))
    (hgood : s.bodyCheck c t e.cmd = none) (upset : Upset) :
    exec (.conv t i upset ecc) s = .next (s.inside (s.execute t i (hasOp 0x11) ecc
      (fun u _ c => (runMatrix c (u.matrixProduct t c (u.rowConv t c)) upset, u)))) := by
  rw [exec_conv hlive hrun, hgood]

end scatterConv

theorem exec_fence {s : State} (hlive : s.live = true) (t : Nat) :
    exec (.fence t 0) s = .next (s.inside (s.execute t 0 (hasOp 0x3B) [] (fun u _ _ => ({}, u)))) := by
  have hexec : exec (.fence t 0) s = execFence t 0 s := rfl
  rw [hexec, execFence, whenLive_live hlive, beq_self_eq_true, State.guard_true]

theorem exec_scan {s : State} (hlive : s.live = true) (t i : Nat) (upset : Upset) (ecc : List EccError) :
    exec (.scan t i upset ecc) s = .next (s.inside (s.execute t i (hasOp 0x28) ecc (fun u _ c =>
      u.runScan t c (match (s.tile t).window[i]? with | some e => e.fresh | none => false) upset))) := by
  have hexec : exec (.scan t i upset ecc) s = execScan t i upset ecc s := rfl
  rw [hexec, execScan, whenLive_live hlive] <;> rfl

/-- Settles O32: each unit command is `execute` with its own work, so a ready one finishes with its results; SCATTER and CONV have a check
of their own before it. -/
theorem engineCommandsComplete : Obligations.EngineCommandsComplete := by
  unfold Obligations.EngineCommandsComplete
  intro s t i upset ecc
  refine ⟨State.works_rows rfl, State.works_rows rfl,
    State.works_rows rfl, State.works_rows rfl,
    State.works_rows rfl, ?scatter, State.works_rows rfl, ?conv, ?convRefused,
    State.works_rows rfl, State.works_rows rfl, State.works_rows rfl,
    State.works_rows rfl, State.works_rows rfl, State.works_rows rfl,
    State.works_rows rfl,
    State.works_live (reads := fun u c => u.attnReads t c) rfl fun c hc => (s.farReads_attn t hc).symm,
    State.works_live (reads := fun u c => u.appendReads c) rfl fun c hc => (s.farReads_append t hc).symm,
    State.works_live (reads := fun _ c => c.linkReads 1) rfl fun c hc => (s.farReads_share t hc).symm,
    State.works_live (reads := fun _ c => c.linkReads (c.f 0x10 11 0)) rfl fun c hc => (s.farReads_release t hc).symm,
    ?scan, State.works_rows rfl,
    State.works_far (fun h => exec_fence h t) (State.farReads_hasOp (by decide))⟩
  case scatter =>
    intro hwhole c e h
    rw [Does, exec_scatter h.1 h.2.1 (Or.inl (hwhole c e h)), State.execute,
      State.executeFar_ready h (State.farReads_hasOp (by decide) e.cmd (State.runnable_ok h.2.1))]
  case conv =>
    intro hgood c e h
    rw [Does, exec_conv_passed h.1 h.2.1 (hgood c e h), State.execute,
      State.executeFar_ready h (State.farReads_hasOp (by decide) e.cmd (State.runnable_ok h.2.1))]
  case convRefused =>
    intro c e status h hbad
    rw [Does, exec_conv h.1 h.2.1, hbad]
  case scan =>
    exact State.works_far (fun h => exec_scan h t i upset ecc) (State.farReads_hasOp (by decide))

/-! ### An uncorrectable error -/

/-- The command runs as `executeFar` with the far reads that the obligation speaks of. -/
def State.RunsFar (s : State) (k : Instr) (t i : Nat) (ok : Cmd → Bool) (ecc : List EccError) (c : Cmd) : Prop :=
  ∃ reads f, exec k s = .next (s.inside (s.executeFar t i ok ecc reads f)) ∧ reads s c = s.farReads t c

theorem State.runsFar_rows {s : State} {k : Instr} {t i op : Nat} {ecc : List EccError} {c : Cmd}
    {f : State → Nat → Cmd → Done × State} (hok : hasOp op c = true)
    (hexec : exec k s = .next (s.inside (s.execute t i (hasOp op) ecc f))) (hop : op ≠ 0x20 ∧ op ≠ 0x21 := by decide) :
    s.RunsFar k t i (hasOp op) ecc c :=
  ⟨_, f, hexec, State.farReads_hasOp hop c hok⟩

theorem State.runsFar_live {s : State} {k : Instr} {t i : Nat} {ok : Cmd → Bool} {ecc : List EccError} {c : Cmd}
    {reads : State → Cmd → List (Nat × Nat)} {f : State → Nat → Cmd → Done × State} (hlive : s.live = true)
    (hexec : exec k s = whenLive (fun u => u.executeFar t i ok ecc reads f) s) (hreads : reads s c = s.farReads t c) :
    s.RunsFar k t i ok ecc c :=
  ⟨reads, f, whenLive_exec hexec hlive, hreads⟩

theorem State.runsFar_execute {s : State} {k : Instr} {t i op : Nat} {ecc : List EccError} {c : Cmd}
    {f : State → Nat → Cmd → Done × State} (hlive : s.live = true) (hok : hasOp op c = true)
    (hexec : exec k s = whenLive (fun u => u.execute t i (hasOp op) ecc f) s) (hop : op ≠ 0x20 ∧ op ≠ 0x21 := by decide) :
    s.RunsFar k t i (hasOp op) ecc c :=
  State.runsFar_rows hok (whenLive_exec hexec hlive) hop

/-- Every command that works on a tile's units runs far, where neither SCATTER nor CONV stops it before. -/
theorem exec_engine {s : State} {k : Instr} {t i c : Nat} {ecc : List EccError} {ok : Cmd → Bool} {e : WEntry}
    (hparts : engineParts k = some (t, i, ecc, ok)) (hlive : s.live = true) (hrun : s.runnable t i ok = some (c, e))
    (hfence : e.cmd.op = 0x3B → i = 0) (hconv : e.cmd.op = 0x11 → s.bodyCheck c t e.cmd = none)
    (hdouble : (s.eccMet t e.cmd (s.farReads t e.cmd) ecc).any (fun m => m.double) = true) : s.RunsFar k t i ok ecc e.cmd := by
  have hok := State.runnable_ok hrun
  unfold engineParts at hparts
  split at hparts
  case h_23 => cases hparts
  all_goals obtain ⟨rfl, rfl, rfl, rfl⟩ := by simpa only [Option.some.injEq, Prod.mk.injEq] using hparts
  case h_5 => -- SCATTER
    exact State.runsFar_rows hok (exec_scatter hlive hrun (Or.inr (by rwa [State.farReads_hasOp (by decide) e.cmd hok])))
  case h_8 => -- CONV
    exact State.runsFar_rows hok (exec_conv_passed hlive hrun (hconv (hasOp_iff.1 hok)) _)
  case h_10 => -- ATTN_BLOCK
    exact State.runsFar_live (reads := fun u c => u.attnReads _ c) hlive rfl (s.farReads_attn _ hok).symm
  case h_11 => -- KV_APPEND
    exact State.runsFar_live (reads := fun u c => u.appendReads c) hlive rfl (s.farReads_append _ hok).symm
  case h_12 => -- KV_SHARE
    exact State.runsFar_live (reads := fun _ c => c.linkReads 1) hlive rfl (s.farReads_share _ hok).symm
  case h_13 => -- KV_RELEASE
    exact State.runsFar_live (reads := fun _ c => c.linkReads (c.f 0x10 11 0)) hlive rfl (s.farReads_release _ hok).symm
  case h_14 => -- SCAN
    exact State.runsFar_rows hok (exec_scan hlive _ _ _ _)
  case h_22 => -- FENCE
    obtain rfl := hfence (hasOp_iff.1 hok)
    exact State.runsFar_rows hok (exec_fence hlive _)
  all_goals exact State.runsFar_execute hlive hok rfl

/-- Settles O34, by the answered run of `executeFar`. -/
theorem uncorrectableErrorEndsTheContext : Obligations.UncorrectableErrorEndsTheContext := by
  unfold Obligations.UncorrectableErrorEndsTheContext
  intro s k t i ecc ok c e hparts hlive hrun hfence hconv hbusy hfar hmet
  have hdouble := List.any_eq_true.2 hmet
  obtain ⟨reads, f, hexec, hreads⟩ := exec_engine hparts hlive hrun hfence hconv hdouble
  rw [Does, hexec, State.executeFar_answered hrun hreads hfar hbusy, if_pos hdouble]

end Sys2Proof.Machine
end

section
/-! The dispatcher: slots, the window's entries, waits, signals, links, commits, kills and the scrubber. -/

namespace Sys2Proof.Machine

/-! ### Chains and the dispatcher's own commands -/

section dispatcher
variable {s : State} {x : Nat} {cmd : Cmd}

theorem exec_commitWindowEntry {t : Nat} (hlive : s.live = true) (hfront : s.frontReady x = some cmd)
    (htile : (s.ctx x).onTile = some t) (hop : inDispatcher cmd.op = false) (htakes : s.tileTakes t = true)
    (hprep : (s.ctx x).prep = []) (hblocks : s.blocksRun cmd = true) (hruns : s.isRunning 0x80 = true) :
    exec (.commitWindowEntry x) s = .next (s.inside (s.toWindow x t cmd)) := by
  have hrun : exec (.commitWindowEntry x) s = execCommitWindowEntry x s := rfl
  rw [hrun, execCommitWindowEntry, whenLive_live hlive]
  simp only [hfront, htile, hop, htakes, hprep, hblocks, hruns, List.isEmpty_nil, Bool.not_true, Bool.or_self,
    Bool.false_eq_true, if_false]

theorem exec_syncWait (hlive : s.live = true) (hfront : s.frontReady x = some cmd) (hop : cmd.op = 0x38)
    (hruns : s.isRunning 0x80 = true) :
    exec (.syncWait x) s = .next (s.inside (((s.commitRecord x cmd 0 0).reportKick x cmd).popFront x)) := by
  have hrun : exec (.syncWait x) s = execSyncWait x s := rfl
  rw [hrun, execSyncWait, whenLive_live hlive]
  simp only [hfront, if_pos (And.intro hop hruns)]

/-- A signal's status is 0x12 where its ADD would carry past 2^64 − 1. -/
theorem exec_syncSignal {add exceed : Bool} (hlive : s.live = true) (hfront : s.frontReady x = some cmd) (hop : cmd.op = 0x39)
    (hempty : s.windowEmpty x = true) (hruns : s.isRunning 0x80 = true)
    (hadd : (bits (cmd.half 0x10) 15 14 == 1) = add)
    (hexceed : (add && s.addOverflows (bits (cmd.half 0x10) 13 0) (cmd.long 0x18)) = exceed) (u : State)
    (hu : u = ((s.commitRecord x cmd (if exceed then 0x12 else 0) 0).reportKick x cmd).granted (.sync (bits (cmd.half 0x10) 13 0))
      ((s.ctx x).onTile.getD 0)) (v : State)
    (hv : v = if add then u.syncAdd (bits (cmd.half 0x10) 13 0) (cmd.long 0x18)
      else u.syncSet (bits (cmd.half 0x10) 13 0) (cmd.long 0x18)) :
    exec (.syncSignal x) s = .next (s.inside (if exceed then v.overflowEnds x else v.popFront x)) := by
  have hrun : exec (.syncSignal x) s = execSyncSignal x s := rfl
  subst hadd hexceed hu hv
  rw [hrun, execSyncSignal, whenLive_live hlive]
  simp only [hfront, if_pos (And.intro hop (And.intro hempty hruns))]

theorem exec_link (hlive : s.live = true) (hfront : s.frontReady x = some cmd) (hop : cmd.op = 0x3F)
    (hruns : s.isRunning 0x80 = true) (u : State) (hu : u = (s.commitRecord x cmd 0 0).reportKick x cmd) :
    exec (.link x) s = .next (s.inside
      ((u.setCtx x { u.ctx x with next := bits (cmd.long 0x10) 47 0, buffer := [] }).popFront x)) := by
  have hrun : exec (.link x) s = execLink x s := rfl
  subst hu
  rw [hrun, execLink, whenLive_live hlive]
  simp only [hfront, if_pos (And.intro hop hruns)]

end dispatcher

section window
variable {s : State} {x t : Nat} {cmd : Cmd}

theorem State.toWindow_plain (hop : cmd.op ≠ 0x28) : s.toWindow x t cmd = s.enter x t cmd := by
  rw [State.toWindow, if_neg hop]

theorem State.toWindow_refused (hop : cmd.op = 0x28) (hrefused : s.scanRefused x cmd.stream = true) :
    s.toWindow x t cmd = s.failCommand x cmd 0x18 FS.STM_REFUSED := by
  rw [State.toWindow, if_pos hop, if_pos hrefused]

theorem State.toWindow_scan (hop : cmd.op = 0x28) (htaken : s.scanRefused x cmd.stream = false) :
    s.toWindow x t cmd =
      if (s.scanReady cmd.stream t).1 then (s.scanReady cmd.stream t).2.enter x t cmd else (s.scanReady cmd.stream t).2 := by
  rw [State.toWindow, if_pos hop, if_neg (by simp [htaken])]

end window

/-- Settles O35: each command of the dispatcher is its step function, and entering the window splits on SCAN. -/
theorem dispatcherCommandsComplete : Obligations.DispatcherCommandsComplete := by
  unfold Obligations.DispatcherCommandsComplete
  refine ⟨?fetch, ?poll, ?window, ?wait, ?signal, ?overflow, ?link⟩
  case fetch =>
    intro s x hlive hruns hpoll
    have hrun : exec (.descriptorFetch x) s = execDescriptorFetch x s := rfl
    rw [Does, hrun, execDescriptorFetch, whenLive_live hlive, hruns, hpoll]
    rfl
  case poll =>
    intro s x hlive hruns hpoll
    have hrun : exec (.chainPoll x) s = execChainPoll x s := rfl
    rw [Does, hrun, execChainPoll, whenLive_live hlive, hruns, hpoll]
    rfl
  case window =>
    intro s x t cmd hlive hfront htile hop htakes hprep hblocks hruns
    simp only [Does, exec_commitWindowEntry hlive hfront htile hop htakes hprep hblocks hruns]
    refine ⟨fun h => ?_, fun h hrefused => ?_, fun h htaken hready => ?_, fun h htaken hready => ?_⟩
    · rw [State.toWindow_plain h]
    · rw [State.toWindow_refused h hrefused]
    · rw [State.toWindow_scan h htaken, if_pos hready]
    · rw [State.toWindow_scan h htaken, if_neg (by simp [hready])]
  case wait =>
    intro s x cmd hlive hfront hop hruns
    rw [Does, exec_syncWait hlive hfront hop hruns]
  case signal =>
    intro s x cmd u hlive hfront hop hempty hruns hu
    refine ⟨fun hset => ?_, fun hadd hfits => ?_⟩
    · rw [Does, exec_syncSignal (add := false) (exceed := false) hlive hfront hop hempty hruns (beq_false_of_ne hset)
        (Bool.false_and _) u hu _ rfl]
      simp only [Bool.false_eq_true, if_false]
    · rw [Does, exec_syncSignal (add := true) (exceed := false) hlive hfront hop hempty hruns (beq_iff_eq.2 hadd)
        (by rw [hfits, Bool.and_false]) u hu _ rfl]
      simp only [Bool.false_eq_true, if_false, if_true]
  case overflow =>
    intro s x cmd u hlive hfront hop hempty hruns hadd hu hover
    rw [Does, exec_syncSignal (add := true) (exceed := true) hlive hfront hop hempty hruns (beq_iff_eq.2 hadd)
      (by rw [hover, Bool.and_true]) u hu _ rfl]
    simp only [if_true]
  case link =>
    intro s x cmd u hlive hfront hop hruns hu
    rw [Does, exec_link hlive hfront hop hruns u hu]

/-! ### Commits, kills and the scrubber -/

section commits
variable {s : State} {t c : Nat}

theorem exec_commit {e : WEntry} {r : List WEntry} (hlive : s.live = true) (hctx : (s.tile t).ctx = some c)
    (hwindow : (s.tile t).window = e :: r) (hfinished : e.finished = true) (hworks : s.tileWorks t = true)
    (hbusy : s.remoteBusy t e.cmd.seq = false) :
    exec (.commit t) s = .next (s.inside (if e.verdict == .checksum then s.checkedFail t c else s.commitEntry t c e)) := by
  have hrun : exec (.commit t) s = execCommit t s := rfl
  rw [hrun, execCommit, whenLive_live hlive]
  simp only [hctx, hwindow, hfinished, hworks, hbusy, Bool.not_false, Bool.and_self, if_true]

/-- A kill is over: the tile holds no victims and waits for none. -/
def Tile.killed (x : Tile) : Tile := { x with killing := false, victims := [], killFor := none }

theorem exec_killComplete_idle (hlive : s.live = true) (hkill : (s.tile t).killing = true) (hctx : (s.tile t).ctx = none) :
    exec (.killComplete t) s = .next (s.inside (s.setTile t (s.tile t).killed)) := by
  have hrun : exec (.killComplete t) s = execKillComplete t s := rfl
  rw [hrun, execKillComplete, whenLive_live hlive]
  simp only [hkill, State.guard_true, hctx, Tile.killed]

theorem exec_killComplete (hlive : s.live = true) (hkill : (s.tile t).killing = true) (hctx : (s.tile t).ctx = some c) :
    exec (.killComplete t) s = .next (s.inside (if (s.tile t).leaving
      then (((s.victimsBack t c).chargeUnits t c).settle t).leaveTile c else ((s.victimsBack t c).chargeUnits t c).settle t)) := by
  have hrun : exec (.killComplete t) s = execKillComplete t s := rfl
  rw [hrun, execKillComplete, whenLive_live hlive]
  simp only [hkill, State.guard_true, hctx]

/-- The killed commands at the front of their context's queue again. -/
def State.requeued (s : State) (t c : Nat) : State :=
  (s.setTile t (s.tile t).killed).setCtx c { s.ctx c with queue := (s.tile t).victims ++ (s.ctx c).queue }

theorem State.victimsBack_queued (hstate : (s.ctx c).state = .active ∨ (s.ctx c).state = .held)
    (hrerun : (s.tile t).rerunFirst = false) : s.victimsBack t c = s.requeued t c := by
  have hlives : ((s.ctx c).state == CtxState.active || (s.ctx c).state == CtxState.held) = true := by
    rcases hstate with h | h <;> rw [h] <;> rfl
  rw [State.victimsBack]
  simp only [hlives, if_true]
  split
  · rw [if_neg (by simp [hrerun])]
    rfl
  · rfl

theorem State.victimsBack_rerun {cmd : Cmd} {r : List Cmd} (hstate : (s.ctx c).state = .active ∨ (s.ctx c).state = .held)
    (hrerun : (s.tile t).rerunFirst = true) (hstays : (s.tile t).leaving = false) (hvictims : (s.tile t).victims = cmd :: r)
    (hworks : (s.requeued t c).tileWorks t = true) (hblocks : (s.requeued t c).blocksRun cmd = true) :
    s.victimsBack t c = (s.requeued t c).toWindow c t cmd := by
  have hlives : ((s.ctx c).state == CtxState.active || (s.ctx c).state == CtxState.held) = true := by
    rcases hstate with h | h <;> rw [h] <;> rfl
  have hall : ((s.tile t).rerunFirst && !(s.tile t).leaving && (s.requeued t c).tileWorks t &&
      (s.requeued t c).blocksRun cmd) = true := by rw [hrerun, hstays, hworks, hblocks]; rfl
  obtain ⟨u, hu⟩ : ∃ u, u = s.requeued t c := ⟨_, rfl⟩
  rw [State.victimsBack]
  simp only [hlives, if_true]
  rw [State.requeued, hvictims, Tile.killed] at hu hall ⊢
  simp only [← hu] at hall ⊢
  rw [if_pos hall]

end commits

section scrub
variable {s : State} {t : Nat}

theorem exec_scrubRead (hlive : s.live = true) (ht : t < 32) (line : Nat) (ecc : List EccError) (passDone : Bool) (u : State)
    (hu : u = (ecc.filter (fun e => !e.mem && e.offset / 64 == line)).foldl (fun u e => u.eccFound t [] e) s) :
    exec (.scrubRead t line ecc passDone) s = .next (s.inside (if passDone then u.wrapInc (Reg.TILE_SCRUB_PASSES t) else u)) := by
  have hrun : exec (.scrubRead t line ecc passDone) s = execScrubRead t line ecc passDone s := rfl
  subst hu
  rw [hrun, execScrubRead, whenLive_live hlive, decide_eq_true ht, State.guard_true]

end scrub

/-- Settles O36: a finished entry commits or fails its check, the killed commands are queued again, and the scrubber counts its pass. -/
theorem commitKillAndScrubComplete : Obligations.CommitKillAndScrubComplete := by
  unfold Obligations.CommitKillAndScrubComplete
  refine ⟨?commit, ?idle, ?queued, ?rerun, ?pass, ?found⟩
  case commit =>
    intro s t c e r hlive hctx hwindow hfinished hworks hbusy
    simp only [Does, exec_commit hlive hctx hwindow hfinished hworks hbusy]
    exact ⟨fun h => by rw [if_neg (by simpa using h)], fun h => by rw [if_pos (by simpa using h)]⟩
  case idle =>
    intro s t hlive hkill hctx
    refine ⟨_, exec_killComplete_idle hlive hkill hctx, ?_, by simp, by simp⟩
    rw [State.tile_inside, State.tile_setTile_same]
    rfl
  case queued =>
    intro s t c u hlive hkill hctx hstate hrerun hu
    subst hu
    rw [Does, exec_killComplete hlive hkill hctx, State.victimsBack_queued hstate hrerun]
    rfl
  case rerun =>
    intro s t c cmd r u hlive hkill hctx hstate hrerun hstays hvictims hu hworks hblocks
    obtain rfl : u = s.requeued t c := by rw [hu, State.requeued, hvictims]; rfl
    rw [Does, exec_killComplete hlive hkill hctx, State.victimsBack_rerun hstate hrerun hstays hvictims hworks hblocks,
      if_neg (by simp [hstays])]
  case pass =>
    intro s t line hlive ht
    refine ⟨_, exec_scrubRead hlive ht line [] true s rfl, ?_, by simp [State.wrapInc], by simp [State.wrapInc]⟩
    rw [if_pos rfl, State.getF_inside, State.getF_wrapInc _ _ _ (by simp only [Reg.TILE_SCRUB_PASSES]; omega)]
  case found =>
    intro s t line e hlive ht hmem hline
    rw [Does, exec_scrubRead hlive ht line [e] false (s.eccFound t [] e) (by simp [hmem, hline])]
    rfl

end Sys2Proof.Machine
end

section
/-! The tiering unit's page table: what leaves every page in its frame, and APPLY. -/

namespace Sys2Proof.Machine

theorem State.getF_lt (s : State) (f : Fld) : s.getF f < 2 ^ f.width := bits_lt _ _ _

theorem State.tierPage_of_pages {s u : State} (h : u.tier.pages = s.tier.pages) (p : Nat) : u.tierPage p = s.tierPage p := by
  rw [State.tierPage, State.tierPage, h]

/-! ### Frames stand -/

/-- Every page is in the frame it was in. -/
structure State.SameFrames (s u : State) : Prop where
  frames : ∀ p, (u.tierPage p).frame = (s.tierPage p).frame

theorem State.SameFrames.refl (s : State) : s.SameFrames s := ⟨fun _ => rfl⟩

theorem State.SameFrames.trans {s t u : State} (h : s.SameFrames t) (k : t.SameFrames u) : s.SameFrames u :=
  ⟨fun p => (k.frames p).trans (h.frames p)⟩

theorem State.sameFrames_of_pages {s u : State} (h : u.tier.pages = s.tier.pages) : s.SameFrames u :=
  ⟨fun p => by rw [State.tierPage_of_pages h]⟩

theorem State.sameFrames_foldl {α : Type} {f : State → α → State} (h : ∀ (u : State) x, u.SameFrames (f u x)) (l : List α) (s : State) :
    s.SameFrames (l.foldl f s) := by
  induction l generalizing s with
  | nil => exact .refl s
  | cons x r ih => exact (h s x).trans (ih (f s x))

theorem State.sameFrames_setTierPage (s : State) (p : Nat) {x : TierPage} (hx : x.frame = (s.tierPage p).frame) :
    s.SameFrames (s.setTierPage p x) := ⟨fun q => by
  rw [State.tierPage, State.setTierPage, Sparse.get_set]
  split_ifs with h
  · rw [h, hx]
  · rfl⟩

theorem State.sameFrames_untag (s : State) (o : TierObj) : s.SameFrames (s.untag o) :=
  State.sameFrames_foldl (f := fun u p => u.setTierPage p { u.tierPage p with obj := none, pin := false, noAlloc := false })
    (fun u p => State.sameFrames_setTierPage u p rfl) o.range s

theorem State.sameFrames_removeObject (s : State) (i : Nat) : s.SameFrames (s.removeObject i) := by
  unfold State.removeObject
  split
  · exact (s.sameFrames_untag _).trans (State.sameFrames_of_pages rfl)
  · exact .refl s

theorem State.sameFrames_tag (s : State) (i p : Nat) (o : TierObj) : s.SameFrames (s.tag i p o) := by
  unfold State.tag
  extract_lets names old s1
  exact State.SameFrames.trans (State.sameFrames_of_pages (u := s1) rfl) (s1.sameFrames_setTierPage p rfl)

theorem State.sameFrames_placed (s : State) (p : Nat) : s.SameFrames (s.placed p) := by
  unfold State.placed
  split
  · split
    · exact s.sameFrames_setTierPage p rfl
    · exact .refl s
  · exact .refl s

@[simp] theorem State.movePage_pages (s : State) (p part kind : Nat) : (s.movePage p part kind).tier.pages = s.tier.pages := by
  unfold State.movePage
  split
  · split <;> rfl
  · rfl

theorem State.sameFrames_placeObject (s : State) (i : Nat) (o : TierObj) : s.SameFrames (s.placeObject i o) := by
  have htagged := ((s.sameFrames_removeObject i).trans (State.sameFrames_of_pages (u := (s.removeObject i).setObject i o) rfl)).trans
    (State.sameFrames_foldl (f := fun u p => (u.tag i p o).placed p)
      (fun u p => (u.sameFrames_tag i p o).trans ((u.tag i p o).sameFrames_placed p)) o.range _)
  rw [State.placeObject]
  split
  · refine htagged.trans (State.sameFrames_foldl
      (f := fun u p => if u.hintMet p o.hint || u.inExchange p then u else u.movePage p o.part 0) (fun u p => ?_) o.range _)
    split
    · exact .refl u
    · exact State.sameFrames_of_pages (u.movePage_pages ..)
  · exact htagged

@[simp] theorem State.showSpilled_tier (s : State) : s.showSpilled.tier = s.tier := State.putF_tier ..
@[simp] theorem State.objResult_tier (s : State) (i r : Nat) : (s.objResult i r).tier = s.tier := by simp [State.objResult]

theorem State.sameFrames_promote (s : State) : s.SameFrames s.promote := by
  unfold State.promote
  refine State.SameFrames.trans (State.sameFrames_foldl (fun u p => ?_) s.spilledPages s) (State.sameFrames_of_pages (by rw [State.showSpilled_tier]))
  split
  · exact State.sameFrames_of_pages (u.movePage_pages ..)
  · exact .refl u

theorem State.startExchange_spec (s : State) : s.startExchange.tier.pages = s.tier.pages ∧ s.startExchange.regs = s.regs := by
  unfold State.startExchange
  split
  · exact ⟨rfl, rfl⟩
  · split <;> exact ⟨rfl, rfl⟩

@[simp] theorem State.endApply_tier (s : State) : s.endApply.tier = s.tier := by
  unfold State.endApply
  split
  · rw [State.setBlock_tier, State.objResult_tier]
  · rfl

theorem State.sameFrames_exchangeNext (s : State) : s.SameFrames s.exchangeNext := by
  have hstart := State.sameFrames_of_pages s.startExchange_spec.1
  unfold State.exchangeNext
  extract_lets s1
  split
  · exact hstart
  · exact hstart.trans (State.sameFrames_of_pages (by rw [State.endApply_tier]))

/-! ### The answer of an APPLY -/

/-- TIER_OBJ_STAT shows index `i` with a result of the table's. -/
structure State.ShowsApply (s : State) (i : Nat) : Prop where
  index : s.getF Reg.TIER_OBJ_STAT_INDEX = i
  result : s.getF Reg.TIER_OBJ_STAT_RESULT ≤ 6

theorem State.getF_objResult (s : State) {i r : Nat} (hi : i < 65536) (hr : r < 16) :
    (s.objResult i r).getF Reg.TIER_OBJ_STAT_INDEX = i ∧ (s.objResult i r).getF Reg.TIER_OBJ_STAT_RESULT = r := by
  constructor
  · rw [State.objResult, State.getF_putF_word _ _ (by decide) (by decide) (by decide) (by decide) (by decide),
      State.getF_putF _ _ _ (by decide)]
    exact Nat.mod_eq_of_lt hi
  · rw [State.objResult, State.getF_putF _ _ _ (by decide)]
    exact Nat.mod_eq_of_lt hr

theorem State.showsApply_objResult (s : State) {i r : Nat} (hi : i < 65536) (hr : r ≤ 6) : (s.objResult i r).ShowsApply i := by
  obtain ⟨hindex, hresult⟩ := s.getF_objResult hi (r := r) (by omega)
  exact ⟨hindex, by rwa [hresult]⟩

theorem State.ShowsApply.of_regs {s u : State} {i : Nat} (h : s.ShowsApply i) (hregs : u.regs = s.regs) : u.ShowsApply i :=
  ⟨(State.getF_of_regs_eq hregs).trans h.index, (State.getF_of_regs_eq hregs).trans_le h.result⟩

theorem State.ShowsApply.endApply {s : State} {i : Nat} (h : s.ShowsApply i) : s.endApply.ShowsApply i := by
  have hi : i < 65536 := by
    have := s.getF_lt Reg.TIER_OBJ_STAT_INDEX
    rw [h.index] at this
    exact this
  unfold State.endApply
  split
  · refine State.ShowsApply.of_regs ?_ (State.setBlock_regs ..)
    rw [h.index]
    exact s.showsApply_objResult hi (by split <;> omega)
  · exact h

theorem State.ShowsApply.exchangeNext {s : State} {i : Nat} (h : s.ShowsApply i) : s.exchangeNext.ShowsApply i := by
  have hstart := h.of_regs s.startExchange_spec.2
  unfold State.exchangeNext
  extract_lets s1
  split
  · exact hstart
  · exact hstart.endApply

/-- Settles O49: every branch of APPLY ends in its answer, and none of its steps moves a page. -/
theorem applyMovesNoPageByItself : Obligations.ApplyMovesNoPageByItself := by
  unfold Obligations.ApplyMovesNoPageByItself
  intro s i hi hruns
  suffices h : (s.wrObjApply i).ShowsApply i ∧ s.SameFrames (s.wrObjApply i) from ⟨h.1.index, h.1.result, h.2.frames⟩
  have hanswer (u : State) (r : Nat) : u.SameFrames (u.objResult i r) := State.sameFrames_of_pages (by rw [State.objResult_tier])
  unfold State.wrObjApply
  rw [Nat.mod_eq_of_lt hi]
  extract_lets j l o
  split_ifs
  case pos h => simp [hruns] at h
  case pos => exact ⟨s.showsApply_objResult hi (by omega), hanswer s 3⟩
  case pos =>
    refine ⟨State.showsApply_objResult _ hi (by omega), State.SameFrames.trans ?_ (hanswer _ 6)⟩
    exact ((s.sameFrames_removeObject i).trans (State.sameFrames_promote _)).trans (State.sameFrames_exchangeNext _)
  case pos => exact ⟨s.showsApply_objResult hi (by omega), hanswer s 5⟩
  case pos => exact ⟨s.showsApply_objResult hi (by omega), hanswer s 2⟩
  case pos => exact ⟨s.showsApply_objResult hi (by omega), hanswer s 1⟩
  case pos => exact ⟨s.showsApply_objResult hi (by omega), hanswer s 3⟩
  case neg =>
    have hplaced : s.SameFrames (s.placeObject i o).showSpilled :=
      (s.sameFrames_placeObject i o).trans (State.sameFrames_of_pages (by rw [State.showSpilled_tier]))
    refine ⟨State.ShowsApply.exchangeNext (State.showsApply_objResult _ hi (by omega)), State.SameFrames.trans ?_ (State.sameFrames_exchangeNext _)⟩
    exact (hplaced.trans (State.sameFrames_of_pages (by rw [State.setBlock_tier]))).trans (hanswer _ 0)

end Sys2Proof.Machine
end

section
/-! What a raise without a context, and a signal, leave of the engines' own state. -/

namespace Sys2Proof.Machine

/-- The state of the engines that no raise without a context touches. -/
def State.engines (s : State) : Tier × Quartz × Agate × Pumice × Eth × Sparse CanCtl × Slate × Flint × Garnet × Ingress × Iox × Sparse Stream :=
  (s.tier, s.qtz, s.agt, s.pum, s.eth, s.can, s.slt, s.flt, s.gnt, s.ing, s.iox, s.stm)

@[simp] theorem State.engines_putF (s : State) (f : Fld) (v : Nat) : (s.putF f v).engines = s.engines := by
  rw [State.putF_eq]; rfl
@[simp] theorem State.engines_irq (s : State) (p mask : Nat) : (s.irq p mask).engines = s.engines := by
  rw [State.irq_eq]; rfl
@[simp] theorem State.engines_setBlock (s : State) (p : Nat) (b : Block) : (s.setBlock p b).engines = s.engines := rfl
@[simp] theorem State.engines_setCtx (s : State) (c : Nat) (x : Ctx) : (s.setCtx c x).engines = s.engines := rfl
@[simp] theorem State.engines_setTile (s : State) (t : Nat) (x : Tile) : (s.setTile t x).engines = s.engines := rfl
@[simp] theorem State.engines_store (s : State) (a : Nat) (l : List Byte) : (s.store a l).engines = s.engines := by
  rw [State.store_eq]; rfl
@[simp] theorem State.engines_write (s : State) (a : Nat) (l : List Byte) : (s.write a l).engines = s.engines := by
  rw [State.write_eq]; rfl
@[simp] theorem State.engines_setByte (s : State) (a : Nat) (b : Byte) : (s.setByte a b).engines = s.engines := rfl
@[simp] theorem State.engines_writeNat (s : State) (a n v : Nat) : (s.writeNat a n v).engines = s.engines := s.engines_write ..
@[simp] theorem State.engines_granted (s : State) (r : Resource) (p : Nat) : (s.granted r p).engines = s.engines := rfl

theorem State.engines_enterBlock (s : State) (p : Nat) (b : Block) : (s.enterBlock p b).engines = s.engines := by
  unfold State.enterBlock
  dsimp only
  split
  · exact State.foldl_frame (g := State.engines) (fun u q _ => u.engines_irq q _) _
  · rfl

theorem State.engines_setMode (s : State) (m : Mode) : (s.setMode m).engines = s.engines := by
  unfold State.setMode
  dsimp only
  split
  · rw [State.engines_putF]; rfl
  · rw [State.engines_putF, State.engines_putF]; rfl

theorem State.engines_burnSome (s : State) (l : List (Nat × Nat)) : (s.burnSome l).engines = s.engines := by
  induction l generalizing s with
  | nil => rfl
  | cons x r ih =>
    rw [State.burnSome]
    dsimp only
    split
    · rw [ih]; rfl
    · rfl

theorem State.engines_endOp (s : State) (result : Nat) : (s.endOp result).engines = s.engines := by
  unfold State.endOp
  split
  · rfl
  next o _ =>
    dsimp only
    rw [State.engines_putF, State.engines_putF]
    have hburn : (if o.code = 3 ∧ result ≠ 0 then s.burnSome (pairsOf o.args) else s).engines = s.engines := by
      split
      · exact s.engines_burnSome _
      · rfl
    split_ifs at hburn ⊢ <;> exact hburn

theorem State.engines_rampActuators (s : State) (cause : Nat) : (s.rampActuators cause).engines = s.engines := by
  unfold State.rampActuators
  refine State.foldl_frame (g := State.engines) (fun u a _ => ?_) s
  split
  · rw [State.engines_irq, State.engines_putF, State.engines_putF]
  · rfl

theorem State.engines_enterMode (s : State) (m : Mode) :
    ((((s.setMode m).endOp 5).stopGrace).rampActuators 4).engines = s.engines := by
  rw [State.engines_rampActuators, State.stopGrace, State.engines_putF]
  exact (State.engines_endOp ..).trans (s.engines_setMode m)

theorem State.engines_enterSafe (s : State) : s.enterSafe.engines = s.engines := by
  unfold State.enterSafe
  split
  case h_6 | h_7 | h_8 => rfl
  all_goals exact s.engines_enterMode .safe

theorem State.engines_enterTerminal (s : State) : s.enterTerminal.engines = s.engines := by
  unfold State.enterTerminal
  split
  case h_1 | h_2 => rfl
  case h_3 => exact s.engines_enterMode .terminal

theorem State.engines_landSome (s : State) (w : Nat × List Byte) : (s.landSome w).engines = s.engines := by
  unfold State.landSome; split <;> rfl

theorem State.engines_kvUndo (s : State) (k : KvUndo) : (s.kvUndo k).engines = s.engines := by
  cases k with
  | page p l page =>
    rw [State.kvUndo, State.freePage, State.kvStackPush, State.engines_granted, State.engines_putF, State.engines_writeNat,
      State.setPageState, State.engines_setByte]
  | ref page => rw [State.kvUndo, State.ptGranted, State.engines_granted, State.setRefCount, State.engines_writeNat]

theorem State.engines_kill (s : State) (t start : Nat) (rerun leave : Bool) : (s.kill t start rerun leave).engines = s.engines := by
  have hentry (u : State) (e : WEntry) : (u.killEntry t e).engines = u.engines := by
    rw [State.killEntry, State.foldl_frame (g := State.engines) (fun u k _ => u.engines_kvUndo k),
      State.foldl_frame (g := State.engines) (fun u o _ => u.engines_landSome _),
      State.foldl_frame (g := State.engines) (fun u w _ => u.engines_landSome w)]
  unfold State.kill
  dsimp only
  split
  · rfl
  · rw [State.engines_setTile]
    exact State.foldl_frame (g := State.engines) (fun u e _ => hentry u e) s

theorem State.engines_faultBlock (s : State) (p : Nat) : (s.faultBlock p).engines = s.engines := by
  unfold State.faultBlock
  dsimp only
  split_ifs
  · rfl
  · rw [State.engines_kill, State.engines_enterBlock]
  · rw [State.engines_enterBlock]

theorem State.engines_react (s : State) (n : Nat) (cls : Severity) (cause : Nat) : (s.react n cls [] cause).engines = s.engines := by
  cases cls with
  | note => rfl
  | corrected => exact s.engines_irq ..
  | context => exact s.engines_irq ..
  | critical => rw [State.react, State.engines_faultBlock, State.engines_enterSafe, State.engines_irq]
  | terminal => rw [State.react, State.engines_faultBlock, State.engines_enterTerminal, State.engines_irq]

theorem State.engines_raiseOnly (s : State) (n : Nat) (cls : Severity) (cause : Nat) :
    (s.raiseOnly n cls [] cause).engines = s.engines := by
  unfold State.raiseOnly
  split_ifs
  · exact s.engines_putF ..
  · rw [State.engines_react]
    exact s.engines_putF ..
  · rfl

/-! ### Contexts that wait -/

theorem State.engines_leaveTile (s : State) (c : Nat) : (s.leaveTile c).engines = s.engines := by
  unfold State.leaveTile
  split
  · rfl
  · rw [State.engines_setTile, State.engines_setCtx, State.chargeOccupy, State.engines_setCtx]

theorem State.engines_record (s : State) (c : Nat) (cmd : Cmd) (status flags : Nat) : (s.record c cmd status flags).engines = s.engines := by
  unfold State.record
  dsimp only
  rw [State.engines_setCtx]
  split
  · rw [State.engines_store]
  · rfl

theorem State.engines_holdCtx (s : State) (c cause : Nat) : (s.holdCtx c cause).engines = s.engines := by
  unfold State.holdCtx
  dsimp only
  split
  · unfold State.holdIfDrained
    dsimp only
    split
    · rw [State.engines_irq, State.engines_setCtx, State.engines_leaveTile, State.engines_setCtx]
    · rfl
  · rfl

theorem State.engines_syncSeen (s : State) (c i : Nat) : (s.syncSeen c i).engines = s.engines := by
  unfold State.syncSeen
  dsimp only
  split
  · unfold State.endBrokenWait
    dsimp only
    split
    · split
      · rw [State.engines_holdCtx, State.engines_record, State.engines_setCtx]
      · rfl
    · rfl
  · rfl

end Sys2Proof.Machine
end

section
/-! Arbitration, the way over the mesh, requests at the memory ports, exchanges. -/

namespace Sys2Proof.Machine

/-! ### The way over the mesh -/

def distance (x y : Nat) : Nat := max x y - min x y

/-- A walk has one stop more than its distance, and its stops run from one end to the other. -/
theorem walk_spec (x y : Nat) : ∃ g : Nat → Nat, walk x y = (List.range (distance x y + 1)).map g ∧ g 0 = x ∧ g (distance x y) = y := by
  unfold walk distance
  split
  next h =>
    refine ⟨fun i => x + i, ?_, rfl, by dsimp only; omega⟩
    rw [show max x y - min x y = y - x by omega]
  next h =>
    refine ⟨fun i => x - i, ?_, rfl, by dsimp only; omega⟩
    rw [show max x y - min x y = x - y by omega]

theorem length_walk (x y : Nat) : (walk x y).length = distance x y + 1 := by
  obtain ⟨g, hwalk, -⟩ := walk_spec x y
  rw [hwalk, List.length_map, List.length_range]

theorem walk_first (x y : Nat) : (walk x y)[0]? = some x := by
  obtain ⟨g, hwalk, hfirst, -⟩ := walk_spec x y
  rw [hwalk]; simp [hfirst]

theorem walk_last (x y : Nat) : (walk x y)[distance x y]? = some y := by
  obtain ⟨g, hwalk, -, hlast⟩ := walk_spec x y
  rw [hwalk]; simp [hlast]

theorem length_meshRoute (a b : Nat) : (meshRoute a b).length = distance (a % 8) (b % 8) + distance (a / 8) (b / 8) + 1 := by
  rw [meshRoute, List.length_append, List.length_map, List.length_map, List.length_drop, length_walk, length_walk]
  omega

/-- The first part of the way ends in the row of `a` and the column of `b`. -/
theorem meshRoute_corner (a b : Nat) : (meshRoute a b)[distance (a % 8) (b % 8)]? = some (8 * (a / 8) + b % 8) := by
  rw [meshRoute, List.getElem?_append_left (by rw [List.length_map, length_walk]; omega), List.getElem?_map, walk_last]
  rfl

theorem meshRoute_head (a b : Nat) : (meshRoute a b).head? = some a := by
  rw [List.head?_eq_getElem?, meshRoute, List.getElem?_append_left (by rw [List.length_map, length_walk]; omega), List.getElem?_map,
    walk_first, Option.map_some]
  congr 1
  omega

theorem meshRoute_getLast (a b : Nat) : (meshRoute a b).getLast? = some b := by
  rw [List.getLast?_eq_getElem?, length_meshRoute, Nat.add_sub_cancel]
  by_cases hrow : distance (a / 8) (b / 8) = 0
  · rw [hrow, Nat.add_zero, meshRoute_corner]
    unfold distance at hrow
    congr 1
    omega
  · rw [meshRoute, List.getElem?_append_right (by rw [List.length_map, length_walk]; omega), List.length_map, length_walk,
      List.getElem?_map, List.getElem?_drop,
      show 1 + (distance (a % 8) (b % 8) + distance (a / 8) (b / 8) - (distance (a % 8) (b % 8) + 1)) = distance (a / 8) (b / 8) by omega,
      walk_last, Option.map_some]
    congr 1
    omega

/-! ### Arbitration -/

/-- `a` is granted no later than `b`: by partition, then by the turn after the pointer. -/
def NoLater (p : Nat) (a b : Nat × Nat) : Prop := a.1 ≤ b.1 ∧ (b.1 = a.1 → turn p a.2 ≤ turn p b.2)

theorem NoLater.refl (p : Nat) (a : Nat × Nat) : NoLater p a a := ⟨le_rfl, fun _ => le_rfl⟩

theorem NoLater.trans {p : Nat} {a b c : Nat × Nat} (h : NoLater p a b) (k : NoLater p b c) : NoLater p a c :=
  ⟨h.1.trans k.1, fun hc => (h.2 (by have := h.1; have := k.1; omega)).trans (k.2 (by have := h.1; have := k.1; omega))⟩

theorem noLater_of_goesBefore {p : Nat} {a b : Nat × Nat} (h : goesBefore p a b = true) : NoLater p a b := by
  simp only [goesBefore, Bool.or_eq_true, Bool.and_eq_true, decide_eq_true_eq, beq_iff_eq] at h
  unfold NoLater
  omega

theorem noLater_of_not_goesBefore {p : Nat} {a b : Nat × Nat} (h : goesBefore p a b = false) : NoLater p b a := by
  simp only [goesBefore, Bool.or_eq_false_iff, Bool.and_eq_false_iff, decide_eq_false_iff_not, beq_eq_false_iff_ne] at h
  unfold NoLater
  omega

/-- Whichever of two requests wins, it is one of them and neither goes before it. -/
def better {α : Type} (p : Nat) (key : α → Nat × Nat) (m : Option α) (x : α) : Option α :=
  match m with
  | none => some x
  | some y => if goesBefore p (key x) (key y) then some x else some y

theorem State.winner_eq {α : Type} (s : State) (r : Resource) (key : α → Nat × Nat) (l : List α) :
    s.winner r key l = l.foldl (better (s.pointer r) key) none := rfl

theorem best_spec {α : Type} {p : Nat} {key : α → Nat × Nat} {l : List α} {y x : α} (h : l.foldl (better p key) (some y) = some x) :
    (x = y ∨ x ∈ l) ∧ NoLater p (key x) (key y) ∧ ∀ z ∈ l, NoLater p (key x) (key z) := by
  induction l generalizing y with
  | nil =>
    obtain rfl := Option.some.inj h
    exact ⟨.inl rfl, .refl p _, fun z hz => absurd hz List.not_mem_nil⟩
  | cons z r ih =>
    rw [List.foldl_cons, better] at h
    by_cases hz : goesBefore p (key z) (key y)
    · rw [if_pos hz] at h
      obtain ⟨hmem, hx, hr⟩ := ih h
      refine ⟨.inr (List.mem_cons.2 hmem), hx.trans (noLater_of_goesBefore hz), fun w hw => ?_⟩
      rcases List.mem_cons.1 hw with rfl | hw
      · exact hx
      · exact hr w hw
    · rw [if_neg hz] at h
      obtain ⟨hmem, hx, hr⟩ := ih h
      refine ⟨hmem.imp_right (List.mem_cons_of_mem z), hx, fun w hw => ?_⟩
      rcases List.mem_cons.1 hw with rfl | hw
      · exact hx.trans (noLater_of_not_goesBefore (by simpa using hz))
      · exact hr w hw

theorem State.winner_spec {α : Type} {s : State} {r : Resource} {key : α → Nat × Nat} {l : List α} {x : α} (h : s.winner r key l = some x) :
    x ∈ l ∧ ∀ y ∈ l, NoLater (s.pointer r) (key x) (key y) := by
  rw [State.winner_eq] at h
  cases l with
  | nil => cases h
  | cons z r' =>
    obtain ⟨hmem, hx, hr⟩ := best_spec (y := z) h
    refine ⟨List.mem_cons.2 hmem, fun y hy => ?_⟩
    rcases List.mem_cons.1 hy with rfl | hy
    · exact hx
    · exact hr y hy

theorem State.pointer_granted (s : State) (r q : Resource) (port : Nat) :
    (s.granted r port).pointer q = if q.number = r.number then port + 1 else s.pointer q := by
  rw [State.pointer, State.granted, Sparse.get_set]
  rfl

/-! ### Requests at the memory ports -/

section request
variable {s : State} {write : Bool} {A N q port : Nat} {d : List Byte} {crc : Nat}

theorem State.memRequest_unmapped (hn : 0 < N) (h : s.rangeMapped A N = false) :
    s.memRequest write A N q granitePort d crc = s.refuse .granite .unmapped := by
  have hfirst : ¬ (N = 0 ∨ 0x3F000000000 < A + N ∧ s.rangeMapped A N = true) := by simp [h]; omega
  rw [State.memRequest, if_neg hfirst]
  simp [h]

/-- A request that is mapped, and allowed where it is not Granite's, is carried out by its kind. -/
theorem State.memRequest_allowed (hn : 0 < N) (hmapped : s.rangeMapped A N = true) (hend : A + N ≤ 0x3F000000000)
    (hallowed : port = granitePort ∨ s.memOk q A N write = true) :
    s.memRequest write A N q port d crc =
      if 2 ≤ crc then s.raise FS.NOC_E2E
      else if s.isNeighbour A then if write then s.sendLines port q A d none else s.askLines port q A N none
      else if (s.portOf A).isNone then if write then s.store A d else s
      else
        ((requestsOf A N).foldl (fun u r => u.enqueue
          { write := write, addr := r.1, units := r.2, part := q, data := if write then (d.drop (r.1 - A)).take (64 * r.2) else [],
            port := port }) s).drainPorts := by
  have hfirst : ¬ (N = 0 ∨ 0x3F000000000 < A + N ∧ s.rangeMapped A N = true) := by omega
  have hmap : ¬ ((port == granitePort && !s.rangeMapped A N) = true) := by simp [hmapped]
  have hprotect : ¬ ((!(port == granitePort) && !s.memOk q A N write) = true) := by
    rcases hallowed with h | h <;> simp [h]
  rw [State.memRequest, if_neg hfirst]
  simp only [if_neg hmap, if_neg hprotect]

end request

theorem exec_memoryRequest {s : State} (hlive : s.live = true) (write : Bool) (a n p port : Nat) (data : List Byte) (crc : Nat) :
    exec (.memoryRequest write a n p port data crc) s = .next (s.inside (s.memRequest write (a - a % 64) (64 * n)
      (if port = granitePort then 0 else p % 8) port (padTo (64 * n) data) crc)) := by
  have hrun : exec (.memoryRequest write a n p port data crc) s = execMemoryRequest write a n p port data crc s := rfl
  rw [hrun, execMemoryRequest, whenLive_live hlive]

end Sys2Proof.Machine
end

section
/-! Weight-window channels. -/

namespace Sys2Proof.Machine

/-! ### Requests to another module change the links' state only -/

theorem State.takeTag_eq (s : State) (p : Nat) :
    s.takeTag p = { s with odl := (s.takeTag p).odl, arb := (s.takeTag p).arb, sent := (s.takeTag p).sent } := by
  unfold State.takeTag
  split
  · unfold State.sendRequest
    dsimp only
    split_ifs <;> rfl
  · rfl

theorem State.foldl_remote {α : Type} {f : State → α → State}
    (h : ∀ u x, f u x = { u with odl := (f u x).odl, arb := (f u x).arb, sent := (f u x).sent }) (l : List α) (s : State) :
    l.foldl f s = { s with odl := (l.foldl f s).odl, arb := (l.foldl f s).arb, sent := (l.foldl f s).sent } := by
  induction l generalizing s with
  | nil => rfl
  | cons x r ih =>
    rw [List.foldl_cons, ih, h]

theorem State.takeTags_eq (s : State) :
    s.takeTags = { s with odl := s.takeTags.odl, arb := s.takeTags.arb, sent := s.takeTags.sent } :=
  State.foldl_remote (f := fun t _ => (t.takeTag 0).takeTag 1) (fun u _ => by rw [State.takeTag_eq _ 1, State.takeTag_eq u 0]) _ s

theorem State.askLines_eq (s : State) (req part a n : Nat) (owner : Option (Nat × Nat)) :
    s.askLines req part a n owner = { s with odl := (s.askLines req part a n owner).odl, arb := (s.askLines req part a n owner).arb,
                                             sent := (s.askLines req part a n owner).sent } := by
  unfold State.askLines
  split
  · split
    · rw [State.takeTags_eq, State.foldl_remote (fun u x => rfl) _ s]
    · rfl
  · rfl

theorem State.sendLines_eq (s : State) (req part a : Nat) (l : List Byte) (owner : Option (Nat × Nat)) :
    s.sendLines req part a l owner = { s with odl := (s.sendLines req part a l owner).odl,
                                              arb := (s.sendLines req part a l owner).arb,
                                              sent := (s.sendLines req part a l owner).sent } := by
  unfold State.sendLines
  split
  · split
    · rw [State.takeTags_eq, State.foldl_remote (fun u x => rfl) _ s]
    · rfl
  · rfl

/-! ### Channels -/

theorem State.chan_of_chans {s u : State} (h : u.tier.chans = s.tier.chans) (k : Nat) : u.chan k = s.chan k := by
  rw [State.chan, State.chan, h]

theorem State.chan_of_tier {s u : State} (h : u.tier = s.tier) (k : Nat) : u.chan k = s.chan k :=
  State.chan_of_chans (by rw [h]) k

@[simp] theorem State.chan_inside (s t : State) (k : Nat) : (s.inside t).chan k = t.chan k := State.chan_of_tier (by simp) k
@[simp] theorem State.chan_respond (s : State) (req : Requester) (n : Nat) (l : List Nat) (k : Nat) : (s.respond req n l).chan k = s.chan k :=
  State.chan_of_tier (by simp) k
@[simp] theorem State.chan_putF (s : State) (f : Fld) (v k : Nat) : (s.putF f v).chan k = s.chan k := State.chan_of_tier (by simp) k
@[simp] theorem State.chan_setWw (s : State) (c st err k : Nat) : (s.setWw c st err).chan k = s.chan k := by simp [State.setWw]
@[simp] theorem State.chan_setChan_same (s : State) (c : Nat) (x : WwChan) : (s.setChan c x).chan c = x := Sparse.get_set_same ..
@[simp] theorem State.getF_setChan (s : State) (c : Nat) (x : WwChan) (f : Fld) : (s.setChan c x).getF f = s.getF f :=
  State.getF_of_regs_eq rfl
theorem State.chan_setChan_ne (s : State) {c k : Nat} (x : WwChan) (h : k ≠ c) : (s.setChan c x).chan k = s.chan k :=
  Sparse.get_set_ne _ _ _ h

theorem State.enqueue_chans (s : State) (r : MemReq) : (s.enqueue r).tier.chans = s.tier.chans := by
  unfold State.enqueue State.waitAt; split <;> rfl

@[simp] theorem State.chan_traffic (s : State) (port part : Nat) (write : Bool) (a n k : Nat) :
    (s.traffic port part write a n).chan k = s.chan k :=
  State.chan_of_chans (State.foldl_frame (g := fun u => u.tier.chans) (fun u _ _ => u.enqueue_chans _) s) k
@[simp] theorem State.chan_askLines (s : State) (req part a n : Nat) (owner : Option (Nat × Nat)) (k : Nat) :
    (s.askLines req part a n owner).chan k = s.chan k := State.chan_of_tier (by rw [State.askLines_eq]) k

/-! ### A channel's words -/

theorem State.wwState_of_regs {s u : State} (h : u.regs = s.regs) (k : Nat) : u.wwState k = s.wwState k := State.getF_of_regs_eq h

theorem State.wwState_setWw (s : State) (k : Nat) {st : Nat} (hst : st < 16) (err : Nat) : (s.setWw k st err).wwState k = st := by
  rw [State.setWw, State.wwState, State.getF_putF_word (f := Reg.TIER_WW_STAT_ERR k) (g := Reg.TIER_WW_STAT_STATE k) _ _ rfl,
    State.getF_putF]
  · exact Nat.mod_eq_of_lt hst
  all_goals simp [Reg.TIER_WW_STAT_STATE, Reg.TIER_WW_STAT_ERR]

theorem State.wwDone_setWw (s : State) (k c st err : Nat) :
    (s.setWw c st err).getF (Reg.TIER_WW_DONE_DONE k) = s.getF (Reg.TIER_WW_DONE_DONE k) := by
  rw [State.setWw, State.getF_putF_ne _ (Reg.TIER_WW_STAT_ERR c), State.getF_putF_ne _ (Reg.TIER_WW_STAT_STATE c)]
  all_goals simp only [Reg.TIER_WW_STAT_STATE, Reg.TIER_WW_STAT_ERR, Reg.TIER_WW_STAT, Reg.TIER_WW_DONE_DONE, Reg.TIER_WW_DONE]; omega

section commands
variable {s : State} {k : Nat}

theorem exec_wwGo {req : Requester} (hk : k < 16) (h : s.Takes req (Reg.TIER_WW_CTRL k) 1) :
    exec (.wwGo req k) s = .next (s.inside ((s.wrWwCtrl k 1).respond req 0 [])) := by
  have hrun : exec (.wwGo req k) s = execWwGo req k s := rfl
  rw [hrun, execWwGo, guarded_access hk h]

theorem exec_wwStop {req : Requester} (hk : k < 16) (h : s.Takes req (Reg.TIER_WW_CTRL k) 2) :
    exec (.wwStop req k) s = .next (s.inside ((s.wrWwCtrl k 2).respond req 0 [])) := by
  have hrun : exec (.wwStop req k) s = execWwStop req k s := rfl
  rw [hrun, execWwStop, guarded_access hk h]

/-- A channel as GO leaves it before its descriptor is checked. -/
def State.wwFetched (s : State) (k : Nat) (l : List Byte) : State :=
  ((s.setChan k { desc := l }).putF (Reg.TIER_WW_DONE_DONE k) 0).traffic weightPort (wwPart l) false
    (s.getF (Reg.TIER_WW_DESC_DESC k) * 64) 64

theorem State.wrWwCtrl_go {l : List Byte} (hidle : s.wwState k ≠ 1) (hruns : s.isRunning 0x330 = true)
    (hl : l = s.fetch (s.getF (Reg.TIER_WW_DESC_DESC k) * 64) 64)
    (hmem : s.memOk (wwPart l) (s.getF (Reg.TIER_WW_DESC_DESC k) * 64) 64 false = true)
    (hcheck : (s.wwFetched k l).wwCheck l ((s.wwFetched k l).wwLayer l 0) 0 = none) :
    s.wrWwCtrl k 1 = (s.wwFetched k l).setWw k 1 0 := by
  subst hl
  rw [State.wrWwCtrl, if_neg hidle, hruns, if_pos (by decide)]
  dsimp only
  rw [hmem, if_neg (by decide)]
  unfold State.wwFetched at hcheck ⊢
  rw [hcheck]

theorem State.wrWwCtrl_stop (hruns : s.wwState k = 1) : s.wrWwCtrl k 2 =
    if (s.chan k).loading then s.setChan k { s.chan k with stopping := true } else s.setWw k 3 0 := by
  rw [State.wrWwCtrl, if_pos hruns, if_pos (by decide)]

/-- A channel that may load asks for its layer. -/
theorem State.wwStart_loads {e : List Byte} (hstate : s.wwState k = 1) (hruns : s.isRunning 0x330 = true)
    (hidle : (s.chan k).loading = false) (hgoes : (s.chan k).stopping = false) (he : e = s.wwLayer (s.chan k).desc (s.chan k).g)
    (hcheck : s.wwCheck (s.chan k).desc e (s.chan k).g = none)
    (hroom : (s.chan k).g < wwSlots (s.chan k).desc ∨
      (s.chan k).g - wwSlots (s.chan k).desc + 1 ≤ s.syncValue (wwRelease (s.chan k).desc)) :
    s.wwStart k = (((s.setChan k { s.chan k with loading := true, layer := e }).traffic weightPort (wwPart (s.chan k).desc) false
      (entryBits (s.chan k).desc 8 8 47 0 + 16 * ((s.chan k).g % wwLayers (s.chan k).desc)) 16).traffic weightPort
        (wwPart (s.chan k).desc) false (layerSrc e) (layerLen e)).askLines weightPort (wwPart (s.chan k).desc) (layerSrc e)
        (layerLen e) none := by
  subst he
  have hready : ¬ ((s.wwState k != 1 || (s.chan k).loading || (s.chan k).stopping || !s.isRunning 0x330) = true) := by
    simp [hstate, hruns, hidle, hgoes]
  rw [State.wwStart]
  simp only [if_neg hready, hcheck, if_pos hroom]

end commands

/-! ### A layer that is loaded -/

theorem State.space_sram {s : State} {a u o : Nat} (h : s.space a = .sram u o) : u < 32 := by
  unfold State.space at h
  dsimp only at h
  split_ifs at h
  all_goals cases h
  omega

theorem State.reg_noteUe (s : State) (x a : Nat) : (s.noteUe x).reg a = s.reg a := by
  unfold State.noteUe
  dsimp only
  split <;> rfl

section done
variable {a : Nat} (ha : calmWord a) (hhi : 0x330000 ≤ a)
include ha

theorem State.reg_raise_calm (s : State) (n : Nat) (cause : Nat) : (s.raise n [] cause).reg a = s.reg a := by
  rw [State.raise, State.raiseAt]
  split
  · rw [State.reg_raiseChans_calm ha, State.reg_raiseOnly_calm ha]
  · rw [State.reg_raiseOnly_calm ha]

include hhi

theorem State.reg_eccFound_high (s : State) (t : Nat) (e : EccError) : (s.eccFound t [] e).reg a = s.reg a := by
  unfold State.eccFound
  dsimp only
  split
  next u o n hspace _ =>
    have hu := State.space_sram hspace
    have hsat {f : Fld} (hf : f.addr = Reg.TILE_ECC_CNT u ∧ f.hi < 32) : (s.satInc f).reg a = s.reg a := by
      refine State.reg_putF_ne _ _ _ _ ?_
      rw [hf.1]
      simp only [Reg.TILE_ECC_CNT]
      omega
    rw [State.reg_raise_calm ha, State.eccCount]
    split
    · rw [State.reg_noteUe, hsat]
      split <;> exact ⟨rfl, Nat.le_of_ble_eq_true rfl⟩
    · rw [hsat]
      split <;> exact ⟨rfl, Nat.le_of_ble_eq_true rfl⟩
  next => exact State.reg_raise_calm ha _ _ _
  next => rfl

theorem State.reg_signal_high (s : State) (port : Nat) {i : Nat} (hi : i < 16384) (n : Nat) : (s.signal port i n).reg a = s.reg a := by
  have hput (u : State) {f : Fld} (hf : f.addr < 0x300000 ∧ f.hi < 64) (v : Nat) : (u.putF f v).reg a = u.reg a :=
    State.reg_putF_ne _ _ _ _ (by omega)
  have hadd (u : State) : (u.syncAdd i n).reg a = u.reg a := by
    unfold State.syncAdd
    split_ifs
    · rw [State.dropSignal, State.satInc, hput]
      simp only [Reg.SYN_DROPS_COUNT, Reg.SYN_DROPS]; omega
    · rw [State.poison, (State.sameObjects_syncUpdated _ i).calm a ha, hput]
      simp only [Reg.SYN_STATE_STATE, Reg.SYN_STATE]; omega
    · rw [(State.sameObjects_syncUpdated _ i).calm a ha, hput]
      simp only [Reg.SYN_VALUE_VALUE, Reg.SYN_VALUE]; omega
  unfold State.signal
  dsimp only
  split
  · rw [State.reg_raiseChans_calm ha, State.reg_raise_calm ha, hadd]
    rfl
  · rw [hadd]
    rfl

theorem State.reg_readsFind_high (s : State) (rs : List (Nat × Nat)) : (s.readsFind rs).reg a = s.reg a := by
  unfold State.readsFind
  rw [State.reg_foldl (fun u e => u.reg_eccFound_high ha hhi 0 e)]
  rfl

end done

theorem State.put_regs (s : State) (req part a : Nat) (l : List Byte) (owner : Option (Nat × Nat)) :
    (s.put req part a l owner).regs = s.regs := by
  unfold State.put
  split
  · rw [State.sendLines_eq]
  · rw [State.traffic_regs, State.store_regs]

/-- A mark on channels leaves each with the key it has. -/
theorem Sparse.get_map_value {α : Type} (d : Nat → α) (f : Nat × α → α) (l : Sparse α) (k : Nat) :
    Sparse.get d (l.map (fun e => (e.1, f e))) k = Sparse.get d l k ∨
      Sparse.get d (l.map (fun e => (e.1, f e))) k = f (k, Sparse.get d l k) := by
  induction l with
  | nil => exact .inl rfl
  | cons e r ih =>
    obtain ⟨j, v⟩ := e
    rw [List.map_cons]
    simp only [Sparse.get]
    split_ifs with h
    · subst h; exact .inr rfl
    · exact ih

/-- The channel keeps its layer count, and does not begin to load. -/
structure WwChan.Rests (x y : WwChan) : Prop where
  g : y.g = x.g
  loading : x.loading = false → y.loading = false

theorem WwChan.Rests.refl (x : WwChan) : x.Rests x := ⟨rfl, id⟩

theorem WwChan.Rests.trans {x y z : WwChan} (h : x.Rests y) (k : y.Rests z) : x.Rests z :=
  ⟨k.g.trans h.g, fun hx => k.loading (h.loading hx)⟩

theorem State.chan_of_engines {s u : State} (h : u.engines = s.engines) (k : Nat) : u.chan k = s.chan k :=
  State.chan_of_tier (congrArg Prod.fst h) k

theorem State.chans_rest {s u : State} {f : Nat × WwChan → WwChan} (h : u.tier.chans = s.tier.chans.map (fun (e : Nat × WwChan) => (e.1, f e)))
    (hf : ∀ e : Nat × WwChan, e.2.Rests (f e)) (k : Nat) : (s.chan k).Rests (u.chan k) := by
  rw [State.chan, State.chan, h]
  rcases Sparse.get_map_value (fun _ => ({} : WwChan)) f s.tier.chans k with heq | heq
  · rw [heq]; exact .refl _
  · rw [heq]; exact hf (k, _)

theorem State.raiseChans_rest (s : State) (k : Nat) : (s.chan k).Rests (s.raiseChans.chan k) := by
  unfold State.raiseChans
  split
  · rw [State.chan_of_engines (State.engines_raiseOnly ..)]
    exact State.chans_rest (f := fun e => { e.2 with broken := false }) rfl (fun e => ⟨rfl, id⟩) k
  · exact .refl _

theorem State.raise_rest (s : State) (n : Nat) (cause k : Nat) : (s.chan k).Rests ((s.raise n [] cause).chan k) := by
  have honly (cls : Severity) : (s.raiseOnly n cls [] cause).chan k = s.chan k := State.chan_of_engines (State.engines_raiseOnly ..) k
  rw [State.raise, State.raiseAt]
  split
  · exact honly _ ▸ State.raiseChans_rest _ k
  · exact honly _ ▸ .refl _

/-- What an object's loss marks in a channel that names it. -/
def State.marked (s : State) (i : Nat) (e : Nat × WwChan) : WwChan :=
  if s.chanNames i e then { e.2 with broken := true, loading := false, stopping := false } else e.2

theorem State.marked_rest (s : State) (i : Nat) (e : Nat × WwChan) : e.2.Rests (s.marked i e) := by
  unfold State.marked
  split
  · exact ⟨rfl, fun _ => rfl⟩
  · exact .refl _

theorem State.noteChans_rest (s : State) (i k : Nat) : (s.chan k).Rests ((s.noteChans i).chan k) := by
  unfold State.noteChans
  extract_lets hit s1
  split_ifs
  · exact .refl _
  · exact .refl _
  · refine State.chans_rest (f := s.marked i) ?_ (s.marked_rest i) k
    refine List.map_congr_left fun e _ => ?_
    unfold State.marked
    split <;> rfl

theorem State.syncUpdated_rest (s : State) (i k : Nat) : (s.chan k).Rests ((s.syncUpdated i).chan k) := by
  have hseen : (s.syncUpdated i).chan k = (s.noteChans i).chan k := State.chan_of_engines
    (State.foldl_frame (g := State.engines) (f := fun t (e : Nat × Ctx) => t.syncSeen e.1 i) (fun u e _ => u.engines_syncSeen e.1 i) _) k
  exact hseen ▸ s.noteChans_rest i k

theorem State.syncAdd_rest (s : State) (i n k : Nat) : (s.chan k).Rests ((s.syncAdd i n).chan k) := by
  have hput (f : Fld) (v : Nat) : (s.chan k).Rests (((s.putF f v).syncUpdated i).chan k) :=
    (s.chan_putF f v k) ▸ State.syncUpdated_rest _ i k
  unfold State.syncAdd
  split_ifs
  · exact (s.chan_putF ..) ▸ .refl _
  · exact hput _ _
  · exact hput _ _

theorem State.signal_rest (s : State) (port i n k : Nat) : (s.chan k).Rests ((s.signal port i n).chan k) := by
  have hadd : (s.chan k).Rests (((s.granted (.sync i) port).syncAdd i n).chan k) := State.syncAdd_rest (s.granted (.sync i) port) i n k
  unfold State.signal
  dsimp only
  split
  · exact (hadd.trans (State.raise_rest _ _ _ k)).trans (State.raiseChans_rest _ k)
  · exact hadd

/-! ### The end of a layer's load -/

theorem State.wwDone_of_calm {s u : State} {k : Nat} (hk : k < 16)
    (h : ∀ a, calmWord a → 0x330000 ≤ a → u.reg a = s.reg a) :
    u.getF (Reg.TIER_WW_DONE_DONE k) = s.getF (Reg.TIER_WW_DONE_DONE k) := by
  have hcalm : (calmWord (Reg.TIER_WW_DONE k) ∧ 0x330000 ≤ Reg.TIER_WW_DONE k) ∧
      (calmWord (Reg.TIER_WW_DONE k + 4) ∧ 0x330000 ≤ Reg.TIER_WW_DONE k + 4) := by
    unfold calmWord Reg.TIER_WW_DONE; omega
  obtain ⟨⟨hlow, hlowHi⟩, ⟨hhigh, hhighHi⟩⟩ := hcalm
  simp only [State.getF, State.regNat, Reg.TIER_WW_DONE_DONE, Nat.reduceDiv, Nat.mul_zero, Nat.add_zero, h _ hlow hlowHi,
    h _ hhigh hhighHi]

/-- A channel whose layer is loaded counts it and signals the layer's object. -/
theorem State.wwDone_counts {s : State} {k : Nat} (hk : k < 16) (hstate : s.wwState k = 1) (hloading : (s.chan k).loading = true)
    (hidle : s.linesBusy (layerSrc (s.chan k).layer) (layerLen (s.chan k).layer) = false) :
    ((s.wwDone k).chan k).g = (s.chan k).g + 1 ∧ ((s.wwDone k).chan k).loading = false ∧
      (s.wwDone k).getF (Reg.TIER_WW_DONE_DONE k) = (s.getF (Reg.TIER_WW_DONE_DONE k) + 1) % 2 ^ 64 := by
  have hactive : ¬ ((s.wwState k != 1 || !(s.chan k).loading) = true) := by simp [hstate, hloading]
  unfold State.wwDone
  extract_lets x l e s1 s2 repeats s3
  rw [if_neg hactive, if_neg (by rw [hidle]; decide)]
  have hs1 : s1.getF (Reg.TIER_WW_DONE_DONE k) = s.getF (Reg.TIER_WW_DONE_DONE k) :=
    State.wwDone_of_calm hk fun a ha hhi =>
      (State.reg_of_regs_eq (State.put_regs ..) a).trans (State.reg_readsFind_high ha hhi s _)
  have hs2 : s2.getF (Reg.TIER_WW_DONE_DONE k) = (s.getF (Reg.TIER_WW_DONE_DONE k) + 1) % 2 ^ 64 := by
    rw [State.getF_wrapInc _ _ _ (Nat.zero_le _), State.getF_setChan, hs1]
    rfl
  have hchan2 : s2.chan k = { x with loading := false, g := x.g + 1 } :=
    (State.chan_putF ..).trans (State.chan_setChan_same ..)
  have hs3 : s3.getF (Reg.TIER_WW_DONE_DONE k) = s2.getF (Reg.TIER_WW_DONE_DONE k) ∧ s3.chan k = s2.chan k := by
    simp only [s3]
    split_ifs
    · exact ⟨State.wwDone_setWw .., State.chan_setWw ..⟩
    · exact ⟨State.wwDone_setWw .., State.chan_setWw ..⟩
    · exact ⟨rfl, rfl⟩
  have hready : wwReady l < 16384 := Nat.mod_lt _ (by decide)
  have hrest := s3.signal_rest weightSyncPort (wwReady l) 1 k
  rw [hs3.2, hchan2] at hrest
  refine ⟨hrest.g, hrest.loading rfl, ?_⟩
  rw [State.wwDone_of_calm hk fun a ha hhi => State.reg_signal_high ha hhi s3 weightSyncPort hready 1, hs3.1, hs2]

end Sys2Proof.Machine
end

section
/-! The tiering unit's commands. -/

namespace Sys2Proof.Machine

/-! ### APPLY -/

section apply
variable {s : State} {req : Requester} {i : Nat}

theorem exec_apply (hi : i < 65536) (h : s.Takes req Reg.TIER_OBJ_APPLY i) :
    exec (.apply req i) s = .next (s.inside ((s.wrObjApply i).respond req 0 [])) := by
  have hrun : exec (.apply req i) s = execApply req i s := rfl
  rw [hrun, execApply, Nat.mod_eq_of_lt hi]
  exact access_does h

theorem State.wrObjApply_refused (hi : i < 65536) (hruns : s.isRunning 0x330 = true)
    (hmem : s.memOk (s.owner 0x330) (s.objAddr i) 16 false = false) : s.wrObjApply i = s.objResult i 3 := by
  rw [State.wrObjApply]
  simp only [Nat.mod_eq_of_lt hi, hruns, hmem, Bool.not_true, Bool.not_false, Bool.false_eq_true, if_false, if_true]

theorem State.wrObjApply_removes (hi : i < 65536) (hruns : s.isRunning 0x330 = true)
    (hmem : s.memOk (s.owner 0x330) (s.objAddr i) 16 false = true) (hvalid : bit (leField (s.objRow i) 0 8) 63 = false) :
    s.wrObjApply i = (((s.removeObject i).promote).exchangeNext).objResult i 6 := by
  rw [State.wrObjApply]
  simp only [Nat.mod_eq_of_lt hi, hruns, hmem, hvalid, Bool.not_true, Bool.not_false, Bool.false_eq_true, if_false, if_true]

theorem State.wrObjApply_badRow (hi : i < 65536) (hruns : s.isRunning 0x330 = true)
    (hmem : s.memOk (s.owner 0x330) (s.objAddr i) 16 false = true) (hvalid : bit (leField (s.objRow i) 0 8) 63 = true)
    (hrow : objRowOk (s.objRow i) = false) : s.wrObjApply i = s.objResult i 5 := by
  rw [State.wrObjApply]
  simp only [Nat.mod_eq_of_lt hi, hruns, hmem, hvalid, hrow, Bool.not_true, Bool.not_false, Bool.false_eq_true, if_false, if_true]

/-- An APPLY that answers its result only. -/
theorem apply_answers {r : Nat} (hi : i < 65536) (hr : r < 16) (h : s.Takes req Reg.TIER_OBJ_APPLY i)
    (hresult : s.wrObjApply i = s.objResult i r) :
    ∃ u, exec (.apply req i) s = .next u ∧ u.getF Reg.TIER_OBJ_STAT_RESULT = r ∧ u.getF Reg.TIER_OBJ_STAT_INDEX = i ∧
      u.tier = s.tier ∧ u.mem = s.mem := by
  obtain ⟨hindex, hres⟩ := s.getF_objResult hi hr
  refine ⟨_, exec_apply hi h, ?_, ?_, ?_, ?_⟩
  · rw [State.getF_inside, State.getF_respond, hresult, hres]
  · rw [State.getF_inside, State.getF_respond, hresult, hindex]
  · rw [State.inside_tier, State.respond_tier, hresult, State.objResult_tier]
  · rw [State.inside_mem, State.respond_mem, hresult, State.objResult, State.putF_mem, State.putF_mem]

end apply

/-! ### Exchanges and heat -/

theorem State.trafficOf_blocks (s : State) (port part : Nat) (l : List (Nat × Bool)) (n : Nat) :
    (l.foldl (fun u r => u.traffic port part r.2 r.1 n) s).blocks = s.blocks :=
  State.foldl_frame (g := State.blocks) (fun u r _ => by rw [State.traffic_eq]) s

theorem State.isRunning_exchangeTraffic (s : State) (x : Exchange) (n p : Nat) : (s.exchangeTraffic x n).isRunning p = s.isRunning p :=
  State.isRunning_of_blocks (s.trafficOf_blocks ..) p

theorem State.isRunning_coolPages (s : State) (p : Nat) : s.coolPages.isRunning p = s.isRunning p :=
  State.isRunning_of_blocks (State.foldl_frame (g := State.blocks) (f := fun u (e : Nat × TierPage) => u.setTierPage e.1
    { u.tierPage e.1 with heat := min 65535 ((u.tierPage e.1).heat / 2 + (u.tierPage e.1).count), count := 0 }) (fun _ _ _ => rfl) s) p

theorem exec_exchangeBlockDone {s : State} {x : Exchange} {n : Nat} (hlive : s.live = true) (hcurrent : s.tier.current = some (x, n)) :
    exec .exchangeBlockDone s = .next (s.inside (if n + 1 < 32 then
      ({ s.exchangeTraffic x n with tier := { (s.exchangeTraffic x n).tier with
        current := if s.isRunning 0x330 then some (x, n + 1) else none } }).drainPorts
      else (((({ s.exchangeTraffic x n with tier := { (s.exchangeTraffic x n).tier with current := none } }).swapFrames x).promote).exchangeNext).drainPorts)) := by
  have hrun : exec .exchangeBlockDone s = execExchangeBlockDone s := rfl
  rw [hrun, execExchangeBlockDone, whenLive_live hlive]
  simp only [hcurrent, State.isRunning_exchangeTraffic]

theorem exec_heatInterval {s : State} (hlive : s.live = true) (hunified : s.unified = true) (hruns : s.isRunning 0x330 = true) :
    exec .heatInterval s = .next (s.inside
      (((s.coolPages.promote).heatPairs (s.coolPages.getF Reg.TIER_HEAT_MAX_SWAPS)).exchangeNext)) := by
  have hrun : exec .heatInterval s = execHeatInterval s := rfl
  rw [hrun, execHeatInterval, whenLive_live hlive, hunified, State.guard_true]
  simp only [State.isRunning_coolPages, hruns, State.guard_true]

/-- Settles O48, clause by clause: APPLY, exchanges, heat, weight windows, requests, refills, a module's loss, arbitration and the mesh. -/
theorem tierCommandsComplete : Obligations.TierCommandsComplete := by
  unfold Obligations.TierCommandsComplete
  refine ⟨?apply, ?exchange, ?heat, ?go, ?stop, ?layerStart, ?layerDone, ?request, ?granite, ?refill, ?module, ?winner, ?pointer, ?mesh⟩
  case apply =>
    intro s req i hi h hruns
    refine ⟨fun hmem hvalid => ?_, fun hmem hvalid hrow => ?_, fun hmem => ?_, exec_apply hi h⟩
    · rw [Does, exec_apply hi h, State.wrObjApply_removes hi hruns hmem hvalid]
    · exact apply_answers hi (by decide) h (State.wrObjApply_badRow hi hruns hmem hvalid hrow)
    · exact apply_answers hi (by decide) h (State.wrObjApply_refused hi hruns hmem)
  case exchange =>
    intro s x n u hlive hcurrent hu
    subst hu
    simp only [Does, exec_exchangeBlockDone hlive hcurrent]
    refine ⟨fun hn hruns => ?_, fun hn hstops => ?_, fun hn => ?_⟩
    · rw [if_pos hn, hruns, if_pos rfl]
    · rw [if_pos hn, hstops, if_neg (by decide)]
    · rw [if_neg (by omega)]
  case heat => exact fun s hlive hunified hruns => exec_heatInterval hlive hunified hruns
  case go =>
    intro s req k l u hk h hidle hruns hl hu hmem hcheck
    obtain rfl : u = s.wwFetched k l := hu
    refine ⟨_, exec_wwGo hk h, ?_⟩
    rw [State.wrWwCtrl_go hidle hruns hl hmem hcheck]
    have hchan (j : Nat) : (s.wwFetched k l).chan j = (s.setChan k { desc := l }).chan j := by
      rw [State.wwFetched, State.chan_traffic, State.chan_putF]
    simp only [State.chan_inside, State.chan_respond, State.chan_setWw, State.inside_mem, State.respond_mem, State.getF_inside,
      State.getF_respond, State.wwDone_setWw, hchan, State.chan_setChan_same]
    refine ⟨?_, ?_, trivial, trivial, fun j hj => s.chan_setChan_ne _ hj, ?_⟩
    · rw [State.wwState_of_regs ((State.inside_regs ..).trans (State.respond_regs ..)), State.wwState_setWw _ _ (by decide)]
    · rw [State.wwFetched, State.getF_of_regs_eq (State.traffic_regs ..), State.getF_putF _ _ _ (Nat.zero_le _), Nat.zero_mod]
    · rw [State.setWw, State.putF_mem, State.putF_mem, State.wwFetched, State.traffic_mem, State.putF_mem]
      rfl
  case stop =>
    intro s req k hk h hstate
    refine ⟨_, exec_wwStop hk h, ?_⟩
    rw [State.wrWwCtrl_stop hstate, State.wwState_of_regs ((State.inside_regs ..).trans (State.respond_regs ..))]
    simp only [State.chan_inside, State.chan_respond, State.inside_mem, State.respond_mem]
    cases hloading : (s.chan k).loading with
    | true =>
      simp only [if_true]
      exact ⟨(State.getF_setChan ..).trans hstate, fun _ => by rw [State.chan_setChan_same], fun j hj => s.chan_setChan_ne _ hj, rfl⟩
    | false =>
      simp only [Bool.false_eq_true, if_false]
      exact ⟨State.wwState_setWw _ _ (by decide) _, fun hno => hno.elim, fun j _ => State.chan_setWw .., by simp [State.setWw]⟩
  case layerStart =>
    intro s k e hlive hk hstate hruns hidle hgoes he hcheck hroom
    have hrun : exec (.wwLayerStart k) s = execWwLayerStart k s := rfl
    rw [hrun, execWwLayerStart, whenLive_live hlive, decide_eq_true hk, State.guard_true,
      State.wwStart_loads hstate hruns hidle hgoes he hcheck hroom]
    refine ⟨_, rfl, ?_, fun j hj => ?_, ?_⟩
    · rw [State.chan_inside, State.chan_askLines, State.chan_traffic, State.chan_traffic, State.chan_setChan_same]
    · rw [State.chan_inside, State.chan_askLines, State.chan_traffic, State.chan_traffic, State.chan_setChan_ne _ _ hj]
    · rw [State.inside_mem, State.askLines_eq]
      simp only [State.traffic_mem]
      rfl
  case layerDone =>
    intro s k hlive hk hstate hloading hidle
    have hrun : exec (.wwLayerDone k) s = execWwLayerDone k s := rfl
    rw [hrun, execWwLayerDone, whenLive_live hlive, decide_eq_true hk, State.guard_true]
    refine ⟨_, rfl, ?_⟩
    rw [State.chan_inside, State.getF_inside]
    exact State.wwDone_counts hk hstate hloading hidle
  case request =>
    intro s write a n p port A q data d crc hlive hn hA hq hd hmapped hend hallowed
    subst hA hq hd
    simp only [Does, exec_memoryRequest hlive, State.memRequest_allowed (Nat.mul_pos (by decide) hn) hmapped hend hallowed]
    refine ⟨fun hcrc => ?_, fun hcrc hnear => ?_, fun hcrc hnear hport => ?_, fun hcrc hnear hport => ?_⟩
    · rw [if_pos hcrc]
    · rw [if_neg (by omega), if_pos hnear]
    · rw [if_neg (by omega), if_neg (by simp [hnear]), if_pos (by simp [hport])]
    · rw [if_neg (by omega), if_neg (by simp [hnear]), if_neg (by simpa using hport)]
  case granite =>
    intro s a n p write data crc hlive hn hmapped
    rw [Does, exec_memoryRequest hlive, State.memRequest_unmapped (Nat.mul_pos (by decide) hn) hmapped]
  case refill =>
    intro s port hlive hport
    have hrun : exec (.bucketRefill port) s = execBucketRefill port s := rfl
    rw [Does, hrun, execBucketRefill, whenLive_live hlive, decide_eq_true hport, State.guard_true]
  case module =>
    intro s m hlive hm hlatched hthere
    have hrun : exec (.d2dModuleFail m) s = execD2dModuleFail m s := rfl
    rw [Does, hrun, execD2dModuleFail, whenLive_live hlive, decide_eq_true hm, List.contains_iff_mem.2 hlatched,
      Bool.eq_false_iff.2 (fun h => hthere (List.contains_iff_mem.1 h))]
    rfl
  case winner => exact fun s r key l x h => State.winner_spec h
  case pointer =>
    intro s r q port
    exact ⟨by rw [State.pointer_granted, if_pos rfl], fun hne => by rw [State.pointer_granted, if_neg hne]⟩
  case mesh => exact fun a b _ _ => ⟨meshRoute_head a b, meshRoute_getLast a b, meshRoute_corner a b, length_meshRoute a b⟩

end Sys2Proof.Machine
end

section
/-! Sensor ingress streams and packing channels. -/

namespace Sys2Proof.Machine

/-! ### Streams and channels -/

theorem State.ingStream_of_ing {s u : State} (h : u.ing = s.ing) (i : Nat) : u.ingStream i = s.ingStream i := by
  rw [State.ingStream, State.ingStream, h]
theorem State.pack_of_ing {s u : State} (h : u.ing = s.ing) (k : Nat) : u.pack k = s.pack k := by rw [State.pack, State.pack, h]

@[simp] theorem State.ingStream_inside (s t : State) (i : Nat) : (s.inside t).ingStream i = t.ingStream i := State.ingStream_of_ing (by simp) i
@[simp] theorem State.ingStream_respond (s : State) (req : Requester) (n : Nat) (l : List Nat) (i : Nat) :
    (s.respond req n l).ingStream i = s.ingStream i := State.ingStream_of_ing (by rw [State.respond_eq]) i
@[simp] theorem State.ingStream_putF (s : State) (f : Fld) (v i : Nat) : (s.putF f v).ingStream i = s.ingStream i :=
  State.ingStream_of_ing (by simp) i
@[simp] theorem State.ingStream_setIngStream_same (s : State) (i : Nat) (x : IngStream) : (s.setIngStream i x).ingStream i = x :=
  Sparse.get_set_same ..
theorem State.ingStream_setIngStream_ne (s : State) {i k : Nat} (x : IngStream) (h : k ≠ i) :
    (s.setIngStream i x).ingStream k = s.ingStream k := Sparse.get_set_ne _ _ _ h
@[simp] theorem State.getF_setIngStream (s : State) (i : Nat) (x : IngStream) (f : Fld) : (s.setIngStream i x).getF f = s.getF f :=
  State.getF_of_regs_eq rfl

@[simp] theorem State.pack_inside (s t : State) (k : Nat) : (s.inside t).pack k = t.pack k := State.pack_of_ing (by simp) k
@[simp] theorem State.pack_respond (s : State) (req : Requester) (n : Nat) (l : List Nat) (k : Nat) : (s.respond req n l).pack k = s.pack k :=
  State.pack_of_ing (by rw [State.respond_eq]) k
@[simp] theorem State.pack_putF (s : State) (f : Fld) (v k : Nat) : (s.putF f v).pack k = s.pack k := State.pack_of_ing (by simp) k
@[simp] theorem State.pack_setPack_same (s : State) (k : Nat) (x : PackChan) : (s.setPack k x).pack k = x := Sparse.get_set_same ..
@[simp] theorem State.getF_setPack (s : State) (k : Nat) (x : PackChan) (f : Fld) : (s.setPack k x).getF f = s.getF f :=
  State.getF_of_regs_eq rfl
@[simp] theorem State.setPack_mem (s : State) (k : Nat) (x : PackChan) : (s.setPack k x).mem = s.mem := rfl

@[simp] theorem State.applyWord_mem (s : State) (a v : Nat) : (s.applyWord a v).mem = s.mem := rfl
@[simp] theorem State.applyWord_ing (s : State) (a v : Nat) : (s.applyWord a v).ing = s.ing := rfl
theorem State.isRunning_applyWord (s : State) (a v p : Nat) : (s.applyWord a v).isRunning p = s.isRunning p :=
  State.isRunning_of_blocks rfl p

/-! ### A stream's start and stop -/

section stream
variable (s : State) (i : Nat)

/-- A start shows the stream as running, with no cause. -/
theorem State.startStream_spec : (s.startStream i).getF (Reg.ING_S_STAT_STATE i) = 1 ∧ (s.startStream i).getF (Reg.ING_S_STAT_CAUSE i) = 0 ∧
    ((s.startStream i).ingStream i).begun = [] ∧ ((s.startStream i).ingStream i).writing = [] ∧ (s.startStream i).mem = s.mem := by
  rw [State.startStream]
  refine ⟨?_, ?_, ?_, ?_, ?_⟩
  · rw [State.getF_putF_word (f := Reg.ING_S_STAT_CAUSE i) (g := Reg.ING_S_STAT_STATE i) _ _ rfl, State.getF_putF]
    · exact Nat.one_mod _
    all_goals simp [Reg.ING_S_STAT_STATE, Reg.ING_S_STAT_CAUSE]
  · rw [State.getF_putF _ _ _ (by simp [Reg.ING_S_STAT_CAUSE]), Nat.zero_mod]
  · rw [State.ingStream_putF, State.ingStream_putF, State.ingStream_setIngStream_same]
  · rw [State.ingStream_putF, State.ingStream_putF, State.ingStream_setIngStream_same]
  · rw [State.putF_mem, State.putF_mem, State.setIngStream_mem]

theorem State.streamOff_spec : (s.streamOff i).getF (Reg.ING_S_STAT_STATE i) = 0 ∧ (s.streamOff i).ingStream i = {} ∧
    (∀ k, k ≠ i → (s.streamOff i).ingStream k = s.ingStream k) ∧ (s.streamOff i).mem = s.mem := by
  rw [State.streamOff, State.showStopped]
  refine ⟨?_, ?_, fun k hk => ?_, ?_⟩
  · rw [State.getF_putF_other (g := Reg.ING_S_STAT_STATE i) _ _ (by dsimp only; omega) (by simp [Reg.ING_S_STAT_STATE]),
      State.getF_putF _ _ _ (by simp [Reg.ING_S_STAT_STATE]), Nat.zero_mod]
    simp only [Reg.ING_S_STAT_STATE, Reg.ING_S_STAT, Reg.ING_STOPPED]
    omega
  · rw [State.ingStream_putF, State.ingStream_putF, State.ingStream_setIngStream_same]
  · rw [State.ingStream_putF, State.ingStream_putF, State.ingStream_setIngStream_ne _ _ hk]
  · rw [State.putF_mem, State.putF_mem, State.setIngStream_mem]

variable {s i} {v : Nat}

theorem State.wrStreamCtrl_refused (hen : bit v 31 = true) (hoff : s.getF (Reg.ING_S_STAT_STATE i) = 0)
    (hrefused : (s.applyWord (Reg.ING_S_CTRL i) v).ingRefused i = true) : s.wrStreamCtrl i v =
      (((s.applyWord (Reg.ING_S_CTRL i) v).putF (Reg.ING_S_CTRL_EN i) 0).putF (Reg.ING_S_STAT_CAUSE i) 6).raise FS.ING_CFG := by
  rw [State.wrStreamCtrl]
  simp [hen, hoff, hrefused]

theorem State.wrStreamCtrl_starts (hen : bit v 31 = true) (hoff : s.getF (Reg.ING_S_STAT_STATE i) = 0) (hruns : s.isRunning 0x380 = true)
    (htaken : (s.applyWord (Reg.ING_S_CTRL i) v).ingRefused i = false) :
    s.wrStreamCtrl i v = (s.applyWord (Reg.ING_S_CTRL i) v).startStream i := by
  rw [State.wrStreamCtrl]
  simp [hen, hoff, htaken, hruns, State.isRunning_applyWord]

theorem State.wrStreamCtrl_off (hen : bit v 31 = false) (hon : s.getF (Reg.ING_S_STAT_STATE i) ≠ 0) :
    s.wrStreamCtrl i v = (s.applyWord (Reg.ING_S_CTRL i) v).streamOff i := by
  rw [State.wrStreamCtrl]
  simp [hen, hon]

end stream

/-! ### Samples -/

section sample
variable {s : State} {i : Nat}

theorem exec_sampleBegin (hlive : s.live = true) (hi : i < 64) (hruns : s.ingRuns i = true) (hmem : s.memSourced i = false)
    (hedge : s.edgeKind i = false) : exec (.sampleBegin i) s = .next (s.inside (s.beginSample i)) := by
  have hrun : exec (.sampleBegin i) s = execSampleBegin i s := rfl
  rw [hrun, execSampleBegin, whenLive_live hlive, decide_eq_true hi, hruns, hmem]
  simp only [Bool.not_false, Bool.and_self, State.guard_true, hedge]

theorem exec_sampleBegin_edge (hlive : s.live = true) (hedge : s.edgeKind i = true) : exec (.sampleBegin i) s = .next (s.inside s) := by
  have hrun : exec (.sampleBegin i) s = execSampleBegin i s := rfl
  rw [hrun, execSampleBegin, whenLive_live hlive]
  cases decide (i < 64) && s.ingRuns i && !s.memSourced i with
  | false => rw [State.guard_false]
  | true => rw [State.guard_true, hedge, Bool.not_true, State.guard_false]

theorem exec_sampleEnd (hlive : s.live = true) (hi : i < 64) (hmem : s.memSourced i = false) (data embedded : List Byte)
    (damage : SampleDamage) : exec (.sampleEnd i data embedded damage) s = .next (s.inside (if s.ingKind i = 2 then s.endBurst i data damage
      else s.guard (s.ingRuns i) (fun s => s.endSample i data embedded damage))) := by
  have hrun : exec (.sampleEnd i data embedded damage) s = execSampleEnd i data embedded damage s := rfl
  rw [hrun, execSampleEnd, whenLive_live hlive, decide_eq_true hi, hmem]
  rfl

theorem State.beginSample_takes (hfree : s.ingKind i ≠ 0 ∨ (s.ingStream i).begun = []) :
    s.beginSample i = s.takeSid i := by
  rw [State.beginSample, if_neg]
  rintro ⟨hkind, -, hbegun⟩
  rcases hfree with h | h
  · exact h hkind
  · simp [h] at hbegun

theorem State.beginSample_stops (hmem : s.memSourced i = false) (hkind : s.ingKind i = 0) (hbegun : (s.ingStream i).begun ≠ []) :
    s.beginSample i = s.stopStream i 2 := by
  rw [State.beginSample, if_pos ⟨hkind, by simp [hmem], by simpa using hbegun⟩]

/-- A sample that begins is the last of those begun, with the stream's SID and the capture time. -/
theorem State.takeSid_spec (s : State) (i : Nat) : ∃ b : IngSample,
    ((s.takeSid i).ingStream i).begun = (s.ingStream i).begun ++ [b] ∧ b.sid = s.getF (Reg.ING_S_SID_SID i) ∧ b.tcap = s.tb3 ∧
    (s.takeSid i).getF (Reg.ING_S_SID_SID i) = (s.getF (Reg.ING_S_SID_SID i) + 1) % 2 ^ 32 ∧
    (∀ k, k ≠ i → (s.takeSid i).ingStream k = s.ingStream k) ∧ (s.takeSid i).mem = s.mem := by
  unfold State.takeSid
  extract_lets x sid trig b first
  refine ⟨b, ?_, rfl, rfl, ?_, fun k hk => ?_, ?_⟩
  · rw [State.wrapInc, State.ingStream_putF, State.ingStream_setIngStream_same]
  · rw [State.getF_wrapInc _ _ _ (Nat.zero_le _), State.getF_setIngStream]
    rfl
  · rw [State.wrapInc, State.ingStream_putF, State.ingStream_setIngStream_ne _ _ hk]
  · rw [State.wrapInc, State.putF_mem, State.setIngStream_mem]

end sample

/-! ### Packing channels -/

section packing
variable {s : State} {k : Nat}

theorem State.packGo_spec (s : State) (k : Nat) : (s.packGo k).getF (Reg.PK_STAT_STATE k) = 1 ∧ (s.packGo k).getF (Reg.PK_STAT_ERR k) = 0 ∧
    (s.packGo k).pack k = { trig0 := s.syncValue (s.getF (Reg.PK_OBJ_TRIG_OBJ k)) } ∧ (s.packGo k).mem = s.mem := by
  rw [State.packGo]
  refine ⟨?_, ?_, ?_, ?_⟩
  · rw [State.getF_putF_word (f := Reg.PK_STAT_ERR k) (g := Reg.PK_STAT_STATE k) _ _ rfl, State.getF_putF]
    · exact Nat.one_mod _
    all_goals simp [Reg.PK_STAT_STATE, Reg.PK_STAT_ERR]
  · rw [State.getF_putF _ _ _ (by simp [Reg.PK_STAT_ERR]), Nat.zero_mod]
  · rw [State.pack_putF, State.pack_putF, State.pack_setPack_same]
  · rw [State.putF_mem, State.putF_mem, State.setPack_mem]

theorem State.wrPackCtrl_go : s.wrPackCtrl k 1 = s.packGo k := by
  rw [State.wrPackCtrl, show bit 1 1 = false from rfl, show bit 1 0 = true from rfl]
  simp only [Bool.false_eq_true, if_false, if_true]

theorem State.wrPackCtrl_stop (hstate : s.getF (Reg.PK_STAT_STATE k) = 1) (hlist : (s.pack k).list = none) :
    s.wrPackCtrl k 2 = (s.setPack k {}).putF (Reg.PK_STAT_STATE k) 0 := by
  rw [State.wrPackCtrl, show bit 2 1 = true from rfl, show bit 2 0 = false from rfl, State.packHalt]
  simp only [hstate, hlist, Bool.false_eq_true, ne_eq, not_true_eq_false, if_false, if_true]

theorem State.packDone_writes {l : List Byte} (hlist : (s.pack k).list = some l) (u : State)
    (hu : u = (s.writePackRows k 0 (s.packPlan k l)).setPack k { s.pack k with list := none, run := (s.pack k).run + 1 }) :
    s.packDone k = (u.putF (Reg.PK_STAT_ROWS k) (s.packPlan k l).length).signal ingressPort (u.getF (Reg.PK_OBJ_DONE_OBJ k)) 1 := by
  subst hu
  rw [State.packDone]
  simp only [hlist]

end packing

/-- Settles O50: samples, a stream's control register, and the runs of a packing channel. -/
theorem ingressCommandsComplete : Obligations.IngressCommandsComplete := by
  unfold Obligations.IngressCommandsComplete
  refine ⟨?begin, ?busy, ?edge, ?ends, ?done, ?refused, ?enable, ?disable, ?nosignal, ?memory, ?go, ?stop, ?runStart, ?runDone⟩
  case begin =>
    intro s i hlive hi hruns hmem hedge hfree
    obtain ⟨b, hbegun, hsid, htcap, hnext, hothers, hkeep⟩ := s.takeSid_spec i
    refine ⟨_, b, exec_sampleBegin hlive hi hruns hmem hedge, ?_⟩
    rw [State.beginSample_takes hfree]
    simp only [State.ingStream_inside, State.getF_inside, State.inside_mem]
    exact ⟨hbegun, hsid, htcap, hnext, hothers, hkeep⟩
  case busy =>
    intro s i hlive hi hruns hmem hkind hbegun
    have hedge : s.edgeKind i = false := by simp [State.edgeKind, hkind]
    rw [Does, exec_sampleBegin hlive hi hruns hmem hedge, State.beginSample_stops hmem hkind hbegun]
  case edge => exact fun s i hlive hedge => exec_sampleBegin_edge hlive hedge
  case ends =>
    intro s i data embedded damage hlive hi hmem
    simp only [Does, exec_sampleEnd hlive hi hmem]
    exact ⟨fun hkind hruns => by rw [if_neg hkind, hruns, State.guard_true], fun hkind => by rw [if_pos hkind]⟩
  case done =>
    intro s i sid u hlive hi hruns hturn hu
    subst hu
    have hrun : exec (.sampleDone i sid) s = execSampleDone i sid s := rfl
    rw [Does, hrun, execSampleDone, whenLive_live hlive, decide_eq_true hi, State.guard_true, State.sampleDone]
    simp only [hruns, hturn, Bool.and_self, if_true, State.getF_setIngStream]
  case refused =>
    intro s req i v u hi h hoff hu hrefused
    subst hu
    have hrun : exec (.streamEnable req i v) s = execStreamEnable req i v s := rfl
    rw [Does, hrun, execStreamEnable, guarded_access hi h, State.wrStreamCtrl_refused (bit_setBits ..) hoff hrefused]
  case enable =>
    intro s req i v hi h hoff hruns htaken
    have hrun : exec (.streamEnable req i v) s = execStreamEnable req i v s := rfl
    obtain ⟨hstate, hcause, hbegun, hwriting, hmem⟩ :=
      (s.applyWord (Reg.ING_S_CTRL i) (setBits (v % 2 ^ 32) 31 31 1)).startStream_spec i
    rw [hrun, execStreamEnable, guarded_access hi h, State.wrStreamCtrl_starts (bit_setBits ..) hoff hruns htaken]
    refine ⟨_, rfl, ?_⟩
    simp only [State.getF_inside, State.getF_respond, State.ingStream_inside, State.ingStream_respond, State.inside_mem, State.respond_mem]
    exact ⟨hstate, hcause, hbegun, hwriting, hmem⟩
  case disable =>
    intro s req i v hi h hon
    have hrun : exec (.streamDisable req i v) s = execStreamDisable req i v s := rfl
    obtain ⟨hstate, hstream, hothers, hmem⟩ :=
      (s.applyWord (Reg.ING_S_CTRL i) (setBits (v % 2 ^ 32) 31 31 0)).streamOff_spec i
    rw [hrun, execStreamDisable, guarded_access hi h, State.wrStreamCtrl_off (bit_setBits ..) hon]
    refine ⟨_, rfl, ?_⟩
    simp only [State.getF_inside, State.getF_respond, State.ingStream_inside, State.ingStream_respond, State.inside_mem, State.respond_mem]
    exact ⟨hstate, hstream, hothers, hmem⟩
  case nosignal =>
    intro s i hlive hi hruns htimeout hthere
    have hrun : exec (.nosignalTimeout i) s = execNosignalTimeout i s := rfl
    rw [Does, hrun, execNosignalTimeout, whenLive_live hlive]
    have hall : (decide (i < 64) && s.ingRuns i && s.onF (Reg.ING_S_TRIG_TIMEOUT i) && !s.onF (Reg.ING_S_STAT_NOSIGNAL i)) = true := by
      rw [decide_eq_true hi, hruns, htimeout, hthere]
      rfl
    rw [hall, State.guard_true]
  case memory =>
    intro s i hlive hi _ _ _
    have hrun : exec (.memorySampleTake i) s = execMemorySampleTake i s := rfl
    rw [Does, hrun, execMemorySampleTake, whenLive_live hlive, decide_eq_true hi, State.guard_true]
  case go =>
    intro s req k hk h
    have hrun : exec (.packGo req k) s = execPackGo req k s := rfl
    obtain ⟨hstate, herr, hpack, hmem⟩ := s.packGo_spec k
    rw [hrun, execPackGo, guarded_access hk h, State.wrPackCtrl_go]
    refine ⟨_, rfl, ?_⟩
    simp only [State.getF_inside, State.getF_respond, State.pack_inside, State.pack_respond, State.inside_mem, State.respond_mem, hpack]
    exact ⟨hstate, herr, trivial, trivial, trivial, hmem⟩
  case stop =>
    intro s req k hk h hstate hlist
    have hrun : exec (.packStop req k) s = execPackStop req k s := rfl
    rw [hrun, execPackStop, guarded_access hk h, State.wrPackCtrl_stop hstate hlist]
    refine ⟨_, rfl, ?_⟩
    simp only [State.getF_inside, State.getF_respond, State.pack_inside, State.pack_respond, State.inside_mem, State.respond_mem]
    refine ⟨?_, ?_, ?_⟩
    · rw [State.getF_putF _ _ _ (by simp [Reg.PK_STAT_STATE]), Nat.zero_mod]
    · rw [State.pack_putF, State.pack_setPack_same]
    · rw [State.putF_mem, State.setPack_mem]
  case runStart =>
    intro s k hlive hk _ _ _ _
    have hrun : exec (.packRunStart k) s = execPackRunStart k s := rfl
    rw [Does, hrun, execPackRunStart, whenLive_live hlive, decide_eq_true hk, State.guard_true]
  case runDone =>
    intro s k l u hlive hk hruns hlist hu
    have hrun : exec (.packRunDone k) s = execPackRunDone k s := rfl
    rw [Does, hrun, execPackRunDone, whenLive_live hlive, decide_eq_true hk, hruns, Bool.and_true, State.guard_true,
      State.packDone_writes hlist u hu,
      State.getF_putF_other (f := Reg.PK_STAT_ROWS k) (g := Reg.PK_OBJ_DONE_OBJ k) _ _ (by simp [Reg.PK_STAT_ROWS])
        (by simp [Reg.PK_OBJ_DONE_OBJ]) (by simp only [Reg.PK_STAT_ROWS, Reg.PK_STAT, Reg.PK_OBJ_DONE_OBJ, Reg.PK_OBJ]; omega)]

end Sys2Proof.Machine
end

section
/-! Agate: its rings, the drain, the cut-off, the commit of an epoch and its control registers. -/

namespace Sys2Proof.Machine

/-! ### An answer leaves every engine -/

@[simp] theorem State.respond_agt (s : State) (req : Requester) (n : Nat) (l : List Nat) : (s.respond req n l).agt = s.agt := by
  rw [State.respond_eq]
@[simp] theorem State.respond_pum (s : State) (req : Requester) (n : Nat) (l : List Nat) : (s.respond req n l).pum = s.pum := by
  rw [State.respond_eq]
@[simp] theorem State.respond_slt (s : State) (req : Requester) (n : Nat) (l : List Nat) : (s.respond req n l).slt = s.slt := by
  rw [State.respond_eq]
@[simp] theorem State.respond_flt (s : State) (req : Requester) (n : Nat) (l : List Nat) : (s.respond req n l).flt = s.flt := by
  rw [State.respond_eq]
@[simp] theorem State.respond_gnt (s : State) (req : Requester) (n : Nat) (l : List Nat) : (s.respond req n l).gnt = s.gnt := by
  rw [State.respond_eq]
@[simp] theorem State.respond_eth (s : State) (req : Requester) (n : Nat) (l : List Nat) : (s.respond req n l).eth = s.eth := by
  rw [State.respond_eq]
@[simp] theorem State.respond_can (s : State) (req : Requester) (n : Nat) (l : List Nat) : (s.respond req n l).can = s.can := by
  rw [State.respond_eq]
@[simp] theorem State.respond_iox (s : State) (req : Requester) (n : Nat) (l : List Nat) : (s.respond req n l).iox = s.iox := by
  rw [State.respond_eq]
@[simp] theorem State.respond_odl (s : State) (req : Requester) (n : Nat) (l : List Nat) : (s.respond req n l).odl = s.odl := by
  rw [State.respond_eq]

/-! ### Rings -/

theorem State.agtRing_of_agt {s u : State} (h : u.agt = s.agt) (r : Nat) : u.agtRing r = s.agtRing r := by
  rw [State.agtRing, State.agtRing, h]

@[simp] theorem State.getF_setAgtRing (s : State) (r : Nat) (x : AgtRing) (f : Fld) : (s.setAgtRing r x).getF f = s.getF f :=
  State.getF_of_regs_eq rfl
@[simp] theorem State.applyWord_agt (s : State) (a v : Nat) : (s.applyWord a v).agt = s.agt := rfl

theorem State.tb3_lt (s : State) : s.tb3 < 2 ^ 32 := Nat.mod_lt _ (by decide)

/-! ### The control registers -/

section control
variable {s : State}

theorem State.wrXfCtrl_swap {bank : Nat} (hbank : bank < 2) : (s.wrXfCtrl (2 + bank)).agt = { s.agt with wantBank := bank } ∧
    (s.wrXfCtrl (2 + bank)).getF Reg.AGT_XF_STAT_PENDING = 1 ∧ (s.wrXfCtrl (2 + bank)).mem = s.mem := by
  have hswap : bit (2 + bank) 1 = true := by simp only [bit]; interval_cases bank <;> rfl
  rw [State.wrXfCtrl, if_pos hswap, show (2 + bank) % 2 = bank by omega]
  refine ⟨?_, ?_, ?_⟩
  · rw [State.putF_agt]
  · rw [State.getF_putF _ _ _ (by decide)]
    rfl
  · rw [State.putF_mem]

variable {r v : Nat}

theorem State.wrRingCfg_refused (hoff : s.onF (Reg.AGT_R_CFG_EN r) = false)
    (hon : (s.applyWord (Reg.AGT_R_CFG r) v).onF (Reg.AGT_R_CFG_EN r) = true)
    (hbad : (s.applyWord (Reg.AGT_R_CFG r) v).ringObjectsOk r = false) :
    s.wrRingCfg r v = ((s.applyWord (Reg.AGT_R_CFG r) v).putF (Reg.AGT_R_CFG_EN r) 0).raiseNote FS.AGT_CFG := by
  rw [State.wrRingCfg]
  simp [hoff, hon, hbad]

/-- An enabled ring starts at the value of its put object. -/
def State.ringStarted (s : State) (r : Nat) : State :=
  (s.setAgtRing r { put0 := s.syncValue (s.getF (Reg.AGT_R_CFG_PUT_OBJ r)), taken := 0 }).putF (Reg.AGT_R_STAT_TAKEN r) 0

theorem State.wrRingCfg_starts (hoff : s.onF (Reg.AGT_R_CFG_EN r) = false)
    (hon : (s.applyWord (Reg.AGT_R_CFG r) v).onF (Reg.AGT_R_CFG_EN r) = true)
    (hok : (s.applyWord (Reg.AGT_R_CFG r) v).ringObjectsOk r = true) :
    s.wrRingCfg r v = (s.applyWord (Reg.AGT_R_CFG r) v).ringStarted r := by
  rw [State.wrRingCfg, State.ringStarted]
  simp [hoff, hon, hok]

theorem State.ringStarted_spec (s : State) (r : Nat) :
    (s.ringStarted r).agtRing r = { put0 := s.syncValue (s.getF (Reg.AGT_R_CFG_PUT_OBJ r)), taken := 0 } ∧
    (s.ringStarted r).getF (Reg.AGT_R_CFG_EN r) = s.getF (Reg.AGT_R_CFG_EN r) ∧ (s.ringStarted r).getF (Reg.AGT_R_STAT_TAKEN r) = 0 ∧
    (s.ringStarted r).mem = s.mem := by
  rw [State.ringStarted]
  refine ⟨?_, ?_, ?_, ?_⟩
  · rw [State.agtRing_of_agt (State.putF_agt ..)]
    exact Sparse.get_set_same ..
  · rw [State.getF_putF_other (f := Reg.AGT_R_STAT_TAKEN r) (g := Reg.AGT_R_CFG_EN r) _ _ (by simp [Reg.AGT_R_STAT_TAKEN])
      (by simp [Reg.AGT_R_CFG_EN]) (by simp only [Reg.AGT_R_STAT_TAKEN, Reg.AGT_R_STAT, Reg.AGT_R_CFG_EN, Reg.AGT_R_CFG]; omega),
      State.getF_setAgtRing]
  · rw [State.getF_putF _ _ _ (by simp [Reg.AGT_R_STAT_TAKEN]), Nat.zero_mod]
  · rw [State.putF_mem]
    rfl

theorem State.wrSensorCfg_spec (s : State) (i v : Nat) : (s.wrSensorCfg i v).getF (Reg.AGT_S_STAT_STATE i) = (if v.testBit 31 then 1 else 0) ∧
    (s.wrSensorCfg i v).agt = s.agt ∧ (s.wrSensorCfg i v).mem = s.mem := by
  rw [State.wrSensorCfg, show bit v 31 = v.testBit 31 from rfl]
  split
  · refine ⟨?_, ?_, ?_⟩
    · rw [State.getF_putF_word (f := Reg.AGT_S_STAT_AGREE i) (g := Reg.AGT_S_STAT_STATE i) _ _ rfl,
        State.getF_putF_word (f := Reg.AGT_S_STAT_HIST i) (g := Reg.AGT_S_STAT_STATE i) _ _ rfl, State.getF_putF]
      · exact Nat.one_mod _
      all_goals simp [Reg.AGT_S_STAT_STATE, Reg.AGT_S_STAT_AGREE, Reg.AGT_S_STAT_HIST]
    · rw [State.putF_agt, State.putF_agt, State.putF_agt, State.applyWord_agt]
    · rw [State.putF_mem, State.putF_mem, State.putF_mem, State.applyWord_mem]
  · refine ⟨?_, ?_, ?_⟩
    · rw [State.getF_putF _ _ _ (by simp [Reg.AGT_S_STAT_STATE]), Nat.zero_mod]
    · rw [State.putF_agt, State.applyWord_agt]
    · rw [State.putF_mem, State.applyWord_mem]

end control

/-! ### The frame's steps -/

section steps
variable {s : State}

theorem exec_agateDrain (hlive : s.live = true) (hworks : s.agateWorks = true) (hopened : s.agt.opened = true) (hcut : s.agt.cut = false) :
    exec .agateDrain s = .next (s.inside (if s.agt.lateDone then s else s.doLate).drainRecs) := by
  have hrun : exec .agateDrain s = execAgateDrain s := rfl
  have hall : (s.agateWorks && s.agt.opened && !s.agt.cut) = true := by rw [hworks, hopened, hcut]; rfl
  rw [hrun, execAgateDrain, whenLive_live hlive, hall, State.guard_true]

theorem State.agateCut_cuts (hworks : s.agateWorks = true) (hopened : s.agt.opened = true) (hcut : s.agt.cut = false) :
    s.agateCut.agt.cut = true ∧ s.agateCut.agt.cuts = ((s.frameNo, s.tb3) :: s.agt.cuts).take 40 ∧
    s.agateCut.agt.tracks = s.agt.tracks ∧ s.agateCut.mem = s.mem := by
  have hall : ¬ ((!(s.agateWorks && s.agt.opened) || s.agt.cut) = true) := by simp [hworks, hopened, hcut]
  rw [State.agateCut, if_neg hall]
  dsimp only
  rw [State.satInc, State.putF_agt, State.putF_mem]
  exact ⟨rfl, rfl, rfl, rfl⟩

end steps

/-- Settles O51: rings, drain, cut-off, commit, swap request, and the enables of rings and sensors. -/
theorem agateCommandsComplete : Obligations.AgateCommandsComplete := by
  unfold Obligations.AgateCommandsComplete
  refine ⟨?ring, ?drain, ?cutoff, ?commit, ?swap, ?enable, ?sensor⟩
  case ring =>
    intro s r hlive hr _ _ _
    have hrun : exec (.ringTake r) s = execRingTake r s := rfl
    rw [Does, hrun, execRingTake, whenLive_live hlive, decide_eq_true hr, State.guard_true]
  case drain =>
    intro s hlive hworks hopened hcut
    simp only [Does, exec_agateDrain hlive hworks hopened hcut]
    exact ⟨fun h => by rw [if_pos h], fun h => by rw [if_neg (by simp [h])]⟩
  case cutoff =>
    intro s hlive hworks hopened hcut
    obtain ⟨hcutNow, hcuts, htracks, hmem⟩ := State.agateCut_cuts hworks hopened hcut
    have hrun : exec .agateCutoff s = execAgateCutoff s := rfl
    rw [hrun, execAgateCutoff, whenLive_live hlive]
    refine ⟨_, rfl, ?_⟩
    simp only [State.inside_agt, State.putF_agt, State.getF_inside, State.inside_mem, State.putF_mem]
    refine ⟨hcutNow, hcuts, ?_, htracks, hmem⟩
    rw [State.getF_putF _ _ _ (by decide)]
    exact Nat.mod_eq_of_lt s.tb3_lt
  case commit =>
    intro s n c r hlive _ _ _ _
    have hrun : exec .epochCommit s = execEpochCommit s := rfl
    rw [Does, hrun, execEpochCommit, whenLive_live hlive]
  case swap =>
    intro s req bank hbank h
    obtain ⟨hagt, hpending, hmem⟩ := State.wrXfCtrl_swap (s := s) hbank
    have hrun : exec (.transformSwapRequest req bank) s = execTransformSwapRequest req bank s := rfl
    rw [hrun, execTransformSwapRequest, Nat.mod_eq_of_lt hbank]
    refine ⟨_, access_does h, ?_⟩
    simp only [State.inside_agt, State.respond_agt, State.getF_inside, State.getF_respond, State.inside_mem, State.respond_mem, hagt]
    exact ⟨trivial, hpending, trivial, hmem⟩
  case enable =>
    intro s req r v u hr h hoff hu hon
    subst hu
    have hrun : exec (.agateRingEnable req r v) s = execAgateRingEnable req r v s := rfl
    rw [Does, hrun, execAgateRingEnable, guarded_access hr h]
    refine ⟨fun hbad => by rw [State.wrRingCfg_refused hoff hon hbad], fun hok => ⟨_, rfl, ?_⟩⟩
    obtain ⟨hring, hen, htaken, hmem⟩ := (s.applyWord (Reg.AGT_R_CFG r) (setBits (v % 2 ^ 32) 31 31 1)).ringStarted_spec r
    rw [State.wrRingCfg_starts hoff hon hok, State.agtRing_of_agt ((State.inside_agt ..).trans (State.respond_agt ..)), State.onF_inside,
      State.onF_respond, State.getF_inside, State.getF_respond, State.inside_mem, State.respond_mem]
    exact ⟨hring, by rw [State.onF, hen]; exact hon, htaken, hmem⟩
  case sensor =>
    intro s req i v hi hv h
    obtain ⟨hstate, hagt, hmem⟩ := s.wrSensorCfg_spec i v
    have hrun : exec (.sensorEnable req i v) s = execSensorEnable req i v s := rfl
    rw [hrun, execSensorEnable, Nat.mod_eq_of_lt hv, guarded_access hi h]
    refine ⟨_, rfl, ?_⟩
    rw [State.getF_inside, State.getF_respond, State.inside_agt, State.respond_agt, State.inside_mem, State.respond_mem]
    exact ⟨hstate, hagt, hmem⟩

end Sys2Proof.Machine
end

section
/-! Garnet: control periods, loops, actuators and their frames. -/

namespace Sys2Proof.Machine

/-! ### Actuators and loops -/

theorem State.gntAct_of_gnt {s u : State} (h : u.gnt = s.gnt) (a : Nat) : u.gntAct a = s.gntAct a := by
  rw [State.gntAct, State.gntAct, h]

@[simp] theorem State.gntAct_inside (s t : State) (a : Nat) : (s.inside t).gntAct a = t.gntAct a := State.gntAct_of_gnt (by simp) a
@[simp] theorem State.gntAct_respond (s : State) (req : Requester) (n : Nat) (l : List Nat) (a : Nat) :
    (s.respond req n l).gntAct a = s.gntAct a := State.gntAct_of_gnt (by simp) a
@[simp] theorem State.gntAct_putF (s : State) (f : Fld) (v a : Nat) : (s.putF f v).gntAct a = s.gntAct a := State.gntAct_of_gnt (by simp) a
@[simp] theorem State.gntAct_applyWord (s : State) (w v a : Nat) : (s.applyWord w v).gntAct a = s.gntAct a := State.gntAct_of_gnt rfl a
@[simp] theorem State.gntAct_setGntAct_same (s : State) (a : Nat) (x : GntAct) : (s.setGntAct a x).gntAct a = x := Sparse.get_set_same ..
theorem State.gntAct_setGntAct_ne (s : State) {a k : Nat} (x : GntAct) (h : k ≠ a) : (s.setGntAct a x).gntAct k = s.gntAct k :=
  Sparse.get_set_ne _ _ _ h
@[simp] theorem State.getF_setGntAct (s : State) (a : Nat) (x : GntAct) (f : Fld) : (s.setGntAct a x).getF f = s.getF f :=
  State.getF_of_regs_eq rfl
@[simp] theorem State.getF_setGntLoop (s : State) (i : Nat) (x : GntLoop) (f : Fld) : (s.setGntLoop i x).getF f = s.getF f :=
  State.getF_of_regs_eq rfl

/-- A write of a word leaves the fields of other words. -/
theorem State.getF_applyWord_ne (s : State) {a : Nat} (v : Nat) {f : Fld} (hf : f.hi < 32) (h : f.addr ≠ a) :
    (s.applyWord a v).getF f = s.getF f :=
  State.getF_of_reg_eq hf (by rw [State.applyWord, State.reg_setReg, if_neg h])

theorem State.gntActive_of_blocks {s u : State} (h : u.blocks = s.blocks) : u.gntActive = s.gntActive := by
  simp only [State.gntActive, State.blockState, State.block, h]

theorem State.inSafe_of_dev {s u : State} (h : u.dev = s.dev) : u.inSafe = s.inSafe := by
  simp only [State.inSafe, State.mode, h]

theorem State.kick_idle {s : State} {w : Nat} (h : s.wdgRuns w = false) : s.kick w = s := by
  rw [State.kick, h]
  rfl

theorem State.wdgRuns_putF (s : State) {f : Fld} (v : Nat) {w : Nat} (hf : f.hi < 32)
    (h : f.addr < 0x620000) : (s.putF f v).wdgRuns w = s.wdgRuns w := by
  have hcfg : (s.putF f v).onF (Reg.WDG_CFG_EN w) = s.onF (Reg.WDG_CFG_EN w) := by
    rw [State.onF, State.onF, State.getF_putF_other _ _ hf (by simp [Reg.WDG_CFG_EN])
      (by simp only [Reg.WDG_CFG_EN, Reg.WDG_CFG]; omega)]
  have hstat : (s.putF f v).getF (Reg.WDG_STAT_STATE w) = s.getF (Reg.WDG_STAT_STATE w) :=
    State.getF_putF_other _ _ hf (by simp [Reg.WDG_STAT_STATE]) (by simp only [Reg.WDG_STAT_STATE, Reg.WDG_STAT]; omega)
  rw [State.wdgRuns, State.wdgRuns, hcfg, hstat, State.live, State.live, State.putF_pins, State.putF_dev]

/-! ### Control periods -/

section boundary
variable {s : State}

theorem exec_controlPeriodBoundary (hlive : s.live = true) (hdue : s.boundaryDue = true) :
    exec .controlPeriodBoundary s = .next (s.inside s.controlBoundary) := by
  have hrun : exec .controlPeriodBoundary s = execControlPeriodBoundary s := rfl
  rw [hrun, execControlPeriodBoundary, whenLive_live hlive, hdue, State.guard_true]

/-- The count of control periods moves on. -/
def State.counted (s : State) : State := { s with gnt := { s.gnt with boundary := s.gnt.boundary + 1 } }

/-- The plan that was handed over is the plan in use. -/
def State.adopted (s : State) (x : Traj) : State :=
  { s.counted with gnt := { s.counted.gnt with plan := some x, next := none } }

theorem State.wdgRuns_adopted (s : State) (x : Traj) (w : Nat) : (s.adopted x).wdgRuns w = s.wdgRuns w := by
  have hf (f : Fld) : (s.adopted x).getF f = s.getF f := State.getF_of_regs_eq rfl
  rw [State.wdgRuns, State.wdgRuns, State.onF, State.onF, hf, hf]
  rfl

theorem State.controlBoundary_adopts {x : Traj} (hfirst : s.gnt.boundary = 0) (hactive : s.gntActive = true)
    (hnext : s.gnt.next = some x) (hidle : s.wdgRuns 5 = false) :
    s.controlBoundary = ((s.adopted x).putF Reg.GNT_PLAN_FRAME x.frame).putF Reg.GNT_PLAN_T0_T0 x.t0 := by
  have hruns : (((s.adopted x).putF Reg.GNT_PLAN_FRAME x.frame).putF Reg.GNT_PLAN_T0_T0 x.t0).wdgRuns 5 = false := by
    rw [State.wdgRuns_putF _ _ (by decide) (by decide), State.wdgRuns_putF _ _ (by decide) (by decide), State.wdgRuns_adopted, hidle]
  rw [State.controlBoundary, hnext, hfirst, hactive]
  exact (congrArg (State.kick · 5) (by rw [State.adopted, State.counted, hfirst])).trans (State.kick_idle hruns)

theorem State.controlBoundary_later (hlater : s.gnt.boundary ≠ 0) : s.controlBoundary = s.counted := by
  rw [State.controlBoundary, beq_false_of_ne hlater, Bool.false_and]
  cases s.gnt.next <;> rfl

end boundary

/-! ### Writes of loops and actuators -/

section writes
variable {s : State} {i v : Nat}

theorem State.wrLoopCfg_enables (hen : bit v 31 = true) (hoff : s.loopOn i = false) :
    s.wrLoopCfg i v = (s.applyWord (Reg.GNT_L_CFG i) v).enableLoop i := by
  rw [State.wrLoopCfg]
  simp [hen, hoff]

theorem State.wrLoopCfg_disables (hen : bit v 31 = false) (hon : s.loopOn i = true) (hidle : s.gntActive = false) :
    s.wrLoopCfg i v = (s.applyWord (Reg.GNT_L_CFG i) v).putF (Reg.GNT_L_STAT_FE_CNT i) 0 := by
  have hactive : ((s.applyWord (Reg.GNT_L_CFG i) v).putF (Reg.GNT_L_STAT_FE_CNT i) 0).gntActive = false := by
    rw [State.gntActive_of_blocks (State.putF_blocks ..)]
    exact (State.gntActive_of_blocks rfl).trans hidle
  rw [State.wrLoopCfg]
  simp [hen, hon, hactive]

theorem State.wrActCtrl_recovers (hreq : bit v 31 = true) (hheld : s.actState i = 4) (hruns : s.isRunning 0x500 = true)
    (hsafe : s.inSafe = false) : s.wrActCtrl i v =
      (s.applyWord (Reg.GNT_A_CTRL i) v).setGntAct i { s.gntAct i with recover := true } := by
  have hstate : (s.applyWord (Reg.GNT_A_CTRL i) v).actState i = 4 :=
    (s.getF_applyWord_ne v (by simp [Reg.GNT_A_STAT_STATE]) (by simp only [Reg.GNT_A_STAT_STATE, Reg.GNT_A_STAT, Reg.GNT_A_CTRL]; omega)).trans
      hheld
  have hsafe' : (s.applyWord (Reg.GNT_A_CTRL i) v).inSafe = false := (State.inSafe_of_dev rfl).trans hsafe
  rw [State.wrActCtrl]
  simp [hreq, hstate, State.isRunning_applyWord, hruns, hsafe']

theorem State.wrActCtrl_manual (hreq : bit v 31 = false) : s.wrActCtrl i v = s.applyWord (Reg.GNT_A_CTRL i) v := by
  rw [State.wrActCtrl]
  simp [hreq]

end writes

/-- Settles O54: control periods, the three steps of a loop, and the four writes. -/
theorem garnetCommandsComplete : Obligations.GarnetCommandsComplete := by
  unfold Obligations.GarnetCommandsComplete
  refine ⟨?boundary, ?adopts, ?later, ?sample, ?output, ?emit, ?enable, ?disable, ?disabled, ?recover, ?manual⟩
  case boundary => exact fun s hlive hdue => exec_controlPeriodBoundary hlive hdue
  case adopts =>
    intro s x hlive hdue hfirst hactive hnext hidle
    refine ⟨_, exec_controlPeriodBoundary hlive hdue, ?_⟩
    rw [State.controlBoundary_adopts hfirst hactive hnext hidle]
    simp only [State.inside_gnt, State.putF_gnt, State.getF_inside, State.inside_mem, State.putF_mem]
    refine ⟨congrArg (· + 1) hfirst, rfl, rfl, ?_, rfl⟩
    rw [State.getF_putF _ _ _ (by decide)]
    rfl
  case later =>
    intro s hlive hdue hlater
    refine ⟨_, exec_controlPeriodBoundary hlive hdue, ?_⟩
    rw [State.controlBoundary_later hlater, State.inside_gnt, State.inside_regs, State.inside_mem]
    exact ⟨rfl, rfl, rfl, rfl, rfl⟩
  case sample =>
    intro s i hlive hi hactive hon hdue
    have hrun : exec (.loopSample i) s = execLoopSample i s := rfl
    have hall : (decide (i < 64) && s.gntActive && s.loopOn i && s.sampleDue i) = true := by
      rw [decide_eq_true hi, hactive, hon, hdue]; rfl
    rw [Does, hrun, execLoopSample, whenLive_live hlive, hall, State.guard_true]
  case output =>
    intro s a hlive ha hactive hdue
    have hrun : exec (.loopOutput a) s = execLoopOutput a s := rfl
    have hall : (decide (a < 64) && s.gntActive && s.outputDue a) = true := by rw [decide_eq_true ha, hactive, hdue]; rfl
    rw [Does, hrun, execLoopOutput, whenLive_live hlive, hall, State.guard_true]
  case emit =>
    intro s f hlive hf hactive hon hdue
    have hrun : exec (.actuatorFrameEmit f) s = execActuatorFrameEmit f s := rfl
    have hall : (decide (f < 32) && s.gntActive && s.onF (Reg.GNT_F_CFG_EN f) && s.emitDue f) = true := by
      rw [decide_eq_true hf, hactive, hon, hdue]; rfl
    rw [Does, hrun, execActuatorFrameEmit, whenLive_live hlive, hall, State.guard_true]
  case enable =>
    intro s req i v w hi hw h hoff
    have hrun : exec (.loopEnable req i v) s = execLoopEnable req i v s := rfl
    have hen : bit w 31 = true := by rw [hw]; exact bit_setBits ..
    rw [Does, hrun, execLoopEnable, ← hw, guarded_access hi h, State.wrLoopCfg_enables hen hoff]
  case disable =>
    intro s req i v w hi hw h
    have hrun : exec (.loopDisable req i v) s = execLoopDisable req i v s := rfl
    rw [Does, hrun, execLoopDisable, ← hw, guarded_access hi h]
  case disabled =>
    intro s req i v hi h hon hidle
    have hrun : exec (.loopDisable req i v) s = execLoopDisable req i v s := rfl
    rw [hrun, execLoopDisable, guarded_access hi h, State.wrLoopCfg_disables (bit_setBits ..) hon hidle]
    refine ⟨_, rfl, ?_⟩
    simp only [State.getF_inside, State.getF_respond, State.inside_gnt, State.respond_gnt, State.putF_gnt, State.inside_mem,
      State.respond_mem, State.putF_mem, State.reg_inside, State.reg_respond]
    refine ⟨?_, rfl, rfl, ?_⟩
    · rw [State.getF_putF _ _ _ (by simp [Reg.GNT_L_STAT_FE_CNT]), Nat.zero_mod]
    · refine State.reg_putF_ne _ _ _ _ ?_
      simp only [Reg.GNT_L_STAT_FE_CNT, Reg.GNT_L_STAT, Reg.GNT_L_CFG]
      omega
  case recover =>
    intro s req a ha h hheld hruns hsafe
    have hrun : exec (.recover req a) s = execRecover req a s := rfl
    have hreq : bit (2 ^ 31 + s.getF (Reg.GNT_A_CTRL_MANUAL a)) 31 = true := by
      have hm : s.getF (Reg.GNT_A_CTRL_MANUAL a) < 2 := s.getF_lt (Reg.GNT_A_CTRL_MANUAL a)
      interval_cases s.getF (Reg.GNT_A_CTRL_MANUAL a) <;> rfl
    obtain ⟨hlive, hturn, hword⟩ := h
    rw [hrun, execRecover, whenLive_live hlive, decide_eq_true ha, State.guard_true, State.access_ok _ hturn hword,
      State.wrActCtrl_recovers hreq hheld hruns hsafe]
    refine ⟨_, rfl, ?_⟩
    simp only [State.gntAct_inside, State.gntAct_respond, State.inside_mem, State.respond_mem, State.gntAct_setGntAct_same]
    refine ⟨trivial, ?_, fun k hk => ?_, rfl⟩
    · rw [State.actState, State.getF_inside, State.getF_respond, State.getF_setGntAct]
      refine (s.getF_applyWord_ne _ (by simp [Reg.GNT_A_STAT_STATE]) ?_).trans hheld
      simp only [Reg.GNT_A_STAT_STATE, Reg.GNT_A_STAT, Reg.GNT_A_CTRL]
      omega
    · rw [State.gntAct_setGntAct_ne _ _ hk, State.gntAct_applyWord]
  case manual =>
    intro s req a m ha h
    have hrun : exec (.manual req a m) s = execManual req a m s := rfl
    rw [Does, hrun, execManual, guarded_access ha h, State.wrActCtrl_manual (by cases m <;> rfl)]

end Sys2Proof.Machine
end

section
/-! What the output of an actuator leaves: the value held, and the end of a ramp. -/

namespace Sys2Proof.Machine

/-- The loop that is selected, where one is, in the actuator's status. -/
def State.shownSel (s : State) (a : Nat) : Option Nat → State
  | some m => s.putF (Reg.GNT_A_STAT_SEL a) m
  | none => s

/-- The output `u` of actuator `a` in its registers, before the loops that formed it are preset. -/
def State.heldOut (s : State) (a : Nat) (u : Num) (sel : Option Nat) : State :=
  ((s.shownSel a sel).setGntAct a { (s.shownSel a sel).gntAct a with uPrev := toF32 u, output := some (s.outputNo a) }).putF
    (Reg.GNT_A_OUT_U a) (toF32 u)

/-- The output stands at SAFE_VAL. -/
def State.atSafe (s : State) (a : Nat) (u : Num) : Bool :=
  u.leq (f32 (s.getF (Reg.GNT_A_SAFE_SAFE_VAL a))) && (f32 (s.getF (Reg.GNT_A_SAFE_SAFE_VAL a))).leq u

/-- A ramp that has come to SAFE_VAL is held there. -/
def State.rampEnd (s : State) (a : Nat) (u : Num) (sel : Option Nat) : State :=
  if s.actState a == 3 && s.atSafe a u then (s.heldOut a u sel).putF (Reg.GNT_A_STAT_STATE a) 4 else s.heldOut a u sel

section
variable {s : State} {a : Nat} {u : Num} {sel : Option Nat}

theorem State.outputAct_forms
    (h : s.formOutput a ((s.actLoops a).filter (fun m => (s.gntLoop m).done)) (periodF32 (s.gntAct a).plog2) = some (u, sel)) :
    s.outputAct a = ((s.actLoops a).filter (fun m => (s.gntLoop m).done)).foldl (fun t m => t.presetLoop u m) (s.rampEnd a u sel) := by
  rw [State.outputAct]
  cases sel <;> simp only [h, State.rampEnd, State.heldOut, State.shownSel, State.atSafe, Bool.and_assoc] <;> rfl

theorem State.actState_putF_sel (s : State) (a m : Nat) : (s.putF (Reg.GNT_A_STAT_SEL a) m).actState a = s.actState a :=
  State.getF_putF_word (f := Reg.GNT_A_STAT_SEL a) (g := Reg.GNT_A_STAT_STATE a) _ _ rfl (by simp [Reg.GNT_A_STAT_SEL])
    (by simp [Reg.GNT_A_STAT_STATE]) (by simp [Reg.GNT_A_STAT_SEL]) (by simp [Reg.GNT_A_STAT_SEL, Reg.GNT_A_STAT_STATE])

theorem State.actState_heldOut : (s.heldOut a u sel).actState a = s.actState a := by
  rw [State.heldOut, State.actState, State.getF_putF_other (f := Reg.GNT_A_OUT_U a) (g := Reg.GNT_A_STAT_STATE a) _ _
    (by simp [Reg.GNT_A_OUT_U]) (by simp [Reg.GNT_A_STAT_STATE])
    (by simp only [Reg.GNT_A_OUT_U, Reg.GNT_A_OUT, Reg.GNT_A_STAT_STATE, Reg.GNT_A_STAT]; omega), State.getF_setGntAct]
  cases sel with
  | none => rfl
  | some m => exact s.actState_putF_sel a m

theorem State.out_heldOut : (s.heldOut a u sel).getF (Reg.GNT_A_OUT_U a) = toF32 u % 2 ^ 32 :=
  State.getF_putF _ _ _ (by simp [Reg.GNT_A_OUT_U])

theorem State.gntAct_heldOut : ((s.heldOut a u sel).gntAct a).uPrev = toF32 u ∧ ∀ k, k ≠ a → (s.heldOut a u sel).gntAct k = s.gntAct k := by
  rw [State.heldOut]
  refine ⟨by rw [State.gntAct_putF, State.gntAct_setGntAct_same], fun k hk => ?_⟩
  rw [State.gntAct_putF, State.gntAct_setGntAct_ne _ _ hk]
  cases sel with
  | none => rfl
  | some m => exact s.gntAct_putF ..

theorem State.heldOut_mem : (s.heldOut a u sel).mem = s.mem := by
  rw [State.heldOut, State.putF_mem, State.setGntAct_mem]
  cases sel with
  | none => rfl
  | some m => exact State.putF_mem ..

theorem State.actState_rampEnd :
    (s.rampEnd a u sel).actState a = if s.actState a == 3 && s.atSafe a u then 4 else s.actState a := by
  rw [State.rampEnd]
  split
  · exact State.getF_putF _ _ _ (by simp [Reg.GNT_A_STAT_STATE])
  · exact State.actState_heldOut

theorem State.out_rampEnd : (s.rampEnd a u sel).getF (Reg.GNT_A_OUT_U a) = toF32 u % 2 ^ 32 := by
  rw [State.rampEnd]
  split
  · rw [State.getF_putF_other (f := Reg.GNT_A_STAT_STATE a) (g := Reg.GNT_A_OUT_U a) _ _ (by simp [Reg.GNT_A_STAT_STATE])
      (by simp [Reg.GNT_A_OUT_U]) (by simp only [Reg.GNT_A_OUT_U, Reg.GNT_A_OUT, Reg.GNT_A_STAT_STATE, Reg.GNT_A_STAT]; omega),
      State.out_heldOut]
  · exact State.out_heldOut

theorem State.gntAct_rampEnd (k : Nat) : (s.rampEnd a u sel).gntAct k = (s.heldOut a u sel).gntAct k := by
  rw [State.rampEnd]
  split
  · exact State.gntAct_putF ..
  · rfl

theorem State.rampEnd_mem : (s.rampEnd a u sel).mem = s.mem := by
  rw [State.rampEnd]
  split
  · rw [State.putF_mem, State.heldOut_mem]
  · exact State.heldOut_mem

end

/-! ### Presetting a loop leaves the actuators -/

section preset
variable (s : State) (u : Num) {m : Nat}

theorem State.presetLoop_mem (m : Nat) : (s.presetLoop u m).mem = s.mem := by
  unfold State.presetLoop
  split
  · rfl
  · rw [State.putF_mem]; rfl

theorem State.presetLoop_acts (m : Nat) : (s.presetLoop u m).gnt.acts = s.gnt.acts := by
  unfold State.presetLoop
  split
  · rfl
  · rw [State.putF_gnt]; rfl

theorem State.getF_presetLoop (hm : m < 64) {f : Fld} (hf : f.hi < 32) (h : 0x541000 ≤ f.addr) : (s.presetLoop u m).getF f = s.getF f := by
  unfold State.presetLoop
  split
  · rfl
  · rw [State.getF_putF_other (f := Reg.GNT_L_MON_MON m 1) _ _ (by simp [Reg.GNT_L_MON_MON]) hf
      (by simp only [Reg.GNT_L_MON_MON, Reg.GNT_L_MON]; omega), State.getF_setGntLoop]

end preset

theorem State.lt_of_mem_actLoops {s : State} {a m : Nat} (h : m ∈ (s.actLoops a).filter (fun m => (s.gntLoop m).done)) : m < 64 :=
  List.mem_range.1 (List.mem_filter.1 (List.mem_filter.1 h).1).1

/-- Settles O55: the presets of the loops leave what `rampEnd` put in the actuator's registers. -/
theorem outputsAreHeldAndRampsEnd : Obligations.OutputsAreHeldAndRampsEnd := by
  unfold Obligations.OutputsAreHeldAndRampsEnd
  intro s a u sel ha hform
  obtain ⟨huPrev, hothers⟩ := State.gntAct_heldOut (s := s) (a := a) (u := u) (sel := sel)
  have hfield {f : Fld} (hf : f.hi < 32) (h : 0x541000 ≤ f.addr) : (s.outputAct a).getF f = (s.rampEnd a u sel).getF f := by
    rw [State.outputAct_forms hform]
    exact State.foldl_frame (g := fun t => t.getF f) (fun t m hm => t.getF_presetLoop u (State.lt_of_mem_actLoops hm) hf h) _
  have hact (k : Nat) : (s.outputAct a).gntAct k = (s.heldOut a u sel).gntAct k := by
    rw [State.outputAct_forms hform, ← State.gntAct_rampEnd, State.gntAct,
      State.foldl_frame (g := fun t => t.gnt.acts) (fun t m _ => t.presetLoop_acts u m)]
    rfl
  have hstate : (s.outputAct a).actState a = (s.rampEnd a u sel).actState a :=
    hfield (by simp [Reg.GNT_A_STAT_STATE]) (by simp only [Reg.GNT_A_STAT_STATE, Reg.GNT_A_STAT]; omega)
  refine ⟨?_, ?_, fun hramps => ?_, fun k hk => ?_, ?_⟩
  · rw [hfield (by simp [Reg.GNT_A_OUT_U]) (by simp only [Reg.GNT_A_OUT_U, Reg.GNT_A_OUT]; omega), State.out_rampEnd]
  · rw [hact, huPrev]
  · rw [hstate, State.actState_rampEnd, hramps, beq_self_eq_true, Bool.true_and, State.atSafe]
    split
    next h => simpa using h
    next h => simpa using h
  · rw [hact, hothers k hk]
  · rw [State.outputAct_forms hform, State.foldl_frame (g := State.mem) (fun t m _ => t.presetLoop_mem u m), State.rampEnd_mem]

end Sys2Proof.Machine
end

section
/-! Ethernet, its gates, serial links, encoders and the test port. -/

namespace Sys2Proof.Machine

/-- What touches neither the queue of commands, the pins nor the device's own state is kept whole. -/
theorem State.inside_eq_self {s t : State} (hpending : t.pending = s.pending) (hpins : t.pins = s.pins) (hdev : t.dev = s.dev) :
    s.inside t = t := by
  rw [State.inside_eq, ← hpending, ← hpins, ← hdev, ite_self]

/-! ### Ports -/

theorem State.ethPort_of_eth {s u : State} (h : u.eth = s.eth) (p : Nat) : u.ethPort p = s.ethPort p := by
  rw [State.ethPort, State.ethPort, h]

@[simp] theorem State.ethPort_inside (s t : State) (p : Nat) : (s.inside t).ethPort p = t.ethPort p := State.ethPort_of_eth (by simp) p
@[simp] theorem State.ethPort_respond (s : State) (req : Requester) (n : Nat) (l : List Nat) (p : Nat) :
    (s.respond req n l).ethPort p = s.ethPort p := State.ethPort_of_eth (by simp) p
@[simp] theorem State.ethPort_setEthPort_same (s : State) (p : Nat) (x : EthPort) : (s.setEthPort p x).ethPort p = x :=
  Sparse.get_set_same ..
theorem State.ethPort_setEthPort_ne (s : State) {p q : Nat} (x : EthPort) (h : q ≠ p) :
    (s.setEthPort p x).ethPort q = s.ethPort q := Sparse.get_set_ne _ _ _ h
@[simp] theorem State.getF_setEthPort (s : State) (p : Nat) (x : EthPort) (f : Fld) : (s.setEthPort p x).getF f = s.getF f :=
  State.getF_of_regs_eq rfl

/-! ### What a port sends -/

section transmit
variable {s : State} {p k d : Nat} {f : List Byte} {l : List (List Byte)} {x : EthPort}

/-- What a frame is depends on the registers alone. -/
theorem State.eventFrame_setEthPort : (s.setEthPort p x).eventFrame p f = s.eventFrame p f := by
  have hdom (v : EthView) : (s.setEthPort p x).ptpDomain v f = s.ptpDomain v f := by
    rw [State.ptpDomain, State.ptpDomain, State.getF_setEthPort, State.getF_setEthPort]
  rw [State.eventFrame, State.eventFrame, hdom]

theorem State.oneStep_setEthPort : (s.setEthPort p x).oneStep p f = s.oneStep p f := by
  rw [State.oneStep, State.oneStep, State.eventFrame_setEthPort, State.onF, State.onF, State.getF_setEthPort]

theorem State.egressStamp_setEthPort : (s.setEthPort p x).egressStamp p f = s.egressStamp p f := by
  rw [State.egressStamp, State.egressStamp, State.oneStep_setEthPort, State.eventFrame_setEthPort]
  rfl

/-- The emissions `l` leave the module. -/
def State.sends (s : State) (l : List Emission) : State := { s with sent := s.sent ++ l }

theorem State.sends_emit (s : State) (e : Emission) (l : List Emission) : (s.emit e).sends l = s.sends (e :: l) := by
  simp [State.sends, State.emit]

theorem State.foldl_emit (s : State) (l : List Emission) : l.foldl State.emit s = s.sends l := by
  induction l generalizing s with
  | nil => rw [List.foldl_nil, State.sends, List.append_nil]
  | cons e l ih => rw [List.foldl_cons, ih, State.sends_emit]

/-- Of what is sent from a port, the device and its pins keep nothing. -/
theorem State.inside_sends_setEthPort (m : List Emission) : s.inside ((s.setEthPort p x).sends m) = (s.setEthPort p x).sends m :=
  State.inside_eq_self rfl rfl rfl

theorem State.transmit_cons (hqueue : (s.ethPort p).queue k = f :: l) :
    s.transmit p k = (s.setEthPort p ((s.ethPort p).setQueue k l)).depart p f := by
  rw [State.transmit]
  simp only [hqueue]

theorem State.depart_plain (h : s.oneStep p f = none) :
    s.depart p f = s.sends (.eth p f :: s.egressStamp p f) := by
  rw [State.depart, h]
  exact (State.foldl_emit _ _).trans (State.sends_emit ..)

theorem State.depart_current (h : s.oneStep p f = some d) (htag : (s.epoch d).tag = s.getF (Reg.QTZ_TB_GEN_GEN d)) :
    s.depart p f = s.sends [.eth p (s.stamped d f)] := by
  rw [State.depart, h]
  exact if_pos htag

theorem State.depart_stale (h : s.oneStep p f = some d) (htag : (s.epoch d).tag ≠ s.getF (Reg.QTZ_TB_GEN_GEN d)) :
    s.depart p f = s.dropStale d := by
  rw [State.depart, h]
  exact if_neg htag

theorem exec_ethFrameTransmit (hlive : s.live = true) (hp : p < 9) (hk : k < 8) (hup : s.portUp p = true)
    (hopen : s.gateOpen p k = true) : exec (.ethFrameTransmit p k) s = .next (s.inside (s.transmit p k)) := by
  have hrun : exec (.ethFrameTransmit p k) s = execEthFrameTransmit p k s := rfl
  have hall : (decide (p < 9) && decide (k < 8) && s.portUp p && s.gateOpen p k) = true := by
    rw [decide_eq_true hp, decide_eq_true hk, hup, hopen]; rfl
  rw [hrun, execEthFrameTransmit, whenLive_live hlive, hall, State.guard_true]

end transmit

/-! ### Frames that the device originates -/

section originate
variable {β : Type} {g : State → β}

/-- What no tag and no queue touches is the same after a frame is originated. -/
theorem State.originate_frame (htag : ∀ u r, g (State.rTag u r).2 = g u)
    (hqueue : ∀ u src p pcp frame, g (State.enqueueFrame u src p pcp frame) = g u) (s : State) (k msg f ports : Nat)
    (payload : List Byte) : g (s.originate k msg f ports payload) = g s := by
  have hall (u : State) (src mask pcp : Nat) (frame : List Byte) : g (u.admitAll src mask pcp frame) = g u :=
    State.foldl_frame (g := g) (fun u p _ => hqueue u src p pcp frame) u
  rw [State.originate]
  split
  · rfl
  · dsimp only
    rw [hall]
    split
    · exact htag ..
    · rfl

theorem State.enqueueFrame_mem (s : State) (src p pcp : Nat) (frame : List Byte) : (s.enqueueFrame src p pcp frame).mem = s.mem := by
  rw [State.enqueueFrame]
  split
  · exact State.putF_mem ..
  · split
    · exact State.putF_mem ..
    · rfl

theorem State.enqueueFrame_dev (s : State) (src p pcp : Nat) (frame : List Byte) : (s.enqueueFrame src p pcp frame).dev = s.dev := by
  rw [State.enqueueFrame]
  split
  · exact State.putF_dev ..
  · split
    · exact State.putF_dev ..
    · rfl

theorem State.safeFrame_spec {s : State} (hsafe : s.inSafe = true) (hsent : s.frame.sent54 = false) :
    s.safeFrame.frame.sent54 = true ∧ s.safeFrame.mem = s.mem ∧ s.safeFrame.dev = s.dev := by
  rw [State.safeFrame, hsafe, hsent]
  exact ⟨rfl, State.originate_frame (fun _ _ => rfl) State.enqueueFrame_mem .., State.originate_frame (fun _ _ => rfl) State.enqueueFrame_dev ..⟩

end originate

/-! ### The test port -/

theorem State.tapRun_instr (s : State) (n : Nat) (data : List Bool) : (s.tapRun n data).tap.instr = s.tapInstr n := rfl

theorem State.tapRun_length (s : State) (n : Nat) (data : List Bool) : (s.tapRun n data).tap.out.length = data.length := by
  have hout (l : List Bool) (h : data.length ≤ l.length) : (l.take data.length).length = data.length := by
    rw [List.length_take, Nat.min_eq_left h]
  have hcells (g : Nat → Bool) : ((List.range data.length).map g).length = data.length := by
    rw [List.length_map, List.length_range]
  rw [State.tapRun]
  dsimp only
  split
  · exact hout _ (by simp)
  · exact hcells _
  · exact hcells _
  · exact hout _ (by simp)

/-- Settles O56: the plain frame, the stamped one and the stale one are the three ways a frame departs. -/
theorem ethernetAndSerialCommandsComplete : Obligations.EthernetAndSerialCommandsComplete := by
  unfold Obligations.EthernetAndSerialCommandsComplete
  refine ⟨?receive, ?transmit, ?gates, ?swap, ?down, ?up, ?recovery, ?push, ?sent, ?edge, ?tap, ?safe⟩
  case receive =>
    intro s p frame hlive hp hup
    have hall : (decide (p < 9) && s.portUp p) = true := by rw [decide_eq_true hp, hup]; rfl
    constructor
    · have hrun : exec (.ethFrameReceive p frame false) s = execEthFrameReceive p frame false s := rfl
      rw [hrun, execEthFrameReceive, whenLive_live hlive, hall, State.guard_true]
      refine ⟨_, rfl, ?_⟩
      rw [if_pos (by rfl)]
      simp only [State.getF_inside, State.inside_eth, State.inside_ing, State.inside_mem]
      refine ⟨State.getF_satInc _ _ _ (by simp [Reg.ETH_P_CNT1_FCS]), ?_, ?_, ?_⟩
      · exact State.putF_eth ..
      · exact State.putF_ing ..
      · exact State.putF_mem ..
    · intro hlen
      have hrun : exec (.ethFrameReceive p frame true) s = execEthFrameReceive p frame true s := rfl
      rw [Does, hrun, execEthFrameReceive, whenLive_live hlive, hall, State.guard_true, if_neg (by decide), if_neg (Nat.not_lt.2 hlen)]
  case transmit =>
    intro s p k f l hlive hp hk hup hopen hqueue
    have hrun := exec_ethFrameTransmit hlive hp hk hup hopen
    rw [State.transmit_cons hqueue] at hrun
    refine ⟨fun hplain => ?_, fun d hone htag => ?_, fun d hone htag => ?_⟩
    · rw [hrun, State.depart_plain (State.oneStep_setEthPort.trans hplain), State.egressStamp_setEthPort, State.inside_sends_setEthPort]
      exact ⟨_, rfl, State.ethPort_setEthPort_same .., fun q hq => State.ethPort_setEthPort_ne _ _ hq, rfl, rfl⟩
    · rw [hrun, State.depart_current (State.oneStep_setEthPort.trans hone) (htag.trans (State.getF_setEthPort ..).symm),
        State.inside_sends_setEthPort]
      exact ⟨_, rfl, State.ethPort_setEthPort_same .., rfl, rfl⟩
    · rw [Does, hrun, State.depart_stale (State.oneStep_setEthPort.trans hone) (fun h => htag (h.trans (State.getF_setEthPort ..)))]
  case gates =>
    intro s p hlive hp hrunning
    have hall : (decide (p < 9) && s.isRunning 0x580) = true := by rw [decide_eq_true hp, hrunning]; rfl
    constructor
    · have hrun : exec (.gclCycleStart p) s = execGclCycleStart p s := rfl
      rw [hrun, execGclCycleStart, whenLive_live hlive, hall, State.guard_true]
      refine ⟨_, rfl, ?_⟩
      rw [State.gateCycle, State.ethPort_inside, State.ethPort_setEthPort_same, State.inside_mem]
      refine ⟨rfl, rfl, fun b hb hswap => ?_, ?_⟩
      · rw [State.getF_inside, State.getF_setEthPort, hswap]
        exact (State.getF_putF _ _ _ (by simp [Reg.ETH_P_STAT_GCL_BANK])).trans (Nat.mod_eq_of_lt hb)
      · cases (s.ethPort p).swap with
        | none => rfl
        | some b => exact State.putF_mem ..
    · have hrun : exec (.gclEntryExpiry p) s = execGclEntryExpiry p s := rfl
      rw [hrun, execGclEntryExpiry, whenLive_live hlive, hall, State.guard_true]
      refine ⟨_, rfl, ?_⟩
      rw [State.ethPort_inside, State.ethPort_setEthPort_same, State.inside_regs, State.inside_mem]
      exact ⟨rfl, rfl, rfl⟩
  case swap =>
    intro s req p bank hp hbank h
    have hrun : exec (.gclSwap req p bank) s = execGclSwap req p bank s := rfl
    rw [hrun, execGclSwap, Nat.mod_eq_of_lt hbank, guarded_access hp h]
    refine ⟨_, rfl, ?_⟩
    have hwr : s.wrGcl p (2 + bank) = s.setEthPort p { s.ethPort p with swap := some bank } := by
      interval_cases bank <;> rfl
    rw [hwr, State.ethPort_inside, State.ethPort_respond, State.ethPort_setEthPort_same, State.inside_regs, State.respond_regs,
      State.inside_mem, State.respond_mem]
    exact ⟨rfl, rfl, rfl, rfl⟩
  case down =>
    intro s p hlive hp hup
    have hrun : exec (.ethLinkDown p) s = execEthLinkDown p s := rfl
    have hall : (decide (p < 8) && s.onF (Reg.ETH_P_STAT_UP p)) = true := by rw [decide_eq_true hp, hup]; rfl
    rw [Does, hrun, execEthLinkDown, whenLive_live hlive, hall, State.guard_true, State.portDown]
  case up =>
    intro s p hlive hp hrunning hmode
    have hrun : exec (.ethLinkUp p) s = execEthLinkUp p s := rfl
    have hall : (decide (p < 8) && s.isRunning 0x580 && s.onF (Reg.ETH_P_CFG_MODE p)) = true := by
      rw [decide_eq_true hp, hrunning, hmode]; rfl
    rw [hrun, execEthLinkUp, whenLive_live hlive, hall, State.guard_true]
    refine ⟨_, rfl, ?_⟩
    rw [State.onF_inside, State.inside_eth, State.putF_eth, State.inside_mem, State.putF_mem, State.onF,
      State.getF_putF _ _ _ (by simp [Reg.ETH_P_STAT_UP])]
    exact ⟨rfl, rfl, rfl⟩
  case recovery =>
    intro s r hlive hr
    have hrun : exec (.recoveryReset r) s = execRecoveryReset r s := rfl
    rw [hrun, execRecoveryReset, whenLive_live hlive, decide_eq_true hr, State.guard_true]
    refine ⟨_, rfl, ?_⟩
    simp only [State.recFn, State.inside_eth, State.inside_regs, State.inside_mem]
    exact ⟨Sparse.get_set_same (fun _ => {}) s.eth.recov r {}, fun k hk => Sparse.get_set_ne (fun _ => {}) s.eth.recov {} hk, rfl, rfl⟩
  case push =>
    intro s req k b hk hb h
    have hrun : exec (.uartTxPush req k b) s = execUartTxPush req k b s := rfl
    rw [hrun, execUartTxPush, Nat.mod_eq_of_lt hb, guarded_access hk h]
    refine ⟨_, rfl, ?_⟩
    simp only [State.inside_regs, State.respond_regs, State.inside_mem, State.respond_mem, State.inside_iox, State.respond_iox]
    rw [State.wrUartTx, Nat.mod_eq_of_lt hb]
    split
    · exact ⟨rfl, rfl, Sparse.get_set_same ..⟩
    · exact ⟨rfl, rfl, rfl⟩
  case sent =>
    intro s k b l hlive hk hrunning hfifo
    have hrun : exec (.uartTxByteSent k) s = execUartTxByteSent k s := rfl
    have hall : (decide (k < 2) && s.isRunning 0x5F0) = true := by rw [decide_eq_true hk, hrunning]; rfl
    rw [hrun, execUartTxByteSent, whenLive_live hlive, hall, State.guard_true, State.uartSend, hfifo]
    refine ⟨_, rfl, ?_⟩
    rw [State.inside_iox, State.inside_regs, State.inside_mem]
    exact ⟨Sparse.get_set_same .., rfl, rfl⟩
  case edge =>
    intro s k a b z hlive hk
    have hrun : exec (.encoderEdge k a b z) s = execEncoderEdge k a b z s := rfl
    rw [Does, hrun, execEncoderEdge, whenLive_live hlive, decide_eq_true hk, State.guard_true]
  case tap =>
    intro s n data hpower
    have hrun : exec (.tapInstruction n data) s = execTapInstruction n data s := rfl
    rw [hrun, execTapInstruction, whenPowered_on hpower, State.inside_eq_self (s := s) (t := s.tapRun n data) rfl rfl rfl]
    exact ⟨_, rfl, State.tapRun_instr .., State.tapRun_length .., rfl, rfl, rfl⟩
  case safe =>
    intro s hlive hsafe hsent
    have hrun : exec .safeStateWprFrame s = execSafeStateWprFrame s := rfl
    obtain ⟨hframe, hmem, hdev⟩ := State.safeFrame_spec hsafe hsent
    rw [hrun, execSafeStateWprFrame, whenLive_live hlive]
    refine ⟨_, rfl, ?_⟩
    rw [State.inside_frame, State.inside_mem]
    refine ⟨hframe, hmem, ?_⟩
    rw [State.inside_eq, hdev, ite_self]

end Sys2Proof.Machine
end

section
/-! CAN controllers, the PCIe endpoint, and the security controller's registers. -/

namespace Sys2Proof.Machine

/-! ### CAN controllers -/

theorem State.canCtl_of_can {s u : State} (h : u.can = s.can) (k : Nat) : u.canCtl k = s.canCtl k := by
  rw [State.canCtl, State.canCtl, h]

@[simp] theorem State.canCtl_inside (s t : State) (k : Nat) : (s.inside t).canCtl k = t.canCtl k := State.canCtl_of_can (by simp) k
@[simp] theorem State.canCtl_respond (s : State) (req : Requester) (n : Nat) (l : List Nat) (k : Nat) :
    (s.respond req n l).canCtl k = s.canCtl k := State.canCtl_of_can (by simp) k
@[simp] theorem State.canCtl_setCanCtl_same (s : State) (k : Nat) (x : CanCtl) : (s.setCanCtl k x).canCtl k = x := Sparse.get_set_same ..
theorem State.canCtl_setCanCtl_ne (s : State) {k j : Nat} (x : CanCtl) (h : j ≠ k) : (s.setCanCtl k x).canCtl j = s.canCtl j :=
  Sparse.get_set_ne _ _ _ h

section can
variable {s : State} {k : Nat}

theorem State.canReceive_runs {f : CanFrame} (hruns : s.canRuns k = true) (hbus : (s.canCtl k).busOff = false)
    (hfmt : f.fmt ≤ s.getF (Reg.CAN_CFG_MODE k)) : s.canReceive k f =
      if (s.canStreams k f).isEmpty then s.satInc (Reg.CAN_CNT_NOMATCH k)
      else (s.canStreams k f).foldl (fun u i => u.arrive i f.data) s := by
  have hall : (s.canRuns k && !(s.canCtl k).busOff && decide (f.fmt ≤ s.getF (Reg.CAN_CFG_MODE k))) = true := by
    rw [hruns, hbus, decide_eq_true hfmt]; rfl
  rw [State.canReceive, hall]
  rfl

/-- A frame that is sent leaves the pending frames; the mailbox shows it when the frame was its own. -/
theorem State.canSent_can {x : CanTx} (hfirst : canFirst (s.canCtl k).pending = some x) :
    (s.canSent k).can = (s.setCanCtl k { s.canCtl k with pending := (s.canCtl k).pending.filter (fun y => y.src != x.src) }).can ∧
      (s.canSent k).mem = s.mem := by
  rw [State.canSent, hfirst]
  dsimp only
  split
  · exact ⟨State.putF_can .., State.putF_mem ..⟩
  · exact ⟨rfl, rfl⟩

theorem exec_canFrameReceive {f : CanFrame} (hlive : s.live = true) (hk : k < 6) :
    exec (.canFrameReceive k f) s = .next (s.inside (s.canReceive k f)) := by
  have hrun : exec (.canFrameReceive k f) s = execCanFrameReceive k f s := rfl
  rw [hrun, execCanFrameReceive, whenLive_live hlive, decide_eq_true hk, State.guard_true]

end can

/-! ### The endpoint -/

theorem bits_of_lt {w hi : Nat} (h : w < 2 ^ (hi + 1)) : bits w hi 0 = w := by
  rw [bits, Nat.shiftRight_zero, Nat.sub_zero, Nat.mod_eq_of_lt h]

theorem State.wrMsix_vector (s : State) (k v : Nat) :
    s.wrMsix (Reg.PCIE_MSIX k + 12) v = (s.applyWord (Reg.PCIE_MSIX k + 12) v).flushVector k := by
  have hvector : (Reg.PCIE_MSIX k + 12 - Reg.PCIE_MSIX 0) / 16 = k := by
    simp only [Reg.PCIE_MSIX]
    omega
  rw [State.wrMsix, hvector]

/-! ### The security controller -/

section security
variable {s : State} {a w b : Nat} {f : Fld}

/-- What the security controller shows of lifecycle, keys and leaves stands in three words. -/
theorem State.reg_showSec_ne (s : State) (hlife : a ≠ Reg.SEC_LIFE) (hkeys : a ≠ Reg.SEC_KEYS) (hlms : a ≠ Reg.SEC_LMS) :
    s.showSec.reg a = s.reg a := by
  have h {f : Fld} (hhi : f.hi < 32) (hf : a ≠ f.addr) (u : State) (v : Nat) : (u.putF f v).reg a = u.reg a :=
    State.reg_putF_ne _ _ _ _ (by omega)
  rw [State.showSec, h (by decide) hlms, h (by decide) hkeys, h (by decide) hkeys, h (by decide) hlife, h (by decide) hlife,
    h (by decide) hlife]

theorem State.getF_showSec (s : State) (hf : f.hi < 32) (hlife : f.addr ≠ Reg.SEC_LIFE) (hkeys : f.addr ≠ Reg.SEC_KEYS)
    (hlms : f.addr ≠ Reg.SEC_LMS) : s.showSec.getF f = s.getF f := State.getF_of_reg_eq hf (s.reg_showSec_ne hlife hkeys hlms)

theorem State.showSec_mem (s : State) : s.showSec.mem = s.mem := State.of_sansShown (g := State.mem) (fun _ => rfl) s.showSec_sansShown

/-- The word and the bits of a SEC_FPGM write. -/
theorem bits_fpgm (hw : w < 512) (hb : b < 2 ^ 32) : bits (w * 2 ^ 32 + b) 40 32 = w ∧ bits (w * 2 ^ 32 + b) 31 0 = b := by
  simp only [bits, Nat.shiftRight_eq_div_pow]
  omega

theorem State.wrFpgm_starts (hw : w < 512) (hb : b < 2 ^ 32) (hallowed : s.fuseAllowed true w b = true)
    (hcheck : s.fuseCheck w b = true) :
    s.wrFpgm (w * 2 ^ 32 + b) = ({ s with sec := { s.sec with prog := some (w, b) } } : State).secBusy := by
  obtain ⟨hword, hbits⟩ := bits_fpgm hw hb
  simp only [State.wrFpgm, hword, hbits, hallowed, hcheck]
  rfl

/-- No fuse write is in hand. -/
def State.noProg (s : State) : State := ({ s with sec := { s.sec with prog := none } } : State).secBusy

theorem State.fpgmDone_good (h : s.sec.prog = some (w, b)) : s.fpgmDone true =
    (((s.noProg.burn w b).putF Reg.SEC_FPGM_STAT_RESULT 0).wrapInc Reg.SEC_FPGM_STAT_WORDS).showSec := by
  rw [State.fpgmDone, h]
  rfl

theorem State.fpgmDone_good_sec (h : s.sec.prog = some (w, b)) : (s.fpgmDone true).sec = (s.noProg.burn w b).sec := by
  rw [State.fpgmDone_good h, State.showSec_sec, State.wrapInc, State.putF_sec, State.putF_sec]

end security

/-- Settles O57. -/
theorem canPcieAndSecurityCommandsComplete : Obligations.CanPcieAndSecurityCommandsComplete := by
  unfold Obligations.CanPcieAndSecurityCommandsComplete
  refine ⟨?receive, ?sent, ?busOff, ?recovered, ?recover, ?mailbox, ?passive, ?link, ?hotReset, ?tlp, ?eoi, ?unmask, ?fpgm,
    ?fpgmDone, ?keyOff, ?debug, ?tight⟩
  case receive =>
    intro s k f hlive hk hruns hbus hfmt
    rw [Does, exec_canFrameReceive hlive hk, State.canReceive_runs hruns hbus hfmt]
    refine ⟨fun hmatch => ?_, fun hnone => ⟨_, rfl, ?_⟩⟩
    · rw [if_neg (by simpa using hmatch)]
    · rw [hnone, if_pos (by rfl), State.getF_inside, State.inside_can, State.inside_ing, State.inside_mem]
      refine ⟨State.getF_satInc _ _ _ (by simp [Reg.CAN_CNT_NOMATCH]), ?_, ?_, ?_⟩
      · exact State.putF_can ..
      · exact State.putF_ing ..
      · exact State.putF_mem ..
  case sent =>
    intro s k x hlive hk hruns hbus hfirst
    have hrun : exec (.canFrameSent k) s = execCanFrameSent k s := rfl
    have hall : (decide (k < 6) && s.canRuns k && !(s.canCtl k).busOff) = true := by rw [decide_eq_true hk, hruns, hbus]; rfl
    obtain ⟨hcan, hmem⟩ := State.canSent_can hfirst
    rw [hrun, execCanFrameSent, whenLive_live hlive, hall, State.guard_true]
    refine ⟨_, rfl, ?_⟩
    simp only [State.canCtl_inside, State.canCtl_of_can hcan, State.canCtl_setCanCtl_same, State.inside_mem, hmem]
    exact ⟨trivial, fun j hj => State.canCtl_setCanCtl_ne _ _ hj, trivial⟩
  case busOff =>
    intro s k hlive hk hruns hbus
    have hrun : exec (.canBusOff k) s = execCanBusOff k s := rfl
    have hall : (decide (k < 6) && s.canRuns k && !(s.canCtl k).busOff) = true := by rw [decide_eq_true hk, hruns, hbus]; rfl
    rw [Does, hrun, execCanBusOff, whenLive_live hlive, hall, State.guard_true]
  case recovered =>
    intro s k hlive hk hbus hrec
    have hrun : exec (.canBusOffRecovery k) s = execCanBusOffRecovery k s := rfl
    have hall : (decide (k < 6) && (s.canCtl k).busOff && (s.canCtl k).recovering) = true := by
      rw [decide_eq_true hk, hbus, hrec]; rfl
    rw [hrun, execCanBusOffRecovery, whenLive_live hlive, hall, State.guard_true]
    refine ⟨_, rfl, ?_⟩
    rw [State.canCtl_inside, State.canCtl_setCanCtl_same, State.inside_regs, State.inside_mem]
    exact ⟨rfl, rfl, rfl⟩
  case recover =>
    intro s req k hk h hbus
    have hrun : exec (.canRecover req k) s = execCanRecover req k s := rfl
    have hwr : s.wrCanCtrl k 1 = s.setCanCtl k { s.canCtl k with recovering := true } := by
      rw [State.wrCanCtrl, hbus]; rfl
    rw [hrun, execCanRecover, guarded_access hk h, hwr]
    refine ⟨_, rfl, ?_⟩
    rw [State.canCtl_inside, State.canCtl_respond, State.canCtl_setCanCtl_same, State.inside_regs, State.respond_regs]
    exact ⟨rfl, rfl⟩
  case mailbox =>
    intro s req k v w hk hw h
    have hrun : exec (.canMailboxGo req k v) s = execCanMailboxGo req k v s := rfl
    rw [Does, hrun, execCanMailboxGo, ← hw, guarded_access hk h]
  case passive =>
    intro s k hlive hk hruns
    have hrun : exec (.canErrorPassive k) s = execCanErrorPassive k s := rfl
    have hall : (decide (k < 6) && s.canRuns k) = true := by rw [decide_eq_true hk, hruns]; rfl
    rw [hrun, execCanErrorPassive, whenLive_live hlive, hall, State.guard_true]
    refine ⟨_, rfl, ?_⟩
    rw [State.canCtl_inside, State.canCtl_setCanCtl_same, State.inside_regs, State.inside_mem]
    exact ⟨rfl, rfl, rfl⟩
  case link =>
    intro s up gen width hlive hmay _
    have hrun : exec (.pcieLinkChange up gen width) s = execPcieLinkChange up gen width s := rfl
    have hall : (!up || s.isRunning 0x5C0) = true := by
      rcases hmay with rfl | hrunning
      · rfl
      · rw [hrunning, Bool.or_true]
    rw [Does, hrun, execPcieLinkChange, whenLive_live hlive, hall, State.guard_true]
  case hotReset =>
    intro s d hlive
    have hrun : exec (.pcieHotReset d) s = execPcieHotReset d s := rfl
    have hreg (a : Nat) : s.resetEndpoint.reg a = if 0x5C1400 ≤ a ∧ a < 0x5C1800 then resetWord a else s.reg a := by
      refine (Sparse.get_keep resetWord (fun a => !(decide (0x5C1400 ≤ a ∧ a < 0x5C1800))) s.regs a).trans ?_
      by_cases h : 0x5C1400 ≤ a ∧ a < 0x5C1800
      · rw [if_pos h, decide_eq_true h]; rfl
      · rw [if_neg h, decide_eq_false h]; rfl
    have hself : s.inside { s.resetEndpoint with pcie := { s.pcie with d3hot := d } } =
      { s.resetEndpoint with pcie := { s.pcie with d3hot := d } } := State.inside_eq_self rfl rfl rfl
    rw [hrun, execPcieHotReset, whenLive_live hlive, hself]
    refine ⟨_, rfl, rfl, fun a ha => ?_, fun a hlow hhigh => ?_, rfl, rfl⟩
    · exact (hreg a).trans (if_neg (by omega))
    · exact (hreg a).trans (if_pos ⟨hlow, hhigh⟩)
  case tlp =>
    intro s hlive
    have hrun (kind : TlpError) : exec (.pcieTlpError kind) s = execPcieTlpError kind s := rfl
    simp only [Does, hrun, execPcieTlpError, whenLive_live hlive]
    exact ⟨trivial, trivial, trivial⟩
  case eoi =>
    intro s req k hk h hlevel
    have hrun : exec (.pcieEoi req k) s = execPcieEoi req k s := rfl
    have hwr : s.wrEoi k = s.vectorRise k := by rw [State.wrEoi, bits_of_lt (hi := 5) hk, if_pos hlevel]
    rw [Does, hrun, execPcieEoi, Nat.mod_eq_of_lt hk, access_does h, hwr]
  case unmask =>
    intro s req k hk h
    have hrun : exec (.msixUnmask req k) s = execMsixUnmask req k s := rfl
    rw [Does, hrun, execMsixUnmask, guarded_access hk h, State.wrMsix_vector]
  case fpgm =>
    intro s req w b hw hb h hallowed hcheck
    have hrun : exec (.secFpgm req w b) s = execSecFpgm req w b s := rfl
    rw [hrun, execSecFpgm, Nat.mod_eq_of_lt hw, Nat.mod_eq_of_lt hb, accessWide_does h, State.wrFpgm_starts hw hb hallowed hcheck]
    refine ⟨_, rfl, ?_⟩
    rw [State.inside_sec, State.respond_sec, State.secBusy_sec, State.inside_mem, State.respond_mem, State.secBusy_mem]
    exact ⟨rfl, rfl, rfl⟩
  case fpgmDone =>
    intro s w b hlive hprog hw hb
    have hrun : exec (.fpgmDone true) s = execFpgmDone true s := rfl
    rw [hrun, execFpgmDone, whenLive_live hlive]
    refine ⟨_, rfl, ?_⟩
    rw [State.fuseLive, State.inside_sec, State.fpgmDone_good_sec hprog, ← State.fuseLive, State.fuseLive_burn, if_pos rfl,
      Nat.mod_eq_of_lt hb, State.getF_inside, State.inside_mem, State.fpgmDone_good hprog]
    refine ⟨rfl, ?_, rfl, ?_⟩
    · rw [State.getF_showSec _ (by decide) (by decide) (by decide) (by decide), State.wrapInc,
        State.getF_putF_word (f := Reg.SEC_FPGM_STAT_WORDS) (g := Reg.SEC_FPGM_STAT_RESULT) _ _ rfl (by decide) (by decide) (by decide)
          (by decide), State.getF_putF _ _ _ (by decide), Nat.zero_mod]
    · rw [State.showSec_mem, State.wrapInc, State.putF_mem, State.putF_mem]
      rfl
  case keyOff =>
    intro s req v hv h
    have hrun : exec (.secKeyOff req v) s = execSecKeyOff req v s := rfl
    rw [Does, hrun, execSecKeyOff, Nat.mod_eq_of_lt hv, access_does h, State.wrKeyOff]
  case debug =>
    intro s req level hlevel h
    have hrun : exec (.secDebugSet req level) s = execSecDebugSet req level s := rfl
    have hmax : max (s.getF Reg.SEC_DEBUG_SET_LEVEL) level < 4 := max_lt (s.getF_lt Reg.SEC_DEBUG_SET_LEVEL) hlevel
    rw [hrun, execSecDebugSet, Nat.mod_eq_of_lt hlevel, access_does h, State.wrDebugSet, bits_of_lt (hi := 1) hlevel]
    refine ⟨_, rfl, ?_⟩
    rw [State.getF_inside, State.getF_respond, State.getF_showSec _ (by decide) (by decide) (by decide) (by decide),
      State.getF_putF _ _ _ (by decide), State.inside_mem, State.respond_mem, State.showSec_mem, State.putF_mem, State.inside_sec,
      State.respond_sec, State.showSec_sec, State.putF_sec]
    exact ⟨Nat.mod_eq_of_lt hmax, rfl, rfl⟩
  case tight =>
    intro s req r v hr hv h
    have hrun : exec (.secRgnTight req r v) s = execSecRgnTight req r v s := rfl
    rw [Does, hrun, execSecRgnTight, Nat.mod_eq_of_lt hv, guarded_access hr h]

end Sys2Proof.Machine
end

section
/-! The Odilo link: training, flits, beacons and losses. -/

namespace Sys2Proof.Machine

section
variable {s : State} {i : Nat}

/-- A flit that arrives on a port that is up ends the port's replays. -/
theorem State.flit_up {f : State → State} (hi : i < 2) (hup : s.odlUp i = true) : s.flit i f = f (s.flitGood i) := by
  have hall : (decide (i < 2) && s.odlUp i) = true := by rw [decide_eq_true hi, hup]; rfl
  rw [State.flit, hall, State.guard_true]

theorem flit_does {f : State → State} (hlive : s.live = true) (hi : i < 2) (hup : s.odlUp i = true) :
    whenLive (fun s => s.flit i f) s = .next (s.inside (f (s.flitGood i))) := by
  rw [whenLive_live hlive, State.flit_up hi hup]

/-- A flit for this module is served, one for another passed on. -/
theorem flit_here {f g : State → State} {dst : Nat} (hlive : s.live = true) (hi : i < 2) (hup : s.odlUp i = true)
    (hdst : dst = s.pins.cascPos) :
    whenLive (fun s => s.flit i (fun s => if dst = s.pins.cascPos then f s else g s)) s = .next (s.inside (f (s.flitGood i))) := by
  rw [flit_does hlive hi hup, if_pos (by exact hdst)]

theorem flit_onward {f g : State → State} {dst : Nat} (hlive : s.live = true) (hi : i < 2) (hup : s.odlUp i = true)
    (hdst : dst ≠ s.pins.cascPos) :
    whenLive (fun s => s.flit i (fun s => if dst = s.pins.cascPos then f s else g s)) s = .next (s.inside (g (s.flitGood i))) := by
  rw [flit_does hlive hi hup, if_neg (by exact hdst)]

theorem port_does {f : State → State} (hlive : s.live = true) (hi : i < 2) (hup : s.odlUp i = true) :
    whenLive (fun s => s.guard (decide (i < 2) && s.odlUp i) f) s = .next (s.inside (f s)) :=
  guard_does (c := fun s => decide (i < 2) && s.odlUp i) hlive (by rw [decide_eq_true hi, hup]; rfl)

theorem State.beginTraining_idle (hrunning : s.isRunning (odlPage i) = true) (hdown : s.onF (Reg.ODL_STAT_UP i) = false)
    (hidle : i ∉ s.odl.training) : s.beginTraining i = { s with odl := { s.odl with training := s.odl.training ++ [i] } } := by
  have hnot : s.odl.training.contains i = false := by simpa using hidle
  rw [State.beginTraining, hrunning, hdown, hnot]
  rfl

/-- A port that may train is in training after it is asked to. -/
theorem State.beginTraining_spec (hrunning : s.isRunning (odlPage i) = true) (hdown : s.onF (Reg.ODL_STAT_UP i) = false) :
    i ∈ (s.beginTraining i).odl.training ∧ (s.beginTraining i).regs = s.regs ∧ (s.beginTraining i).mem = s.mem := by
  by_cases hin : i ∈ s.odl.training
  · have hself : s.beginTraining i = s := by
      rw [State.beginTraining, List.contains_iff_mem.2 hin, Bool.not_true, Bool.and_false]
      rfl
    rw [hself]
    exact ⟨hin, rfl, rfl⟩
  · rw [State.beginTraining_idle hrunning hdown hin]
    exact ⟨List.mem_append_right _ (List.mem_singleton_self i), rfl, rfl⟩

end

/-- Settles O58: each flit by whether its CRC holds and whether it is for this module. -/
theorem odiloCommandsComplete : Obligations.OdiloCommandsComplete := by
  unfold Obligations.OdiloCommandsComplete
  refine ⟨?training, ?requests, ?answers, ?onward, ?time, ?beacon, ?leave, ?errors, ?miss, ?send, ?timer, ?retrain⟩
  case training =>
    intro s i peer hlive hi hin
    have hrun : exec (.odlTraining i peer) s = execOdlTraining i peer s := rfl
    have hall : (decide (i < 2) && s.odl.training.contains i) = true := by rw [decide_eq_true hi, List.contains_iff_mem.2 hin]; rfl
    rw [Does, hrun, execOdlTraining, whenLive_live hlive, hall, State.guard_true]
  case requests =>
    intro s i r data hlive hi hup
    have hread : exec (.odlRdReq i r) s = execOdlRdReq i r s := rfl
    have hwrite : exec (.odlWr i r data) s = execOdlWr i r data s := rfl
    simp only [Does, hread, hwrite, execOdlRdReq, execOdlWr]
    refine ⟨fun hcrc => ?_, fun hcrc hdst => ?_, fun hcrc hdst => ?_⟩
    · simp only [hcrc, Bool.not_false, if_true]
      exact ⟨port_does hlive hi hup, port_does hlive hi hup⟩
    · simp only [hcrc, Bool.not_true, Bool.false_eq_true, if_false]
      exact ⟨flit_here hlive hi hup hdst, flit_here hlive hi hup hdst⟩
    · simp only [hcrc, Bool.not_true, Bool.false_eq_true, if_false]
      exact ⟨flit_onward hlive hi hup hdst, flit_onward hlive hi hup hdst⟩
  case answers =>
    intro s i src tag data err mask hlive hi hup
    refine ⟨flit_here hlive hi hup rfl, flit_here hlive hi hup rfl, _, flit_here hlive hi hup rfl, ?_⟩
    rw [State.inside_odl, State.inside_mem]
    refine ⟨?_, rfl⟩
    rw [Sparse.get_set_same]
    exact List.mem_append_right _ (List.mem_singleton_self _)
  case onward =>
    intro s i src dst tag data err mask hlive hi hup hdst
    exact ⟨flit_onward hlive hi hup hdst, flit_onward hlive hi hup hdst, flit_onward hlive hi hup hdst⟩
  case time => exact fun s i time rate src hlive hi hup => flit_does hlive hi hup
  case beacon => exact fun s i b hlive hi hup => flit_does hlive hi hup
  case leave =>
    intro s i p hlive hi hup hp hother
    have hrun : exec (.odlLeave i p) s = execOdlLeave i p s := rfl
    have hall : (decide (p < 4) && p != (s.flitGood i).pins.cascPos) = true := by
      rw [decide_eq_true hp]; exact bne_iff_ne.2 hother
    rw [Does, hrun, execOdlLeave, flit_does hlive hi hup, hall, State.guard_true]
  case errors => exact fun s i hlive hi hup => ⟨port_does hlive hi hup, port_does hlive hi hup⟩
  case miss =>
    intro s p hlive hp hother hheard hmissed
    have hrun : exec (.beaconMiss p) s = execBeaconMiss p s := rfl
    have hall : (decide (p < 4) && p != s.pins.cascPos && !(s.odlPos p).heard &&
        decide (s.getF (Reg.ODL_CFG_BEACON_MISS ((s.routePort p).getD 0)) ≤ (s.odlPos p).missed)) = true := by
      rw [decide_eq_true hp, bne_iff_ne.2 hother, hheard, decide_eq_true hmissed]; rfl
    rw [Does, hrun, execBeaconMiss, whenLive_live hlive]
    dsimp only
    rw [hall, State.guard_true]
  case send => exact fun s hlive => whenLive_live hlive
  case timer =>
    intro s i hlive hi hrunning hdown hidle
    have hrun : exec (.odlRetrainTimer i) s = execOdlRetrainTimer i s := rfl
    rw [hrun, execOdlRetrainTimer, whenLive_live hlive, decide_eq_true hi, State.guard_true]
    refine ⟨_, rfl, ?_⟩
    rw [State.inside_odl, State.inside_regs, State.inside_mem]
    exact State.beginTraining_spec hrunning hdown
  case retrain =>
    intro s req i hi h hrunning hdown
    have hrun : exec (.odlRetrain req i) s = execOdlRetrain req i s := rfl
    have hwr : s.wrRetrain i 1 = s.beginTraining i := rfl
    rw [hrun, execOdlRetrain, guarded_access hi h, hwr]
    refine ⟨_, rfl, ?_⟩
    rw [State.inside_odl, State.respond_odl, State.inside_regs, State.respond_regs, State.inside_mem, State.respond_mem]
    exact State.beginTraining_spec hrunning hdown

end Sys2Proof.Machine
end

section
/-! Pumice: packets, builds, and jobs. -/

namespace Sys2Proof.Machine

/-! ### Builds -/

section builds
variable {s : State} {f : PumFrame}

theorem exec_buildStart (hlive : s.live = true) (hnext : s.nextBuild = some f) (hheld : s.egoHeld f = true) :
    exec .buildStart s = .next (s.inside (s.startBuild f false)) := by
  have hrun : exec .buildStart s = execBuildStart s := rfl
  rw [hrun, execBuildStart, whenLive_live hlive, hnext]
  simp only [hheld, if_true]

theorem exec_egoWaitExpiry (hlive : s.live = true) (hnext : s.nextBuild = some f) (hheld : s.egoHeld f = false) :
    exec .egoWaitExpiry s = .next (s.inside ((s.startBuild f true).raise FS.PUM_EGO)) := by
  have hrun : exec .egoWaitExpiry s = execEgoWaitExpiry s := rfl
  rw [hrun, execEgoWaitExpiry, whenLive_live hlive, hnext]
  simp only [hheld, Bool.false_eq_true, if_false]

end builds

/-! ### Jobs -/

section jobs
variable {s : State} {i r : Nat}

theorem State.takePacket_bad {packet : List Byte} (k tcap : Nat) (h : packetOk packet = false) :
    s.takePacket k packet tcap = s.badPacket.raise FS.PUM_PKT := by
  rw [State.takePacket, h]
  rfl

/-- A job that is ready and meets no error runs on its unit. -/
theorem State.runJob_ready {j : PumJob} {b : PumBuilt} {t : Nat} {work : State → PumJob → PumBuilt → PumJob × State}
    (hready : s.jobReady i t = some j) (herror : s.jobRunError j = 0) (hbuilt : s.builtOf j = some b) :
    s.runJob i t work = (work s j b).2.setJobs ((work s j b).2.pum.jobs.set i { (work s j b).1 with ran := true }) := by
  rw [State.runJob, hready]
  dsimp only
  rw [herror, hbuilt]
  rfl

theorem State.wrJobCfg_enables {v : Nat} (hoff : s.onF (Reg.PUM_J_CFG_EN r) = false)
    (hon : (s.applyWord (Reg.PUM_J_CFG r) v).onF (Reg.PUM_J_CFG_EN r) = true) :
    s.wrJobCfg r v = ((s.applyWord (Reg.PUM_J_CFG r) v).setJobRing r
      { put0 := (s.applyWord (Reg.PUM_J_CFG r) v).syncValue ((s.applyWord (Reg.PUM_J_CFG r) v).getF (Reg.PUM_J_CFG_PUT_OBJ r)),
        taken := 0 }).putF (Reg.PUM_J_STAT_TAKEN r) 0 := by
  rw [State.wrJobCfg, hoff, hon]
  rfl

end jobs

/-- Settles O52. -/
theorem pumiceCommandsComplete : Obligations.PumiceCommandsComplete := by
  unfold Obligations.PumiceCommandsComplete
  refine ⟨?packet, ?lead, ?start, ?expiry, ?done, ?take, ?run, ?complete, ?publish, ?enable⟩
  case packet =>
    intro s k packet tcap hlive hrunning hk
    have hrun : exec (.pointPacket k packet tcap) s = execPointPacket k packet tcap s := rfl
    have hall : (s.isRunning 0x400 && s.scanners.contains k) = true := by rw [hrunning, List.contains_iff_mem.2 hk]; rfl
    rw [Does, Does, hrun, execPointPacket, whenLive_live hlive, hall, State.guard_true]
    exact ⟨fun hbad => by rw [State.takePacket_bad _ _ hbad], fun _ => rfl⟩
  case lead =>
    intro s hlive hrunning
    have hrun : exec .leadTimeout s = execLeadTimeout s := rfl
    rw [hrun, execLeadTimeout, whenLive_live hlive, hrunning, State.guard_true]
    refine ⟨_, rfl, ?_⟩
    rw [State.inside_pum, State.inside_regs, State.inside_mem]
    exact ⟨rfl, rfl, rfl, rfl⟩
  case start =>
    intro s f hlive hnext hheld
    refine ⟨_, exec_buildStart hlive hnext hheld, ?_⟩
    rw [State.inside_pum, State.inside_mem, State.inside_regs]
    exact ⟨rfl, rfl, rfl, rfl⟩
  case expiry => exact fun s f hlive hnext hheld => exec_egoWaitExpiry hlive hnext hheld
  case done =>
    intro s g hlive hrunning hbuilding
    have hrun : exec .buildDone s = execBuildDone s := rfl
    rw [Does, hrun, execBuildDone, whenLive_live hlive, hrunning, State.guard_true]
    simp only [hbuilding]
  case take =>
    intro s r hlive hr _ _ _
    have hrun : exec (.jobTake r) s = execJobTake r s := rfl
    rw [Does, hrun, execJobTake, whenLive_live hlive, decide_eq_true hr, State.guard_true]
  case run =>
    intro s i j b hlive herror hbuilt
    have hquery : exec (.query i) s = execQuery i s := rfl
    have hrulebook : exec (.rulebook i) s = execRulebook i s := rfl
    have hdecode : exec (.decode i) s = execDecode i s := rfl
    refine ⟨fun hready => ?_, fun hready => ?_, fun hready => ?_⟩
    · rw [Does, hquery, execQuery, whenLive_live hlive, State.runJob_ready hready herror hbuilt]
    · rw [Does, hrulebook, execRulebook, whenLive_live hlive, State.runJob_ready hready herror hbuilt]
    · rw [Does, hdecode, execDecode, whenLive_live hlive, State.runJob_ready hready herror hbuilt]
  case complete =>
    intro s i j hlive _ _ _
    have hrun : exec (.jobComplete i) s = execJobComplete i s := rfl
    rw [Does, hrun, execJobComplete, whenLive_live hlive]
  case publish =>
    intro s i hlive _
    have hrun : exec .decodePublish s = execDecodePublish s := rfl
    rw [Does, hrun, execDecodePublish, whenLive_live hlive]
  case enable =>
    intro s req r v u hr h hoff hu hon
    have hrun : exec (.jobRingEnable req r v) s = execJobRingEnable req r v s := rfl
    subst hu
    rw [hrun, execJobRingEnable, guarded_access hr h, State.wrJobCfg_enables hoff hon]
    refine ⟨_, rfl, ?_⟩
    rw [State.jobRing, State.inside_pum, State.respond_pum, State.putF_pum, State.getF_inside, State.getF_respond, State.inside_mem,
      State.respond_mem, State.putF_mem]
    refine ⟨Sparse.get_set_same .., ?_, rfl⟩
    rw [State.getF_putF _ _ _ (by simp [Reg.PUM_J_STAT_TAKEN]), Nat.zero_mod]

end Sys2Proof.Machine
end

section
/-! Slate and Flint: the steps of the frame, bank swaps, and RESUME. -/

namespace Sys2Proof.Machine

section
variable {s : State}

theorem State.wrKeepOut_asks {bank : Nat} (h : bank < 2) : s.wrKeepOut (2 + bank) =
    ({ s with slt := { s.slt with wantBank := bank } } : State).putF Reg.SLT_STAT_KO_PENDING 1 := by
  interval_cases bank <;> rfl

theorem State.wrSwap_path {bank : Nat} (h : bank < 2) :
    s.wrSwap (2 + bank) = { s with flt := { s.flt with wantPath := some bank } } := by
  interval_cases bank <;> rfl

theorem State.wrSwap_seed {bank : Nat} (h : bank < 2) :
    s.wrSwap (8 + 4 * bank) = { s with flt := { s.flt with wantSeed := some bank } } := by
  interval_cases bank <;> rfl

theorem State.wrFltCtrl_resumes (h : s.onF Reg.DEV_MODE_HOST_LOST = false) :
    s.wrFltCtrl 1 = { s with flt := { s.flt with resume := true } } := by
  rw [State.wrFltCtrl, h]
  rfl

theorem State.reuseStop_without (hworks : s.flintWorks = true) (hstarted : s.flt.started = true) (hbefore : s.flt.before = true)
    (hgrace : s.flt.grace = false) (hplan : s.flt.plan = none) :
    s.reuseStop = { s with flt := { s.flt with reuse := false, noPlan := true, plan := s.leasePlan } } := by
  rw [State.reuseStop, hworks, hstarted, hbefore, hgrace, hplan]
  rfl

/-- The plan `w` in Garnet's hands, before Flint's registers show it. -/
def State.handed (s : State) (w : List Nat) : State :=
  { s with flt := { s.flt with handed := some { frame := s.frameNo, t0 := s.flt.t0, knots := w }, handedNow := true },
           gnt := { s.gnt with next := some { frame := s.frameNo, t0 := s.flt.t0, knots := w } } }

/-- What Flint's registers show of a plan that is handed over. -/
def State.showPlan (s : State) (winner n : Nat) : State :=
  (((s.putF Reg.FLT_STAT_PLAN_REUSED (b2n (winner == 0xFE))).putF Reg.FLT_STAT_MRT_SELECTED (b2n (winner == 0xFF))).putF
    Reg.FLT_STAT_WINNER winner).putF Reg.FLT_FRAME_FRAME n

theorem State.wdgRuns_showPlan (winner n k : Nat) : (s.showPlan winner n).wdgRuns k = s.wdgRuns k := by
  rw [State.showPlan, State.wdgRuns_putF _ _ (by decide) (by decide), State.wdgRuns_putF _ _ (by decide) (by decide),
    State.wdgRuns_putF _ _ (by decide) (by decide), State.wdgRuns_putF _ _ (by decide) (by decide)]

theorem State.wdgRuns_handed (w : List Nat) (k : Nat) : (s.handed w).wdgRuns k = s.wdgRuns k := by
  have hf (f : Fld) : (s.handed w).getF f = s.getF f := State.getF_of_regs_eq rfl
  rw [State.wdgRuns, State.wdgRuns, State.onF, State.onF, hf, hf]
  rfl

/-- A plan of this frame goes to Garnet and shows; a watchdog that does not run sees nothing of it. -/
theorem State.handOver_plan {w : List Nat} {winner : Nat} (hworks : s.flintWorks = true) (hstarted : s.flt.started = true)
    (hbefore : s.flt.before = true) (hfirst : s.flt.handedNow = false) (hgrace : s.flt.grace = false)
    (hplan : s.flt.plan = some (w, winner)) (hfound : s.flt.noPlan = false) (hidle : s.wdgRuns 2 = false) :
    s.handOver = (s.handed w).showPlan winner s.frameNo := by
  have hruns : ((s.handed w).showPlan winner s.frameNo).wdgRuns 2 = false := by
    rw [State.wdgRuns_showPlan, State.wdgRuns_handed, hidle]
  rw [State.handOver, hworks, hstarted, hbefore, hfirst, hgrace, hplan, hfound]
  exact State.kick_idle hruns

theorem State.showPlan_spec (winner n : Nat) : (s.showPlan winner n).gnt = s.gnt ∧ (s.showPlan winner n).flt = s.flt ∧
    (s.showPlan winner n).mem = s.mem ∧ (s.showPlan winner n).getF Reg.FLT_FRAME_FRAME = n % 2 ^ 32 := by
  refine ⟨?_, ?_, ?_, State.getF_putF _ _ _ (by decide)⟩
  · simp only [State.showPlan, State.putF_gnt]
  · simp only [State.showPlan, State.putF_flt]
  · simp only [State.showPlan, State.putF_mem]

/-- What an optimisation of this frame begins with. -/
theorem State.flintOptimise_spec (hworks : s.flintWorks = true) : s.flintOptimise.flt.started = true ∧
    s.flintOptimise.flt.t0 = s.qtz.nextTick % 2 ^ 32 ∧ s.flintOptimise.flt.snap = s.slt.published ∧ s.flintOptimise.mem = s.mem := by
  rw [State.flintOptimise, hworks, if_neg (by decide)]
  dsimp only
  generalize s.initialState _ = x
  obtain ⟨s0, reinit⟩ := x
  simp only [State.putF_flt, State.putF_mem, and_self]

end

/-- Settles O53. -/
theorem slateAndFlintCommandsComplete : Obligations.SlateAndFlintCommandsComplete := by
  unfold Obligations.SlateAndFlintCommandsComplete
  refine ⟨?update, ?keepOut, ?insert, ?publish, ?optimise, ?stop, ?check, ?reuse, ?hand, ?handed, ?lease, ?wpr, ?path, ?seed, ?resume⟩
  case update => exact fun s hlive _ => whenLive_live hlive
  case keepOut =>
    intro s req bank hbank h
    have hrun : exec (.keepOutSwapRequest req bank) s = execKeepOutSwapRequest req bank s := rfl
    rw [hrun, execKeepOutSwapRequest, Nat.mod_eq_of_lt hbank, access_does h, State.wrKeepOut_asks hbank]
    refine ⟨_, rfl, ?_⟩
    rw [State.inside_slt, State.respond_slt, State.putF_slt, State.getF_inside, State.getF_respond, State.inside_mem, State.respond_mem,
      State.putF_mem, State.getF_putF _ _ _ (by decide)]
    exact ⟨rfl, rfl, rfl, rfl⟩
  case insert => exact fun s hlive _ _ => whenLive_live hlive
  case publish => exact fun s hlive _ _ => whenLive_live hlive
  case optimise =>
    intro s hlive hworks
    have hrun : exec .flintOptimise s = execFlintOptimise s := rfl
    rw [hrun, execFlintOptimise, whenLive_live hlive]
    refine ⟨_, rfl, ?_⟩
    rw [State.inside_flt, State.inside_mem]
    exact State.flintOptimise_spec hworks
  case stop => exact fun s checks hlive _ _ _ _ => whenLive_live (f := fun s => s.optimiserStop checks) hlive
  case check => exact fun s hlive _ _ _ _ => whenLive_live hlive
  case reuse =>
    intro s hlive hworks hstarted hbefore hgrace hplan
    have hrun : exec .reuseCutoff s = execReuseCutoff s := rfl
    rw [hrun, execReuseCutoff, whenLive_live hlive, State.reuseStop_without hworks hstarted hbefore hgrace hplan]
    refine ⟨_, rfl, ?_⟩
    rw [State.inside_flt, State.inside_regs, State.inside_mem]
    exact ⟨rfl, rfl, rfl, rfl⟩
  case hand => exact fun s hlive _ _ _ _ _ => whenLive_live hlive
  case handed =>
    intro s w winner hlive hworks hstarted hbefore hfirst hgrace hplan hfound hidle
    have hrun : exec .planHandover s = execPlanHandover s := rfl
    obtain ⟨hgnt, hflt, hmem, hframe⟩ := (s.handed w).showPlan_spec winner s.frameNo
    rw [hrun, execPlanHandover, whenLive_live hlive, State.handOver_plan hworks hstarted hbefore hfirst hgrace hplan hfound hidle]
    refine ⟨_, rfl, ?_⟩
    rw [State.inside_gnt, hgnt, State.inside_flt, hflt, State.getF_inside, hframe, State.inside_mem, hmem]
    exact ⟨rfl, rfl, Nat.mod_eq_of_lt (s.getF_lt Reg.QTZ_FRAME_FRAME), rfl⟩
  case lease => exact fun s hlive _ _ => whenLive_live hlive
  case wpr => exact fun s hlive _ _ => whenLive_live hlive
  case path =>
    intro s req bank hbank h
    have hrun : exec (.refSwap req bank) s = execRefSwap req bank s := rfl
    rw [hrun, execRefSwap, Nat.mod_eq_of_lt hbank, access_does h, State.wrSwap_path hbank]
    refine ⟨_, rfl, ?_⟩
    rw [State.inside_flt, State.respond_flt, State.inside_regs, State.respond_regs]
    exact ⟨rfl, rfl, rfl⟩
  case seed =>
    intro s req bank hbank h
    have hrun : exec (.seedSwap req bank) s = execSeedSwap req bank s := rfl
    rw [hrun, execSeedSwap, Nat.mod_eq_of_lt hbank, access_does h, State.wrSwap_seed hbank]
    refine ⟨_, rfl, ?_⟩
    rw [State.inside_flt, State.respond_flt, State.inside_regs, State.respond_regs]
    exact ⟨rfl, rfl, rfl⟩
  case resume =>
    intro s req h hhost
    have hrun : exec (.resume req) s = execResume req s := rfl
    rw [hrun, execResume, access_does h, State.wrFltCtrl_resumes hhost]
    refine ⟨_, rfl, ?_⟩
    rw [State.inside_flt, State.respond_flt, State.inside_regs, State.respond_regs, State.inside_mem, State.respond_mem]
    exact ⟨rfl, rfl, rfl⟩

end Sys2Proof.Machine
end
